-- ==== Sys2Proof/Word.lean ====
section
/-! DEFINITION. The machine's word types and the type of a sparse store. -/
namespace Sys2Proof

/-- A byte of a frame, of a flash image or of memory. -/
abbrev Byte := BitVec 8

/-- A register of a block window (R35). -/
abbrev Word := BitVec 32

/-- The 64-bit word of a core queue (R17) and the data of a bus access. -/
abbrev DWord := BitVec 64

/-- A sparse store: (key, value) pairs, keys strictly rising, no pair whose value is the default of its key. -/
abbrev KV (α : Type) := List (Nat × α)

end Sys2Proof
end

