-- ==== Sys2Proof/Syntax.lean ====
section
/-! DEFINITION. The commands of the block: one constructor of `Instr` per row of spec/opcode_table.json, with the operand
types they carry. The table gives its rows no operand fields, so the operands are the model's (notes/assumptions/1.md). -/
namespace Sys2Proof

/-- The frame tag of twelve 32-bit words (R82). -/
structure Tag where
  w0 : Word
  w1 : Word
  w2 : Word
  w3 : Word
  w4 : Word
  w5 : Word
  w6 : Word
  w7 : Word
  w8 : Word
  w9 : Word
  w10 : Word
  w11 : Word
deriving DecidableEq, Repr

/-- A frame: its tag and the payload bytes after it. -/
structure Frame where
  tag : Tag
  payload : List Byte
deriving DecidableEq, Repr

/-- Who makes an access (initiator codes of R61). -/
inductive Initiator where
  | crown | mov0 | mov1 | mov2 | mov3 | twin | debug | capture | shcA | shcB
deriving DecidableEq, Repr

/-- What a memory access with ECC meets. -/
inductive Ecc where | ok | corrected | uncorrectable
deriving DecidableEq, Repr

/-- An ECC error that an access to a cell of a frame in the Pond meets: cell of the frame, error, stage and bit of the failing
word (all ones where none applies). -/
structure CellErr where
  idx : Nat
  ecc : Ecc
  stage : Nat
  bit : Nat
deriving DecidableEq, Repr

/-- An entry of a table that a command or a lookup finds with an ECC error: EMT slot address, WCT entry, port-set entry,
policer, gate, GCL entry, cadence entry, signal-engine
table entry, freshness entry, relay entry, flow-map word, FRER stream, key slot; a name in `Fix` has a corrected error. `emtFix` is an EMT slot whose error is corrected. -/
inductive BadEntry where
  | emt (slot : Nat) | emtFix (slot : Nat) | wct (i : Nat) | pset (i : Nat) | policer (i : Nat) | gate (i : Nat)
  | gcl (i : Nat) | cadence (i : Nat) | sge (obj i : Nat) | sgeFix (obj i : Nat) | fresh (i : Nat) | freshFix (i : Nat)
  | relay (i : Nat) | flow (i : Nat) | frer (i : Nat) | key (h : Nat)
deriving DecidableEq, Repr

/-- A CAN frame on a bus: format (0 classical, 1 FD, 2 XL), IDE, RTR or RRS, identifier (11-bit priority for XL), BRS, ESI, DLC
code, and for XL SEC, SDT, VCID, AF; data bytes. -/
structure CanFrame where
  fmt : Nat
  ide : Bool
  rtr : Bool
  id : Nat
  brs : Bool
  esi : Bool
  dlc : Nat
  sec : Bool
  sdt : Nat
  vcid : Nat
  af : Word
  data : List Byte
deriving DecidableEq, Repr

/-- Types of CAN errors (R296); the last is the protocol exception event. -/
inductive CanErr where | stuff | form | ack | bit1 | bit0 | crc | exception
deriving DecidableEq, Repr

/-- An error that a CAN controller detects, as ISO 11898-1 assigns it (R296): type, phase, and the error counters it leaves. -/
structure CanErrEvent where
  kind : CanErr
  dataPhase : Bool
  txErr : Nat
  rxErr : Nat
deriving DecidableEq, Repr

/-- What a start meets (R434, R436): strap levels, lanes that train on each shore link, fuse sensing that fails, a margin check
passed only on its second reading, a fuse shadow whose parity fails, Pond banks that fail BIST, flash writes that succeed. -/
structure StartInput where
  pins : Nat
  linkA : Nat
  linkB : Nat
  fuseFail : Bool
  margin2 : Bool
  parity : Bool
  banks : List Nat
  norOk : Bool
deriving DecidableEq, Repr, Inhabited

/-- The commands: one constructor per row of spec/opcode_table.json. -/
inductive Instr where
  /-- REGISTER_WRITE (R59): A non-posted write to a register that has no row of its own completes when its target acknowledges it; SH fields land in the shadow -/
  | registerWrite (init : Initiator) (addr : Nat) (size : Nat) (data : DWord) (ecc : Ecc)
  /-- SPECULATIVE_READ (R62): A speculative read of an RS register returns its peek value without side effect and increments SPEC_READS -/
  | speculativeRead (init : Initiator) (addr : Nat) (size : Nat) (ecc : Ecc)
  /-- COUNTER_LO_READ (R58): A non-speculative read of a LO counter returns the low half and latches the high half in the window's HI latch -/
  | counterLoRead (init : Initiator) (addr : Nat) (size : Nat) (ecc : Ecc)
  /-- COUNTER_HI_READ (R58): A read of a HI counter half returns the latched value and empties the latch, or returns the live half -/
  | counterHiRead (init : Initiator) (addr : Nat)
  /-- ICX_LOG_POP (R61): A write to ICX_LOG_POP removes the oldest bus-error log entry -/
  | icxLogPop (init : Initiator)
  /-- STROBE (R44): BLK_UPDATE.STROBE checks the whole shadow and either marks the update pending or rejects it -/
  | strobe (init : Initiator) (win : Nat) (revert : Bool)
  /-- REVERT (R44): BLK_UPDATE.REVERT copies the live set into the shadow -/
  | revert (init : Initiator) (win : Nat)
  /-- UPDATE_APPLY (R44): At the block's next safe point a pending shadow is applied whole, setting APPLIED and incrementing APPLY_CNT -/
  | updateApply (win : Nat) (alert : Bool)
  /-- SHARED_UPDATE (R49): A write to SYS_UPDATE checks the shadows of every selected block and lets all apply or none -/
  | sharedUpdate (init : Initiator) (data : Word)
  /-- UPD_PAUSE_EXPIRED (R51): The admission hold's ROUNDS count runs out before all blocks applied; admission resumes and PAUSE_EXPIRED is set -/
  | updPauseExpired
  /-- BLOCK_RESET (R41): BLK_CTRL.RST takes the block's registers and state to reset values, discarding held frames -/
  | blockReset (init : Initiator) (win : Nat)
  /-- BLOCK_RESET_END (R41): A block reset ends and the block resumes from its reset values -/
  | blockResetEnd (win : Nat)
  /-- BLOCK_ENABLE (R556): BLK_CTRL.EN becomes 1 and the block begins to carry traffic -/
  | blockEnable (init : Initiator) (win : Nat)
  /-- BLOCK_DISABLE (R556): BLK_CTRL.EN becomes 0 and the block acts on traffic as its disabled behaviour states -/
  | blockDisable (init : Initiator) (win : Nat)
  /-- GUARD_ARM (R52): A value write to a guarded register arms the window with the value, offset and initiator -/
  | guardArm (init : Initiator) (win : Nat) (off : Nat) (value : Word)
  /-- TWIN_WRITE (R52): A write to a twin offset completes a guarded sequence when it carries ~V in time, and applies V -/
  | twinWrite (init : Initiator) (win : Nat) (off : Nat) (data : Word)
  /-- ALIAS_SET (R55): A write through the SET alias ORs the data into each RW field as one indivisible read-modify-write -/
  | aliasSet (init : Initiator) (win : Nat) (off : Nat) (data : Word)
  /-- ALIAS_CLEAR (R55): A write through the CLEAR alias clears the data bits in each RW field -/
  | aliasClear (init : Initiator) (win : Nat) (off : Nat) (data : Word)
  /-- ALIAS_TOGGLE (R55): A write through the TOGGLE alias inverts the data bits in each RW field -/
  | aliasToggle (init : Initiator) (win : Nat) (off : Nat) (data : Word)
  /-- CONDITION_ARISES (R72): A fault source's condition arises and the source enters Faulted with its effective reaction -/
  | conditionArises (win : Nat) (src : Nat) (loc : Nat) (level : Bool)
  /-- CONDITION_ENDS (R72): A Faulted source's condition ends; it enters Recovering and its quiet timer starts -/
  | conditionEnds (win : Nat) (src : Nat)
  /-- QUIET_TIMER_EXPIRY (R72): The quiet timer reaches FLT_QUIET.MS and the source returns to Normal, counting a recovery -/
  | quietTimerExpiry (win : Nat) (src : Nat)
  /-- FLT_RELEASE (R72): A write to FLT_RELEASE returns a Recovering source to Normal without counting a recovery -/
  | fltRelease (init : Initiator) (win : Nat) (data : Word)
  /-- FLT_STAT_CLEAR (R67): A W1C write clears FLT_STAT bits, which set again if the condition still holds -/
  | fltStatClear (init : Initiator) (win : Nat) (data : Word)
  /-- FLT_RECOV_CLR (R74): A write to FLT_RECOV_CLR clears the recovery count of a source -/
  | fltRecovClr (init : Initiator) (win : Nat) (data : Word)
  /-- FLT_INJECT (R81): A write with GO injects a single or held condition, or ends a held one, when injection is permitted -/
  | fltInject (init : Initiator) (win : Nat) (data : Word)
  /-- ERROR_N_HOLD_END (R79): The minimum hold of ERROR_N passes and the pin is released unless a cause holds -/
  | errorNHoldEnd
  /-- WINDOW_END (R23): A Balance measurement window ends; readings, BAL_MIN, thresholds and histogram update -/
  | windowEnd (readings : List Nat) (alert : Bool)
  /-- LOOP_PERIOD (R26): The pace-regulation loop period expires and the loop may command a new VCORE -/
  | loopPeriod (alert : Bool)
  /-- PMBUS_TRANSACTION_END (R29): A PMBus VOUT_COMMAND completes; success updates LAST_MV, failure counts FAILS -/
  | pmbusTransactionEnd (ok : Bool) (alert : Bool)
  /-- BAL_VSET_WRITE (R31): A write to BAL_VSET while the loop is off sends one clamped VOUT_COMMAND -/
  | balVsetWrite (init : Initiator) (data : Word)
  /-- BAL_HIST_CLR (R25): A write to BAL_HIST_CLR clears all histogram counters -/
  | balHistClr (init : Initiator) (data : Word)
  /-- FABRIC_ROUND (R96): A train completes a round: three iterations of request, grant and accept, then a crossbar transfer -/
  | fabricRound (train : Nat) (stale : List (Nat × Nat × Nat))
  /-- CELL_ARRIVAL (R101): A cell arrives at an output resequencer and is held, released or discarded -/
  | cellArrival (train : Nat) (out : Nat) (chkOk : Bool) (parityOk : Bool)
  /-- RESEQ_TIMEOUT (R103): A pair's timer reaches the resequencer timeout and the broken frame is discarded -/
  | reseqTimeout (inp : Nat) (out : Nat)
  /-- TRAIN_FREEZE (R106): A write to FAB_TCTRL.FREEZE freezes a train or is refused when it is the last in service -/
  | trainFreeze (init : Initiator) (train : Nat) (data : Word)
  /-- TRAIN_DRAINED (R106): The last committed cell of a frozen train arrives and DRAINED becomes 1 -/
  | trainDrained (train : Nat)
  /-- TRAIN_DISABLE (R107): A guarded write of EN 0 freezes a train and removes it from service once drained -/
  | trainDisable (init : Initiator) (train : Nat)
  /-- TRAIN_ENABLE (R109): A guarded write of EN 1 resets the pointers and returns the train to service -/
  | trainEnable (init : Initiator) (train : Nat)
  /-- TRN_DRAIN_STALL (R107): A frozen train has not drained within the resequencer timeout -/
  | trnDrainStall (train : Nat)
  /-- BIST_START (R108): FAB_BIST.START begins the train BIST when it is out of service and drained -/
  | bistStart (init : Initiator) (train : Nat)
  /-- BIST_COMPLETE (R108): The train BIST ends with BIST_PASS or BIST_FAIL -/
  | bistComplete (train : Nat) (pass : Bool) (loc : Word)
  /-- FRAME_CLASSIFY (R161): A frame at its fabric input is classified, checked by POL and CDM and its destination resolved -/
  | frameClassify (fp : Nat) (bad : List BadEntry)
  /-- FRAME_ADMISSION (R123): The Pond decides admission of a frame at its first cell -/
  | frameAdmission (fp : Nat)
  /-- INGRESS_CELL (R124): A further cell of an admitted frame arrives and is charged to a source -/
  | ingressCell (fid : Nat) (bytes : List Byte) (errs : List CellErr)
  /-- ECC_WINDOW_END (R139): A QMG ECC window of MS milliseconds ends and the counts restart -/
  | eccWindowEnd
  /-- PORT_DOWN (R133): A logical port goes down; partial frames are discarded and queued copies flushed -/
  | portDown (port : Nat)
  /-- FLUSHING_END (R133): The flush of a down port completes and FLUSHING becomes 0 -/
  | flushingEnd (port : Nat)
  /-- PORT_CAUSE_CLEARS (R135): The down cause of a port clears and UP_WAIT becomes 1 -/
  | portCauseClears (port : Nat)
  /-- PORT_UP (R135): The hold time passes with the flush done and the port comes up -/
  | portUp (port : Nat)
  /-- CT_STALL (R136): A cut-through copy waits longer than STALL_US and is ended with a bad FCS -/
  | ctStall (fid : Nat) (port : Nat)
  /-- INLET_STALL (R137): No word of an Inlet frame arrives for IN_STALL_US and the frame is discarded -/
  | inletStall (inlet : Nat)
  /-- RX_STALL (R138): No cell of a partly received store-and-forward frame arrives for IN_STALL_US -/
  | rxStall (fid : Nat)
  /-- MIGRATE_START (R140): QMG_MIGRATE.START begins copying a draining logical bank to a spare, or is refused -/
  | migrateStart (init : Initiator) (data : Word)
  /-- MIGRATION_COPY_DONE (R140): The copy completes and the Pond freezes the bank's Dial -/
  | migrationCopyDone (poisoned : List (Nat × CellErr))
  /-- MIGRATION_REMAP (R140): Once the Dial has drained, the bank map points at the spare and the old bank is retired -/
  | migrationRemap
  /-- CLRPEAK (R121): QMG_QSEL.CLRPEAK resets the peak occupancy of the selected queue -/
  | clrpeak (init : Initiator) (queue : Nat)
  /-- DIAL_ROUND (R150): A Dial grants one round by slot ownership and background ranking -/
  | dialRound (dial : Nat) (newReqs : List (Nat×Nat)) (ecc : Ecc)
  /-- DIAL_FREEZE (R155): A write to DIAL_FREEZE stops or resumes grant computation -/
  | dialFreeze (init : Initiator) (dial : Nat) (data : Word)
  /-- DIAL_DRAINED (R155): The last access of a frozen Dial completes and DRAINED becomes 1 -/
  | dialDrained (dial : Nat)
  /-- DIAL_DRAIN_STALL (R155): A frozen Dial has not drained within 10 µs -/
  | dialDrainStall (dial : Nat)
  /-- DIAL_WAITCLR (R157): A write to DIAL_WAITCLR clears selected DIAL_WAITMAX entries -/
  | dialWaitclr (init : Initiator) (dial : Nat) (data : Word)
  /-- LOOKUP (R166): EMT command that finds a key and returns its slot address and action -/
  | lookup (init : Initiator) (bad : List BadEntry)
  /-- PLAN_INSERT (R167): EMT command that searches a placement chain for a new entry and reserves its buckets -/
  | planInsert (init : Initiator) (bad : List BadEntry)
  /-- RESERVE_MODIFY (R168): EMT command that finds a key and reserves its bucket for a modify -/
  | reserveModify (init : Initiator) (bad : List BadEntry)
  /-- RESERVE_DELETE (R168): EMT command that finds a key and reserves its bucket for a delete -/
  | reserveDelete (init : Initiator) (bad : List BadEntry)
  /-- PLAN_REHOME (R167): EMT command that searches a table slot for a stash entry -/
  | planRehome (init : Initiator) (stash : Nat) (bad : List BadEntry)
  /-- EXEC (R169): EMT command that applies the held reservation and releases it -/
  | execResv (init : Initiator) (bad : List BadEntry)
  /-- ABORT (R171): EMT command that releases the held reservation without change -/
  | abortResv (init : Initiator)
  /-- FLUSH (R166): EMT command that begins deleting learned entries for a port or all -/
  | flush (init : Initiator) (port : Nat) (all : Bool)
  /-- FLUSH_DONE (R172): An EMT flush walk completes and BUSY becomes 0 -/
  | flushDone
  /-- RSV_EXPIRED (R171): A reservation reaches TIMEOUT_MS and expires -/
  | rsvExpired
  /-- LEARN (R181): The command engine carries out a queued learn, placing a learned entry -/
  | learn
  /-- REFRESH (R181): The command engine carries out a refresh, setting AGE to 3 -/
  | refresh
  /-- MOVE (R181): The command engine carries out a move, changing DEST to the new port -/
  | moveEntry
  /-- AGING_SWEEP (R182): Every PERIOD_S seconds the sweep ages or deletes learned entries -/
  | agingSweep
  /-- PORT_FLUSH (R183): When the command engine is free, a flush runs for a port that went down with FLUSH_ON_DOWN -/
  | portFlush
  /-- SCRUB_VISIT (R186): The scrubber compares one bucket of the EMT with its DRAM shadow -/
  | scrubVisit (changed : Bool) (shadowBad : Bool) (bad : List BadEntry)
  /-- WCT_WRITE (R173): WCT_CMD.WRITE stores the staged value, mask and action of one entry -/
  | wctWrite (init : Initiator)
  /-- WCT_READ (R173): WCT_CMD.READ loads an entry and its hit count into the staging registers -/
  | wctRead (init : Initiator)
  /-- CLRHITS (R173): WCT_CMD.CLRHITS clears the hit count of an entry -/
  | clrhits (init : Initiator)
  /-- PSET_WRITE (R179): CLS_PSET_CMD.WRITE stores the staged 64 bits of one port-set entry -/
  | psetWrite (init : Initiator)
  /-- PSET_READ (R179): CLS_PSET_CMD.READ loads one port-set entry into the staging registers -/
  | psetRead (init : Initiator)
  /-- CADENCE_SWEEP (R202): Every 100 µs the sweep visits Running and Missing cadence entries -/
  | cadenceSweep (bad : List BadEntry)
  /-- POL_WRITE (R208): POL command that writes a policer, gate or GCL entry -/
  | polWrite (init : Initiator) (data : Word) (bad : List BadEntry)
  /-- POL_READ (R199): POL command that reads an entry with its counts -/
  | polRead (init : Initiator) (data : Word) (bad : List BadEntry)
  /-- POL_CLEAR (R208): POL command that clears the counts of an entry -/
  | polClear (init : Initiator) (data : Word) (bad : List BadEntry)
  /-- GATE_CHANGE (R199): A pending gate configuration becomes operational at its first cycle start -/
  | gateChange (gate : Nat)
  /-- CDM_WRITE (R203): CDM command that writes a cadence entry and returns it to Unsynced -/
  | cdmWrite (init : Initiator) (data : Word) (bad : List BadEntry)
  /-- CDM_READ (R208): CDM command that reads a cadence entry with state and counts -/
  | cdmRead (init : Initiator) (data : Word) (bad : List BadEntry)
  /-- RESYNC (R203): CDM command that returns an entry to Unsynced and clears its counts -/
  | resync (init : Initiator) (data : Word) (bad : List BadEntry)
  /-- SGE_TAKE (R215): The signal engine takes one frame from its egress queues and handles it by its PDU definition -/
  | sgeTake (cls : Nat) (bad : List BadEntry)
  /-- SRC_TIMEOUT (R227): A SIGNALS definition times out and may substitute values -/
  | srcTimeout (defn : Nat) (bad : List BadEntry)
  /-- CYCLIC_EMISSION (R230): A cyclic or mixed buffer emits at its due tick -/
  | cyclicEmission (buf : Nat) (bad : List BadEntry)
  /-- PENDING_EMISSION (R229): A deferred on-update emission becomes due after MIN_GAP and leaves -/
  | pendingEmission (buf : Nat) (bad : List BadEntry)
  /-- BUNDLE_DEADLINE (R244): An open bundle's DEADLINE_US passes and it is emitted -/
  | bundleDeadline (stream : Nat) (bad : List BadEntry)
  /-- TP_RX_TIMEOUT (R234): T1, T2 or T3 of a receive session expires and the session is aborted -/
  | tpRxTimeout (sid : Nat)
  /-- TP_TX_TIMEOUT (R238): T3 or T4 of a transmit session expires and an abort is sent -/
  | tpTxTimeout (sid : Nat)
  /-- BAM_GAP (R238): BAM_GAP_MS passes and the next BAM data packet is sent -/
  | bamGap (sid : Nat)
  /-- UC_LOAD (R247): SGE_UC_CTRL.LOAD resets the microcode load address -/
  | ucLoad (init : Initiator) (data : Word)
  /-- UC_DATA (R247): A write to SGE_UC_DATA stores the next image word -/
  | ucData (init : Initiator) (data : Word)
  /-- UC_RUN (R247): SGE_UC_CTRL.RUN checks word count and CRC and starts the engine -/
  | ucRun (init : Initiator) (data : Word)
  /-- SGE_WRITE (R249): SGE command that writes a table entry to the shadow or buffer data -/
  | sgeWrite (init : Initiator) (data : Word)
  /-- SGE_READ (R249): SGE command that reads a table entry -/
  | sgeRead (init : Initiator) (data : Word) (bad : List BadEntry)
  /-- SGE_CLEAR (R249): SGE command that empties a claim entry -/
  | sgeClear (init : Initiator) (data : Word)
  /-- AUE_TAKE (R254): The authentication engine takes one PDU frame under its freshness entry -/
  | aueTake (cls : Nat) (bad : List BadEntry)
  /-- AUE_WRITE (R260): AUE command that writes a freshness, SecY, SC or SA entry -/
  | aueWrite (init : Initiator) (data : Word) (bad : List BadEntry)
  /-- AUE_READ (R269): AUE command that reads an entry or SecY counters -/
  | aueRead (init : Initiator) (data : Word) (bad : List BadEntry)
  /-- AUE_CLEAR (R269): AUE command that clears counts -/
  | aueClear (init : Initiator) (data : Word) (bad : List BadEntry)
  /-- INTEGRATION_DONE (R275): A CX sees 11 recessive bits and joins the bus -/
  | integrationDone (chan : Nat)
  /-- RX_CLAIM (R285): A CAN frame's length field is received and it claims ingress buffer cells -/
  | rxClaim (chan : Nat) (len : Nat) (sof : Nat)
  /-- CX_RX_FRAME (R284): A CAN frame is received without error and enters the fabric with its tag -/
  | cxRxFrame (chan : Nat) (frm : CanFrame) (sof : Nat) (eof : Nat) (txc : Nat) (rxc : Nat) (bad : List BadEntry)
  /-- CX_BUS_ERROR (R296): A CX detects a bus error and updates its error counters and state -/
  | cxBusError (chan : Nat) (err : CanErrEvent)
  /-- ABR_DWELL (R282): DWELL_MS passes without lock and the next candidate is tried -/
  | abrDwell (chan : Nat)
  /-- SLOT_LOAD (R288): A free transmit slot is filled from the highest class with room -/
  | slotLoad (chan : Nat) (slot : Nat)
  /-- TRANSMISSION_POINT (R289): The controller selects the winning ready slot and commits it at SOF -/
  | transmissionPoint (chan : Nat) (sof : Nat) (delayErr : Option CanErrEvent)
  /-- TX_VALID (R294): A transmitted frame becomes valid; the slot frees and an outcome is posted -/
  | txValid (chan : Nat) (eof : Nat) (txc : Nat) (rxc : Nat)
  /-- ARBITRATION_LOST (R291): A frame loses arbitration and waits to retry, cancelled or aged -/
  | arbitrationLost (chan : Nat)
  /-- CANCEL_SLOT (R292): CX_TXCANCEL with BY 0x1 cancels one slot -/
  | cancelSlot (init : Initiator) (chan : Nat) (slot : Nat)
  /-- CANCEL_MATCH (R292): CX_TXCANCEL with BY 0x2 cancels slots whose W7 matches -/
  | cancelMatch (init : Initiator) (chan : Nat)
  /-- CANCEL_ALL (R292): CX_TXCANCEL with BY 0x3 cancels every slot -/
  | cancelAll (init : Initiator) (chan : Nat)
  /-- TXEVT_POP (R295): A read of CX_TXEVT_INFO returns and removes the oldest transmit event -/
  | txevtPop (init : Initiator) (chan : Nat)
  /-- TXEVT_CLR (R295): CX_TXEVT_CLR clears the LOST count -/
  | txevtClr (init : Initiator) (chan : Nat)
  /-- RECOVER (R298): CX_CMD.RECOVER starts bus-off recovery -/
  | recover (init : Initiator) (chan : Nat)
  /-- RECOVERY_DONE (R298): The 128th recessive sequence ends bus-off -/
  | recoveryDone (chan : Nat)
  /-- REF_MISSED (R301): A reference frame is not valid within MAXDELAY_US and the round ends as missed -/
  | refMissed (chan : Nat)
  /-- TXD_DOM (R316): TXD held dominant past the time-out switches the transmitter off -/
  | txdDom (chan : Nat)
  /-- OVERTEMP (R316): Shore Tj passes the shutdown threshold and every transmitter switches off -/
  | overtemp (shore : Nat)
  /-- SHORE_POWER_ON (R303): A shore's VBAT rises above the power-on threshold and it leaves power-on reset, recording spring 0x08 -/
  | shorePowerOn (shore : Nat)
  /-- SHORE_POWER_ON_RESET (R536): A shore's VBAT falls below the power-on threshold and the shore resets -/
  | shorePowerOnReset (shore : Nat)
  /-- LANE_FAIL (R305): A shore-link lane is removed after a training or CRC failure -/
  | laneFail (shore : Nat) (lane : Nat)
  /-- SHORE_LINK_RETRAIN (R305): Every 10 ms the bridge retrains a down shore link -/
  | shoreLinkRetrain (shore : Nat) (lanes : Nat)
  /-- FLIT_RETRY (R304): A flit whose CRC fails is sent again -/
  | flitRetry (shore : Nat)
  /-- SHORE_HEARTBEAT (R304): Every 100 µs the main die sends a heartbeat to the shore -/
  | shoreHeartbeat (shore : Nat)
  /-- RESET_NOTICE (R304): The main die signals reset to the shores, which reset WIN_ACCESS and locked bytes or go Limp -/
  | resetNotice (shore : Nat) (chip : Bool)
  /-- PIN_ASSERT (R304): A shore control message drives ERROR_N low -/
  | pinAssert (shore : Nat)
  /-- PIN_RELEASE (R304): A shore control message releases its hold on ERROR_N -/
  | pinRelease (shore : Nat)
  /-- BRST_REPORT (R304): A shore reports a block-reset reaction, written to SYS_FLT_BRST -/
  | brstReport (shore : Nat) (win : Nat) (src : Nat) (loc : Nat)
  /-- CRST_REQUEST (R304): A shore requests a chip reset -/
  | crstRequest (shore : Nat) (win : Nat) (src : Nat) (loc : Nat) (x : StartInput)
  /-- TIME_ALIGNMENT (R376): Every PERIOD_US an alignment message loads the shore time and ADDEND -/
  | timeAlignment (shore : Nat)
  /-- REGISTER_REQUEST (R309): A shore bridge forwards a register request with a deadline -/
  | registerRequest (init : Initiator) (addr : Nat) (size : Nat) (write : Bool) (spec : Bool) (data : DWord)
  /-- SHORE_RESPONSE (R309): A shore register response reaches the bridge -/
  | shoreResponse (shore : Nat) (init : Initiator) (late : Bool)
  /-- SHB_TIMEOUT (R309): A request has no response after 50 µs and ends with a bus error -/
  | shbTimeout (shore : Nat) (init : Initiator)
  /-- INTERRUPT_POLL (R311): Every INTERVAL_US the bridge polls shore INT levels and latched NMIs -/
  | interruptPoll (shore : Nat)
  /-- S2S_DOWN (R307): The shore-to-shore link goes down -/
  | s2sDown (lane : Bool)
  /-- TRX_STATE_CHANGE (R314): A transceiver's chosen state changes -/
  | trxStateChange (chan : Nat)
  /-- TRX_RESUME_DONE (R315): A change to Normal or Listen-only completes and ARMED clears -/
  | trxResumeDone (chan : Nat)
  /-- WAKE_UP_PATTERN (R317): A transceiver detects the ISO wake-up pattern -/
  | wakeUpPattern (chan : Nat)
  /-- WAKE_UP_FRAME (R318): A decoded frame matches a wake-up filter -/
  | wakeUpFrame (chan : Nat) (frm : CanFrame)
  /-- DECODE_ERROR (R319): A decode error increments DEC_ERR -/
  | decodeError (chan : Nat)
  /-- WAKE_PIN (R321): A WAKE pin holds its new level for the filter time -/
  | wakePin (shore : Nat) (pin : Nat) (level : Bool)
  /-- SHORE_TIMER (R323): The shore timer reaches SECONDS and raises spring 0x07 -/
  | shoreTimer (shore : Nat)
  /-- SOFT_WAKE (R320): SWK_CMD.SOFT_WAKE raises spring 0x09 -/
  | softWake (init : Initiator) (shore : Nat)
  /-- SWK_CLR (R399): SWK_CMD.CLR clears WAKE_REASON and SEEN -/
  | swkClr (init : Initiator) (shore : Nat)
  /-- PARTNER_WAKE (R322): A partner wake over the shore-to-shore link records spring 0x0A -/
  | partnerWake (shore : Nat)
  /-- T1S_BUS_ACTIVITY (R338): Bus activity of at least MIN_BURST_US on a sleeping segment is spring 0x05 -/
  | t1sBusActivity (seg : Nat) (us : Nat)
  /-- INH_RELEASE_COMMAND (R324): A guarded clear of SPS BLK_CTRL.EN starts the INH release -/
  | inhReleaseCommand (init : Initiator) (shore : Nat)
  /-- INH_RELEASE (R324): 2 ms after the clear the shore releases its FOLLOW outputs -/
  | inhRelease (shore : Nat) (mainOff : Bool)
  /-- INH_OC (R324): An INH output reaches its current limit -/
  | inhOc (shore : Nat) (out : Nat)
  /-- INH_MIN_OFF_END (R400): A released INH output has been off for 20 ms and may be driven again -/
  | inhMinOffEnd (shore : Nat) (out : Nat)
  /-- VBAT_SAMPLE (R325): Every 1 ms SPS samples VBAT and judges under- and overvoltage -/
  | vbatSample (shore : Nat) (mv : Nat)
  /-- VBAT_CLR (R325): SPS_VBAT_CLR resets MIN_MV to MV -/
  | vbatClr (init : Initiator) (shore : Nat)
  /-- VCC5_UV (R532): VCC5 falls below its threshold and transmitters stay off -/
  | vcc5Uv (shore : Nat)
  /-- CLOCK_LOSS (R531): No clock arrives from Shore A and Shore B holds itself in power-on reset -/
  | clockLoss
  /-- CLOCK_RETURN (R531): The clock returns and Shore B leaves reset, recording spring 0x08 -/
  | clockReturn
  /-- SHC_LOAD (R327): SHC_CTRL.LOAD resets the shore controller image load address -/
  | shcLoad (init : Initiator) (shore : Nat) (data : Word)
  /-- SHC_MEM_DATA (R327): An access to SHC_MEM_DATA stores or reads a word and advances the address -/
  | shcMemData (init : Initiator) (shore : Nat) (write : Bool) (data : Word)
  /-- SHC_RUN (R327): Setting RUN checks the image CRC and starts the core -/
  | shcRun (init : Initiator) (shore : Nat) (data : Word)
  /-- SHC_WDT_KICK (R330): A write to SHC_WDT_KICK restarts the shore watchdog -/
  | shcWdtKick (init : Initiator) (shore : Nat)
  /-- WDT_EXPIRED (R330): The shore watchdog expires and the core restarts -/
  | wdtExpired (shore : Nat)
  /-- SHC_ECC_UNCORR (R330): An uncorrectable SRAM error on fetch or load holds the core in reset -/
  | shcEccUncorr (shore : Nat)
  /-- MBOX_IN_DOORBELL (R329): A write to SHC_MBOX_IN_DB signals a message to the shore controller -/
  | mboxInDoorbell (init : Initiator) (shore : Nat) (data : Word)
  /-- MBOX_OUT_DOORBELL (R329): The shore controller sets SHC_MBOX_OUT_DB and raises MBOX_OUT -/
  | mboxOutDoorbell (shore : Nat)
  /-- MBOX_OUT_CLEAR (R329): Main-side firmware clears SHC_MBOX_OUT_DB -/
  | mboxOutClear (init : Initiator) (shore : Nat)
  /-- RELAY_S2S_RX (R333): A relay frame arrives from the partner shore and is queued -/
  | relayS2sRx (shore : Nat)
  /-- HANDOVER (R334): SRL_CMD.HANDOVER fixes the takeover instant -/
  | handover (init : Initiator) (shore : Nat)
  /-- TAKEOVER_INSTANT (R334): The takeover instant passes and the relay enters Run -/
  | takeoverInstant (shore : Nat)
  /-- LIMP (R331): SRL_CMD.LIMP is a limp condition that moves the relay from Run -/
  | limp (init : Initiator) (shore : Nat)
  /-- OFF (R331): SRL_CMD.OFF moves the relay to Off -/
  | off (init : Initiator) (shore : Nat)
  /-- HEARTBEAT_LOSS (R331): No heartbeat arrives for LIMP_MS and the limp condition arises -/
  | heartbeatLoss (shore : Nat)
  /-- SRL_WRITE (R336): SRL_ECMD WRITE stores a relay entry and clears its spacing history -/
  | srlWrite (init : Initiator) (shore : Nat) (data : Word) (bad : List BadEntry)
  /-- SRL_READ (R336): SRL_ECMD READ returns a relay entry with its counts -/
  | srlRead (init : Initiator) (shore : Nat) (data : Word) (bad : List BadEntry)
  /-- SRL_CLEAR (R336): SRL_ECMD CLEAR zeroes a relay entry's counts -/
  | srlClear (init : Initiator) (shore : Nat) (data : Word) (bad : List BadEntry)
  /-- PLCA_LOST (R339): No BEACON is seen for 4 cycles -/
  | plcaLost (seg : Nat)
  /-- JABBER (R339): The T1L cuts a transmission under the jabber rule -/
  | jabber (seg : Nat) (on : Bool)
  /-- RX_HEAD (R346): An EMC holds 64 bytes of a frame and parses, stamps and tags it -/
  | rxHead (k : Nat) (time : Nat) (pre : Bool) (bytes : List Byte)
  /-- RX_END (R348): An Ethernet frame ends and the MAC judges FCS and length -/
  | rxEnd (k : Nat) (pre : Bool) (rest : List Byte) (len : Nat) (fcsOk : Bool) (assy : Bool) (bad : List BadEntry)
  /-- LINK_UP (R343): An Ethernet link comes up with its speed -/
  | linkUp (k : Nat) (speed : Nat) (full : Bool) (an : Bool)
  /-- LINK_LOSS (R344): An Ethernet link goes down -/
  | linkLoss (k : Nat)
  /-- TX_SELECT (R353): An idle Ethernet egress selects the highest eligible class and transmits -/
  | txSelect (k : Nat) (time : Nat) (frags : Nat) (underrun : Bool) (bad : List BadEntry)
  /-- GATE_INTERVAL_END (R355): A GCL interval ends and the next entry's gate states govern -/
  | gateIntervalEnd (k : Nat)
  /-- SCHEDULE_OPERATIONAL (R356): A pending gate schedule becomes operational at a cycle start -/
  | scheduleOperational (k : Nat)
  /-- VERIFY_SEND (R358): Every VERIFY_MS a verify mPacket is sent, failing after 3 attempts -/
  | verifySend (k : Nat)
  /-- VERIFY_RESPONSE (R358): A respond mPacket makes verification succeed -/
  | verifyResponse (k : Nat)
  /-- TSQ_POP (R361): A read of EMC_TSQ_INFO returns and removes the oldest timestamp entry -/
  | tsqPop (init : Initiator) (k : Nat)
  /-- WAKE_CLR (R363): EMC_WAKE_CLR clears MATCHED -/
  | wakeClr (init : Initiator) (k : Nat)
  /-- FRER_RESET (R364): RESET_MS passes without a pass and the stream takes any sequence -/
  | frerReset (stream : Nat)
  /-- EMC_WRITE (R352): EMC command that writes a flow map word or a FRER stream -/
  | emcWrite (init : Initiator) (data : Word) (bad : List BadEntry)
  /-- EMC_READ (R364): EMC command that reads a map word, stream or stream counts -/
  | emcRead (init : Initiator) (data : Word) (bad : List BadEntry)
  /-- EMC_CLEAR (R364): EMC command that zeroes stream counts -/
  | emcClear (init : Initiator) (data : Word) (bad : List BadEntry)
  /-- SVP_RX_FRAME (R365): The service MAC receives a frame into its receive ring -/
  | svpRxFrame (bytes : List Byte) (fcsOk : Bool)
  /-- SVP_TX_POST (R365): The Crown advances the transmit HEAD and SVP sends the frames -/
  | svpTxPost (init : Initiator) (data : Word)
  /-- DEVICE_TIME_TICK (R368): At each 500 MHz tick the Regulator adds ADDEND and slew to device and vault time -/
  | deviceTimeTick (ticks : Nat)
  /-- ADDEND_WRITE (R369): A write to TMS_ADDEND_HI forms the new ADDEND, clamped to 1,000 ppm -/
  | addendWrite (init : Initiator) (data : Word)
  /-- SLEW (R371): A write to TMS_SLEW starts a slew -/
  | slew (init : Initiator) (data : Word)
  /-- STEP (R372): TMS_CMD.STEP requests a step of the device time -/
  | step (init : Initiator)
  /-- STEP_APPLY (R372): The step applies at the next tick, adjusts VOFFSET and is reported -/
  | stepApply
  /-- KICK (R379): TMS_CMD.KICK restarts the holdover timer or ends holdover -/
  | kick (init : Initiator)
  /-- VBASE_WRITE (R374): A guarded write to TMS_VBASE_HI steps the vault time forward -/
  | vbaseWrite (init : Initiator) (data : Word)
  /-- HOLDOVER (R379): HOLD_MS passes without a kick and holdover begins -/
  | holdover
  /-- HOLD_LIMIT (R379): The holdover estimate reaches HOLD_LIMIT_NS -/
  | holdLimit
  /-- REFERENCE_TRIGGER (R380): A scheduled trigger instant arrives for a CAN channel -/
  | referenceTrigger (chan : Nat)
  /-- NM_TIMEOUT (R388): NM_TIMEOUT expires in a unit -/
  | nmTimeout (unit : Nat)
  /-- REPEAT_MSG_EXPIRY (R388): REPEAT_MSG expires and the unit goes to Normal-Operation or Ready-Sleep -/
  | repeatMsgExpiry (unit : Nat)
  /-- WAIT_BUS_SLEEP_EXPIRY (R388): WAIT_BUS_SLEEP expires and the unit enters Bus-Sleep -/
  | waitBusSleepExpiry (unit : Nat)
  /-- NM_CYCLE (R389): NM_CYCLE passes and the unit sends an NM PDU -/
  | nmCycle (unit : Nat)
  /-- NETREQ_WRITE (R388): A write to NMU_NETREQ changes unit requests -/
  | netreqWrite (init : Initiator) (hi : Bool) (data : Word)
  /-- NMU_RMR (R388): NMU_CMD RMR moves a unit to Repeat-Message with RMR -/
  | nmuRmr (init : Initiator) (unit : Nat)
  /-- NMU_WAKE (R388): NMU_CMD WAKE is a wake event of a unit -/
  | nmuWake (init : Initiator) (unit : Nat)
  /-- CLR_PRES (R393): NMU_CMD CLR_PRES clears a unit's presence bits -/
  | clrPres (init : Initiator) (unit : Nat)
  /-- NM_WAKE_EVENT (R388): A shore reports a spring of a unit's bus to the NMU -/
  | nmWakeEvent (unit : Nat)
  /-- DESCENT_END (R391): The bus interface has held its sleep state for 1 ms -/
  | descentEnd (unit : Nat)
  /-- PRESENCE_TIMEOUT (R393): A presence bit clears NM_TIMEOUT after its last PDU -/
  | presenceTimeout (unit : Nat) (node : Nat)
  /-- PNRX_TIMEOUT (R394): A PN bit clears NM_TIMEOUT after its last PDU -/
  | pnrxTimeout (unit : Nat) (k : Nat)
  /-- PWR_RUN (R397): SYS_PWR_CMD TARGET 0x0 returns the package to Run -/
  | pwrRun (init : Initiator)
  /-- PWR_DOZE (R397): SYS_PWR_CMD TARGET 0x1 takes the package to Doze -/
  | pwrDoze (init : Initiator)
  /-- PWR_STANDBY (R398): SYS_PWR_CMD TARGET 0x2 checks for pending wakes and enters Standby or is refused -/
  | pwrStandby (init : Initiator)
  /-- STANDBY_READY (R398): The main die reports ready and the shores release STBY_OFF outputs -/
  | standbyReady
  /-- SELF_REFRESH_ENTRY (R411): Once the DRAM Dial has no transfer, the memory enters self-refresh -/
  | selfRefreshEntry
  /-- POWER_OFF (R397): VBAT of both shores falls below the power-on threshold -/
  | powerOff
  /-- DMC_TRAIN_START (R409): DMC_TRAIN.START initialises and trains the memory -/
  | dmcTrainStart (init : Initiator)
  /-- TRAINING_COMPLETE (R409): Training ends with DONE and INIT or with FAIL -/
  | trainingComplete (ok : Bool) (chan : Nat) (lane : Nat)
  /-- DMC_RESTORE (R410): DMC_TRAIN.RESTORE brings the memory out of self-refresh with kept results -/
  | dmcRestore (init : Initiator)
  /-- SR_ENTER (R411): DMC_SR.ENTER places the memory in self-refresh -/
  | srEnter (init : Initiator)
  /-- SR_EXIT (R411): DMC_SR.EXIT brings the memory out of self-refresh -/
  | srExit (init : Initiator)
  /-- MR_ACCESS (R412): DMC_MR.GO runs a mode-register access -/
  | mrAccess (init : Initiator) (data : Word) (ecc : Ecc)
  /-- WINDOW_READ (R413): A read of the xSPI window fetches a 64-byte block from the flash -/
  | windowRead (init : Initiator) (addr : Nat) (size : Nat)
  /-- XSP_COMMAND (R415): XSP_CMD.GO performs one flash transaction -/
  | xspCommand (init : Initiator) (data : Word) (answer : List Byte) (changes : List (Nat×List Byte))
  /-- POLL_READY (R416): The flash status reaches READY and the poll ends -/
  | pollReady
  /-- POLL_TIMEOUT (R416): The poll exceeds TIMEOUT_MS; waiting window reads end with bus errors -/
  | pollTimeout
  /-- DS_TIMEOUT (R417): The flash does not answer with XSPI_DS within 1 µs -/
  | dsTimeout (init : Initiator) (addr : Nat) (size : Nat)
  /-- IRT_CLAIM (R420): A non-speculative read of IRT_CLAIM claims the offered input -/
  | irtClaim (init : Initiator) (router : Nat) (target : Nat)
  /-- IRT_COMPLETE (R420): A write to IRT_COMPLETE releases a claim -/
  | irtComplete (init : Initiator) (router : Nat) (target : Nat) (data : Word)
  /-- NMI_POP (R421): A read of IRT_NMI_POP removes the oldest NMI entry and reports LOST -/
  | nmiPop (init : Initiator) (router : Nat) (target : Nat)
  /-- NMI_IN (R421): A falling edge on NMI_IN_N held 1 µs queues NMI number 1408 -/
  | nmiIn
  /-- IRT_SWI_WRITE (R419): A write to IRT_SWI drives software interrupt inputs -/
  | irtSwiWrite (init : Initiator) (data : Word)
  /-- OUTLET_MOVE (R422): CQ moves a frame from port 60's egress queues into its Outlet -/
  | outletMove
  /-- OUT_POP (R423): A read of OUT_POP returns and removes the next Outlet word -/
  | outPop (init : Initiator) (outlet : Nat)
  /-- OUT_DROP (R425): A write to OUT_DROP discards the rest of the current or next frame -/
  | outDrop (init : Initiator) (outlet : Nat)
  /-- OUTLET_AGE (R426): The oldest frame waits longer than AGE and the notice level rises -/
  | outletAge (outlet : Nat)
  /-- IN_PUSH (R427): A write to IN_PUSH stages one Inlet word -/
  | inPush (init : Initiator) (inlet : Nat) (data : DWord)
  /-- PORST_N_RELEASE (R434): PORST_N rises and a cold or wake start begins -/
  | porstNRelease (x : StartInput)
  /-- PORST_N_ASSERT (R539): PORST_N falls and the main die enters reset -/
  | porstNAssert
  /-- WRST_N (R432): WRST_N low starts a warm reset with reason 0x02 -/
  | wrstN (x : StartInput)
  /-- LOCKSTEP_MISMATCH (R432): The Crown lockstep pair mismatches and the package takes a warm reset -/
  | lockstepMismatch (x : StartInput)
  /-- UNDERVOLTAGE (R539): VCORE or VSER falls below its threshold and the main die is held in reset -/
  | undervoltage
  /-- UNDERVOLTAGE_RELEASE (R539): The rails recover and a warm or wake start follows -/
  | undervoltageRelease (x : StartInput)
  /-- RESET_WARM (R457): A guarded SYS_RST_CMD with TYPE warm resets the package -/
  | resetWarm (init : Initiator) (x : StartInput)
  /-- RESET_COLD (R457): A guarded SYS_RST_CMD with TYPE cold resets the package -/
  | resetCold (init : Initiator) (x : StartInput)
  /-- WATCHDOG_EXPIRY (R457): The Crown watchdog expires and the package takes a warm reset -/
  | watchdogExpiry (x : StartInput)
  /-- WDT_WARN (R457): Half the watchdog timeout passes without a kick -/
  | wdtWarn
  /-- CRN_WDT_KICK (R457): A write to CRN_WDT_KICK restarts the Crown watchdog -/
  | crnWdtKick (init : Initiator)
  /-- CRN_WDT_ENABLE (R457): A write of EN 1 with a timeout enables the Crown watchdog -/
  | crnWdtEnable (init : Initiator) (data : Word)
  /-- MOV_RUN (R457): A 0-to-1 change in CRN_MOV_RUN starts a Movement core -/
  | movRun (init : Initiator) (data : Word)
  /-- HELLO (R452): Unnov HELLO opens key exchange and the device answers signed -/
  | hello (host : Nat) (msg : List Byte)
  /-- PROVE (R452): Unnov PROVE authenticates the client and opens the session -/
  | prove (host : Nat) (msg : List Byte)
  /-- STATUS (R454): Unnov STATUS returns per-type install and version state -/
  | status (host : Nat) (msg : List Byte)
  /-- STAGE_BEGIN (R455): Unnov STAGE_BEGIN checks a header and writes it to the Reservoir slot -/
  | stageBegin (host : Nat) (msg : List Byte)
  /-- STAGE_BLOCK (R455): Unnov STAGE_BLOCK writes one block of image data -/
  | stageBlock (host : Nat) (msg : List Byte)
  /-- STAGE_END (R455): Unnov STAGE_END checks the digest and sets STATE 0x1 -/
  | stageEnd (host : Nat) (msg : List Byte)
  /-- COMMIT (R448): Unnov COMMIT raises the version counter and fuse epoch of an installed image -/
  | commit (host : Nat) (msg : List Byte)
  /-- ROLLBACK (R455): Unnov ROLLBACK sets STATE 0x6 for the next start -/
  | rollback (host : Nat) (msg : List Byte)
  /-- RESTART (R454): Unnov RESTART schedules a warm or cold reset -/
  | restart (host : Nat) (msg : List Byte)
  /-- RESTART_RESET (R454): 100 ms after the RESTART answer the reset follows -/
  | restartReset (x : StartInput)
  /-- LEDGER_READ (R510): Unnov LEDGER_READ returns ledger image bytes -/
  | ledgerRead (host : Nat) (msg : List Byte)
  /-- VAULT_EXPORT (R454): Unnov VAULT_EXPORT returns part of a vault block -/
  | vaultExport (host : Nat) (msg : List Byte)
  /-- UNNOV_ATTEST (R470): Unnov ATTEST returns a signed attestation statement -/
  | unnovAttest (host : Nat) (msg : List Byte)
  /-- BYE (R453): Unnov BYE ends the session -/
  | bye (host : Nat) (msg : List Byte)
  /-- SESSION_TIMEOUT (R453): 30 s pass without a valid request and the session ends -/
  | sessionTimeout
  /-- FUSE_PROG_CROOT (R461): A guarded fuse program request writes CROOT_HASH once -/
  | fuseProgCroot (init : Initiator) (data : Word)
  /-- FUSE_PROG_EPOCH (R461): A guarded fuse program request adds COUNT bits to an epoch -/
  | fuseProgEpoch (init : Initiator) (data : Word)
  /-- LIFECYCLE_ADVANCE (R461): A guarded fuse program request sets a lifecycle bit -/
  | lifecycleAdvance (init : Initiator) (data : Word)
  /-- FUSE_PROG_DONE (R461): Fuse programming completes; a lifecycle advance resets the package -/
  | fuseProgDone (ok : Bool) (x : StartInput)
  /-- GENERATE (R465): JWL command that generates a key in a slot from the DRBG -/
  | generate (init : Initiator) (data : Word) (bad : List BadEntry)
  /-- IMPORT (R465): JWL command that unwraps a key into a slot -/
  | importKey (init : Initiator) (data : Word) (bad : List BadEntry)
  /-- DERIVE (R465): JWL command that derives a key from a parent -/
  | derive (init : Initiator) (data : Word) (bad : List BadEntry)
  /-- DELETE (R467): JWL command that empties a slot -/
  | deleteKey (init : Initiator) (data : Word) (bad : List BadEntry)
  /-- INFO (R465): JWL command that returns a slot's attributes and public key -/
  | info (init : Initiator) (data : Word) (bad : List BadEntry)
  /-- SAVE (R465): JWL command that returns a blob of a slot -/
  | save (init : Initiator) (data : Word) (bad : List BadEntry)
  /-- RESTORE (R467): JWL command that restores a slot from a blob -/
  | restore (init : Initiator) (data : Word) (bad : List BadEntry)
  /-- ATTEST (R470): JWL command that signs an attestation statement for a handle -/
  | attest (init : Initiator) (data : Word) (bad : List BadEntry)
  /-- SIGN (R465): JWL command that signs a digest with an ECDSA key -/
  | sign (init : Initiator) (data : Word) (bad : List BadEntry)
  /-- HMAC (R465): JWL command that computes an HMAC of a message -/
  | hmac (init : Initiator) (data : Word) (bad : List BadEntry)
  /-- REMASK (R468): A scheduled re-mask replaces one stored key's mask -/
  | remask (handle : Nat)
  /-- TRN_OUT_READ (R469): A non-speculative read of TRN_OUT returns 32 random bits -/
  | trnOutRead (init : Initiator)
  /-- HEALTH_TEST_FAIL (R469): An entropy health test fails and ENTROPY_FAIL holds -/
  | healthTestFail (rct : Bool) (apt : Bool)
  /-- START_UP_TEST (R469): Every 10 ms while FAIL is 1 the DRBG runs a start-up test -/
  | startUpTest (pass : Bool)
  /-- OPEN (R477): VLT command that finds the newest valid block and restores counters -/
  | openVault (init : Initiator) (data : Word)
  /-- APPEND (R474): VLT command that places a record in the open block -/
  | append (init : Initiator) (data : Word)
  /-- SEAL (R474): VLT command that seals the open block and writes it to NOR -/
  | seal (init : Initiator) (data : Word)
  /-- RAISE (R476): VLT command that raises a monotonic counter and seals at once -/
  | raise (init : Initiator) (data : Word)
  /-- TIME_SEAL (R474): SEAL_MS passes since the block's first record and the block is sealed -/
  | timeSeal
  /-- BLOCK_WRITE_DONE (R474): A sealed block has been written and read back and BUSY clears -/
  | blockWriteDone (ok : Bool)
  /-- FENCE_EDGE (R482): An edge on TWIN_FENCE_IN is judged as ALIVE, STBY or DEAD -/
  | fenceEdge (halfNs : Nat)
  /-- FENCE_DEAD_TIMEOUT (R482): No fence edge for 110 µs reads DEAD -/
  | fenceDeadTimeout
  /-- LEAD_ACTIVE (R485): A Lead's fence has not read ALIVE for 250 µs and it becomes Active -/
  | leadActive
  /-- HEARTBEAT_MISS (R486): A 1 ms interval ends without a heartbeat and MISSES increments -/
  | heartbeatMiss
  /-- TAKEOVER (R486): A Mate takes over and releases its gates -/
  | takeover
  /-- YIELD (R487): A guarded TWL_CMD YIELD sets YIELDED and enters Standby -/
  | yield (init : Initiator)
  /-- CLAIM (R487): A guarded TWL_CMD CLAIM clears YIELDED -/
  | claim (init : Initiator)
  /-- YIELD_EVENT (R488): An Active Mate reads ALIVE for 250 µs and yields -/
  | yieldEvent
  /-- TWIN_HEARTBEAT_SEND (R489): Every 1 ms TWL sends a HEARTBEAT -/
  | twinHeartbeatSend
  /-- HEARTBEAT (R489): A HEARTBEAT message arrives and TWL_TOFFSET is computed -/
  | heartbeat (msg : List Byte)
  /-- TWIN_LINK_RETRAIN (R489): Every 10 ms a down twin link retrains -/
  | twinLinkRetrain (lanes : Nat) (delay : Nat)
  /-- FRAME (R491): A FRAME message enters FP9 with its tag rewritten -/
  | frame (msg : List Byte)
  /-- LEARN_DELTA (R492): A LEARN_DELTA places an item in the local learning queue -/
  | learnDelta (msg : List Byte)
  /-- NM_DELTA (R492): An NM_DELTA updates the partner's NETREQ and NM states -/
  | nmDelta (msg : List Byte)
  /-- BRIDGE_WRITE (R493): A write to TWL_BR_DATA performs one remote write -/
  | bridgeWrite (init : Initiator) (data : Word)
  /-- BRIDGE_READ (R493): A non-speculative read of TWL_BR_DATA performs one remote read -/
  | bridgeRead (init : Initiator)
  /-- BR_READ (R494): The target engine serves a remote read request -/
  | brRead (msg : List Byte) (late : Bool) (ecc : Ecc)
  /-- BR_WRITE (R494): The target engine serves a remote write request -/
  | brWrite (msg : List Byte) (late : Bool) (ecc : Ecc)
  /-- BR_RESP (R495): A remote response completes the local bridge access -/
  | brResp (init : Initiator) (msg : List Byte) (late : Bool)
  /-- BR_TIMEOUT (R495): No response within 100 µs ends the access with a bus error -/
  | brTimeout (init : Initiator)
  /-- CAP_TAKE (R498): CAP takes a frame and writes its record into a ring -/
  | capTake
  /-- RECORD_DONE (R500): DRAM acknowledges a record's last byte and NEXT_OFF advances -/
  | recordDone (ring : Nat)
  /-- CAP_TRIGGER (R501): CAP_CMD TRIGGER triggers a Running ring -/
  | capTrigger (init : Initiator) (ring : Nat)
  /-- CAP_RELEASE (R503): CAP_CMD RELEASE returns a Frozen ring to Running -/
  | capRelease (init : Initiator) (ring : Nat)
  /-- CAP_FREEZE (R502): CAP_CMD FREEZE freezes a ring at once -/
  | capFreeze (init : Initiator) (ring : Nat)
  /-- DIGEST_DONE (R504): The SHA-256 of a frozen ring completes -/
  | digestDone (ring : Nat) (ok : Bool)
  /-- SNAP (R507): LDG_CMD SNAP copies live counts into the snapshot and zeroes them -/
  | snap (init : Initiator)
  /-- LDG_RD_DATA_READ (R507): A read of LDG_RD_DATA returns a snapshot word and advances the offset -/
  | ldgRdDataRead (init : Initiator)
  /-- LDG_EVT_POP (R508): A read of LDG_EVT_INFO returns and removes the oldest ledger event -/
  | ldgEvtPop (init : Initiator)
  /-- LEDGER_SECOND (R506): Each second LDG adds to the Tj, VCORE and state histograms -/
  | ledgerSecond (tj : Int)
  /-- TWIN_LINK_DOWN (R489): The twin link loses block lock on its last lane in service, or one lane fails and the link runs on the other, and port 52 goes down -/
  | twinLinkDown
  /-- S2S_LINK_UP (R307): The shore-to-shore link trains, S2S_DOWN ends, and Shore A passes TWIN_ROLE to Shore B -/
  | s2sLinkUp
  /-- PCS_ERROR (R367): The PCS of an Ethernet port detects a code or block error and raises PCS_ERROR -/
  | pcsError (k : Nat)
  /-- BEACON_SEEN (R339): A T1L sees or sends a PLCA BEACON, STATUS becomes 1 and PLCA_LOST ends -/
  | beaconSeen (seg : Nat)
  /-- OVERTEMP_END (R316): The shore Tj falls back below the shutdown threshold less hysteresis, OVERTEMP ends and the transmitters return -/
  | overtempEnd (shore : Nat)
  /-- TXD_RECESSIVE (R316): TXD goes recessive after a dominant time-out, the transmitter returns and TXD_DOM ends -/
  | txdRecessive (chan : Nat)
  /-- VCC5_UV_END (R532): VCC5 of a shore rises above its rising undervoltage threshold and the transmitters and line drivers may drive again -/
  | vcc5UvEnd (shore : Nat)
  /-- INH_OC_END (R324): An INH output leaves its current limit and the level source INH_OC ends -/
  | inhOcEnd (shore : Nat) (out : Nat)
  /-- FRAME_DECODED (R319): In Standby a frame that matches no filter is decoded without error and DEC_ERR decrements -/
  | frameDecoded (chan : Nat)
  /-- DMC_RESTORE_DONE (R410): Within 1 ms of RESTORE the memory has left self-refresh with the kept training results and INIT becomes 1 -/
  | dmcRestoreDone
  /-- TWIN_MESSAGE_RESEND (R489): A twin-link message whose CRC fails is sent again and counted in TWL_RETRY -/
  | twinMessageResend
deriving DecidableEq, Repr

end Sys2Proof
end

