-- ==== Sys2Proof/Config.lean ====
section
/-! DEFINITION. What an implementation fixes and the spec leaves open: free values, and the check of certificate chains that the
spec leaves to its standard. The opaque constants have no body, so nothing can be proved of a value; the definitions over them fix
only how many bytes a result has (notes/assumptions/11.md). -/
namespace Sys2Proof.Config

/-- The bytes `f 0` to `f (n - 1)`. -/
def bytes (n : Nat) (f : Nat → Byte) : List Byte := (List.range n).map f

/-- A 32-bit value the spec leaves open; the step applies it to the counter `State.free`. -/
opaque freeWord : Nat → Word

/-- Byte strings the spec leaves open (random numbers of TRN, keys, nonces, salts, masks): draw, byte. -/
opaque freeByte : Nat → Nat → Byte
def freeBytes (draw n : Nat) : List Byte := bytes n (freeByte draw)

/-- What a start meets that no command spells: one that a fault reaction brings (R78). -/
opaque startInput : Nat → StartInput

/-- The chain of X.509 certificates of a HELLO (R452): whether it is sound, and the P-384 public keys of its leaf and its root. -/
opaque x509Sound : List Byte → Bool
opaque x509Leaf : List Byte → Nat → Byte
opaque x509Root : List Byte → Nat → Byte
def x509Chain (certs : List Byte) : Option (List Byte × List Byte) :=
  if x509Sound certs then some (bytes 96 (x509Leaf certs), bytes 96 (x509Root certs)) else none

end Sys2Proof.Config
end

