-- ==== Sys2Proof/Machine/RegNames.lean ====
section
/-! DEFINITION. The register offsets of every block window, under the names of the register maps of spec/.
An array is named by the offset of its first element. -/
namespace Sys2Proof.Machine.Reg

/-! Block header and fault section, every window: the register map in spec/02_register_model.md. -/
abbrev BLK_ID : Nat := 0x0
abbrev BLK_CAPS : Nat := 0x4
abbrev BLK_CTRL : Nat := 0x8
abbrev BLK_UPDATE : Nat := 0xC
abbrev BLK_UPDSTAT : Nat := 0x10
abbrev BLK_UPDGROUP : Nat := 0x14
abbrev WIN_ACCESS : Nat := 0x18
abbrev SPEC_READS : Nat := 0x1C
abbrev FLT_STAT : Nat := 0x20
abbrev FLT_LIVE : Nat := 0x24
abbrev FLT_STATE_LO : Nat := 0x28
abbrev FLT_STATE_HI : Nat := 0x2C
abbrev FLT_ESCSTAT : Nat := 0x30
abbrev FLT_RELEASE : Nat := 0x34
abbrev FLT_RECOV_CLR : Nat := 0x38
abbrev FLT_SRCBASE : Nat := 0x3C
abbrev FLT_QUIET : Nat := 0x40
abbrev FLT_ESCAL : Nat := 0x44
abbrev FLT_LOC : Nat := 0x48
abbrev FLT_INFO : Nat := 0x4C
abbrev FLT_INJECT : Nat := 0x50
abbrev FLT_CFG : Nat := 0x60
abbrev FLT_RECOV : Nat := 0x80
abbrev FLT_CNT : Nat := 0xC0
/-! Block SYS: the register map in spec/02_register_model.md. -/
abbrev SYS_UPDATE : Nat := 0x200
abbrev SYS_UPD_PAUSE : Nat := 0x204
abbrev SYS_UPDSTAT : Nat := 0x208
abbrev SYS_FLT_FLOOR : Nat := 0x220
abbrev SYS_ERRPIN : Nat := 0x224
abbrev SYS_FLT_BRST : Nat := 0x228
abbrev SYS_FLT_BRST_LOC : Nat := 0x22C
abbrev SYS_RST_FLT : Nat := 0x230
abbrev SYS_RST_FLT_LOC : Nat := 0x234
abbrev SYS_PWR_CMD : Nat := 0x240
abbrev SYS_PWR_CFG : Nat := 0x244
abbrev SYS_PWR_STAT : Nat := 0x248
abbrev SYS_DOZE_DROP : Nat := 0x24C
abbrev SYS_RST_REASON : Nat := 0x260
abbrev SYS_RST_CMD : Nat := 0x264
abbrev SYS_STRAPS : Nat := 0x268
abbrev SYS_BOOT_STAT : Nat := 0x26C
/-! Block ICX: the register map in spec/02_register_model.md. -/
abbrev ICX_LOG_STAT : Nat := 0x100
abbrev ICX_LOG_POP : Nat := 0x104
abbrev ICX_ERR_ADDR_LO : Nat := 0x110
abbrev ICX_ERR_ADDR_HI : Nat := 0x114
abbrev ICX_ERR_INFO : Nat := 0x118
abbrev ICX_ERR_LOC : Nat := 0x11C
/-! Block BAL: the register map in spec/01_pace_and_timed_islands.md. -/
abbrev BAL_MEAS : Nat := 0x100
abbrev BAL_THRESH : Nat := 0x104
abbrev BAL_MASK : Nat := 0x108
abbrev BAL_MIN : Nat := 0x10C
abbrev BAL_PACE : Nat := 0x140
abbrev BAL_REG_CTRL : Nat := 0x180
abbrev BAL_REG_TARGET : Nat := 0x184
abbrev BAL_REG_GUARD : Nat := 0x188
abbrev BAL_PMB_CFG : Nat := 0x18C
abbrev BAL_VSET : Nat := 0x190
abbrev BAL_VSTAT : Nat := 0x194
abbrev BAL_REG_STAT : Nat := 0x198
abbrev BAL_PMB_TXN_LO : Nat := 0x1A0
abbrev BAL_PMB_TXN_HI : Nat := 0x1A4
abbrev BAL_HIST_CLR : Nat := 0x1B0
abbrev BAL_HIST : Nat := 0x1C0
/-! Block LDG: the register map in spec/20_capture_and_ledger.md. -/
abbrev LDG_CMD : Nat := 0x100
abbrev LDG_RD_OFF : Nat := 0x104
abbrev LDG_RD_DATA : Nat := 0x108
abbrev LDG_EVT_INFO : Nat := 0x110
abbrev LDG_EVT_PL : Nat := 0x114
/-! Block IRT: the register map in spec/16_processors_and_core_queues.md. -/
abbrev IRT_CLAIM : Nat := 0x100
abbrev IRT_COMPLETE : Nat := 0x104
abbrev IRT_THRESH : Nat := 0x108
abbrev IRT_NMI_POP : Nat := 0x10C
abbrev IRT_SWI : Nat := 0x180
abbrev IRT_PEND : Nat := 0x200
abbrev IRT_CLAIMED : Nat := 0x300
abbrev IRT_PRIO : Nat := 0x400
abbrev IRT_EN : Nat := 0x800
/-! Block TMS: the register map in spec/14_time_service.md. -/
abbrev TMS_NOW_LO : Nat := 0x100
abbrev TMS_NOW_HI : Nat := 0x104
abbrev TMS_NOW_FRAC : Nat := 0x108
abbrev TMS_VAULT_LO : Nat := 0x110
abbrev TMS_VAULT_HI : Nat := 0x114
abbrev TMS_VOFFSET_LO : Nat := 0x118
abbrev TMS_VOFFSET_HI : Nat := 0x11C
abbrev TMS_ADDEND_LO : Nat := 0x120
abbrev TMS_ADDEND_HI : Nat := 0x124
abbrev TMS_SLEW : Nat := 0x128
abbrev TMS_SLEW_CFG : Nat := 0x12C
abbrev TMS_SLEW_REM : Nat := 0x130
abbrev TMS_STEP_LO : Nat := 0x138
abbrev TMS_STEP_HI : Nat := 0x13C
abbrev TMS_CMD : Nat := 0x140
abbrev TMS_STAT : Nat := 0x144
abbrev TMS_VBASE_LO : Nat := 0x150
abbrev TMS_VBASE_HI : Nat := 0x154
abbrev TMS_HOLD_CFG : Nat := 0x160
abbrev TMS_HOLD_LIMIT : Nat := 0x164
abbrev TMS_HOLD_ELAPSED : Nat := 0x168
abbrev TMS_HOLD_EST : Nat := 0x16C
abbrev TMS_HOLD_LAST_ERR : Nat := 0x170
abbrev TMS_DOM : Nat := 0x180
abbrev TMS_PTP_PORTS : Nat := 0x188
abbrev TMS_PTP_BAD : Nat := 0x18C
abbrev TMS_ALIGN : Nat := 0x190
abbrev TMS_REF_BASE_LO : Nat := 0x1A0
abbrev TMS_REF_BASE_HI : Nat := 0x1A4
abbrev TMS_REF_TRIG : Nat := 0x1A8
abbrev TMS_REF : Nat := 0x200
/-! Block FAB: the register map in spec/04_frame_tag_and_fabric.md. -/
abbrev FAB_TCTRL : Nat := 0x100
abbrev FAB_TSTAT : Nat := 0x104
abbrev FAB_BIST : Nat := 0x108
abbrev FAB_BIST_LOC : Nat := 0x10C
abbrev FAB_INFLIGHT : Nat := 0x110
abbrev FAB_DECLINE : Nat := 0x118
abbrev FAB_OWED : Nat := 0x11C
abbrev FAB_ROUNDS_LO : Nat := 0x120
abbrev FAB_ROUNDS_HI : Nat := 0x124
abbrev FAB_CELLS_LO : Nat := 0x128
abbrev FAB_CELLS_HI : Nat := 0x12C
abbrev FAB_ACC_IT : Nat := 0x130
abbrev FAB_HDR_ERR : Nat := 0x13C
abbrev FAB_PAR_ERR : Nat := 0x140
abbrev FAB_PTR : Nat := 0x180
abbrev FAB_CT_EN : Nat := 0x400
abbrev FAB_RSQ_TIMEOUT : Nat := 0x404
abbrev FAB_SVC : Nat := 0x408
abbrev FAB_ENG_LIMIT : Nat := 0x40C
abbrev FAB_RSQ_LATE : Nat := 0x410
abbrev FAB_CT_ABORT : Nat := 0x414
abbrev FAB_RSQ_DISCARD_LO : Nat := 0x418
abbrev FAB_RSQ_DISCARD_HI : Nat := 0x41C
abbrev FAB_RSQ_OCC : Nat := 0x440
/-! Block QMG: the register map in spec/05_pond_and_queues.md. -/
abbrev QMG_FLOOR : Nat := 0x100
abbrev QMG_ALPHA : Nat := 0x120
abbrev QMG_HEADROOM : Nat := 0x124
abbrev QMG_PUSHOUT : Nat := 0x128
abbrev QMG_ENGFLOOR : Nat := 0x130
abbrev QMG_STALL : Nat := 0x140
abbrev QMG_ECC_WIN : Nat := 0x144
abbrev QMG_CMPROF : Nat := 0x180
abbrev QMG_PORTCFG : Nat := 0x200
abbrev QMG_PORTSTAT : Nat := 0x300
abbrev QMG_PORTCTL : Nat := 0x400
abbrev QMG_QSEL : Nat := 0x500
abbrev QMG_QOCC : Nat := 0x504
abbrev QMG_QPEAK : Nat := 0x508
abbrev QMG_QDROP : Nat := 0x50C
abbrev QMG_QDROP_DOWN : Nat := 0x510
abbrev QMG_QFLUSH : Nat := 0x514
abbrev QMG_SHARED_FREE : Nat := 0x520
abbrev QMG_CELLS_FREE : Nat := 0x524
abbrev QMG_DESC_FREE : Nat := 0x528
abbrev QMG_CLASS_USE : Nat := 0x540
abbrev QMG_ENG_USE : Nat := 0x560
abbrev QMG_DROP_ADM : Nat := 0x580
abbrev QMG_PUSHED : Nat := 0x5A0
abbrev QMG_DROP_POOL : Nat := 0x5C0
abbrev QMG_DROP_DESC : Nat := 0x5C4
abbrev QMG_DROP_DOWN : Nat := 0x5C8
abbrev QMG_DROP_MIDFRAME : Nat := 0x5CC
abbrev QMG_CT_END : Nat := 0x5D0
abbrev QMG_IN_STALL_DROP : Nat := 0x5D4
abbrev QMG_CM_MARKS : Nat := 0x5D8
abbrev QMG_ECN_REWRITES : Nat := 0x5DC
abbrev QMG_ADMIT_LO : Nat := 0x5E0
abbrev QMG_ADMIT_HI : Nat := 0x5E4
abbrev QMG_BANKMAP : Nat := 0x600
abbrev QMG_DRAIN : Nat := 0x680
abbrev QMG_MIGRATE : Nat := 0x684
abbrev QMG_MIGSTAT : Nat := 0x688
abbrev QMG_RETIRED : Nat := 0x68C
abbrev QMG_SPARE_STAT : Nat := 0x690
abbrev QMG_RETIRE_LO : Nat := 0x694
abbrev QMG_RETIRE_HI : Nat := 0x698
abbrev QMG_ECC_CORR : Nat := 0x700
abbrev QMG_ECC_UNCORR : Nat := 0x790
/-! Block DIA: the register map in spec/06_dial_arbiter.md. -/
abbrev DIAL_FREEZE : Nat := 0x100
abbrev DIAL_DRAINED : Nat := 0x104
abbrev DIAL_BANK : Nat := 0x108
abbrev DIAL_SWAP : Nat := 0x10C
abbrev DIAL_STARVE : Nat := 0x110
abbrev DIAL_STARVE_WHO : Nat := 0x114
abbrev DIAL_AW_COUNT : Nat := 0x118
abbrev DIAL_ROUNDS_LO : Nat := 0x120
abbrev DIAL_ROUNDS_HI : Nat := 0x124
abbrev DIAL_BASE : Nat := 0x130
abbrev DIAL_RANKNOW : Nat := 0x140
abbrev DIAL_GRANT_SLOT : Nat := 0x200
abbrev DIAL_GRANT_BG : Nat := 0x280
abbrev DIAL_WAITMAX : Nat := 0x300
abbrev DIAL_WAITCLR : Nat := 0x380
abbrev DIAL_TBL0 : Nat := 0x400
abbrev DIAL_TBL1 : Nat := 0x600
/-! Block CLS: the register map in spec/07_classification_tables.md. -/
abbrev CLS_PROF : Nat := 0x100
abbrev CLS_PROF_IDMASK : Nat := 0x180
abbrev CLS_PORTSEL : Nat := 0x200
abbrev CLS_PORTLRN : Nat := 0x300
abbrev CLS_DEFACT : Nat := 0x400
abbrev CLS_PSET_IDX : Nat := 0x700
abbrev CLS_PSET_LO : Nat := 0x704
abbrev CLS_PSET_HI : Nat := 0x708
abbrev CLS_PSET_CMD : Nat := 0x70C
abbrev CLS_LOOKUPS_LO : Nat := 0x800
abbrev CLS_LOOKUPS_HI : Nat := 0x804
abbrev CLS_EMT_HITS : Nat := 0x808
abbrev CLS_WCT_HITS : Nat := 0x80C
abbrev CLS_MISSES : Nat := 0x810
abbrev CLS_MISS_DROP : Nat := 0x814
abbrev CLS_DROP : Nat := 0x818
abbrev CLS_NOPROF : Nat := 0x81C
abbrev CLS_BADACT : Nat := 0x820
abbrev CLS_LRN_LOOKUPS : Nat := 0x824
/-! Block EMT: the register map in spec/07_classification_tables.md. -/
abbrev EMT_CMD : Nat := 0x100
abbrev EMT_CMD_STAT : Nat := 0x104
abbrev EMT_CMD_WHERE : Nat := 0x108
abbrev EMT_CMD_KEY : Nat := 0x110
abbrev EMT_CMD_ACT : Nat := 0x120
abbrev EMT_RES_ACT : Nat := 0x130
abbrev EMT_PLAN : Nat := 0x180
abbrev EMT_SEED : Nat := 0x300
abbrev EMT_RSV : Nat := 0x304
abbrev EMT_STASH_WARN : Nat := 0x308
abbrev EMT_AGE : Nat := 0x30C
abbrev EMT_SHADOW_LO : Nat := 0x310
abbrev EMT_SHADOW_HI : Nat := 0x314
abbrev EMT_SCRUB : Nat := 0x318
abbrev EMT_SCRUB_STAT : Nat := 0x31C
abbrev EMT_SCRUB_LAST : Nat := 0x320
abbrev EMT_SCRUB_MISM : Nat := 0x324
abbrev EMT_SCRUB_REPAIRED : Nat := 0x328
abbrev EMT_SCRUB_SKIP : Nat := 0x32C
abbrev EMT_LEARN : Nat := 0x330
abbrev EMT_LEARN_TPL : Nat := 0x334
abbrev EMT_COUNT : Nat := 0x344
abbrev EMT_LEARNED : Nat := 0x348
abbrev EMT_STASH_USE : Nat := 0x34C
abbrev EMT_LEARN_CNT : Nat := 0x350
abbrev EMT_MOVE_COUNT : Nat := 0x354
abbrev EMT_STATIC_MOVE : Nat := 0x358
abbrev EMT_LEARN_FAIL : Nat := 0x35C
abbrev EMT_LEARN_OVF : Nat := 0x360
abbrev EMT_LEARN_DEFER : Nat := 0x364
abbrev EMT_AGED : Nat := 0x368
abbrev EMT_NOTICE_DROP : Nat := 0x36C
abbrev EMT_CMDS_LO : Nat := 0x370
abbrev EMT_CMDS_HI : Nat := 0x374
abbrev EMT_ECC_CORR : Nat := 0x380
abbrev EMT_ECC_UNCORR : Nat := 0x384
/-! Block WCT: the register map in spec/07_classification_tables.md. -/
abbrev WCT_IDX : Nat := 0x100
abbrev WCT_CMD : Nat := 0x104
abbrev WCT_VALUE : Nat := 0x110
abbrev WCT_MASK : Nat := 0x120
abbrev WCT_ACT : Nat := 0x130
abbrev WCT_HITS : Nat := 0x140
abbrev WCT_STAT : Nat := 0x144
/-! Block POL: the register map in spec/08_policing_and_filtering.md. -/
abbrev POL_CTRL : Nat := 0x100
abbrev POL_CMD : Nat := 0x110
abbrev POL_CMD_STAT : Nat := 0x114
abbrev POL_DATA : Nat := 0x120
abbrev POL_PORTFLT : Nat := 0x200
abbrev POL_FPROF : Nat := 0x300
abbrev POL_VN_CFG : Nat := 0x400
abbrev POL_FLT_DENY : Nat := 0x500
abbrev POL_GATE_CLOSED : Nat := 0x504
abbrev POL_RED : Nat := 0x508
abbrev POL_DROPPED : Nat := 0x50C
abbrev POL_VN_SENT : Nat := 0x510
abbrev POL_VN_SUPPRESSED : Nat := 0x514
abbrev POL_VN_DROP : Nat := 0x518
abbrev POL_DECISIONS_LO : Nat := 0x520
abbrev POL_DECISIONS_HI : Nat := 0x524
abbrev POL_FRULE : Nat := 0x800
/-! Block CDM: the register map in spec/08_policing_and_filtering.md. -/
abbrev CDM_CMD : Nat := 0x100
abbrev CDM_CMD_STAT : Nat := 0x104
abbrev CDM_DATA : Nat := 0x110
abbrev CDM_EARLY : Nat := 0x120
abbrev CDM_MISSING : Nat := 0x124
abbrev CDM_EARLY_DROP : Nat := 0x128
abbrev CDM_ONTIME_LO : Nat := 0x130
abbrev CDM_ONTIME_HI : Nat := 0x134
/-! Block SGE: the register map in spec/09_signal_engine.md. -/
abbrev SGE_CMD : Nat := 0x100
abbrev SGE_CMD_STAT : Nat := 0x104
abbrev SGE_DATA : Nat := 0x120
abbrev SGE_TP_T12 : Nat := 0x140
abbrev SGE_TP_T34 : Nat := 0x144
abbrev SGE_TP_CFG : Nat := 0x148
abbrev SGE_CLAIM_CFG : Nat := 0x14C
abbrev SGE_UC_CTRL : Nat := 0x160
abbrev SGE_UC_DATA : Nat := 0x164
abbrev SGE_UC_CRC : Nat := 0x168
abbrev SGE_UC_STAT : Nat := 0x16C
abbrev SGE_UC_VER : Nat := 0x170
abbrev SGE_SESS : Nat := 0x174
abbrev SGE_OPS_LO : Nat := 0x200
abbrev SGE_OPS_HI : Nat := 0x204
abbrev SGE_TAKEN : Nat := 0x208
abbrev SGE_EMITTED : Nat := 0x20C
abbrev SGE_EMIT_DROP : Nat := 0x210
abbrev SGE_DISCARD : Nat := 0x214
abbrev SGE_SHORT : Nat := 0x218
abbrev SGE_INVALID : Nat := 0x21C
abbrev SGE_RANGE : Nat := 0x220
abbrev SGE_SATURATED : Nat := 0x224
abbrev SGE_TIMEOUTS : Nat := 0x228
abbrev SGE_DEFERRED : Nat := 0x22C
abbrev SGE_TP_DONE : Nat := 0x230
abbrev SGE_TP_ABORT : Nat := 0x234
abbrev SGE_TP_BUSY : Nat := 0x238
abbrev SGE_CLAIM_CONFLICT : Nat := 0x23C
abbrev SGE_CLAIM_BAD : Nat := 0x240
abbrev SGE_NAME_UNRES : Nat := 0x244
abbrev SGE_BUNDLES : Nat := 0x248
abbrev SGE_ENCAP_BAD : Nat := 0x24C
abbrev SGE_SPLIT_MSGS : Nat := 0x250
abbrev SGE_SPLIT_BAD : Nat := 0x254
abbrev SGE_STREAM_GAP : Nat := 0x258
/-! Block AUE: the register map in spec/10_authentication_engine.md. -/
abbrev AUE_SHED_ON : Nat := 0x100
abbrev AUE_SHED_OFF : Nat := 0x104
abbrev AUE_CMD : Nat := 0x110
abbrev AUE_CMD_STAT : Nat := 0x114
abbrev AUE_DATA : Nat := 0x120
abbrev AUE_STAT : Nat := 0x140
abbrev AUE_CMAC_OPS_LO : Nat := 0x200
abbrev AUE_CMAC_OPS_HI : Nat := 0x204
abbrev AUE_GENERATED : Nat := 0x208
abbrev AUE_VERIFIED : Nat := 0x20C
abbrev AUE_FAILED : Nat := 0x210
abbrev AUE_REPLAYED : Nat := 0x214
abbrev AUE_SHED_DROP : Nat := 0x218
abbrev AUE_SHED_PASS : Nat := 0x21C
abbrev AUE_DISCARD : Nat := 0x220
abbrev AUE_KEY_REFUSED : Nat := 0x224
/-! Block JWL: the register map in spec/18_key_store_and_vault.md. -/
abbrev JWL_LIFECYCLE : Nat := 0x100
abbrev JWL_FUSE_STAT : Nat := 0x104
abbrev JWL_FUSE_PROG : Nat := 0x108
abbrev JWL_CMD : Nat := 0x110
abbrev JWL_CMD_STAT : Nat := 0x114
abbrev JWL_REMASK : Nat := 0x120
abbrev JWL_REMASK_STAT : Nat := 0x124
abbrev JWL_SLOTS_USED : Nat := 0x128
abbrev JWL_VROOT_HASH : Nat := 0x200
abbrev JWL_CROOT_HASH : Nat := 0x240
abbrev JWL_CROOT_STAGE : Nat := 0x280
abbrev JWL_EPOCH : Nat := 0x2C0
abbrev JWL_DATA : Nat := 0x400
abbrev JWL_CERT : Nat := 0x800
/-! Block TRN: the register map in spec/18_key_store_and_vault.md. -/
abbrev TRN_OUT : Nat := 0x100
abbrev TRN_STAT : Nat := 0x104
abbrev TRN_CFG : Nat := 0x108
abbrev TRN_HEALTH : Nat := 0x10C
/-! Block VLT: the register map in spec/18_key_store_and_vault.md. -/
abbrev VLT_BASE : Nat := 0x100
abbrev VLT_SIZE : Nat := 0x104
abbrev VLT_SEAL_CFG : Nat := 0x108
abbrev VLT_CMD : Nat := 0x110
abbrev VLT_STAT : Nat := 0x114
abbrev VLT_REC : Nat := 0x120
abbrev VLT_CTR_SET_LO : Nat := 0x150
abbrev VLT_CTR_SET_HI : Nat := 0x154
abbrev VLT_NEXT_SEQ_LO : Nat := 0x160
abbrev VLT_NEXT_SEQ_HI : Nat := 0x164
abbrev VLT_BLOCK_LO : Nat := 0x168
abbrev VLT_BLOCK_HI : Nat := 0x16C
abbrev VLT_OLDEST_LO : Nat := 0x170
abbrev VLT_OLDEST_HI : Nat := 0x174
abbrev VLT_CTR : Nat := 0x180
/-! Block CX: the register map in spec/11_can_controllers.md. -/
abbrev CX_MODE : Nat := 0x100
abbrev CX_NBT : Nat := 0x104
abbrev CX_DBT : Nat := 0x108
abbrev CX_XBT : Nat := 0x10C
abbrev CX_TDC : Nat := 0x110
abbrev CX_XTDC : Nat := 0x114
abbrev CX_PWM : Nat := 0x118
abbrev CX_TRXCTL : Nat := 0x11C
abbrev CX_RXCFG : Nat := 0x120
abbrev CX_TXCFG : Nat := 0x124
abbrev CX_EBURST : Nat := 0x128
abbrev CX_TXCLASS : Nat := 0x130
abbrev CX_CMD : Nat := 0x150
abbrev CX_TXCANCEL : Nat := 0x154
abbrev CX_TXCANCEL_ID : Nat := 0x158
abbrev CX_TXCANCEL_MASK : Nat := 0x15C
abbrev CX_TXCANCEL_RES : Nat := 0x160
abbrev CX_STAT : Nat := 0x170
abbrev CX_ERR : Nat := 0x174
abbrev CX_LASTERR : Nat := 0x178
abbrev CX_SLOTS : Nat := 0x17C
abbrev CX_ABR_CFG : Nat := 0x180
abbrev CX_ABR_STAT : Nat := 0x184
abbrev CX_ABR_CAND : Nat := 0x200
abbrev CX_REF : Nat := 0x300
abbrev CX_REF_FUP : Nat := 0x304
abbrev CX_REF_FUPID : Nat := 0x308
abbrev CX_REF_STAT : Nat := 0x30C
abbrev CX_REF_SOF_LO : Nat := 0x310
abbrev CX_REF_SOF_HI : Nat := 0x314
abbrev CX_TXEVT_INFO : Nat := 0x340
abbrev CX_TXEVT_ID : Nat := 0x344
abbrev CX_TXEVT_SOF_LO : Nat := 0x348
abbrev CX_TXEVT_SOF_HI : Nat := 0x34C
abbrev CX_TXEVT_EOFD : Nat := 0x350
abbrev CX_TXEVT_STAT : Nat := 0x354
abbrev CX_TXEVT_CLR : Nat := 0x358
abbrev CX_RXEOF_LO : Nat := 0x360
abbrev CX_RXEOF_HI : Nat := 0x364
abbrev CX_RX_LO : Nat := 0x400
abbrev CX_RX_HI : Nat := 0x404
abbrev CX_TX_LO : Nat := 0x408
abbrev CX_TX_HI : Nat := 0x40C
abbrev CX_ERR_STUFF : Nat := 0x410
abbrev CX_ERR_FORM : Nat := 0x414
abbrev CX_ERR_ACK : Nat := 0x418
abbrev CX_ERR_BIT : Nat := 0x41C
abbrev CX_ERR_CRC : Nat := 0x420
abbrev CX_ARB_LOST : Nat := 0x424
abbrev CX_BUSOFF_CNT : Nat := 0x428
abbrev CX_RX_OVF : Nat := 0x42C
abbrev CX_TX_AGED : Nat := 0x430
abbrev CX_TX_CANCELLED : Nat := 0x434
abbrev CX_TX_CANCEL_LATE : Nat := 0x438
abbrev CX_TX_FLUSHED : Nat := 0x43C
abbrev CX_TX_BADFMT : Nat := 0x440
abbrev CX_TX_SUPPRESSED : Nat := 0x444
abbrev CX_EBURSTS : Nat := 0x448
abbrev CX_PEX : Nat := 0x44C
abbrev CX_REF_SENT : Nat := 0x450
abbrev CX_REF_MISSED : Nat := 0x454
abbrev CX_ABR_FRAMES : Nat := 0x458
/-! Block EMC: the register map in spec/13_ethernet_ports.md. -/
abbrev EMC_CFG : Nat := 0x100
abbrev EMC_CLASSMAP : Nat := 0x104
abbrev EMC_DLY : Nat := 0x108
abbrev EMC_LINK : Nat := 0x10C
abbrev EMC_SEL : Nat := 0x110
abbrev EMC_PREEMPT : Nat := 0x114
abbrev EMC_PREEMPT_STAT : Nat := 0x118
abbrev EMC_CBS : Nat := 0x120
abbrev EMC_GCL_CTRL : Nat := 0x140
abbrev EMC_GCL_CYCLE : Nat := 0x144
abbrev EMC_GCL_BASE_LO : Nat := 0x148
abbrev EMC_GCL_BASE_HI : Nat := 0x14C
abbrev EMC_GCL_INIT : Nat := 0x150
abbrev EMC_GCL_STAT : Nat := 0x154
abbrev EMC_TSQ_INFO : Nat := 0x160
abbrev EMC_TSQ_SEQ : Nat := 0x164
abbrev EMC_TSQ_TS_LO : Nat := 0x168
abbrev EMC_TSQ_TS_HI : Nat := 0x16C
abbrev EMC_TSQ_STAT : Nat := 0x170
abbrev EMC_WAKE_STAT : Nat := 0x180
abbrev EMC_WAKE_CLR : Nat := 0x184
abbrev EMC_RWPROF : Nat := 0x1C0
abbrev EMC_WAKE : Nat := 0x400
abbrev EMC_RX_LO : Nat := 0x600
abbrev EMC_RX_HI : Nat := 0x604
abbrev EMC_TX_LO : Nat := 0x608
abbrev EMC_TX_HI : Nat := 0x60C
abbrev EMC_RX_FCS : Nat := 0x610
abbrev EMC_RX_RUNT : Nat := 0x614
abbrev EMC_RX_TRUNC : Nat := 0x618
abbrev EMC_RX_PAUSE : Nat := 0x61C
abbrev EMC_RX_OVF : Nat := 0x620
abbrev EMC_RX_DOZE_DROP : Nat := 0x624
abbrev EMC_TX_BADKIND : Nat := 0x628
abbrev EMC_TX_TOOLONG : Nat := 0x62C
abbrev EMC_PRE_ASSY : Nat := 0x630
abbrev EMC_PRE_FRAG_TX : Nat := 0x634
abbrev EMC_LINKDOWNS : Nat := 0x638
abbrev EMC_TX_UNDERRUN : Nat := 0x63C
abbrev EMC_TX_CONFINED : Nat := 0x640
abbrev EMC_GCL : Nat := 0x800
abbrev EMC_CMD : Nat := 0x1000
abbrev EMC_CMD_STAT : Nat := 0x1004
abbrev EMC_DATA : Nat := 0x1010
abbrev EMC_MDIO : Nat := 0x1040
abbrev EMC_MDIO_STAT : Nat := 0x1044
/-! Block SVP: the register map in spec/13_ethernet_ports.md. -/
abbrev SVP_CFG : Nat := 0x100
abbrev SVP_MAC_LO : Nat := 0x104
abbrev SVP_MAC_HI : Nat := 0x108
abbrev SVP_RXRING : Nat := 0x110
abbrev SVP_TXRING : Nat := 0x114
abbrev SVP_RINGLEN : Nat := 0x118
abbrev SVP_RXPTR : Nat := 0x11C
abbrev SVP_TXPTR : Nat := 0x120
abbrev SVP_RX_ERR : Nat := 0x130
abbrev SVP_RX_OVF : Nat := 0x134
abbrev SVP_FRAMES : Nat := 0x138
/-! Block CQ: the register map in spec/16_processors_and_core_queues.md. -/
abbrev CQ_OUT_OVF : Nat := 0x100
abbrev CQ_IN_ORPHAN : Nat := 0x104
abbrev CQ_IN_BADTAG : Nat := 0x108
abbrev CQ_IN_BAD : Nat := 0x10C
abbrev CQ_IN_OVERRUN : Nat := 0x110
abbrev CQ_IN_REFUSED : Nat := 0x114
abbrev CQ_OUT_DROPPED : Nat := 0x118
abbrev CQ_OCFG : Nat := 0x200
abbrev CQ_ICFG : Nat := 0x300
abbrev OUT_POP : Nat := 0x400
abbrev OUT_PEEK : Nat := 0x408
abbrev OUT_DROP : Nat := 0x410
abbrev OUT_WORDS : Nat := 0x414
abbrev OUT_FRAMES : Nat := 0x418
abbrev OUT_NOTICE : Nat := 0x41C
abbrev IN_PUSH : Nat := 0xC00
abbrev IN_SPACE : Nat := 0xC08
abbrev IN_STAT : Nat := 0xC0C
abbrev IN_FRAMES : Nat := 0xC10
/-! Block CAP: the register map in spec/20_capture_and_ledger.md. -/
abbrev CAP_PORTRING : Nat := 0x100
abbrev CAP_CMD : Nat := 0x120
abbrev CAP_RECORDS_LO : Nat := 0x130
abbrev CAP_RECORDS_HI : Nat := 0x134
abbrev CAP_NOMAP : Nat := 0x138
abbrev CAP_FROZEN_DROP : Nat := 0x13C
abbrev CAP_TRIG_IGNORED : Nat := 0x140
abbrev CAP_RCFG : Nat := 0x200
abbrev CAP_RBASE_LO : Nat := 0x204
abbrev CAP_RBASE_HI : Nat := 0x208
abbrev CAP_TRIG0 : Nat := 0x20C
abbrev CAP_TRIG1 : Nat := 0x210
abbrev CAP_RSTAT : Nat := 0x214
abbrev CAP_NEXT : Nat := 0x218
abbrev CAP_OLDEST : Nat := 0x21C
abbrev CAP_TRIGOFF : Nat := 0x220
abbrev CAP_DIGEST0 : Nat := 0x240
abbrev CAP_DIGEST1 : Nat := 0x244
abbrev CAP_DIGEST2 : Nat := 0x248
abbrev CAP_DIGEST3 : Nat := 0x24C
abbrev CAP_DIGEST4 : Nat := 0x250
abbrev CAP_DIGEST5 : Nat := 0x254
abbrev CAP_DIGEST6 : Nat := 0x258
abbrev CAP_DIGEST7 : Nat := 0x25C
/-! Block TWL: the register map in spec/19_twin_pair.md. -/
abbrev TWL_CTRL : Nat := 0x100
abbrev TWL_STAT : Nat := 0x104
abbrev TWL_CMD : Nat := 0x108
abbrev TWL_GATE_CAN : Nat := 0x10C
abbrev TWL_GATE_ETH : Nat := 0x110
abbrev TWL_PEER_NETREQ_LO : Nat := 0x120
abbrev TWL_PEER_NETREQ_HI : Nat := 0x124
abbrev TWL_TOFFSET_LO : Nat := 0x128
abbrev TWL_TOFFSET_HI : Nat := 0x12C
abbrev TWL_LINKDLY : Nat := 0x130
abbrev TWL_PEER_NM : Nat := 0x140
abbrev TWL_BR_ADDR_LO : Nat := 0x200
abbrev TWL_BR_ADDR_HI : Nat := 0x204
abbrev TWL_BR_DATA : Nat := 0x208
abbrev TWL_BR_STAT : Nat := 0x20C
abbrev TWL_HB_RX : Nat := 0x300
abbrev TWL_HB_MISSED : Nat := 0x304
abbrev TWL_RETRY : Nat := 0x308
abbrev TWL_BAD : Nat := 0x30C
abbrev TWL_BR_TIMEOUTS : Nat := 0x310
abbrev TWL_DELTA_DROP : Nat := 0x314
abbrev TWL_LOOP_DROP : Nat := 0x318
abbrev TWL_TAKEOVERS : Nat := 0x31C
abbrev TWL_CONFINED : Nat := 0x320
/-! Block SHB: the register map in spec/12_shore_dies.md. -/
abbrev SHB_POLL : Nat := 0x100
abbrev SHB_LINK : Nat := 0x104
abbrev SHB_PF : Nat := 0x108
abbrev SHB_REGION : Nat := 0x110
abbrev SHB_RD : Nat := 0x180
abbrev SHB_WR : Nat := 0x184
abbrev SHB_TIMEOUTS : Nat := 0x188
abbrev SHB_LATE : Nat := 0x18C
abbrev SHB_PF_HITS : Nat := 0x190
abbrev SHB_RETRY : Nat := 0x194
abbrev SHB_LINKDOWNS : Nat := 0x198
/-! Block DMC: the register map in spec/16_processors_and_core_queues.md. -/
abbrev DMC_CFG : Nat := 0x100
abbrev DMC_STAT : Nat := 0x104
abbrev DMC_SIZE : Nat := 0x108
abbrev DMC_TRAIN : Nat := 0x110
abbrev DMC_TRAIN_STAT : Nat := 0x114
abbrev DMC_SR : Nat := 0x118
abbrev DMC_MR : Nat := 0x120
abbrev DMC_MR_DATA : Nat := 0x124
abbrev DMC_ECC_CORR_LO : Nat := 0x130
abbrev DMC_ECC_CORR_HI : Nat := 0x134
abbrev DMC_ECC_UNCORR : Nat := 0x138
abbrev DMC_ECC_ADDR_LO : Nat := 0x13C
abbrev DMC_ECC_ADDR_HI : Nat := 0x140
/-! Block XSP: the register map in spec/16_processors_and_core_queues.md. -/
abbrev XSP_CFG : Nat := 0x100
abbrev XSP_RDCFG : Nat := 0x104
abbrev XSP_STAT : Nat := 0x108
abbrev XSP_CMD : Nat := 0x110
abbrev XSP_OPCODE : Nat := 0x114
abbrev XSP_ADDR : Nat := 0x118
abbrev XSP_POLL : Nat := 0x11C
abbrev XSP_POLL_TMO : Nat := 0x120
abbrev XSP_RD_ERR : Nat := 0x124
abbrev XSP_BUF : Nat := 0x200
/-! Block GPIO: the register map in spec/21_package_and_signals.md. -/
abbrev GPIO_DIR : Nat := 0x100
abbrev GPIO_OUT : Nat := 0x104
abbrev GPIO_IN : Nat := 0x108
abbrev GPIO_OD : Nat := 0x10C
abbrev GPIO_PULL_EN : Nat := 0x110
abbrev GPIO_PULL_UP : Nat := 0x114
/-! Block CRN: the register map in spec/17_start_and_update.md. -/
abbrev CRN_WDT : Nat := 0x100
abbrev CRN_WDT_KICK : Nat := 0x104
abbrev CRN_WDT_STAT : Nat := 0x108
abbrev CRN_MOV_ENTRY_LO : Nat := 0x110
abbrev CRN_MOV_ENTRY_HI : Nat := 0x114
abbrev CRN_MOV_RUN : Nat := 0x118
/-! Block NMU: the register map in spec/15_sleep_and_wake.md. -/
abbrev NMU_NETREQ_LO : Nat := 0x100
abbrev NMU_NETREQ_HI : Nat := 0x104
abbrev NMU_CMD : Nat := 0x108
abbrev NMU_T1S_ETYPE : Nat := 0x10C
abbrev NMU_T1S_SA_LO : Nat := 0x110
abbrev NMU_T1S_SA_HI : Nat := 0x114
abbrev NMU_CHG_LO : Nat := 0x120
abbrev NMU_CHG_HI : Nat := 0x124
abbrev NMU_STATE : Nat := 0x140
abbrev NMU_UCFG : Nat := 0x400
abbrev NMU_UID : Nat := 0x404
abbrev NMU_UPOS : Nat := 0x408
abbrev NMU_UTMR1 : Nat := 0x40C
abbrev NMU_UTMR2 : Nat := 0x410
abbrev NMU_PNMASK_LO : Nat := 0x414
abbrev NMU_PNMASK_HI : Nat := 0x418
abbrev NMU_PNTX_LO : Nat := 0x41C
abbrev NMU_PNTX_HI : Nat := 0x420
abbrev NMU_PNRX_LO : Nat := 0x424
abbrev NMU_PNRX_HI : Nat := 0x428
abbrev NMU_USTAT : Nat := 0x42C
abbrev NMU_UCNT1 : Nat := 0x430
abbrev NMU_UCNT2 : Nat := 0x434
abbrev NMU_UFILT : Nat := 0x438
abbrev NMU_UNID : Nat := 0x43C
abbrev NMU_PRES : Nat := 0x1000
/-! Block TRX: the register map in spec/12_shore_dies.md. -/
abbrev TRX_CFG : Nat := 0x100
abbrev TRX_FORCE : Nat := 0x104
abbrev TRX_STAT : Nat := 0x108
abbrev TRX_WAKE : Nat := 0x10C
abbrev TRX_WAKECNT : Nat := 0x110
abbrev TRX_WUF : Nat := 0x200
/-! Block T1L: the register map in spec/12_shore_dies.md. -/
abbrev T1L_CTRL : Nat := 0x100
abbrev T1L_PLCA_CTRL : Nat := 0x104
abbrev T1L_PLCA_TMR : Nat := 0x108
abbrev T1L_STAT : Nat := 0x10C
/-! Block SWK: the register map in spec/12_shore_dies.md. -/
abbrev SWK_PIN : Nat := 0x100
abbrev SWK_PINSTAT : Nat := 0x110
abbrev SWK_SPRING_EN : Nat := 0x120
abbrev SWK_TIMER : Nat := 0x124
abbrev SWK_CMD : Nat := 0x128
abbrev SWK_WAKE_REASON : Nat := 0x130
abbrev SWK_SEEN : Nat := 0x134
abbrev SWK_REASON_T_LO : Nat := 0x138
abbrev SWK_REASON_T_HI : Nat := 0x13C
/-! Block SHC: the register map in spec/12_shore_dies.md. -/
abbrev SHC_CTRL : Nat := 0x100
abbrev SHC_MEM_ADDR : Nat := 0x104
abbrev SHC_MEM_DATA : Nat := 0x108
abbrev SHC_IMG_CRC : Nat := 0x10C
abbrev SHC_STAT : Nat := 0x110
abbrev SHC_WDT : Nat := 0x120
abbrev SHC_WDT_KICK : Nat := 0x124
abbrev SHC_MBOX_IN : Nat := 0x130
abbrev SHC_MBOX_IN_DB : Nat := 0x150
abbrev SHC_MBOX_OUT : Nat := 0x160
abbrev SHC_MBOX_OUT_DB : Nat := 0x180
abbrev SHC_IRQ_EN : Nat := 0x190
abbrev SHC_IRQ_PEND : Nat := 0x194
/-! Block SRL: the register map in spec/12_shore_dies.md. -/
abbrev SRL_CFG : Nat := 0x100
abbrev SRL_STATE : Nat := 0x104
abbrev SRL_CMD : Nat := 0x108
abbrev SRL_HANDOVER_LO : Nat := 0x110
abbrev SRL_HANDOVER_HI : Nat := 0x114
abbrev SRL_NOW_LO : Nat := 0x118
abbrev SRL_NOW_HI : Nat := 0x11C
abbrev SRL_LIMP_AT_LO : Nat := 0x120
abbrev SRL_LIMP_AT_HI : Nat := 0x124
abbrev SRL_ECMD : Nat := 0x140
abbrev SRL_ESTAT : Nat := 0x144
abbrev SRL_EDATA : Nat := 0x150
abbrev SRL_FWD : Nat := 0x200
abbrev SRL_GAP_DROP : Nat := 0x204
abbrev SRL_QDROP : Nat := 0x208
abbrev SRL_S2S_RX : Nat := 0x20C
abbrev SRL_S2S_DROP : Nat := 0x210
abbrev SRL_FMT_DROP : Nat := 0x214
/-! Block SPS: the register map in spec/12_shore_dies.md. -/
abbrev SPS_INH : Nat := 0x100
abbrev SPS_INHSTAT : Nat := 0x104
abbrev SPS_VBAT_CFG : Nat := 0x110
abbrev SPS_VBAT_CFG2 : Nat := 0x114
abbrev SPS_VBAT : Nat := 0x118
abbrev SPS_VBAT_CLR : Nat := 0x11C

end Sys2Proof.Machine.Reg
end

