-- ==== Sys2Proof/Machine/RegTable.lean ====
section
/-! DEFINITION. The register table: one row per register or register array of the maps of spec/ (access types of R14,
reset values, implemented bits).  A register that no row names is unimplemented (R36).
Masks that a map does not spell bit by bit follow its summary column; the field maps win where there is one. -/
namespace Sys2Proof.Machine

/-- How a row is read: `rs` has a read side effect (R14), `lo`/`hi` are the halves of a 64-bit counter (R57, R58),
`w64` is declared 64 bits wide (R35). -/
inductive RegKind where | plain | rs | lo | hi | w64
deriving DecidableEq, Repr

/-- One row of a register map: `n` registers `st` bytes apart from offset `lo`; `rw`, `sh`, `gd` and `w1c` are the bits of
access type RW, RW SH, RW GD and W1C. -/
structure RegRow where
  lo : Nat
  n : Nat
  st : Nat
  reset : Nat
  rw : Nat
  sh : Nat
  gd : Nat
  w1c : Nat
  kind : RegKind
deriving DecidableEq, Repr

/-- Register map of every window: header and fault section (spec/02_register_model.md). -/
def rowsHDR : List RegRow := [
  ⟨0x0, 1, 0x4, 0x0, 0x0, 0x0, 0x0, 0x0, .plain⟩, -- BLK_ID RO
  ⟨0x4, 1, 0x4, 0x0, 0x0, 0x0, 0x0, 0x0, .plain⟩, -- BLK_CAPS RO
  ⟨0x8, 1, 0x4, 0x0, 0xD, 0x0, 0x0, 0x0, .plain⟩, -- BLK_CTRL RW, GD in the windows of **R40**
  ⟨0xC, 1, 0x4, 0x0, 0x0, 0x0, 0x0, 0x0, .plain⟩, -- BLK_UPDATE WO SC
  ⟨0x10, 1, 0x4, 0x0, 0x0, 0x0, 0x0, 0x0, .plain⟩, -- BLK_UPDSTAT RO LV
  ⟨0x14, 1, 0x4, 0x0, 0x1F, 0x0, 0x0, 0x0, .plain⟩, -- BLK_UPDGROUP RW
  ⟨0x18, 1, 0x4, 0x1, 0x0, 0x0, 0x8000001F, 0x0, .plain⟩, -- WIN_ACCESS RW GD
  ⟨0x1C, 1, 0x4, 0x0, 0x0, 0x0, 0x0, 0x0, .plain⟩, -- SPEC_READS RO
  ⟨0x20, 1, 0x4, 0x0, 0x0, 0x0, 0x0, 0xFFFFFFFF, .plain⟩, -- FLT_STAT W1C
  ⟨0x24, 1, 0x4, 0x0, 0x0, 0x0, 0x0, 0x0, .plain⟩, -- FLT_LIVE RO LV
  ⟨0x28, 1, 0x4, 0x0, 0x0, 0x0, 0x0, 0x0, .plain⟩, -- FLT_STATE_LO RO LV
  ⟨0x2C, 1, 0x4, 0x0, 0x0, 0x0, 0x0, 0x0, .plain⟩, -- FLT_STATE_HI RO LV
  ⟨0x30, 1, 0x4, 0x0, 0x0, 0x0, 0x0, 0x0, .plain⟩, -- FLT_ESCSTAT RO LV
  ⟨0x34, 1, 0x4, 0x0, 0x0, 0x0, 0x0, 0x0, .plain⟩, -- FLT_RELEASE WO SC
  ⟨0x38, 1, 0x4, 0x0, 0x0, 0x0, 0x0, 0x0, .plain⟩, -- FLT_RECOV_CLR WO SC
  ⟨0x3C, 1, 0x4, 0x0, 0x0, 0x0, 0x0, 0x0, .plain⟩, -- FLT_SRCBASE RO
  ⟨0x40, 1, 0x4, 0x0, 0xFFFF, 0x0, 0x0, 0x0, .plain⟩, -- FLT_QUIET RW
  ⟨0x44, 1, 0x4, 0x0, 0xFF, 0x0, 0x0, 0x0, .plain⟩, -- FLT_ESCAL RW
  ⟨0x48, 1, 0x4, 0x0, 0x0, 0x0, 0x0, 0x0, .plain⟩, -- FLT_LOC RO LV
  ⟨0x4C, 1, 0x4, 0x0, 0x0, 0x0, 0x0, 0x0, .plain⟩, -- FLT_INFO RO LV
  ⟨0x50, 1, 0x4, 0x0, 0x0, 0x0, 0x0, 0x0, .plain⟩, -- FLT_INJECT WO SC
  ⟨0x60, 8, 0x4, 0x0, 0x0, 0x0, 0xFFFFFFFF, 0x0, .plain⟩, -- FLT_CFG RW GD
  ⟨0x80, 16, 0x4, 0x0, 0x0, 0x0, 0x0, 0x0, .plain⟩, -- FLT_RECOV RO LV
  ⟨0xC0, 4, 0x4, 0x0, 0x0, 0x0, 0x0, 0x0, .plain⟩ -- FLT_CNT RO
]

/-- Register map of SYS (spec/02_register_model.md). -/
def rowsSYS : List RegRow := [
  ⟨0x200, 1, 0x4, 0x0, 0x0, 0x0, 0x0, 0x0, .plain⟩, -- SYS_UPDATE WO SC
  ⟨0x204, 1, 0x4, 0x400, 0xFFFF, 0x0, 0x0, 0x0, .plain⟩, -- SYS_UPD_PAUSE RW
  ⟨0x208, 1, 0x4, 0x0, 0x0, 0x0, 0x0, 0x0, .plain⟩, -- SYS_UPDSTAT RO LV
  ⟨0x220, 1, 0x4, 0x94420, 0x0, 0x0, 0xFFFFF, 0x0, .plain⟩, -- SYS_FLT_FLOOR RW GD
  ⟨0x224, 1, 0x4, 0x0, 0x0, 0x0, 0x1FF, 0x0, .plain⟩, -- SYS_ERRPIN RW GD
  ⟨0x228, 1, 0x4, 0x0, 0x0, 0x0, 0x0, 0x0, .plain⟩, -- SYS_FLT_BRST RO LV
  ⟨0x22C, 1, 0x4, 0x0, 0x0, 0x0, 0x0, 0x0, .plain⟩, -- SYS_FLT_BRST_LOC RO LV
  ⟨0x230, 1, 0x4, 0x0, 0x0, 0x0, 0x0, 0x0, .plain⟩, -- SYS_RST_FLT RO LV
  ⟨0x234, 1, 0x4, 0x0, 0x0, 0x0, 0x0, 0x0, .plain⟩, -- SYS_RST_FLT_LOC RO LV
  ⟨0x240, 1, 0x4, 0x0, 0x0, 0x0, 0x3, 0x0, .plain⟩, -- SYS_PWR_CMD RW GD
  ⟨0x244, 1, 0x4, 0x0, 0xF03, 0x0, 0x0, 0x0, .plain⟩, -- SYS_PWR_CFG RW
  ⟨0x248, 1, 0x4, 0x0, 0x0, 0x0, 0x0, 0x0, .plain⟩, -- SYS_PWR_STAT RO LV
  ⟨0x24C, 1, 0x4, 0x0, 0x0, 0x0, 0x0, 0x0, .plain⟩, -- SYS_DOZE_DROP RO
  ⟨0x260, 1, 0x4, 0x101, 0x0, 0x0, 0x0, 0x0, .plain⟩, -- SYS_RST_REASON RO LV
  ⟨0x264, 1, 0x4, 0x0, 0x0, 0x0, 0x3, 0x0, .plain⟩, -- SYS_RST_CMD RW GD
  ⟨0x268, 1, 0x4, 0x0, 0x0, 0x0, 0x0, 0x0, .plain⟩, -- SYS_STRAPS RO
  ⟨0x26C, 1, 0x4, 0x0, 0x0, 0x0, 0x0, 0x0, .plain⟩ -- SYS_BOOT_STAT RO LV
]

/-- Register map of ICX (spec/02_register_model.md). -/
def rowsICX : List RegRow := [
  ⟨0x100, 1, 0x4, 0x0, 0x0, 0x0, 0x0, 0x0, .plain⟩, -- ICX_LOG_STAT RO LV
  ⟨0x104, 1, 0x4, 0x0, 0x0, 0x0, 0x0, 0x0, .plain⟩, -- ICX_LOG_POP WO SC
  ⟨0x110, 1, 0x4, 0x0, 0x0, 0x0, 0x0, 0x0, .plain⟩, -- ICX_ERR_ADDR_LO RO LV
  ⟨0x114, 1, 0x4, 0x0, 0x0, 0x0, 0x0, 0x0, .plain⟩, -- ICX_ERR_ADDR_HI RO LV
  ⟨0x118, 1, 0x4, 0x0, 0x0, 0x0, 0x0, 0x0, .plain⟩, -- ICX_ERR_INFO RO LV
  ⟨0x11C, 1, 0x4, 0x0, 0x0, 0x0, 0x0, 0x0, .plain⟩ -- ICX_ERR_LOC RO LV
]

/-- Register map of BAL (spec/01_pace_and_timed_islands.md). -/
def rowsBAL : List RegRow := [
  ⟨0x100, 1, 0x4, 0x10064, 0x0, 0x1FFFF, 0x0, 0x0, .plain⟩, -- BAL_MEAS RW SH
  ⟨0x104, 1, 0x4, 0x44C04B0, 0x0, 0xFFFFFFFF, 0x0, 0x0, .plain⟩, -- BAL_THRESH RW SH
  ⟨0x108, 1, 0x4, 0xFFFF, 0x0, 0xFFFF, 0x0, 0x0, .plain⟩, -- BAL_MASK RW SH
  ⟨0x10C, 1, 0x4, 0x0, 0x0, 0x0, 0x0, 0x0, .plain⟩, -- BAL_MIN RO LV
  ⟨0x140, 16, 0x4, 0x0, 0x0, 0x0, 0x0, 0x0, .plain⟩, -- BAL_PACE RO LV
  ⟨0x180, 1, 0x4, 0x100000A, 0x0, 0x8F00FFFF, 0x0, 0x0, .plain⟩, -- BAL_REG_CTRL RW SH
  ⟨0x184, 1, 0x4, 0x14044C, 0x0, 0xFFFFFFFF, 0x0, 0x0, .plain⟩, -- BAL_REG_TARGET RW SH
  ⟨0x188, 1, 0x4, 0x38402F8, 0x0, 0xFFFFFFFF, 0x0, 0x0, .plain⟩, -- BAL_REG_GUARD RW SH
  ⟨0x18C, 1, 0x4, 0x0, 0x0, 0x3F3FF7F, 0x0, 0x0, .plain⟩, -- BAL_PMB_CFG RW SH
  ⟨0x190, 1, 0x4, 0x0, 0xFFFF, 0x0, 0x0, 0x0, .plain⟩, -- BAL_VSET RW
  ⟨0x194, 1, 0x4, 0x0, 0x0, 0x0, 0x0, 0x0, .plain⟩, -- BAL_VSTAT RO LV
  ⟨0x198, 1, 0x4, 0x0, 0x0, 0x0, 0x0, 0x0, .plain⟩, -- BAL_REG_STAT RO LV
  ⟨0x1A0, 1, 0x4, 0x0, 0x0, 0x0, 0x0, 0x0, .lo⟩, -- BAL_PMB_TXN_LO RO
  ⟨0x1A4, 1, 0x4, 0x0, 0x0, 0x0, 0x0, 0x0, .hi⟩, -- BAL_PMB_TXN_HI RO
  ⟨0x1B0, 1, 0x4, 0x0, 0x0, 0x0, 0x0, 0x0, .plain⟩, -- BAL_HIST_CLR WO SC
  ⟨0x1C0, 16, 0x4, 0x0, 0x0, 0x0, 0x0, 0x0, .plain⟩ -- BAL_HIST RO
]

/-- Register map of LDG (spec/20_capture_and_ledger.md). -/
def rowsLDG : List RegRow := [
  ⟨0x100, 1, 0x4, 0x0, 0x0, 0x0, 0x0, 0x0, .plain⟩, -- LDG_CMD WO SC
  ⟨0x104, 1, 0x4, 0x0, 0x7FFC, 0x0, 0x0, 0x0, .plain⟩, -- LDG_RD_OFF RW
  ⟨0x108, 1, 0x4, 0x0, 0x0, 0x0, 0x0, 0x0, .rs⟩, -- LDG_RD_DATA RO RS
  ⟨0x110, 1, 0x4, 0x0, 0x0, 0x0, 0x0, 0x0, .rs⟩, -- LDG_EVT_INFO RO RS
  ⟨0x114, 9, 0x4, 0x0, 0x0, 0x0, 0x0, 0x0, .plain⟩ -- LDG_EVT_PL RO
]

/-- Register map of IRT (spec/16_processors_and_core_queues.md). -/
def rowsIRT : List RegRow := [
  ⟨0x100, 4, 0x10, 0x0, 0x0, 0x0, 0x0, 0x0, .rs⟩, -- IRT_CLAIM RO RS
  ⟨0x104, 4, 0x10, 0x0, 0x0, 0x0, 0x0, 0x0, .plain⟩, -- IRT_COMPLETE WO
  ⟨0x108, 4, 0x10, 0x0, 0x7, 0x0, 0x0, 0x0, .plain⟩, -- IRT_THRESH RW
  ⟨0x10C, 4, 0x10, 0x0, 0x0, 0x0, 0x0, 0x0, .rs⟩, -- IRT_NMI_POP RO RS
  ⟨0x180, 1, 0x4, 0x0, 0xFFFFFFFF, 0x0, 0x0, 0x0, .plain⟩, -- IRT_SWI RW
  ⟨0x200, 48, 0x4, 0x0, 0x0, 0x0, 0x0, 0x0, .plain⟩, -- IRT_PEND RO LV
  ⟨0x300, 48, 0x4, 0x0, 0x0, 0x0, 0x0, 0x0, .plain⟩, -- IRT_CLAIMED RO LV
  ⟨0x400, 192, 0x4, 0x0, 0x77777777, 0x0, 0x0, 0x0, .plain⟩, -- IRT_PRIO RW
  ⟨0x800, 48, 0x4, 0x0, 0xFFFFFFFF, 0x0, 0x0, 0x0, .plain⟩, -- IRT_EN RW
  ⟨0x900, 48, 0x4, 0x0, 0xFFFFFFFF, 0x0, 0x0, 0x0, .plain⟩, -- IRT_EN RW
  ⟨0xA00, 48, 0x4, 0x0, 0xFFFFFFFF, 0x0, 0x0, 0x0, .plain⟩, -- IRT_EN RW
  ⟨0xB00, 48, 0x4, 0x0, 0xFFFFFFFF, 0x0, 0x0, 0x0, .plain⟩ -- IRT_EN RW
]

/-- Register map of TMS, part 1 (spec/14_time_service.md). -/
def rowsTMS_0 : List RegRow := [
  ⟨0x100, 1, 0x4, 0x0, 0x0, 0x0, 0x0, 0x0, .lo⟩, -- TMS_NOW_LO RO RS
  ⟨0x104, 1, 0x4, 0x0, 0x0, 0x0, 0x0, 0x0, .hi⟩, -- TMS_NOW_HI RO
  ⟨0x108, 1, 0x4, 0x0, 0x0, 0x0, 0x0, 0x0, .plain⟩, -- TMS_NOW_FRAC RO
  ⟨0x110, 1, 0x4, 0x0, 0x0, 0x0, 0x0, 0x0, .lo⟩, -- TMS_VAULT_LO RO RS
  ⟨0x114, 1, 0x4, 0x0, 0x0, 0x0, 0x0, 0x0, .hi⟩, -- TMS_VAULT_HI RO
  ⟨0x118, 1, 0x4, 0x0, 0x0, 0x0, 0x0, 0x0, .lo⟩, -- TMS_VOFFSET_LO RO RS
  ⟨0x11C, 1, 0x4, 0x0, 0x0, 0x0, 0x0, 0x0, .hi⟩, -- TMS_VOFFSET_HI RO
  ⟨0x120, 1, 0x4, 0x0, 0xFFFFFFFF, 0x0, 0x0, 0x0, .plain⟩, -- TMS_ADDEND_LO RW
  ⟨0x124, 1, 0x4, 0x2, 0xFF, 0x0, 0x0, 0x0, .plain⟩, -- TMS_ADDEND_HI RW
  ⟨0x128, 1, 0x4, 0x0, 0xFFFFFFFF, 0x0, 0x0, 0x0, .plain⟩, -- TMS_SLEW RW
  ⟨0x12C, 1, 0x4, 0x64, 0x0, 0xFFFF, 0x0, 0x0, .plain⟩, -- TMS_SLEW_CFG RW SH
  ⟨0x130, 1, 0x4, 0x0, 0x0, 0x0, 0x0, 0x0, .plain⟩, -- TMS_SLEW_REM RO LV
  ⟨0x138, 1, 0x4, 0x0, 0xFFFFFFFF, 0x0, 0x0, 0x0, .plain⟩, -- TMS_STEP_LO RW
  ⟨0x13C, 1, 0x4, 0x0, 0xFFFFFFFF, 0x0, 0x0, 0x0, .plain⟩, -- TMS_STEP_HI RW
  ⟨0x140, 1, 0x4, 0x0, 0x0, 0x0, 0x0, 0x0, .plain⟩, -- TMS_CMD WO SC
  ⟨0x144, 1, 0x4, 0x0, 0x0, 0x0, 0x0, 0x0, .plain⟩, -- TMS_STAT RO LV
  ⟨0x150, 1, 0x4, 0x0, 0x0, 0x0, 0xFFFFFFFF, 0x0, .plain⟩, -- TMS_VBASE_LO RW GD
  ⟨0x154, 1, 0x4, 0x0, 0x0, 0x0, 0xFFFFFFFF, 0x0, .plain⟩, -- TMS_VBASE_HI RW GD
  ⟨0x160, 1, 0x4, 0x0, 0x0, 0xFFFFFFFF, 0x0, 0x0, .plain⟩, -- TMS_HOLD_CFG RW SH
  ⟨0x164, 1, 0x4, 0x0, 0x0, 0xFFFFFFFF, 0x0, 0x0, .plain⟩, -- TMS_HOLD_LIMIT RW SH
  ⟨0x168, 1, 0x4, 0x0, 0x0, 0x0, 0x0, 0x0, .plain⟩, -- TMS_HOLD_ELAPSED RO LV
  ⟨0x16C, 1, 0x4, 0x0, 0x0, 0x0, 0x0, 0x0, .plain⟩, -- TMS_HOLD_EST RO LV
  ⟨0x170, 1, 0x4, 0x0, 0x0, 0x0, 0x0, 0x0, .plain⟩, -- TMS_HOLD_LAST_ERR RO LV
  ⟨0x180, 2, 0x4, 0x0, 0x0, 0xF80000FF, 0x0, 0x0, .plain⟩, -- TMS_DOM RW SH
  ⟨0x188, 1, 0x4, 0x0, 0x0, 0xFFFFF, 0x0, 0x0, .plain⟩, -- TMS_PTP_PORTS RW SH
  ⟨0x18C, 1, 0x4, 0x0, 0x0, 0x0, 0x0, 0x0, .plain⟩, -- TMS_PTP_BAD RO
  ⟨0x190, 1, 0x4, 0x3E8, 0x0, 0xFFFF, 0x0, 0x0, .plain⟩, -- TMS_ALIGN RW SH
  ⟨0x1A0, 1, 0x4, 0x0, 0x0, 0xFFFFFFFF, 0x0, 0x0, .plain⟩, -- TMS_REF_BASE_LO RW SH
  ⟨0x1A4, 1, 0x4, 0x0, 0x0, 0xFFFFFFFF, 0x0, 0x0, .plain⟩, -- TMS_REF_BASE_HI RW SH
  ⟨0x1A8, 1, 0x4, 0x0, 0x0, 0x0, 0x0, 0x0, .plain⟩ -- TMS_REF_TRIG RO
]
/-- Register map of TMS, part 2 (spec/14_time_service.md). -/
def rowsTMS_1 : List RegRow := [
  ⟨0x200, 32, 0x4, 0x0, 0x0, 0xBFFFFFFF, 0x0, 0x0, .plain⟩ -- TMS_REF RW SH
]
/-- The whole register map of TMS. -/
def rowsTMS : List RegRow := rowsTMS_0 ++ rowsTMS_1

/-- Register map of FAB (spec/04_frame_tag_and_fabric.md). -/
def rowsFAB : List RegRow := [
  ⟨0x100, 1, 0x4, 0x0, 0x3, 0x0, 0x0, 0x0, .plain⟩, -- FAB_TCTRL RW
  ⟨0x104, 1, 0x4, 0x0, 0x0, 0x0, 0x0, 0x0, .plain⟩, -- FAB_TSTAT RO LV
  ⟨0x108, 1, 0x4, 0x0, 0x0, 0x0, 0x0, 0x0, .plain⟩, -- FAB_BIST WO SC
  ⟨0x10C, 1, 0x4, 0x0, 0x0, 0x0, 0x0, 0x0, .plain⟩, -- FAB_BIST_LOC RO
  ⟨0x110, 1, 0x4, 0x0, 0x0, 0x0, 0x0, 0x0, .plain⟩, -- FAB_INFLIGHT RO LV
  ⟨0x118, 1, 0x4, 0x0, 0x0, 0x0, 0x0, 0x0, .plain⟩, -- FAB_DECLINE RO
  ⟨0x11C, 1, 0x4, 0x0, 0x0, 0x0, 0x0, 0x0, .plain⟩, -- FAB_OWED RO
  ⟨0x120, 1, 0x4, 0x0, 0x0, 0x0, 0x0, 0x0, .lo⟩, -- FAB_ROUNDS_LO RO RS
  ⟨0x124, 1, 0x4, 0x0, 0x0, 0x0, 0x0, 0x0, .hi⟩, -- FAB_ROUNDS_HI RO
  ⟨0x128, 1, 0x4, 0x0, 0x0, 0x0, 0x0, 0x0, .lo⟩, -- FAB_CELLS_LO RO RS
  ⟨0x12C, 1, 0x4, 0x0, 0x0, 0x0, 0x0, 0x0, .hi⟩, -- FAB_CELLS_HI RO
  ⟨0x130, 3, 0x4, 0x0, 0x0, 0x0, 0x0, 0x0, .plain⟩, -- FAB_ACC_IT RO
  ⟨0x13C, 1, 0x4, 0x0, 0x0, 0x0, 0x0, 0x0, .plain⟩, -- FAB_HDR_ERR RO
  ⟨0x140, 1, 0x4, 0x0, 0x0, 0x0, 0x0, 0x0, .plain⟩, -- FAB_PAR_ERR RO
  ⟨0x180, 16, 0x4, 0x0, 0x0, 0x0, 0x0, 0x0, .plain⟩, -- FAB_PTR RO LV
  ⟨0x400, 1, 0x4, 0x0, 0x0, 0xFFFFF, 0x0, 0x0, .plain⟩, -- FAB_CT_EN RW SH
  ⟨0x404, 1, 0x4, 0x1000, 0x0, 0xFFFF, 0x0, 0x0, .plain⟩, -- FAB_RSQ_TIMEOUT RW SH
  ⟨0x408, 1, 0x4, 0x0, 0x0, 0x0, 0x0, 0x0, .plain⟩, -- FAB_SVC RO LV
  ⟨0x40C, 1, 0x4, 0x0, 0x0, 0x0, 0x0, 0x0, .plain⟩, -- FAB_ENG_LIMIT RO
  ⟨0x410, 1, 0x4, 0x0, 0x0, 0x0, 0x0, 0x0, .plain⟩, -- FAB_RSQ_LATE RO
  ⟨0x414, 1, 0x4, 0x0, 0x0, 0x0, 0x0, 0x0, .plain⟩, -- FAB_CT_ABORT RO
  ⟨0x418, 1, 0x4, 0x0, 0x0, 0x0, 0x0, 0x0, .lo⟩, -- FAB_RSQ_DISCARD_LO RO RS
  ⟨0x41C, 1, 0x4, 0x0, 0x0, 0x0, 0x0, 0x0, .hi⟩, -- FAB_RSQ_DISCARD_HI RO
  ⟨0x440, 16, 0x4, 0x0, 0x0, 0x0, 0x0, 0x0, .plain⟩ -- FAB_RSQ_OCC RO LV
]

/-- Register map of QMG, part 1 (spec/05_pond_and_queues.md). -/
def rowsQMG_0 : List RegRow := [
  ⟨0x100, 8, 0x4, 0x1000, 0x0, 0x7FFFF, 0x0, 0x0, .plain⟩, -- QMG_FLOOR RW SH
  ⟨0x120, 1, 0x4, 0x66666666, 0x0, 0xFFFFFFFF, 0x0, 0x0, .plain⟩, -- QMG_ALPHA RW SH
  ⟨0x124, 1, 0x4, 0x4000, 0x0, 0x7FFFF, 0x0, 0x0, .plain⟩, -- QMG_HEADROOM RW SH
  ⟨0x128, 1, 0x4, 0x84000101, 0x0, 0x8707FFFF, 0x0, 0x0, .plain⟩, -- QMG_PUSHOUT RW SH
  ⟨0x130, 2, 0x4, 0x4011000, 0x0, 0xFFFFFFFF, 0x0, 0x0, .plain⟩, -- QMG_ENGFLOOR RW SH
  ⟨0x138, 2, 0x4, 0x1010800, 0x0, 0xFFFFFFFF, 0x0, 0x0, .plain⟩, -- QMG_ENGFLOOR RW SH
  ⟨0x140, 1, 0x4, 0x3E800C8, 0x0, 0xFFFFFFFF, 0x0, 0x0, .plain⟩, -- QMG_STALL RW SH
  ⟨0x144, 1, 0x4, 0x1003E8, 0x0, 0xFFFFFFFF, 0x0, 0x0, .plain⟩, -- QMG_ECC_WIN RW SH
  ⟨0x180, 16, 0x4, 0x0, 0x0, 0x7FFFF, 0x0, 0x0, .plain⟩, -- QMG_CMPROF RW SH
  ⟨0x200, 64, 0x4, 0x0, 0x0, 0x3FF000F, 0x0, 0x0, .plain⟩, -- QMG_PORTCFG RW SH
  ⟨0x300, 64, 0x4, 0x0, 0x0, 0x0, 0x0, 0x0, .plain⟩, -- QMG_PORTSTAT RO LV
  ⟨0x400, 64, 0x4, 0x0, 0x1, 0x0, 0x0, 0x0, .plain⟩, -- QMG_PORTCTL RW
  ⟨0x500, 1, 0x4, 0x0, 0x1FF, 0x0, 0x0, 0x0, .plain⟩, -- QMG_QSEL RW
  ⟨0x504, 1, 0x4, 0x0, 0x0, 0x0, 0x0, 0x0, .plain⟩, -- QMG_QOCC RO LV
  ⟨0x508, 1, 0x4, 0x0, 0x0, 0x0, 0x0, 0x0, .plain⟩, -- QMG_QPEAK RO LV
  ⟨0x50C, 1, 0x4, 0x0, 0x0, 0x0, 0x0, 0x0, .plain⟩, -- QMG_QDROP RO
  ⟨0x510, 1, 0x4, 0x0, 0x0, 0x0, 0x0, 0x0, .plain⟩, -- QMG_QDROP_DOWN RO
  ⟨0x514, 1, 0x4, 0x0, 0x0, 0x0, 0x0, 0x0, .plain⟩, -- QMG_QFLUSH RO
  ⟨0x520, 1, 0x4, 0x0, 0x0, 0x0, 0x0, 0x0, .plain⟩, -- QMG_SHARED_FREE RO LV
  ⟨0x524, 1, 0x4, 0x0, 0x0, 0x0, 0x0, 0x0, .plain⟩, -- QMG_CELLS_FREE RO LV
  ⟨0x528, 1, 0x4, 0x10000, 0x0, 0x0, 0x0, 0x0, .plain⟩, -- QMG_DESC_FREE RO LV
  ⟨0x540, 8, 0x4, 0x0, 0x0, 0x0, 0x0, 0x0, .plain⟩, -- QMG_CLASS_USE RO LV
  ⟨0x560, 4, 0x4, 0x0, 0x0, 0x0, 0x0, 0x0, .plain⟩, -- QMG_ENG_USE RO LV
  ⟨0x580, 8, 0x4, 0x0, 0x0, 0x0, 0x0, 0x0, .plain⟩, -- QMG_DROP_ADM RO
  ⟨0x5A0, 8, 0x4, 0x0, 0x0, 0x0, 0x0, 0x0, .plain⟩, -- QMG_PUSHED RO
  ⟨0x5C0, 1, 0x4, 0x0, 0x0, 0x0, 0x0, 0x0, .plain⟩, -- QMG_DROP_POOL RO
  ⟨0x5C4, 1, 0x4, 0x0, 0x0, 0x0, 0x0, 0x0, .plain⟩, -- QMG_DROP_DESC RO
  ⟨0x5C8, 1, 0x4, 0x0, 0x0, 0x0, 0x0, 0x0, .plain⟩, -- QMG_DROP_DOWN RO
  ⟨0x5CC, 1, 0x4, 0x0, 0x0, 0x0, 0x0, 0x0, .plain⟩, -- QMG_DROP_MIDFRAME RO
  ⟨0x5D0, 1, 0x4, 0x0, 0x0, 0x0, 0x0, 0x0, .plain⟩ -- QMG_CT_END RO
]
/-- Register map of QMG, part 2 (spec/05_pond_and_queues.md). -/
def rowsQMG_1 : List RegRow := [
  ⟨0x5D4, 1, 0x4, 0x0, 0x0, 0x0, 0x0, 0x0, .plain⟩, -- QMG_IN_STALL_DROP RO
  ⟨0x5D8, 1, 0x4, 0x0, 0x0, 0x0, 0x0, 0x0, .plain⟩, -- QMG_CM_MARKS RO
  ⟨0x5DC, 1, 0x4, 0x0, 0x0, 0x0, 0x0, 0x0, .plain⟩, -- QMG_ECN_REWRITES RO
  ⟨0x5E0, 1, 0x4, 0x0, 0x0, 0x0, 0x0, 0x0, .lo⟩, -- QMG_ADMIT_LO RO RS
  ⟨0x5E4, 1, 0x4, 0x0, 0x0, 0x0, 0x0, 0x0, .hi⟩, -- QMG_ADMIT_HI RO
  ⟨0x600, 32, 0x4, 0x0, 0x0, 0x0, 0x0, 0x0, .plain⟩, -- QMG_BANKMAP RO LV
  ⟨0x680, 1, 0x4, 0x0, 0xFFFFFFFF, 0x0, 0x0, 0x0, .plain⟩, -- QMG_DRAIN RW
  ⟨0x684, 1, 0x4, 0x0, 0x0, 0x0, 0x0, 0x0, .plain⟩, -- QMG_MIGRATE WO SC
  ⟨0x688, 1, 0x4, 0x0, 0x0, 0x0, 0x0, 0x0, .plain⟩, -- QMG_MIGSTAT RO LV
  ⟨0x68C, 1, 0x4, 0x0, 0x0, 0x0, 0x0, 0x0, .plain⟩, -- QMG_RETIRED RO LV
  ⟨0x690, 1, 0x4, 0x0, 0x0, 0x0, 0x0, 0x0, .plain⟩, -- QMG_SPARE_STAT RO LV
  ⟨0x694, 1, 0x4, 0x0, 0x0, 0x0, 0xFFFFFFFF, 0x0, .plain⟩, -- QMG_RETIRE_LO RW GD
  ⟨0x698, 1, 0x4, 0x0, 0x0, 0x0, 0x3, 0x0, .plain⟩, -- QMG_RETIRE_HI RW GD
  ⟨0x700, 34, 0x4, 0x0, 0x0, 0x0, 0x0, 0x0, .plain⟩, -- QMG_ECC_CORR RO
  ⟨0x790, 1, 0x4, 0x0, 0x0, 0x0, 0x0, 0x0, .plain⟩ -- QMG_ECC_UNCORR RO
]
/-- The whole register map of QMG. -/
def rowsQMG : List RegRow := rowsQMG_0 ++ rowsQMG_1

/-- Register map of DIA (spec/06_dial_arbiter.md). -/
def rowsDIA : List RegRow := [
  ⟨0x100, 1, 0x4, 0x0, 0x1, 0x0, 0x0, 0x0, .plain⟩, -- DIAL_FREEZE RW
  ⟨0x104, 1, 0x4, 0x0, 0x0, 0x0, 0x0, 0x0, .plain⟩, -- DIAL_DRAINED RO LV
  ⟨0x108, 1, 0x4, 0x0, 0x0, 0x0, 0x0, 0x0, .plain⟩, -- DIAL_BANK RO LV
  ⟨0x10C, 1, 0x4, 0x0, 0x0, 0x1, 0x0, 0x0, .plain⟩, -- DIAL_SWAP RW SH
  ⟨0x110, 1, 0x4, 0x0, 0x0, 0xFFFF, 0x0, 0x0, .plain⟩, -- DIAL_STARVE RW SH
  ⟨0x114, 1, 0x4, 0x0, 0x0, 0x0, 0x0, 0x0, .plain⟩, -- DIAL_STARVE_WHO RO LV
  ⟨0x118, 1, 0x4, 0x0, 0x0, 0x0, 0x0, 0x0, .plain⟩, -- DIAL_AW_COUNT RO
  ⟨0x120, 1, 0x4, 0x0, 0x0, 0x0, 0x0, 0x0, .lo⟩, -- DIAL_ROUNDS_LO RO RS
  ⟨0x124, 1, 0x4, 0x0, 0x0, 0x0, 0x0, 0x0, .hi⟩, -- DIAL_ROUNDS_HI RO
  ⟨0x130, 4, 0x4, 0x0, 0x0, 0xFFFFFFFF, 0x0, 0x0, .plain⟩, -- DIAL_BASE RW SH
  ⟨0x140, 4, 0x4, 0x0, 0x0, 0x0, 0x0, 0x0, .plain⟩, -- DIAL_RANKNOW RO LV
  ⟨0x200, 32, 0x4, 0x0, 0x0, 0x0, 0x0, 0x0, .plain⟩, -- DIAL_GRANT_SLOT RO
  ⟨0x280, 32, 0x4, 0x0, 0x0, 0x0, 0x0, 0x0, .plain⟩, -- DIAL_GRANT_BG RO
  ⟨0x300, 32, 0x4, 0x0, 0x0, 0x0, 0x0, 0x0, .plain⟩, -- DIAL_WAITMAX RO LV
  ⟨0x380, 1, 0x4, 0x0, 0x0, 0x0, 0x0, 0x0, .plain⟩, -- DIAL_WAITCLR WO SC
  ⟨0x400, 128, 0x4, 0x0, 0x9F9F9F9F, 0x0, 0x0, 0x0, .plain⟩, -- DIAL_TBL0 RW
  ⟨0x600, 128, 0x4, 0x0, 0x9F9F9F9F, 0x0, 0x0, 0x0, .plain⟩ -- DIAL_TBL1 RW
]

/-- Register map of CLS (spec/07_classification_tables.md). -/
def rowsCLS : List RegRow := [
  ⟨0x100, 32, 0x4, 0x0, 0x0, 0xFF0000FF, 0x0, 0x0, .plain⟩, -- CLS_PROF RW SH
  ⟨0x180, 32, 0x4, 0x0, 0x0, 0x1FFFFFFF, 0x0, 0x0, .plain⟩, -- CLS_PROF_IDMASK RW SH
  ⟨0x200, 64, 0x4, 0x0, 0x0, 0xFFFFFF, 0x0, 0x0, .plain⟩, -- CLS_PORTSEL RW SH
  ⟨0x300, 64, 0x4, 0x0, 0x0, 0xC01F0FFF, 0x0, 0x0, .plain⟩, -- CLS_PORTLRN RW SH
  ⟨0x400, 128, 0x4, 0x0, 0x0, 0xFFFFFFFF, 0x0, 0x0, .plain⟩, -- CLS_DEFACT RW SH
  ⟨0x700, 1, 0x4, 0x0, 0xFFF, 0x0, 0x0, 0x0, .plain⟩, -- CLS_PSET_IDX RW
  ⟨0x704, 1, 0x4, 0x0, 0xFFFFFFFF, 0x0, 0x0, 0x0, .plain⟩, -- CLS_PSET_LO RW
  ⟨0x708, 1, 0x4, 0x0, 0xFFFFFFFF, 0x0, 0x0, 0x0, .plain⟩, -- CLS_PSET_HI RW
  ⟨0x70C, 1, 0x4, 0x0, 0x0, 0x0, 0x0, 0x0, .plain⟩, -- CLS_PSET_CMD WO SC
  ⟨0x800, 1, 0x4, 0x0, 0x0, 0x0, 0x0, 0x0, .lo⟩, -- CLS_LOOKUPS_LO RO RS
  ⟨0x804, 1, 0x4, 0x0, 0x0, 0x0, 0x0, 0x0, .hi⟩, -- CLS_LOOKUPS_HI RO
  ⟨0x808, 1, 0x4, 0x0, 0x0, 0x0, 0x0, 0x0, .plain⟩, -- CLS_EMT_HITS RO
  ⟨0x80C, 1, 0x4, 0x0, 0x0, 0x0, 0x0, 0x0, .plain⟩, -- CLS_WCT_HITS RO
  ⟨0x810, 1, 0x4, 0x0, 0x0, 0x0, 0x0, 0x0, .plain⟩, -- CLS_MISSES RO
  ⟨0x814, 1, 0x4, 0x0, 0x0, 0x0, 0x0, 0x0, .plain⟩, -- CLS_MISS_DROP RO
  ⟨0x818, 1, 0x4, 0x0, 0x0, 0x0, 0x0, 0x0, .plain⟩, -- CLS_DROP RO
  ⟨0x81C, 1, 0x4, 0x0, 0x0, 0x0, 0x0, 0x0, .plain⟩, -- CLS_NOPROF RO
  ⟨0x820, 1, 0x4, 0x0, 0x0, 0x0, 0x0, 0x0, .plain⟩, -- CLS_BADACT RO
  ⟨0x824, 1, 0x4, 0x0, 0x0, 0x0, 0x0, 0x0, .plain⟩ -- CLS_LRN_LOOKUPS RO
]

/-- Register map of EMT, part 1 (spec/07_classification_tables.md). -/
def rowsEMT_0 : List RegRow := [
  ⟨0x100, 1, 0x4, 0x0, 0x0, 0x0, 0x0, 0x0, .plain⟩, -- EMT_CMD WO SC
  ⟨0x104, 1, 0x4, 0x0, 0x0, 0x0, 0x0, 0x0, .plain⟩, -- EMT_CMD_STAT RO LV
  ⟨0x108, 1, 0x4, 0x18000, 0x0, 0x0, 0x0, 0x0, .plain⟩, -- EMT_CMD_WHERE RO LV
  ⟨0x110, 4, 0x4, 0x0, 0xFFFFFFFF, 0x0, 0x0, 0x0, .plain⟩, -- EMT_CMD_KEY RW
  ⟨0x120, 4, 0x4, 0x0, 0xFFFFFFFF, 0x0, 0x0, 0x0, .plain⟩, -- EMT_CMD_ACT RW
  ⟨0x130, 4, 0x4, 0x0, 0x0, 0x0, 0x0, 0x0, .plain⟩, -- EMT_RES_ACT RO LV
  ⟨0x180, 33, 0x4, 0x0, 0x0, 0x0, 0x0, 0x0, .plain⟩, -- EMT_PLAN RO LV
  ⟨0x300, 1, 0x4, 0x0, 0x0, 0x1FFF1FFF, 0x0, 0x0, .plain⟩, -- EMT_SEED RW SH
  ⟨0x304, 1, 0x4, 0xA, 0x0, 0xFFFF, 0x0, 0x0, .plain⟩, -- EMT_RSV RW SH
  ⟨0x308, 1, 0x4, 0x0, 0x0, 0x7F, 0x0, 0x0, .plain⟩, -- EMT_STASH_WARN RW SH
  ⟨0x30C, 1, 0x4, 0x0, 0x0, 0xFFFF, 0x0, 0x0, .plain⟩, -- EMT_AGE RW SH
  ⟨0x310, 1, 0x4, 0x0, 0x0, 0xFFFFFFFF, 0x0, 0x0, .plain⟩, -- EMT_SHADOW_LO RW SH
  ⟨0x314, 1, 0x4, 0x0, 0x0, 0xFF, 0x0, 0x0, .plain⟩, -- EMT_SHADOW_HI RW SH
  ⟨0x318, 1, 0x4, 0x0, 0x0, 0xC000FFFF, 0x0, 0x0, .plain⟩, -- EMT_SCRUB RW SH
  ⟨0x31C, 1, 0x4, 0x0, 0x0, 0x0, 0x0, 0x0, .plain⟩, -- EMT_SCRUB_STAT RO LV
  ⟨0x320, 1, 0x4, 0x0, 0x0, 0x0, 0x0, 0x0, .plain⟩, -- EMT_SCRUB_LAST RO LV
  ⟨0x324, 1, 0x4, 0x0, 0x0, 0x0, 0x0, 0x0, .plain⟩, -- EMT_SCRUB_MISM RO
  ⟨0x328, 1, 0x4, 0x0, 0x0, 0x0, 0x0, 0x0, .plain⟩, -- EMT_SCRUB_REPAIRED RO
  ⟨0x32C, 1, 0x4, 0x0, 0x0, 0x0, 0x0, 0x0, .plain⟩, -- EMT_SCRUB_SKIP RO
  ⟨0x330, 1, 0x4, 0x0, 0x0, 0xC000073F, 0x0, 0x0, .plain⟩, -- EMT_LEARN RW SH
  ⟨0x334, 4, 0x4, 0x0, 0x0, 0xFFFFFFFF, 0x0, 0x0, .plain⟩, -- EMT_LEARN_TPL RW SH
  ⟨0x344, 1, 0x4, 0x0, 0x0, 0x0, 0x0, 0x0, .plain⟩, -- EMT_COUNT RO LV
  ⟨0x348, 1, 0x4, 0x0, 0x0, 0x0, 0x0, 0x0, .plain⟩, -- EMT_LEARNED RO LV
  ⟨0x34C, 1, 0x4, 0x0, 0x0, 0x0, 0x0, 0x0, .plain⟩, -- EMT_STASH_USE RO LV
  ⟨0x350, 1, 0x4, 0x0, 0x0, 0x0, 0x0, 0x0, .plain⟩, -- EMT_LEARN_CNT RO
  ⟨0x354, 1, 0x4, 0x0, 0x0, 0x0, 0x0, 0x0, .plain⟩, -- EMT_MOVE_COUNT RO
  ⟨0x358, 1, 0x4, 0x0, 0x0, 0x0, 0x0, 0x0, .plain⟩, -- EMT_STATIC_MOVE RO
  ⟨0x35C, 1, 0x4, 0x0, 0x0, 0x0, 0x0, 0x0, .plain⟩, -- EMT_LEARN_FAIL RO
  ⟨0x360, 1, 0x4, 0x0, 0x0, 0x0, 0x0, 0x0, .plain⟩, -- EMT_LEARN_OVF RO
  ⟨0x364, 1, 0x4, 0x0, 0x0, 0x0, 0x0, 0x0, .plain⟩ -- EMT_LEARN_DEFER RO
]
/-- Register map of EMT, part 2 (spec/07_classification_tables.md). -/
def rowsEMT_1 : List RegRow := [
  ⟨0x368, 1, 0x4, 0x0, 0x0, 0x0, 0x0, 0x0, .plain⟩, -- EMT_AGED RO
  ⟨0x36C, 1, 0x4, 0x0, 0x0, 0x0, 0x0, 0x0, .plain⟩, -- EMT_NOTICE_DROP RO
  ⟨0x370, 1, 0x4, 0x0, 0x0, 0x0, 0x0, 0x0, .lo⟩, -- EMT_CMDS_LO RO RS
  ⟨0x374, 1, 0x4, 0x0, 0x0, 0x0, 0x0, 0x0, .hi⟩, -- EMT_CMDS_HI RO
  ⟨0x380, 1, 0x4, 0x0, 0x0, 0x0, 0x0, 0x0, .plain⟩, -- EMT_ECC_CORR RO
  ⟨0x384, 1, 0x4, 0x0, 0x0, 0x0, 0x0, 0x0, .plain⟩ -- EMT_ECC_UNCORR RO
]
/-- The whole register map of EMT. -/
def rowsEMT : List RegRow := rowsEMT_0 ++ rowsEMT_1

/-- Register map of WCT (spec/07_classification_tables.md). -/
def rowsWCT : List RegRow := [
  ⟨0x100, 1, 0x4, 0x0, 0x3FF, 0x0, 0x0, 0x0, .plain⟩, -- WCT_IDX RW
  ⟨0x104, 1, 0x4, 0x0, 0x0, 0x0, 0x0, 0x0, .plain⟩, -- WCT_CMD WO SC
  ⟨0x110, 4, 0x4, 0x0, 0xFFFFFFFF, 0x0, 0x0, 0x0, .plain⟩, -- WCT_VALUE RW
  ⟨0x120, 4, 0x4, 0x0, 0xFFFFFFFF, 0x0, 0x0, 0x0, .plain⟩, -- WCT_MASK RW
  ⟨0x130, 4, 0x4, 0x0, 0xFFFFFFFF, 0x0, 0x0, 0x0, .plain⟩, -- WCT_ACT RW
  ⟨0x140, 1, 0x4, 0x0, 0x0, 0x0, 0x0, 0x0, .plain⟩, -- WCT_HITS RO LV
  ⟨0x144, 1, 0x4, 0x0, 0x0, 0x0, 0x0, 0x0, .plain⟩ -- WCT_STAT RO LV
]

/-- Register map of POL (spec/08_policing_and_filtering.md). -/
def rowsPOL : List RegRow := [
  ⟨0x100, 1, 0x4, 0x0, 0x0, 0x1, 0x0, 0x0, .plain⟩, -- POL_CTRL RW SH
  ⟨0x110, 1, 0x4, 0x0, 0x0, 0x0, 0x0, 0x0, .plain⟩, -- POL_CMD WO SC
  ⟨0x114, 1, 0x4, 0x0, 0x0, 0x0, 0x0, 0x0, .plain⟩, -- POL_CMD_STAT RO LV
  ⟨0x120, 8, 0x4, 0x0, 0xFFFFFFFF, 0x0, 0x0, 0x0, .plain⟩, -- POL_DATA RW
  ⟨0x200, 64, 0x4, 0x0, 0x0, 0x1F, 0x0, 0x0, .plain⟩, -- POL_PORTFLT RW SH
  ⟨0x300, 16, 0x4, 0x0, 0x0, 0xC001FFFF, 0x0, 0x0, .plain⟩, -- POL_FPROF RW SH
  ⟨0x400, 64, 0x4, 0x0, 0x0, 0x81FFFFFF, 0x0, 0x0, .plain⟩, -- POL_VN_CFG RW SH
  ⟨0x500, 1, 0x4, 0x0, 0x0, 0x0, 0x0, 0x0, .plain⟩, -- POL_FLT_DENY RO
  ⟨0x504, 1, 0x4, 0x0, 0x0, 0x0, 0x0, 0x0, .plain⟩, -- POL_GATE_CLOSED RO
  ⟨0x508, 1, 0x4, 0x0, 0x0, 0x0, 0x0, 0x0, .plain⟩, -- POL_RED RO
  ⟨0x50C, 1, 0x4, 0x0, 0x0, 0x0, 0x0, 0x0, .plain⟩, -- POL_DROPPED RO
  ⟨0x510, 1, 0x4, 0x0, 0x0, 0x0, 0x0, 0x0, .plain⟩, -- POL_VN_SENT RO
  ⟨0x514, 1, 0x4, 0x0, 0x0, 0x0, 0x0, 0x0, .plain⟩, -- POL_VN_SUPPRESSED RO
  ⟨0x518, 1, 0x4, 0x0, 0x0, 0x0, 0x0, 0x0, .plain⟩, -- POL_VN_DROP RO
  ⟨0x520, 1, 0x4, 0x0, 0x0, 0x0, 0x0, 0x0, .lo⟩, -- POL_DECISIONS_LO RO RS
  ⟨0x524, 1, 0x4, 0x0, 0x0, 0x0, 0x0, 0x0, .hi⟩, -- POL_DECISIONS_HI RO
  ⟨0x800, 256, 0x8, 0x0, 0x0, 0xFFFFFFFF, 0x0, 0x0, .plain⟩, -- POL_FRULE RW SH
  ⟨0x804, 256, 0x8, 0x0, 0x0, 0x80000000, 0x0, 0x0, .plain⟩ -- POL_FRULE RW SH
]

/-- Register map of CDM (spec/08_policing_and_filtering.md). -/
def rowsCDM : List RegRow := [
  ⟨0x100, 1, 0x4, 0x0, 0x0, 0x0, 0x0, 0x0, .plain⟩, -- CDM_CMD WO SC
  ⟨0x104, 1, 0x4, 0x0, 0x0, 0x0, 0x0, 0x0, .plain⟩, -- CDM_CMD_STAT RO LV
  ⟨0x110, 4, 0x4, 0x0, 0xFFFFFFFF, 0x0, 0x0, 0x0, .plain⟩, -- CDM_DATA RW
  ⟨0x120, 1, 0x4, 0x0, 0x0, 0x0, 0x0, 0x0, .plain⟩, -- CDM_EARLY RO
  ⟨0x124, 1, 0x4, 0x0, 0x0, 0x0, 0x0, 0x0, .plain⟩, -- CDM_MISSING RO
  ⟨0x128, 1, 0x4, 0x0, 0x0, 0x0, 0x0, 0x0, .plain⟩, -- CDM_EARLY_DROP RO
  ⟨0x130, 1, 0x4, 0x0, 0x0, 0x0, 0x0, 0x0, .lo⟩, -- CDM_ONTIME_LO RO RS
  ⟨0x134, 1, 0x4, 0x0, 0x0, 0x0, 0x0, 0x0, .hi⟩ -- CDM_ONTIME_HI RO
]

/-- Register map of SGE, part 1 (spec/09_signal_engine.md). -/
def rowsSGE_0 : List RegRow := [
  ⟨0x100, 1, 0x4, 0x0, 0x0, 0x0, 0x0, 0x0, .plain⟩, -- SGE_CMD WO SC
  ⟨0x104, 1, 0x4, 0x0, 0x0, 0x0, 0x0, 0x0, .plain⟩, -- SGE_CMD_STAT RO LV
  ⟨0x120, 8, 0x4, 0x0, 0xFFFFFFFF, 0x0, 0x0, 0x0, .plain⟩, -- SGE_DATA RW
  ⟨0x140, 1, 0x4, 0x4E202EE, 0x0, 0xFFFFFFFF, 0x0, 0x0, .plain⟩, -- SGE_TP_T12 RW SH
  ⟨0x144, 1, 0x4, 0x41A04E2, 0x0, 0xFFFFFFFF, 0x0, 0x0, .plain⟩, -- SGE_TP_T34 RW SH
  ⟨0x148, 1, 0x4, 0x3210, 0x0, 0xFFFF, 0x0, 0x0, .plain⟩, -- SGE_TP_CFG RW SH
  ⟨0x14C, 1, 0x4, 0x0, 0x0, 0xFFFFFFFF, 0x0, 0x0, .plain⟩, -- SGE_CLAIM_CFG RW SH
  ⟨0x160, 1, 0x4, 0x0, 0x1, 0x0, 0x0, 0x0, .plain⟩, -- SGE_UC_CTRL RW
  ⟨0x164, 1, 0x4, 0x0, 0x0, 0x0, 0x0, 0x0, .plain⟩, -- SGE_UC_DATA WO
  ⟨0x168, 1, 0x4, 0x0, 0xFFFFFFFF, 0x0, 0x0, 0x0, .plain⟩, -- SGE_UC_CRC RW
  ⟨0x16C, 1, 0x4, 0x0, 0x0, 0x0, 0x0, 0x0, .plain⟩, -- SGE_UC_STAT RO LV
  ⟨0x170, 1, 0x4, 0x0, 0x0, 0x0, 0x0, 0x0, .plain⟩, -- SGE_UC_VER RO
  ⟨0x174, 1, 0x4, 0x0, 0x0, 0x0, 0x0, 0x0, .plain⟩, -- SGE_SESS RO LV
  ⟨0x200, 1, 0x4, 0x0, 0x0, 0x0, 0x0, 0x0, .lo⟩, -- SGE_OPS_LO RO RS
  ⟨0x204, 1, 0x4, 0x0, 0x0, 0x0, 0x0, 0x0, .hi⟩, -- SGE_OPS_HI RO
  ⟨0x208, 1, 0x4, 0x0, 0x0, 0x0, 0x0, 0x0, .plain⟩, -- SGE_TAKEN RO
  ⟨0x20C, 1, 0x4, 0x0, 0x0, 0x0, 0x0, 0x0, .plain⟩, -- SGE_EMITTED RO
  ⟨0x210, 1, 0x4, 0x0, 0x0, 0x0, 0x0, 0x0, .plain⟩, -- SGE_EMIT_DROP RO
  ⟨0x214, 1, 0x4, 0x0, 0x0, 0x0, 0x0, 0x0, .plain⟩, -- SGE_DISCARD RO
  ⟨0x218, 1, 0x4, 0x0, 0x0, 0x0, 0x0, 0x0, .plain⟩, -- SGE_SHORT RO
  ⟨0x21C, 1, 0x4, 0x0, 0x0, 0x0, 0x0, 0x0, .plain⟩, -- SGE_INVALID RO
  ⟨0x220, 1, 0x4, 0x0, 0x0, 0x0, 0x0, 0x0, .plain⟩, -- SGE_RANGE RO
  ⟨0x224, 1, 0x4, 0x0, 0x0, 0x0, 0x0, 0x0, .plain⟩, -- SGE_SATURATED RO
  ⟨0x228, 1, 0x4, 0x0, 0x0, 0x0, 0x0, 0x0, .plain⟩, -- SGE_TIMEOUTS RO
  ⟨0x22C, 1, 0x4, 0x0, 0x0, 0x0, 0x0, 0x0, .plain⟩, -- SGE_DEFERRED RO
  ⟨0x230, 1, 0x4, 0x0, 0x0, 0x0, 0x0, 0x0, .plain⟩, -- SGE_TP_DONE RO
  ⟨0x234, 1, 0x4, 0x0, 0x0, 0x0, 0x0, 0x0, .plain⟩, -- SGE_TP_ABORT RO
  ⟨0x238, 1, 0x4, 0x0, 0x0, 0x0, 0x0, 0x0, .plain⟩, -- SGE_TP_BUSY RO
  ⟨0x23C, 1, 0x4, 0x0, 0x0, 0x0, 0x0, 0x0, .plain⟩, -- SGE_CLAIM_CONFLICT RO
  ⟨0x240, 1, 0x4, 0x0, 0x0, 0x0, 0x0, 0x0, .plain⟩ -- SGE_CLAIM_BAD RO
]
/-- Register map of SGE, part 2 (spec/09_signal_engine.md). -/
def rowsSGE_1 : List RegRow := [
  ⟨0x244, 1, 0x4, 0x0, 0x0, 0x0, 0x0, 0x0, .plain⟩, -- SGE_NAME_UNRES RO
  ⟨0x248, 1, 0x4, 0x0, 0x0, 0x0, 0x0, 0x0, .plain⟩, -- SGE_BUNDLES RO
  ⟨0x24C, 1, 0x4, 0x0, 0x0, 0x0, 0x0, 0x0, .plain⟩, -- SGE_ENCAP_BAD RO
  ⟨0x250, 1, 0x4, 0x0, 0x0, 0x0, 0x0, 0x0, .plain⟩, -- SGE_SPLIT_MSGS RO
  ⟨0x254, 1, 0x4, 0x0, 0x0, 0x0, 0x0, 0x0, .plain⟩, -- SGE_SPLIT_BAD RO
  ⟨0x258, 1, 0x4, 0x0, 0x0, 0x0, 0x0, 0x0, .plain⟩ -- SGE_STREAM_GAP RO
]
/-- The whole register map of SGE. -/
def rowsSGE : List RegRow := rowsSGE_0 ++ rowsSGE_1

/-- Register map of AUE (spec/10_authentication_engine.md). -/
def rowsAUE : List RegRow := [
  ⟨0x100, 1, 0x4, 0x0, 0x0, 0x7FFFF, 0x0, 0x0, .plain⟩, -- AUE_SHED_ON RW SH
  ⟨0x104, 1, 0x4, 0x0, 0x0, 0x7FFFF, 0x0, 0x0, .plain⟩, -- AUE_SHED_OFF RW SH
  ⟨0x110, 1, 0x4, 0x0, 0x0, 0x0, 0x0, 0x0, .plain⟩, -- AUE_CMD WO SC
  ⟨0x114, 1, 0x4, 0x0, 0x0, 0x0, 0x0, 0x0, .plain⟩, -- AUE_CMD_STAT RO LV
  ⟨0x120, 8, 0x4, 0x0, 0xFFFFFFFF, 0x0, 0x0, 0x0, .plain⟩, -- AUE_DATA RW
  ⟨0x140, 1, 0x4, 0x0, 0x0, 0x0, 0x0, 0x0, .plain⟩, -- AUE_STAT RO LV
  ⟨0x200, 1, 0x4, 0x0, 0x0, 0x0, 0x0, 0x0, .lo⟩, -- AUE_CMAC_OPS_LO RO RS
  ⟨0x204, 1, 0x4, 0x0, 0x0, 0x0, 0x0, 0x0, .hi⟩, -- AUE_CMAC_OPS_HI RO
  ⟨0x208, 1, 0x4, 0x0, 0x0, 0x0, 0x0, 0x0, .plain⟩, -- AUE_GENERATED RO
  ⟨0x20C, 1, 0x4, 0x0, 0x0, 0x0, 0x0, 0x0, .plain⟩, -- AUE_VERIFIED RO
  ⟨0x210, 1, 0x4, 0x0, 0x0, 0x0, 0x0, 0x0, .plain⟩, -- AUE_FAILED RO
  ⟨0x214, 1, 0x4, 0x0, 0x0, 0x0, 0x0, 0x0, .plain⟩, -- AUE_REPLAYED RO
  ⟨0x218, 1, 0x4, 0x0, 0x0, 0x0, 0x0, 0x0, .plain⟩, -- AUE_SHED_DROP RO
  ⟨0x21C, 1, 0x4, 0x0, 0x0, 0x0, 0x0, 0x0, .plain⟩, -- AUE_SHED_PASS RO
  ⟨0x220, 1, 0x4, 0x0, 0x0, 0x0, 0x0, 0x0, .plain⟩, -- AUE_DISCARD RO
  ⟨0x224, 1, 0x4, 0x0, 0x0, 0x0, 0x0, 0x0, .plain⟩ -- AUE_KEY_REFUSED RO
]

/-- Register map of JWL (spec/18_key_store_and_vault.md). -/
def rowsJWL : List RegRow := [
  ⟨0x100, 1, 0x4, 0x0, 0x0, 0x0, 0x0, 0x0, .plain⟩, -- JWL_LIFECYCLE RO
  ⟨0x104, 1, 0x4, 0x0, 0x0, 0x0, 0x0, 0x0, .plain⟩, -- JWL_FUSE_STAT RO LV
  ⟨0x108, 1, 0x4, 0x0, 0x0, 0x0, 0xF00003FF, 0x0, .plain⟩, -- JWL_FUSE_PROG RW GD
  ⟨0x110, 1, 0x4, 0x0, 0x0, 0x0, 0x0, 0x0, .plain⟩, -- JWL_CMD WO SC
  ⟨0x114, 1, 0x4, 0x0, 0x0, 0x0, 0x0, 0x0, .plain⟩, -- JWL_CMD_STAT RO LV
  ⟨0x120, 1, 0x4, 0x100, 0x0, 0xFFFF, 0x0, 0x0, .plain⟩, -- JWL_REMASK RW SH
  ⟨0x124, 1, 0x4, 0x0, 0x0, 0x0, 0x0, 0x0, .plain⟩, -- JWL_REMASK_STAT RO
  ⟨0x128, 1, 0x4, 0x0, 0x0, 0x0, 0x0, 0x0, .plain⟩, -- JWL_SLOTS_USED RO LV
  ⟨0x200, 12, 0x4, 0x0, 0x0, 0x0, 0x0, 0x0, .plain⟩, -- JWL_VROOT_HASH RO
  ⟨0x240, 12, 0x4, 0x0, 0x0, 0x0, 0x0, 0x0, .plain⟩, -- JWL_CROOT_HASH RO
  ⟨0x280, 12, 0x4, 0x0, 0xFFFFFFFF, 0x0, 0x0, 0x0, .plain⟩, -- JWL_CROOT_STAGE RW
  ⟨0x2C0, 8, 0x4, 0x0, 0x0, 0x0, 0x0, 0x0, .plain⟩, -- JWL_EPOCH RO
  ⟨0x400, 128, 0x4, 0x0, 0xFFFFFFFF, 0x0, 0x0, 0x0, .plain⟩, -- JWL_DATA RW
  ⟨0x800, 512, 0x4, 0x0, 0x0, 0x0, 0x0, 0x0, .plain⟩ -- JWL_CERT RO
]

/-- Register map of TRN (spec/18_key_store_and_vault.md). -/
def rowsTRN : List RegRow := [
  ⟨0x100, 1, 0x4, 0x0, 0x0, 0x0, 0x0, 0x0, .rs⟩, -- TRN_OUT RO RS
  ⟨0x104, 1, 0x4, 0x0, 0x0, 0x0, 0x0, 0x0, .plain⟩, -- TRN_STAT RO LV
  ⟨0x108, 1, 0x4, 0x100000, 0x0, 0xFFFFFFFF, 0x0, 0x0, .plain⟩, -- TRN_CFG RW SH
  ⟨0x10C, 1, 0x4, 0x0, 0x0, 0x0, 0x0, 0x0, .plain⟩ -- TRN_HEALTH RO
]

/-- Register map of VLT (spec/18_key_store_and_vault.md). -/
def rowsVLT : List RegRow := [
  ⟨0x100, 1, 0x4, 0x0, 0x0, 0xFFFFFFFF, 0x0, 0x0, .plain⟩, -- VLT_BASE RW SH
  ⟨0x104, 1, 0x4, 0x0, 0x0, 0xFFFFFFFF, 0x0, 0x0, .plain⟩, -- VLT_SIZE RW SH
  ⟨0x108, 1, 0x4, 0x0, 0x0, 0xFFFF, 0x0, 0x0, .plain⟩, -- VLT_SEAL_CFG RW SH
  ⟨0x110, 1, 0x4, 0x0, 0x0, 0x0, 0x0, 0x0, .plain⟩, -- VLT_CMD WO SC
  ⟨0x114, 1, 0x4, 0x0, 0x0, 0x0, 0x0, 0x0, .plain⟩, -- VLT_STAT RO LV
  ⟨0x120, 10, 0x4, 0x0, 0xFFFFFFFF, 0x0, 0x0, 0x0, .plain⟩, -- VLT_REC RW
  ⟨0x150, 1, 0x4, 0x0, 0xFFFFFFFF, 0x0, 0x0, 0x0, .plain⟩, -- VLT_CTR_SET_LO RW
  ⟨0x154, 1, 0x4, 0x0, 0xFFFFFFFF, 0x0, 0x0, 0x0, .plain⟩, -- VLT_CTR_SET_HI RW
  ⟨0x160, 1, 0x4, 0x0, 0x0, 0x0, 0x0, 0x0, .lo⟩, -- VLT_NEXT_SEQ_LO RO RS
  ⟨0x164, 1, 0x4, 0x0, 0x0, 0x0, 0x0, 0x0, .hi⟩, -- VLT_NEXT_SEQ_HI RO
  ⟨0x168, 1, 0x4, 0x0, 0x0, 0x0, 0x0, 0x0, .lo⟩, -- VLT_BLOCK_LO RO RS
  ⟨0x16C, 1, 0x4, 0x0, 0x0, 0x0, 0x0, 0x0, .hi⟩, -- VLT_BLOCK_HI RO
  ⟨0x170, 1, 0x4, 0x0, 0x0, 0x0, 0x0, 0x0, .lo⟩, -- VLT_OLDEST_LO RO RS
  ⟨0x174, 1, 0x4, 0x0, 0x0, 0x0, 0x0, 0x0, .hi⟩, -- VLT_OLDEST_HI RO
  ⟨0x180, 8, 0x8, 0x0, 0x0, 0x0, 0x0, 0x0, .lo⟩, -- VLT_CTR RO RS
  ⟨0x184, 8, 0x8, 0x0, 0x0, 0x0, 0x0, 0x0, .hi⟩ -- VLT_CTR RO RS
]

/-- Register map of CX, part 1 (spec/11_can_controllers.md). -/
def rowsCX_0 : List RegRow := [
  ⟨0x100, 1, 0x4, 0x0, 0x0, 0xF07, 0x0, 0x0, .plain⟩, -- CX_MODE RW SH
  ⟨0x104, 1, 0x4, 0x0, 0x0, 0x3FFFFFFF, 0x0, 0x0, .plain⟩, -- CX_NBT RW SH
  ⟨0x108, 1, 0x4, 0x0, 0x0, 0x3FFFFFFF, 0x0, 0x0, .plain⟩, -- CX_DBT RW SH
  ⟨0x10C, 1, 0x4, 0x0, 0x0, 0x3FFFFFFF, 0x0, 0x0, .plain⟩, -- CX_XBT RW SH
  ⟨0x110, 1, 0x4, 0x0, 0x0, 0x80FF00FF, 0x0, 0x0, .plain⟩, -- CX_TDC RW SH
  ⟨0x114, 1, 0x4, 0x0, 0x0, 0x80FF00FF, 0x0, 0x0, .plain⟩, -- CX_XTDC RW SH
  ⟨0x118, 1, 0x4, 0x0, 0x0, 0xFFFFFF, 0x0, 0x0, .plain⟩, -- CX_PWM RW SH
  ⟨0x11C, 1, 0x4, 0x1, 0x0, 0x0, 0x3, 0x0, .plain⟩, -- CX_TRXCTL RW GD
  ⟨0x120, 1, 0x4, 0x0, 0x0, 0x7, 0x0, 0x0, .plain⟩, -- CX_RXCFG RW SH
  ⟨0x124, 1, 0x4, 0xCC, 0x0, 0x1FF, 0x0, 0x0, .plain⟩, -- CX_TXCFG RW SH
  ⟨0x128, 1, 0x4, 0x0, 0x0, 0xFFFFFF, 0x0, 0x0, .plain⟩, -- CX_EBURST RW SH
  ⟨0x130, 8, 0x4, 0x80000, 0x0, 0x807FFFFF, 0x0, 0x0, .plain⟩, -- CX_TXCLASS RW SH
  ⟨0x150, 1, 0x4, 0x0, 0x0, 0x0, 0x0, 0x0, .plain⟩, -- CX_CMD WO SC
  ⟨0x154, 1, 0x4, 0x0, 0x0, 0x0, 0x0, 0x0, .plain⟩, -- CX_TXCANCEL WO SC
  ⟨0x158, 1, 0x4, 0x0, 0xFFFFFFFF, 0x0, 0x0, 0x0, .plain⟩, -- CX_TXCANCEL_ID RW
  ⟨0x15C, 1, 0x4, 0x0, 0xFFFFFFFF, 0x0, 0x0, 0x0, .plain⟩, -- CX_TXCANCEL_MASK RW
  ⟨0x160, 1, 0x4, 0x0, 0x0, 0x0, 0x0, 0x0, .plain⟩, -- CX_TXCANCEL_RES RO LV
  ⟨0x170, 1, 0x4, 0x100, 0x0, 0x0, 0x0, 0x0, .plain⟩, -- CX_STAT RO LV
  ⟨0x174, 1, 0x4, 0x0, 0x0, 0x0, 0x0, 0x0, .plain⟩, -- CX_ERR RO LV
  ⟨0x178, 1, 0x4, 0x0, 0x0, 0x0, 0x0, 0x0, .plain⟩, -- CX_LASTERR RO LV
  ⟨0x17C, 1, 0x4, 0x0, 0x0, 0x0, 0x0, 0x0, .plain⟩, -- CX_SLOTS RO LV
  ⟨0x180, 1, 0x4, 0x0, 0x0, 0xC01FFFFF, 0x0, 0x0, .plain⟩, -- CX_ABR_CFG RW SH
  ⟨0x184, 1, 0x4, 0x0, 0x0, 0x0, 0x0, 0x0, .plain⟩, -- CX_ABR_STAT RO LV
  ⟨0x200, 16, 0x10, 0x0, 0x0, 0x3FFFFFFF, 0x0, 0x0, .plain⟩, -- CX_ABR_CAND RW SH
  ⟨0x204, 16, 0x10, 0x0, 0x0, 0x3FFFFFFF, 0x0, 0x0, .plain⟩, -- CX_ABR_CAND RW SH
  ⟨0x208, 16, 0x10, 0x0, 0x0, 0x3FFFFFFF, 0x0, 0x0, .plain⟩, -- CX_ABR_CAND RW SH
  ⟨0x300, 1, 0x4, 0x0, 0x0, 0xDFFFFFFF, 0x0, 0x0, .plain⟩, -- CX_REF RW SH
  ⟨0x304, 1, 0x4, 0x0, 0x0, 0xFFFF0000, 0x0, 0x0, .plain⟩, -- CX_REF_FUP RW SH
  ⟨0x308, 1, 0x4, 0x0, 0x0, 0x1FFFFFFF, 0x0, 0x0, .plain⟩, -- CX_REF_FUPID RW SH
  ⟨0x30C, 1, 0x4, 0x0, 0x0, 0x0, 0x0, 0x0, .plain⟩ -- CX_REF_STAT RO LV
]
/-- Register map of CX, part 2 (spec/11_can_controllers.md). -/
def rowsCX_1 : List RegRow := [
  ⟨0x310, 1, 0x4, 0x0, 0x0, 0x0, 0x0, 0x0, .lo⟩, -- CX_REF_SOF_LO RO RS
  ⟨0x314, 1, 0x4, 0x0, 0x0, 0x0, 0x0, 0x0, .hi⟩, -- CX_REF_SOF_HI RO
  ⟨0x340, 1, 0x4, 0x0, 0x0, 0x0, 0x0, 0x0, .rs⟩, -- CX_TXEVT_INFO RO RS
  ⟨0x344, 1, 0x4, 0x0, 0x0, 0x0, 0x0, 0x0, .plain⟩, -- CX_TXEVT_ID RO
  ⟨0x348, 1, 0x4, 0x0, 0x0, 0x0, 0x0, 0x0, .plain⟩, -- CX_TXEVT_SOF_LO RO
  ⟨0x34C, 1, 0x4, 0x0, 0x0, 0x0, 0x0, 0x0, .plain⟩, -- CX_TXEVT_SOF_HI RO
  ⟨0x350, 1, 0x4, 0x0, 0x0, 0x0, 0x0, 0x0, .plain⟩, -- CX_TXEVT_EOFD RO
  ⟨0x354, 1, 0x4, 0x0, 0x0, 0x0, 0x0, 0x0, .plain⟩, -- CX_TXEVT_STAT RO LV
  ⟨0x358, 1, 0x4, 0x0, 0x0, 0x0, 0x0, 0x0, .plain⟩, -- CX_TXEVT_CLR WO SC
  ⟨0x360, 1, 0x4, 0x0, 0x0, 0x0, 0x0, 0x0, .lo⟩, -- CX_RXEOF_LO RO RS
  ⟨0x364, 1, 0x4, 0x0, 0x0, 0x0, 0x0, 0x0, .hi⟩, -- CX_RXEOF_HI RO
  ⟨0x400, 1, 0x4, 0x0, 0x0, 0x0, 0x0, 0x0, .lo⟩, -- CX_RX_LO RO RS
  ⟨0x404, 1, 0x4, 0x0, 0x0, 0x0, 0x0, 0x0, .hi⟩, -- CX_RX_HI RO
  ⟨0x408, 1, 0x4, 0x0, 0x0, 0x0, 0x0, 0x0, .lo⟩, -- CX_TX_LO RO RS
  ⟨0x40C, 1, 0x4, 0x0, 0x0, 0x0, 0x0, 0x0, .hi⟩, -- CX_TX_HI RO
  ⟨0x410, 1, 0x4, 0x0, 0x0, 0x0, 0x0, 0x0, .plain⟩, -- CX_ERR_STUFF RO
  ⟨0x414, 1, 0x4, 0x0, 0x0, 0x0, 0x0, 0x0, .plain⟩, -- CX_ERR_FORM RO
  ⟨0x418, 1, 0x4, 0x0, 0x0, 0x0, 0x0, 0x0, .plain⟩, -- CX_ERR_ACK RO
  ⟨0x41C, 1, 0x4, 0x0, 0x0, 0x0, 0x0, 0x0, .plain⟩, -- CX_ERR_BIT RO
  ⟨0x420, 1, 0x4, 0x0, 0x0, 0x0, 0x0, 0x0, .plain⟩, -- CX_ERR_CRC RO
  ⟨0x424, 1, 0x4, 0x0, 0x0, 0x0, 0x0, 0x0, .plain⟩, -- CX_ARB_LOST RO
  ⟨0x428, 1, 0x4, 0x0, 0x0, 0x0, 0x0, 0x0, .plain⟩, -- CX_BUSOFF_CNT RO
  ⟨0x42C, 1, 0x4, 0x0, 0x0, 0x0, 0x0, 0x0, .plain⟩, -- CX_RX_OVF RO
  ⟨0x430, 1, 0x4, 0x0, 0x0, 0x0, 0x0, 0x0, .plain⟩, -- CX_TX_AGED RO
  ⟨0x434, 1, 0x4, 0x0, 0x0, 0x0, 0x0, 0x0, .plain⟩, -- CX_TX_CANCELLED RO
  ⟨0x438, 1, 0x4, 0x0, 0x0, 0x0, 0x0, 0x0, .plain⟩, -- CX_TX_CANCEL_LATE RO
  ⟨0x43C, 1, 0x4, 0x0, 0x0, 0x0, 0x0, 0x0, .plain⟩, -- CX_TX_FLUSHED RO
  ⟨0x440, 1, 0x4, 0x0, 0x0, 0x0, 0x0, 0x0, .plain⟩, -- CX_TX_BADFMT RO
  ⟨0x444, 1, 0x4, 0x0, 0x0, 0x0, 0x0, 0x0, .plain⟩, -- CX_TX_SUPPRESSED RO
  ⟨0x448, 1, 0x4, 0x0, 0x0, 0x0, 0x0, 0x0, .plain⟩ -- CX_EBURSTS RO
]
/-- Register map of CX, part 3 (spec/11_can_controllers.md). -/
def rowsCX_2 : List RegRow := [
  ⟨0x44C, 1, 0x4, 0x0, 0x0, 0x0, 0x0, 0x0, .plain⟩, -- CX_PEX RO
  ⟨0x450, 1, 0x4, 0x0, 0x0, 0x0, 0x0, 0x0, .plain⟩, -- CX_REF_SENT RO
  ⟨0x454, 1, 0x4, 0x0, 0x0, 0x0, 0x0, 0x0, .plain⟩, -- CX_REF_MISSED RO
  ⟨0x458, 1, 0x4, 0x0, 0x0, 0x0, 0x0, 0x0, .plain⟩ -- CX_ABR_FRAMES RO
]
/-- The whole register map of CX. -/
def rowsCX : List RegRow := rowsCX_0 ++ rowsCX_1 ++ rowsCX_2

/-- Register map of EMC, part 1 (spec/13_ethernet_ports.md). -/
def rowsEMC_0 : List RegRow := [
  ⟨0x100, 1, 0x4, 0x5F2, 0x0, 0xFF803FFF, 0x0, 0x0, .plain⟩, -- EMC_CFG RW SH
  ⟨0x104, 1, 0x4, 0xFAC688, 0x0, 0x7FFFFFF, 0x0, 0x0, .plain⟩, -- EMC_CLASSMAP RW SH
  ⟨0x108, 1, 0x4, 0x0, 0x0, 0xFFFFFFFF, 0x0, 0x0, .plain⟩, -- EMC_DLY RW SH
  ⟨0x10C, 1, 0x4, 0x0, 0x0, 0x0, 0x0, 0x0, .plain⟩, -- EMC_LINK RO LV
  ⟨0x110, 1, 0x4, 0x0, 0x0, 0x1FFFF, 0x0, 0x0, .plain⟩, -- EMC_SEL RW SH
  ⟨0x114, 1, 0x4, 0xA0000, 0x0, 0xC0FF0003, 0x0, 0x0, .plain⟩, -- EMC_PREEMPT RW SH
  ⟨0x118, 1, 0x4, 0x0, 0x0, 0x0, 0x0, 0x0, .plain⟩, -- EMC_PREEMPT_STAT RO LV
  ⟨0x120, 8, 0x4, 0x0, 0x0, 0xFFFFFFFF, 0x0, 0x0, .plain⟩, -- EMC_CBS RW SH
  ⟨0x140, 1, 0x4, 0x0, 0x0, 0x1FF, 0x0, 0x0, .plain⟩, -- EMC_GCL_CTRL RW SH
  ⟨0x144, 1, 0x4, 0x0, 0x0, 0xFFFFFFFF, 0x0, 0x0, .plain⟩, -- EMC_GCL_CYCLE RW SH
  ⟨0x148, 1, 0x4, 0x0, 0x0, 0xFFFFFFFF, 0x0, 0x0, .plain⟩, -- EMC_GCL_BASE_LO RW SH
  ⟨0x14C, 1, 0x4, 0x0, 0x0, 0xFFFFFFFF, 0x0, 0x0, .plain⟩, -- EMC_GCL_BASE_HI RW SH
  ⟨0x150, 1, 0x4, 0xFF, 0x0, 0xFF, 0x0, 0x0, .plain⟩, -- EMC_GCL_INIT RW SH
  ⟨0x154, 1, 0x4, 0x0, 0x0, 0x0, 0x0, 0x0, .plain⟩, -- EMC_GCL_STAT RO LV
  ⟨0x160, 1, 0x4, 0x0, 0x0, 0x0, 0x0, 0x0, .rs⟩, -- EMC_TSQ_INFO RO RS
  ⟨0x164, 1, 0x4, 0x0, 0x0, 0x0, 0x0, 0x0, .plain⟩, -- EMC_TSQ_SEQ RO
  ⟨0x168, 1, 0x4, 0x0, 0x0, 0x0, 0x0, 0x0, .plain⟩, -- EMC_TSQ_TS_LO RO
  ⟨0x16C, 1, 0x4, 0x0, 0x0, 0x0, 0x0, 0x0, .plain⟩, -- EMC_TSQ_TS_HI RO
  ⟨0x170, 1, 0x4, 0x0, 0x0, 0x0, 0x0, 0x0, .plain⟩, -- EMC_TSQ_STAT RO LV
  ⟨0x180, 1, 0x4, 0x0, 0x0, 0x0, 0x0, 0x0, .plain⟩, -- EMC_WAKE_STAT RO LV
  ⟨0x184, 1, 0x4, 0x0, 0x0, 0x0, 0x0, 0x0, .plain⟩, -- EMC_WAKE_CLR WO SC
  ⟨0x1C0, 16, 0x4, 0x0, 0x0, 0xFFC00FFF, 0x0, 0x0, .plain⟩, -- EMC_RWPROF RW SH
  ⟨0x400, 16, 0x20, 0x0, 0x0, 0x8000FFFF, 0x0, 0x0, .plain⟩, -- EMC_WAKE RW SH
  ⟨0x404, 16, 0x20, 0x0, 0x0, 0xFFFFFFFF, 0x0, 0x0, .plain⟩, -- EMC_WAKE RW SH
  ⟨0x408, 16, 0x20, 0x0, 0x0, 0xFFFFFFFF, 0x0, 0x0, .plain⟩, -- EMC_WAKE RW SH
  ⟨0x40C, 16, 0x20, 0x0, 0x0, 0xFFFFFFFF, 0x0, 0x0, .plain⟩, -- EMC_WAKE RW SH
  ⟨0x410, 16, 0x20, 0x0, 0x0, 0xFFFFFFFF, 0x0, 0x0, .plain⟩, -- EMC_WAKE RW SH
  ⟨0x600, 1, 0x4, 0x0, 0x0, 0x0, 0x0, 0x0, .lo⟩, -- EMC_RX_LO RO RS
  ⟨0x604, 1, 0x4, 0x0, 0x0, 0x0, 0x0, 0x0, .hi⟩, -- EMC_RX_HI RO
  ⟨0x608, 1, 0x4, 0x0, 0x0, 0x0, 0x0, 0x0, .lo⟩ -- EMC_TX_LO RO RS
]
/-- Register map of EMC, part 2 (spec/13_ethernet_ports.md). -/
def rowsEMC_1 : List RegRow := [
  ⟨0x60C, 1, 0x4, 0x0, 0x0, 0x0, 0x0, 0x0, .hi⟩, -- EMC_TX_HI RO
  ⟨0x610, 1, 0x4, 0x0, 0x0, 0x0, 0x0, 0x0, .plain⟩, -- EMC_RX_FCS RO
  ⟨0x614, 1, 0x4, 0x0, 0x0, 0x0, 0x0, 0x0, .plain⟩, -- EMC_RX_RUNT RO
  ⟨0x618, 1, 0x4, 0x0, 0x0, 0x0, 0x0, 0x0, .plain⟩, -- EMC_RX_TRUNC RO
  ⟨0x61C, 1, 0x4, 0x0, 0x0, 0x0, 0x0, 0x0, .plain⟩, -- EMC_RX_PAUSE RO
  ⟨0x620, 1, 0x4, 0x0, 0x0, 0x0, 0x0, 0x0, .plain⟩, -- EMC_RX_OVF RO
  ⟨0x624, 1, 0x4, 0x0, 0x0, 0x0, 0x0, 0x0, .plain⟩, -- EMC_RX_DOZE_DROP RO
  ⟨0x628, 1, 0x4, 0x0, 0x0, 0x0, 0x0, 0x0, .plain⟩, -- EMC_TX_BADKIND RO
  ⟨0x62C, 1, 0x4, 0x0, 0x0, 0x0, 0x0, 0x0, .plain⟩, -- EMC_TX_TOOLONG RO
  ⟨0x630, 1, 0x4, 0x0, 0x0, 0x0, 0x0, 0x0, .plain⟩, -- EMC_PRE_ASSY RO
  ⟨0x634, 1, 0x4, 0x0, 0x0, 0x0, 0x0, 0x0, .plain⟩, -- EMC_PRE_FRAG_TX RO
  ⟨0x638, 1, 0x4, 0x0, 0x0, 0x0, 0x0, 0x0, .plain⟩, -- EMC_LINKDOWNS RO
  ⟨0x63C, 1, 0x4, 0x0, 0x0, 0x0, 0x0, 0x0, .plain⟩, -- EMC_TX_UNDERRUN RO
  ⟨0x640, 1, 0x4, 0x0, 0x0, 0x0, 0x0, 0x0, .plain⟩, -- EMC_TX_CONFINED RO
  ⟨0x800, 256, 0x8, 0x0, 0x0, 0xC00000FF, 0x0, 0x0, .plain⟩, -- EMC_GCL RW SH
  ⟨0x804, 256, 0x8, 0x0, 0x0, 0xFFFFFFFF, 0x0, 0x0, .plain⟩, -- EMC_GCL RW SH
  ⟨0x1000, 1, 0x4, 0x0, 0x0, 0x0, 0x0, 0x0, .plain⟩, -- EMC_CMD WO SC
  ⟨0x1004, 1, 0x4, 0x0, 0x0, 0x0, 0x0, 0x0, .plain⟩, -- EMC_CMD_STAT RO LV
  ⟨0x1010, 8, 0x4, 0x0, 0xFFFFFFFF, 0x0, 0x0, 0x0, .plain⟩, -- EMC_DATA RW
  ⟨0x1040, 1, 0x4, 0x0, 0x0, 0x0, 0x0, 0x0, .plain⟩, -- EMC_MDIO WO SC
  ⟨0x1044, 1, 0x4, 0x0, 0x0, 0x0, 0x0, 0x0, .plain⟩ -- EMC_MDIO_STAT RO LV
]
/-- The whole register map of EMC. -/
def rowsEMC : List RegRow := rowsEMC_0 ++ rowsEMC_1

/-- Register map of SVP (spec/13_ethernet_ports.md). -/
def rowsSVP : List RegRow := [
  ⟨0x100, 1, 0x4, 0x0, 0x0, 0x3, 0x0, 0x0, .plain⟩, -- SVP_CFG RW SH
  ⟨0x104, 1, 0x4, 0x0, 0x0, 0xFFFFFFFF, 0x0, 0x0, .plain⟩, -- SVP_MAC_LO RW SH
  ⟨0x108, 1, 0x4, 0x0, 0x0, 0xFFFF, 0x0, 0x0, .plain⟩, -- SVP_MAC_HI RW SH
  ⟨0x110, 1, 0x4, 0x0, 0x0, 0xFFFF, 0x0, 0x0, .plain⟩, -- SVP_RXRING RW SH
  ⟨0x114, 1, 0x4, 0x0, 0x0, 0xFFFF, 0x0, 0x0, .plain⟩, -- SVP_TXRING RW SH
  ⟨0x118, 1, 0x4, 0x0, 0x0, 0xFF00FF, 0x0, 0x0, .plain⟩, -- SVP_RINGLEN RW SH
  ⟨0x11C, 1, 0x4, 0x0, 0xFF, 0x0, 0x0, 0x0, .plain⟩, -- SVP_RXPTR RW
  ⟨0x120, 1, 0x4, 0x0, 0xFF00, 0x0, 0x0, 0x0, .plain⟩, -- SVP_TXPTR RW
  ⟨0x130, 1, 0x4, 0x0, 0x0, 0x0, 0x0, 0x0, .plain⟩, -- SVP_RX_ERR RO
  ⟨0x134, 1, 0x4, 0x0, 0x0, 0x0, 0x0, 0x0, .plain⟩, -- SVP_RX_OVF RO
  ⟨0x138, 1, 0x4, 0x0, 0x0, 0x0, 0x0, 0x0, .plain⟩ -- SVP_FRAMES RO
]

/-- Register map of CQ (spec/16_processors_and_core_queues.md). -/
def rowsCQ : List RegRow := [
  ⟨0x100, 1, 0x4, 0x0, 0x0, 0x0, 0x0, 0x0, .plain⟩, -- CQ_OUT_OVF RO
  ⟨0x104, 1, 0x4, 0x0, 0x0, 0x0, 0x0, 0x0, .plain⟩, -- CQ_IN_ORPHAN RO
  ⟨0x108, 1, 0x4, 0x0, 0x0, 0x0, 0x0, 0x0, .plain⟩, -- CQ_IN_BADTAG RO
  ⟨0x10C, 1, 0x4, 0x0, 0x0, 0x0, 0x0, 0x0, .plain⟩, -- CQ_IN_BAD RO
  ⟨0x110, 1, 0x4, 0x0, 0x0, 0x0, 0x0, 0x0, .plain⟩, -- CQ_IN_OVERRUN RO
  ⟨0x114, 1, 0x4, 0x0, 0x0, 0x0, 0x0, 0x0, .plain⟩, -- CQ_IN_REFUSED RO
  ⟨0x118, 1, 0x4, 0x0, 0x0, 0x0, 0x0, 0x0, .plain⟩, -- CQ_OUT_DROPPED RO
  ⟨0x200, 64, 0x4, 0x0, 0x0, 0x80001FFF, 0x0, 0x0, .plain⟩, -- CQ_OCFG RW SH
  ⟨0x300, 64, 0x4, 0x0, 0x0, 0x80000000, 0x0, 0x0, .plain⟩, -- CQ_ICFG RW SH
  ⟨0x400, 64, 0x20, 0x0, 0x0, 0x0, 0x0, 0x0, .w64⟩, -- OUT_POP RO RS
  ⟨0x408, 64, 0x20, 0x0, 0x0, 0x0, 0x0, 0x0, .w64⟩, -- OUT_PEEK RO
  ⟨0x410, 64, 0x20, 0x0, 0x0, 0x0, 0x0, 0x0, .plain⟩, -- OUT_DROP WO SC
  ⟨0x414, 64, 0x20, 0x0, 0x0, 0x0, 0x0, 0x0, .plain⟩, -- OUT_WORDS RO LV
  ⟨0x418, 64, 0x20, 0x0, 0x0, 0x0, 0x0, 0x0, .plain⟩, -- OUT_FRAMES RO LV
  ⟨0x41C, 64, 0x20, 0x0, 0x0, 0x8FFFFFFF, 0x0, 0x0, .plain⟩, -- OUT_NOTICE RW SH
  ⟨0xC00, 64, 0x20, 0x0, 0x0, 0x0, 0x0, 0x0, .w64⟩, -- IN_PUSH WO
  ⟨0xC08, 64, 0x20, 0x200, 0x0, 0x0, 0x0, 0x0, .plain⟩, -- IN_SPACE RO LV
  ⟨0xC0C, 64, 0x20, 0x0, 0x0, 0x0, 0x0, 0x0, .plain⟩, -- IN_STAT RO LV
  ⟨0xC10, 64, 0x20, 0x0, 0x0, 0x0, 0x0, 0x0, .plain⟩ -- IN_FRAMES RO
]

/-- Register map of CAP (spec/20_capture_and_ledger.md). -/
def rowsCAP : List RegRow := [
  ⟨0x100, 8, 0x4, 0x0, 0x0, 0xFFFFFFFF, 0x0, 0x0, .plain⟩, -- CAP_PORTRING RW SH
  ⟨0x120, 1, 0x4, 0x0, 0x0, 0x0, 0x0, 0x0, .plain⟩, -- CAP_CMD WO SC
  ⟨0x130, 1, 0x4, 0x0, 0x0, 0x0, 0x0, 0x0, .lo⟩, -- CAP_RECORDS_LO RO RS
  ⟨0x134, 1, 0x4, 0x0, 0x0, 0x0, 0x0, 0x0, .hi⟩, -- CAP_RECORDS_HI RO
  ⟨0x138, 1, 0x4, 0x0, 0x0, 0x0, 0x0, 0x0, .plain⟩, -- CAP_NOMAP RO
  ⟨0x13C, 1, 0x4, 0x0, 0x0, 0x0, 0x0, 0x0, .plain⟩, -- CAP_FROZEN_DROP RO
  ⟨0x140, 1, 0x4, 0x0, 0x0, 0x0, 0x0, 0x0, .plain⟩, -- CAP_TRIG_IGNORED RO
  ⟨0x200, 8, 0x80, 0x0, 0x0, 0xFFFFBFFF, 0x0, 0x0, .plain⟩, -- CAP_RCFG RW SH
  ⟨0x204, 8, 0x80, 0x0, 0x0, 0xFFFFFFFF, 0x0, 0x0, .plain⟩, -- CAP_RBASE_LO RW SH
  ⟨0x208, 8, 0x80, 0x0, 0x0, 0xFF, 0x0, 0x0, .plain⟩, -- CAP_RBASE_HI RW SH
  ⟨0x20C, 8, 0x80, 0x0, 0x0, 0xE7FF003F, 0x0, 0x0, .plain⟩, -- CAP_TRIG0 RW SH
  ⟨0x210, 8, 0x80, 0x0, 0x0, 0xFFFF, 0x0, 0x0, .plain⟩, -- CAP_TRIG1 RW SH
  ⟨0x214, 8, 0x80, 0x0, 0x0, 0x0, 0x0, 0x0, .plain⟩, -- CAP_RSTAT RO LV
  ⟨0x218, 8, 0x80, 0x0, 0x0, 0x0, 0x0, 0x0, .plain⟩, -- CAP_NEXT RO LV
  ⟨0x21C, 8, 0x80, 0x0, 0x0, 0x0, 0x0, 0x0, .plain⟩, -- CAP_OLDEST RO LV
  ⟨0x220, 8, 0x80, 0x0, 0x0, 0x0, 0x0, 0x0, .plain⟩, -- CAP_TRIGOFF RO LV
  ⟨0x240, 8, 0x80, 0x0, 0x0, 0x0, 0x0, 0x0, .plain⟩, -- CAP_DIGEST0 RO LV
  ⟨0x244, 8, 0x80, 0x0, 0x0, 0x0, 0x0, 0x0, .plain⟩, -- CAP_DIGEST1 RO LV
  ⟨0x248, 8, 0x80, 0x0, 0x0, 0x0, 0x0, 0x0, .plain⟩, -- CAP_DIGEST2 RO LV
  ⟨0x24C, 8, 0x80, 0x0, 0x0, 0x0, 0x0, 0x0, .plain⟩, -- CAP_DIGEST3 RO LV
  ⟨0x250, 8, 0x80, 0x0, 0x0, 0x0, 0x0, 0x0, .plain⟩, -- CAP_DIGEST4 RO LV
  ⟨0x254, 8, 0x80, 0x0, 0x0, 0x0, 0x0, 0x0, .plain⟩, -- CAP_DIGEST5 RO LV
  ⟨0x258, 8, 0x80, 0x0, 0x0, 0x0, 0x0, 0x0, .plain⟩, -- CAP_DIGEST6 RO LV
  ⟨0x25C, 8, 0x80, 0x0, 0x0, 0x0, 0x0, 0x0, .plain⟩ -- CAP_DIGEST7 RO LV
]

/-- Register map of TWL (spec/19_twin_pair.md). -/
def rowsTWL : List RegRow := [
  ⟨0x100, 1, 0x4, 0x30000, 0x0, 0x3C0F0000, 0x0, 0x0, .plain⟩, -- TWL_CTRL RW SH
  ⟨0x104, 1, 0x4, 0x0, 0x0, 0x0, 0x0, 0x0, .plain⟩, -- TWL_STAT RO LV
  ⟨0x108, 1, 0x4, 0x0, 0x0, 0x0, 0x3, 0x0, .plain⟩, -- TWL_CMD RW GD SC
  ⟨0x10C, 1, 0x4, 0xFFFFFFFF, 0x0, 0xFFFFFFFF, 0x0, 0x0, .plain⟩, -- TWL_GATE_CAN RW SH
  ⟨0x110, 1, 0x4, 0xFFFFF, 0x0, 0xFFFFF, 0x0, 0x0, .plain⟩, -- TWL_GATE_ETH RW SH
  ⟨0x120, 1, 0x4, 0x0, 0x0, 0x0, 0x0, 0x0, .plain⟩, -- TWL_PEER_NETREQ_LO RO LV
  ⟨0x124, 1, 0x4, 0x0, 0x0, 0x0, 0x0, 0x0, .plain⟩, -- TWL_PEER_NETREQ_HI RO LV
  ⟨0x128, 1, 0x4, 0x0, 0x0, 0x0, 0x0, 0x0, .lo⟩, -- TWL_TOFFSET_LO RO RS
  ⟨0x12C, 1, 0x4, 0x0, 0x0, 0x0, 0x0, 0x0, .hi⟩, -- TWL_TOFFSET_HI RO
  ⟨0x130, 1, 0x4, 0x0, 0x0, 0x0, 0x0, 0x0, .plain⟩, -- TWL_LINKDLY RO LV
  ⟨0x140, 5, 0x4, 0x0, 0x0, 0x0, 0x0, 0x0, .plain⟩, -- TWL_PEER_NM RO LV
  ⟨0x200, 5, 0x10, 0x0, 0xFFFFFFFF, 0x0, 0x0, 0x0, .plain⟩, -- TWL_BR_ADDR_LO RW
  ⟨0x204, 5, 0x10, 0x0, 0xFF, 0x0, 0x0, 0x0, .plain⟩, -- TWL_BR_ADDR_HI RW
  ⟨0x208, 5, 0x10, 0x0, 0xFFFFFFFF, 0x0, 0x0, 0x0, .rs⟩, -- TWL_BR_DATA RW RS
  ⟨0x20C, 5, 0x10, 0x0, 0x0, 0x0, 0x0, 0x0, .plain⟩, -- TWL_BR_STAT RO LV
  ⟨0x300, 1, 0x4, 0x0, 0x0, 0x0, 0x0, 0x0, .plain⟩, -- TWL_HB_RX RO
  ⟨0x304, 1, 0x4, 0x0, 0x0, 0x0, 0x0, 0x0, .plain⟩, -- TWL_HB_MISSED RO
  ⟨0x308, 1, 0x4, 0x0, 0x0, 0x0, 0x0, 0x0, .plain⟩, -- TWL_RETRY RO
  ⟨0x30C, 1, 0x4, 0x0, 0x0, 0x0, 0x0, 0x0, .plain⟩, -- TWL_BAD RO
  ⟨0x310, 1, 0x4, 0x0, 0x0, 0x0, 0x0, 0x0, .plain⟩, -- TWL_BR_TIMEOUTS RO
  ⟨0x314, 1, 0x4, 0x0, 0x0, 0x0, 0x0, 0x0, .plain⟩, -- TWL_DELTA_DROP RO
  ⟨0x318, 1, 0x4, 0x0, 0x0, 0x0, 0x0, 0x0, .plain⟩, -- TWL_LOOP_DROP RO
  ⟨0x31C, 1, 0x4, 0x0, 0x0, 0x0, 0x0, 0x0, .plain⟩, -- TWL_TAKEOVERS RO
  ⟨0x320, 1, 0x4, 0x0, 0x0, 0x0, 0x0, 0x0, .plain⟩ -- TWL_CONFINED RO
]

/-- Register map of SHB (spec/12_shore_dies.md). -/
def rowsSHB : List RegRow := [
  ⟨0x100, 1, 0x4, 0x14, 0x0, 0xFF, 0x0, 0x0, .plain⟩, -- SHB_POLL RW SH
  ⟨0x104, 1, 0x4, 0x0, 0x0, 0x0, 0x0, 0x0, .plain⟩, -- SHB_LINK RO LV
  ⟨0x108, 1, 0x4, 0x10, 0x0, 0x7F, 0x0, 0x0, .plain⟩, -- SHB_PF RW SH
  ⟨0x110, 8, 0x8, 0x0, 0x0, 0x8000003F, 0x0, 0x0, .plain⟩, -- SHB_REGION RW SH
  ⟨0x114, 8, 0x8, 0x0, 0x0, 0xFFFFFFFF, 0x0, 0x0, .plain⟩, -- SHB_REGION RW SH
  ⟨0x180, 1, 0x4, 0x0, 0x0, 0x0, 0x0, 0x0, .plain⟩, -- SHB_RD RO
  ⟨0x184, 1, 0x4, 0x0, 0x0, 0x0, 0x0, 0x0, .plain⟩, -- SHB_WR RO
  ⟨0x188, 1, 0x4, 0x0, 0x0, 0x0, 0x0, 0x0, .plain⟩, -- SHB_TIMEOUTS RO
  ⟨0x18C, 1, 0x4, 0x0, 0x0, 0x0, 0x0, 0x0, .plain⟩, -- SHB_LATE RO
  ⟨0x190, 1, 0x4, 0x0, 0x0, 0x0, 0x0, 0x0, .plain⟩, -- SHB_PF_HITS RO
  ⟨0x194, 1, 0x4, 0x0, 0x0, 0x0, 0x0, 0x0, .plain⟩, -- SHB_RETRY RO
  ⟨0x198, 1, 0x4, 0x0, 0x0, 0x0, 0x0, 0x0, .plain⟩ -- SHB_LINKDOWNS RO
]

/-- Register map of DMC (spec/16_processors_and_core_queues.md). -/
def rowsDMC : List RegRow := [
  ⟨0x100, 1, 0x4, 0x0, 0x0, 0xB37, 0x0, 0x0, .plain⟩, -- DMC_CFG RW SH
  ⟨0x104, 1, 0x4, 0x0, 0x0, 0x0, 0x0, 0x0, .plain⟩, -- DMC_STAT RO LV
  ⟨0x108, 1, 0x4, 0x0, 0x0, 0x0, 0x0, 0x0, .plain⟩, -- DMC_SIZE RO LV
  ⟨0x110, 1, 0x4, 0x0, 0x0, 0x0, 0x0, 0x0, .plain⟩, -- DMC_TRAIN WO SC
  ⟨0x114, 1, 0x4, 0x0, 0x0, 0x0, 0x0, 0x0, .plain⟩, -- DMC_TRAIN_STAT RO LV
  ⟨0x118, 1, 0x4, 0x0, 0x0, 0x0, 0x0, 0x0, .plain⟩, -- DMC_SR WO SC
  ⟨0x120, 1, 0x4, 0x0, 0x0, 0x0, 0x0, 0x0, .plain⟩, -- DMC_MR WO SC
  ⟨0x124, 1, 0x4, 0x0, 0x0, 0x0, 0x0, 0x0, .plain⟩, -- DMC_MR_DATA RO LV
  ⟨0x130, 1, 0x4, 0x0, 0x0, 0x0, 0x0, 0x0, .lo⟩, -- DMC_ECC_CORR_LO RO RS
  ⟨0x134, 1, 0x4, 0x0, 0x0, 0x0, 0x0, 0x0, .hi⟩, -- DMC_ECC_CORR_HI RO
  ⟨0x138, 1, 0x4, 0x0, 0x0, 0x0, 0x0, 0x0, .plain⟩, -- DMC_ECC_UNCORR RO
  ⟨0x13C, 1, 0x4, 0x0, 0x0, 0x0, 0x0, 0x0, .plain⟩, -- DMC_ECC_ADDR_LO RO LV
  ⟨0x140, 1, 0x4, 0x0, 0x0, 0x0, 0x0, 0x0, .plain⟩ -- DMC_ECC_ADDR_HI RO LV
]

/-- Register map of XSP (spec/16_processors_and_core_queues.md). -/
def rowsXSP : List RegRow := [
  ⟨0x100, 1, 0x4, 0x200, 0x0, 0x3FF03FF, 0x0, 0x0, .plain⟩, -- XSP_CFG RW SH
  ⟨0x104, 1, 0x4, 0x130000, 0x0, 0xFFFFF01F, 0x0, 0x0, .plain⟩, -- XSP_RDCFG RW SH
  ⟨0x108, 1, 0x4, 0x0, 0x0, 0x0, 0x0, 0x0, .plain⟩, -- XSP_STAT RO LV
  ⟨0x110, 1, 0x4, 0x0, 0x0, 0x0, 0x0, 0x0, .plain⟩, -- XSP_CMD WO SC
  ⟨0x114, 1, 0x4, 0x0, 0xFFFF, 0x0, 0x0, 0x0, .plain⟩, -- XSP_OPCODE RW
  ⟨0x118, 1, 0x4, 0x0, 0xFFFFFFFF, 0x0, 0x0, 0x0, .plain⟩, -- XSP_ADDR RW
  ⟨0x11C, 1, 0x4, 0x0, 0xFFFFF000, 0x0, 0x0, 0x0, .plain⟩, -- XSP_POLL RW
  ⟨0x120, 1, 0x4, 0x0, 0xFFFF, 0x0, 0x0, 0x0, .plain⟩, -- XSP_POLL_TMO RW
  ⟨0x124, 1, 0x4, 0x0, 0x0, 0x0, 0x0, 0x0, .plain⟩, -- XSP_RD_ERR RO
  ⟨0x200, 64, 0x4, 0x0, 0xFFFFFFFF, 0x0, 0x0, 0x0, .plain⟩ -- XSP_BUF RW
]

/-- Register map of GPIO (spec/21_package_and_signals.md). -/
def rowsGPIO : List RegRow := [
  ⟨0x100, 1, 0x4, 0x0, 0xFFFFFFFF, 0x0, 0x0, 0x0, .plain⟩, -- GPIO_DIR RW
  ⟨0x104, 1, 0x4, 0x0, 0xFFFFFFFF, 0x0, 0x0, 0x0, .plain⟩, -- GPIO_OUT RW
  ⟨0x108, 1, 0x4, 0x0, 0x0, 0x0, 0x0, 0x0, .plain⟩, -- GPIO_IN RO LV
  ⟨0x10C, 1, 0x4, 0x0, 0xFFFFFFFF, 0x0, 0x0, 0x0, .plain⟩, -- GPIO_OD RW
  ⟨0x110, 1, 0x4, 0xFFFFFFFF, 0xFFFFFFFF, 0x0, 0x0, 0x0, .plain⟩, -- GPIO_PULL_EN RW
  ⟨0x114, 1, 0x4, 0x0, 0xFFFFFFFF, 0x0, 0x0, 0x0, .plain⟩ -- GPIO_PULL_UP RW
]

/-- Register map of CRN (spec/17_start_and_update.md). -/
def rowsCRN : List RegRow := [
  ⟨0x100, 1, 0x4, 0x0, 0xFFFF, 0x0, 0x0, 0x0, .plain⟩, -- CRN_WDT RW
  ⟨0x104, 1, 0x4, 0x0, 0x0, 0x0, 0x0, 0x0, .plain⟩, -- CRN_WDT_KICK WO SC
  ⟨0x108, 1, 0x4, 0x0, 0x0, 0x0, 0x0, 0x0, .plain⟩, -- CRN_WDT_STAT RO LV
  ⟨0x110, 1, 0x4, 0x0, 0xFFFFFFFF, 0x0, 0x0, 0x0, .plain⟩, -- CRN_MOV_ENTRY_LO RW
  ⟨0x114, 1, 0x4, 0x0, 0xFF, 0x0, 0x0, 0x0, .plain⟩, -- CRN_MOV_ENTRY_HI RW
  ⟨0x118, 1, 0x4, 0x0, 0xF, 0x0, 0x0, 0x0, .plain⟩ -- CRN_MOV_RUN RW
]

/-- Register map of NMU (spec/15_sleep_and_wake.md). -/
def rowsNMU : List RegRow := [
  ⟨0x100, 1, 0x4, 0x0, 0xFFFFFFFF, 0x0, 0x0, 0x0, .plain⟩, -- NMU_NETREQ_LO RW
  ⟨0x104, 1, 0x4, 0x0, 0xFF, 0x0, 0x0, 0x0, .plain⟩, -- NMU_NETREQ_HI RW
  ⟨0x108, 1, 0x4, 0x0, 0x0, 0x0, 0x0, 0x0, .plain⟩, -- NMU_CMD WO SC
  ⟨0x10C, 1, 0x4, 0x88B5, 0x0, 0xFFFF, 0x0, 0x0, .plain⟩, -- NMU_T1S_ETYPE RW SH
  ⟨0x110, 1, 0x4, 0x0, 0x0, 0xFFFFFFFF, 0x0, 0x0, .plain⟩, -- NMU_T1S_SA_LO RW SH
  ⟨0x114, 1, 0x4, 0x0, 0x0, 0xFFFF, 0x0, 0x0, .plain⟩, -- NMU_T1S_SA_HI RW SH
  ⟨0x120, 1, 0x4, 0x0, 0x0, 0x0, 0x0, 0xFFFFFFFF, .plain⟩, -- NMU_CHG_LO W1C
  ⟨0x124, 1, 0x4, 0x0, 0x0, 0x0, 0x0, 0xFF, .plain⟩, -- NMU_CHG_HI W1C
  ⟨0x140, 5, 0x4, 0x0, 0x0, 0x0, 0x0, 0x0, .plain⟩, -- NMU_STATE RO LV
  ⟨0x400, 40, 0x40, 0x0, 0x0, 0xFF8000FF, 0x0, 0x0, .plain⟩, -- NMU_UCFG RW SH
  ⟨0x404, 40, 0x40, 0x0, 0x0, 0x9FFFFFFF, 0x0, 0x0, .plain⟩, -- NMU_UID RW SH
  ⟨0x408, 40, 0x40, 0x80126036, 0x0, 0xF7777777, 0x0, 0x0, .plain⟩, -- NMU_UPOS RW SH
  ⟨0x40C, 40, 0x40, 0x7D005DC, 0x0, 0xFFFFFFFF, 0x0, 0x0, .plain⟩, -- NMU_UTMR1 RW SH
  ⟨0x410, 40, 0x40, 0x2EE0064, 0x0, 0xFFFFFFFF, 0x0, 0x0, .plain⟩, -- NMU_UTMR2 RW SH
  ⟨0x414, 40, 0x40, 0x0, 0x0, 0xFFFFFFFF, 0x0, 0x0, .plain⟩, -- NMU_PNMASK_LO RW SH
  ⟨0x418, 40, 0x40, 0x0, 0x0, 0xFFFF, 0x0, 0x0, .plain⟩, -- NMU_PNMASK_HI RW SH
  ⟨0x41C, 40, 0x40, 0x0, 0xFFFFFFFF, 0x0, 0x0, 0x0, .plain⟩, -- NMU_PNTX_LO RW
  ⟨0x420, 40, 0x40, 0x0, 0xFFFF, 0x0, 0x0, 0x0, .plain⟩, -- NMU_PNTX_HI RW
  ⟨0x424, 40, 0x40, 0x0, 0x0, 0x0, 0x0, 0x0, .plain⟩, -- NMU_PNRX_LO RO LV
  ⟨0x428, 40, 0x40, 0x0, 0x0, 0x0, 0x0, 0x0, .plain⟩, -- NMU_PNRX_HI RO LV
  ⟨0x42C, 40, 0x40, 0x0, 0x0, 0x0, 0x0, 0x0, .plain⟩, -- NMU_USTAT RO LV
  ⟨0x430, 40, 0x40, 0x0, 0x0, 0x0, 0x0, 0x0, .plain⟩, -- NMU_UCNT1 RO
  ⟨0x434, 40, 0x40, 0x0, 0x0, 0x0, 0x0, 0x0, .plain⟩, -- NMU_UCNT2 RO
  ⟨0x438, 40, 0x40, 0x0, 0x0, 0x0, 0x0, 0x0, .plain⟩, -- NMU_UFILT RO
  ⟨0x43C, 40, 0x40, 0x0, 0x0, 0x0, 0x0, 0x0, .plain⟩, -- NMU_UNID RO
  ⟨0x1000, 320, 0x4, 0x0, 0x0, 0x0, 0x0, 0x0, .plain⟩ -- NMU_PRES RO LV
]

/-- Register map of TRX (spec/12_shore_dies.md). -/
def rowsTRX : List RegRow := [
  ⟨0x100, 1, 0x4, 0x80000040, 0x0, 0x80007F77, 0x0, 0x0, .plain⟩, -- TRX_CFG RW SH
  ⟨0x104, 1, 0x4, 0x0, 0x0, 0x0, 0x80000007, 0x0, .plain⟩, -- TRX_FORCE RW GD
  ⟨0x108, 1, 0x4, 0x0, 0x0, 0x0, 0x0, 0x0, .plain⟩, -- TRX_STAT RO LV
  ⟨0x10C, 1, 0x4, 0x0, 0x0, 0x0, 0x0, 0x37, .plain⟩, -- TRX_WAKE W1C
  ⟨0x110, 1, 0x4, 0x0, 0x0, 0x0, 0x0, 0x0, .plain⟩, -- TRX_WAKECNT RO
  ⟨0x200, 1, 0x4, 0x0, 0x0, 0xDFFFFFFF, 0x0, 0x0, .plain⟩, -- TRX_WUF RW SH
  ⟨0x204, 1, 0x4, 0x0, 0x0, 0x1FFFFFFF, 0x0, 0x0, .plain⟩, -- TRX_WUF RW SH
  ⟨0x208, 1, 0x4, 0x0, 0x0, 0xC000000F, 0x0, 0x0, .plain⟩, -- TRX_WUF RW SH
  ⟨0x20C, 1, 0x4, 0x0, 0x0, 0xFFFFFFFF, 0x0, 0x0, .plain⟩, -- TRX_WUF RW SH
  ⟨0x210, 1, 0x4, 0x0, 0x0, 0xFFFFFFFF, 0x0, 0x0, .plain⟩, -- TRX_WUF RW SH
  ⟨0x230, 1, 0x4, 0x0, 0x0, 0xDFFFFFFF, 0x0, 0x0, .plain⟩, -- TRX_WUF RW SH
  ⟨0x234, 1, 0x4, 0x0, 0x0, 0x1FFFFFFF, 0x0, 0x0, .plain⟩, -- TRX_WUF RW SH
  ⟨0x238, 1, 0x4, 0x0, 0x0, 0xC000000F, 0x0, 0x0, .plain⟩, -- TRX_WUF RW SH
  ⟨0x23C, 1, 0x4, 0x0, 0x0, 0xFFFFFFFF, 0x0, 0x0, .plain⟩, -- TRX_WUF RW SH
  ⟨0x240, 1, 0x4, 0x0, 0x0, 0xFFFFFFFF, 0x0, 0x0, .plain⟩, -- TRX_WUF RW SH
  ⟨0x260, 1, 0x4, 0x0, 0x0, 0xDFFFFFFF, 0x0, 0x0, .plain⟩, -- TRX_WUF RW SH
  ⟨0x264, 1, 0x4, 0x0, 0x0, 0x1FFFFFFF, 0x0, 0x0, .plain⟩, -- TRX_WUF RW SH
  ⟨0x268, 1, 0x4, 0x0, 0x0, 0xC000000F, 0x0, 0x0, .plain⟩, -- TRX_WUF RW SH
  ⟨0x26C, 1, 0x4, 0x0, 0x0, 0xFFFFFFFF, 0x0, 0x0, .plain⟩, -- TRX_WUF RW SH
  ⟨0x270, 1, 0x4, 0x0, 0x0, 0xFFFFFFFF, 0x0, 0x0, .plain⟩, -- TRX_WUF RW SH
  ⟨0x290, 1, 0x4, 0x0, 0x0, 0xDFFFFFFF, 0x0, 0x0, .plain⟩, -- TRX_WUF RW SH
  ⟨0x294, 1, 0x4, 0x0, 0x0, 0x1FFFFFFF, 0x0, 0x0, .plain⟩, -- TRX_WUF RW SH
  ⟨0x298, 1, 0x4, 0x0, 0x0, 0xC000000F, 0x0, 0x0, .plain⟩, -- TRX_WUF RW SH
  ⟨0x29C, 1, 0x4, 0x0, 0x0, 0xFFFFFFFF, 0x0, 0x0, .plain⟩, -- TRX_WUF RW SH
  ⟨0x2A0, 1, 0x4, 0x0, 0x0, 0xFFFFFFFF, 0x0, 0x0, .plain⟩ -- TRX_WUF RW SH
]

/-- Register map of T1L (spec/12_shore_dies.md). -/
def rowsT1L : List RegRow := [
  ⟨0x100, 1, 0x4, 0x80000000, 0x0, 0x8000FF03, 0x0, 0x0, .plain⟩, -- T1L_CTRL RW SH
  ⟨0x104, 1, 0x4, 0x8, 0x0, 0x8000FFFF, 0x0, 0x0, .plain⟩, -- T1L_PLCA_CTRL RW SH
  ⟨0x108, 1, 0x4, 0x800020, 0x0, 0xFFFFFF, 0x0, 0x0, .plain⟩, -- T1L_PLCA_TMR RW SH
  ⟨0x10C, 1, 0x4, 0x0, 0x0, 0x0, 0x0, 0x0, .plain⟩ -- T1L_STAT RO LV
]

/-- Register map of SWK (spec/12_shore_dies.md). -/
def rowsSWK : List RegRow := [
  ⟨0x100, 4, 0x4, 0x0, 0x0, 0xF00000FF, 0x0, 0x0, .plain⟩, -- SWK_PIN RW SH
  ⟨0x110, 1, 0x4, 0x0, 0x0, 0x0, 0x0, 0x0, .plain⟩, -- SWK_PINSTAT RO LV
  ⟨0x120, 1, 0x4, 0x0, 0x0, 0xFFFFFFFF, 0x0, 0x0, .plain⟩, -- SWK_SPRING_EN RW SH
  ⟨0x124, 1, 0x4, 0x0, 0x0, 0xFFFFFF, 0x0, 0x0, .plain⟩, -- SWK_TIMER RW SH
  ⟨0x128, 1, 0x4, 0x0, 0x0, 0x0, 0x0, 0x0, .plain⟩, -- SWK_CMD WO SC
  ⟨0x130, 1, 0x4, 0x0, 0x0, 0x0, 0x0, 0x0, .plain⟩, -- SWK_WAKE_REASON RO LV
  ⟨0x134, 1, 0x4, 0x0, 0x0, 0x0, 0x0, 0x0, .plain⟩, -- SWK_SEEN RO LV
  ⟨0x138, 1, 0x4, 0x0, 0x0, 0x0, 0x0, 0x0, .lo⟩, -- SWK_REASON_T_LO RO RS
  ⟨0x13C, 1, 0x4, 0x0, 0x0, 0x0, 0x0, 0x0, .hi⟩ -- SWK_REASON_T_HI RO
]

/-- Register map of SHC (spec/12_shore_dies.md). -/
def rowsSHC : List RegRow := [
  ⟨0x100, 1, 0x4, 0x0, 0x1, 0x0, 0x0, 0x0, .plain⟩, -- SHC_CTRL RW
  ⟨0x104, 1, 0x4, 0x0, 0x1FFFC, 0x0, 0x0, 0x0, .plain⟩, -- SHC_MEM_ADDR RW
  ⟨0x108, 1, 0x4, 0x0, 0xFFFFFFFF, 0x0, 0x0, 0x0, .rs⟩, -- SHC_MEM_DATA RW RS
  ⟨0x10C, 1, 0x4, 0x0, 0xFFFFFFFF, 0x0, 0x0, 0x0, .plain⟩, -- SHC_IMG_CRC RW
  ⟨0x110, 1, 0x4, 0x0, 0x0, 0x0, 0x0, 0x0, .plain⟩, -- SHC_STAT RO LV
  ⟨0x120, 1, 0x4, 0x0, 0x0, 0xFFFF, 0x0, 0x0, .plain⟩, -- SHC_WDT RW SH
  ⟨0x124, 1, 0x4, 0x0, 0x0, 0x0, 0x0, 0x0, .plain⟩, -- SHC_WDT_KICK WO SC
  ⟨0x130, 8, 0x4, 0x0, 0xFFFFFFFF, 0x0, 0x0, 0x0, .plain⟩, -- SHC_MBOX_IN RW
  ⟨0x150, 1, 0x4, 0x0, 0x1, 0x0, 0x0, 0x0, .plain⟩, -- SHC_MBOX_IN_DB RW
  ⟨0x160, 8, 0x4, 0x0, 0xFFFFFFFF, 0x0, 0x0, 0x0, .plain⟩, -- SHC_MBOX_OUT RW
  ⟨0x180, 1, 0x4, 0x0, 0x0, 0x0, 0x0, 0x0, .plain⟩, -- SHC_MBOX_OUT_DB W1S W1C
  ⟨0x190, 1, 0x4, 0x0, 0xFFFFFFFF, 0x0, 0x0, 0x0, .plain⟩, -- SHC_IRQ_EN RW
  ⟨0x194, 1, 0x4, 0x0, 0x0, 0x0, 0x0, 0x0, .plain⟩ -- SHC_IRQ_PEND RO LV
]

/-- Register map of SRL (spec/12_shore_dies.md). -/
def rowsSRL : List RegRow := [
  ⟨0x100, 1, 0x4, 0x0, 0x0, 0xC0FF00FF, 0x0, 0x0, .plain⟩, -- SRL_CFG RW SH
  ⟨0x104, 1, 0x4, 0x0, 0x0, 0x0, 0x0, 0x0, .plain⟩, -- SRL_STATE RO LV
  ⟨0x108, 1, 0x4, 0x0, 0x0, 0x0, 0x0, 0x0, .plain⟩, -- SRL_CMD WO SC
  ⟨0x110, 1, 0x4, 0x0, 0xFFFFFFFF, 0x0, 0x0, 0x0, .plain⟩, -- SRL_HANDOVER_LO RW
  ⟨0x114, 1, 0x4, 0x0, 0xFFFFFFFF, 0x0, 0x0, 0x0, .plain⟩, -- SRL_HANDOVER_HI RW
  ⟨0x118, 1, 0x4, 0x0, 0x0, 0x0, 0x0, 0x0, .lo⟩, -- SRL_NOW_LO RO RS
  ⟨0x11C, 1, 0x4, 0x0, 0x0, 0x0, 0x0, 0x0, .hi⟩, -- SRL_NOW_HI RO
  ⟨0x120, 1, 0x4, 0x0, 0x0, 0x0, 0x0, 0x0, .lo⟩, -- SRL_LIMP_AT_LO RO RS
  ⟨0x124, 1, 0x4, 0x0, 0x0, 0x0, 0x0, 0x0, .hi⟩, -- SRL_LIMP_AT_HI RO
  ⟨0x140, 1, 0x4, 0x0, 0x0, 0x0, 0x0, 0x0, .plain⟩, -- SRL_ECMD WO SC
  ⟨0x144, 1, 0x4, 0x0, 0x0, 0x0, 0x0, 0x0, .plain⟩, -- SRL_ESTAT RO LV
  ⟨0x150, 6, 0x4, 0x0, 0xFFFFFFFF, 0x0, 0x0, 0x0, .plain⟩, -- SRL_EDATA RW
  ⟨0x200, 1, 0x4, 0x0, 0x0, 0x0, 0x0, 0x0, .plain⟩, -- SRL_FWD RO
  ⟨0x204, 1, 0x4, 0x0, 0x0, 0x0, 0x0, 0x0, .plain⟩, -- SRL_GAP_DROP RO
  ⟨0x208, 1, 0x4, 0x0, 0x0, 0x0, 0x0, 0x0, .plain⟩, -- SRL_QDROP RO
  ⟨0x20C, 1, 0x4, 0x0, 0x0, 0x0, 0x0, 0x0, .plain⟩, -- SRL_S2S_RX RO
  ⟨0x210, 1, 0x4, 0x0, 0x0, 0x0, 0x0, 0x0, .plain⟩, -- SRL_S2S_DROP RO
  ⟨0x214, 1, 0x4, 0x0, 0x0, 0x0, 0x0, 0x0, .plain⟩ -- SRL_FMT_DROP RO
]

/-- Register map of SPS (spec/12_shore_dies.md). -/
def rowsSPS : List RegRow := [
  ⟨0x100, 1, 0x4, 0x101, 0x0, 0x0, 0x303, 0x0, .plain⟩, -- SPS_INH RW GD
  ⟨0x104, 1, 0x4, 0x0, 0x0, 0x0, 0x0, 0x0, .plain⟩, -- SPS_INHSTAT RO LV
  ⟨0x110, 1, 0x4, 0x8CA01770, 0x0, 0xFFFFFFFF, 0x0, 0x0, .plain⟩, -- SPS_VBAT_CFG RW SH
  ⟨0x114, 1, 0x4, 0x300FA, 0x0, 0x3FFFF, 0x0, 0x0, .plain⟩, -- SPS_VBAT_CFG2 RW SH
  ⟨0x118, 1, 0x4, 0x0, 0x0, 0x0, 0x0, 0x0, .plain⟩, -- SPS_VBAT RO LV
  ⟨0x11C, 1, 0x4, 0x0, 0x0, 0x0, 0x0, 0x0, .plain⟩ -- SPS_VBAT_CLR WO SC
]

end Sys2Proof.Machine
end

