-- ==== Sys2Proof/Machine/State.lean ====
section
/-! DEFINITION. The machine's state: every register, table, queue, counter, mode and pin the spec gives the block, the queue of
waiting commands, the state right after reset, and the reasons a step could stop. -/
namespace Sys2Proof.Machine

/-! ### Registers, updates, guarded sequences (02_register_model.md) -/

/-- The answer of the last access: read data, bus error reason (0 none), and whether it was refused. -/
structure BusAnswer where
  data : DWord
  err : Nat
deriving DecidableEq, Repr

/-- A register or memory access of an initiator. -/
structure Access where
  init : Initiator
  addr : Nat
  size : Nat
  write : Bool
  spec : Bool
  data : DWord
deriving DecidableEq, Repr

/-- What an access meets beside its own data: table entries whose words are bad, ECC of a memory access, the flash's answer and
the bytes of its array that change, and the inputs of a start (notes/assumptions/1). -/
structure Aux where
  bad : List BadEntry
  ecc : Ecc
  answer : Option (List Byte)
  changes : List (Nat × List Byte)
  start : Option StartInput
deriving DecidableEq, Repr

/-- Nothing out of the ordinary. -/
def Aux.plain : Aux := ⟨[], .ok, none, [], none⟩

/-- An access that waits with what it meets: for a block reset to end (R41), for the DRAM to work, or behind a register write of
the same initiator that is outstanding (R59); `sent` when it has reached its target already. -/
structure Waiting where
  acc : Access
  aux : Aux
  sent : Bool
deriving DecidableEq, Repr

/-- A guarded sequence in progress (R52): the value, its offset, its initiator and the device time of its first write. -/
structure Armed where
  value : Word
  off : Nat
  init : Initiator
  since : Nat
deriving DecidableEq, Repr

/-- The update status of a window (BLK_UPDSTAT without DIRTY). -/
structure Upd where
  pending : Bool
  applied : Bool
  rejected : Bool
  reason : Nat
  count : Nat
deriving DecidableEq, Repr

/-- Service mode of a block (BLK_CTRL.SVC_MODE): off, asked for and waiting for the safe point, or on (R37). -/
inductive Service where | off | asked | on
deriving DecidableEq, Repr

/-- The state of a window beside its registers. -/
structure Win where
  armed : Option Armed
  hiLatch : Option (Nat × Word)
  upd : Upd
  resetting : Bool
  svc : Service
deriving DecidableEq, Repr

/-- A window after reset. -/
def Win.idle : Win := ⟨none, none, ⟨false, false, false, 0, 0⟩, false, .off⟩

/-- The shared update of R49: the windows still to apply, the lowest one whose update a reset discarded, and the admission
hold of R51 with the rounds it has left. -/
structure Shared where
  pending : Bool
  rejected : Bool
  pauseExpired : Bool
  applied : Bool
  firstReject : Nat
  reason : Nat
  waiting : List Nat
  discarded : Option Nat
  hold : Bool
  rounds : Nat
deriving DecidableEq, Repr

/-- One entry of the ICX bus-error log (R61). -/
structure BusErr where
  addr : Nat
  reason : Nat
  init : Nat
  spec : Bool
  write : Bool
  loc : Nat
deriving DecidableEq, Repr

/-! ### Faults (03_fault_handling.md) -/

inductive FltState where | normal | faulted | recovering
deriving DecidableEq, Repr

/-- A fault source (R66, R70, R72): its state, whether its condition holds, whether an injected one is held (R81), and the
severity and reaction bits [4:0] = PIN, CRST, BRST, NMI, INT fixed at its last entry into Faulted. -/
structure Source where
  state : FltState
  live : Bool
  held : Bool
  sev : Nat
  react : Nat
deriving DecidableEq, Repr

/-- A source after reset. -/
def Source.idle : Source := ⟨.normal, false, false, 0, 0⟩

/-- A condition that a step posts: an event, or a level that begins or ends. -/
inductive Cond where | event | levelOn | levelOff
deriving DecidableEq, Repr

/-- A posted condition: window, local source, location code, injected or not. -/
structure Post where
  win : Nat
  src : Nat
  cond : Cond
  loc : Nat
  inj : Bool
deriving DecidableEq, Repr

/-- ERROR_N (R79): driven low, minimum hold running, and the holds of the shores' control messages (R304). -/
structure ErrPin where
  low : Bool
  hold : Bool
  shoreA : Bool
  shoreB : Bool
deriving DecidableEq, Repr

/-! ### Balance (01_pace_and_timed_islands.md) -/

/-- What the Balance keeps beside its registers: the voltage of the VOUT_COMMAND in progress, the consecutive periods at
VMAX_MV below target (R28), the manual requests that wait for the transaction in progress (R31), and whether the loop's raise at
PACE_LOW waits for it (R27). -/
structure Bal where
  cmdMv : Nat
  vmaxPeriods : Nat
  queue : List Nat
  raise : Bool
deriving DecidableEq, Repr

def Bal.reset : Bal := ⟨0, 0, [], false⟩

/-! ### Fabric (04_frame_tag_and_fabric.md) -/

/-- One copy of a cell aboard a train (the header fields of R92; the train itself is where it is held). -/
structure Cell where
  fid : Nat
  idx : Nat
  pos : Nat
  train : Nat
  prev : Nat
  src : Nat
  dst : Nat
  cseq : Nat
  cls : Nat
deriving DecidableEq, Repr

/-- An uncommitted cell copy in the VOQ (input, output, class). -/
structure Voq where
  inp : Nat
  out : Nat
  cls : Nat
  fid : Nat
  idx : Nat
deriving DecidableEq, Repr

/-- A train: round-robin pointers, cells aboard, status bits, and whether a completed EN 0 write waits for the drain. -/
structure Train where
  gptr : KV Nat
  aptr : KV Nat
  flight : List Cell
  refused : Bool
  bistBusy : Bool
  bistPass : Bool
  bistFail : Bool
  autoFrozen : Bool
  leaving : Bool
  stalled : Bool
deriving DecidableEq, Repr

def Train.idle : Train := ⟨[], [], [], false, false, false, false, false, false, false⟩

/-- A pair (input, output): the next CSEQ and PREV_TRAIN at the input, credits spent, and the resequencer's expected number,
held cells, round timer, the limit of a timer that an apply has met running (none: the live one), the frame that the last
released cell left open, and whether a broken frame waits for a first cell. -/
structure Pair where
  cseq : Nat
  prev : Nat
  used : Nat
  expect : Nat
  held : List Cell
  timer : Nat
  limit : Option Nat
  openFrame : Option Nat
  broken : Bool
deriving DecidableEq, Repr

def Pair.idle : Pair := ⟨0, 3, 0, 0, [], 0, none, none, false⟩

/-! ### Pond (05_pond_and_queues.md) -/

/-- A copy of a frame toward a logical port: cells released to egress storage, congestion mark, whether it is enqueued there,
and whether an Outlet holds it. -/
structure Copy where
  port : Nat
  rel : Nat
  cm : Bool
  enq : Bool
  outlet : Bool
deriving DecidableEq, Repr

/-- Where a frame at a fabric input comes from. -/
inductive Origin where
  | port (p : Nat)
  | sgeReturn | sgeCreated | aueReturn | notice (code : Nat) | learnNotice | nmPdu (unit : Nat) | inlet (n : Nat) | twin
deriving DecidableEq, Repr

/-- A frame in the Pond: number (its descriptor), fabric input, tag, payload bytes so far, whether it is received whole, its
engine floor, the source each arrived cell is charged to and the logical bank it lies in, the copies still owed, whether
a cell of it has been committed, where it comes from, and the cells that a migration has written with a poison mark (R140). -/
structure PFrame where
  fid : Nat
  fp : Nat
  tag : Tag
  payload : List Byte
  whole : Bool
  eng : Option Nat
  charges : List Nat
  banks : List Nat
  copies : List Copy
  committed : Bool
  origin : Origin
  poison : List Nat
deriving DecidableEq, Repr

/-- A frame at a fabric input before admission: number, input, frame, whether it is whole, and after classification its
resolved destination. -/
structure Arrival where
  fid : Nat
  fp : Nat
  tag : Tag
  payload : List Byte
  whole : Bool
  dest : Option (BitVec 64)
  origin : Origin
deriving DecidableEq, Repr

/-- A logical port's down state (R133, R135): down, flush under way, waiting to come up, hold timer running, and whether its
block reports it down. -/
structure PortSt where
  down : Bool
  flushing : Bool
  upWait : Bool
  hold : Bool
  cause : Bool
deriving DecidableEq, Repr

/-- A port after reset: the blocks of ports 0 to 52 report them down, the others never go down (R133). -/
def PortSt.reset (p : Nat) : PortSt := ⟨decide (p ≤ 52), false, false, false, decide (p ≤ 52)⟩

/-- The Pond beside its registers; `ended` lists the cut-through copies (frame, port) that a resequencer has ended and whose stall
the Pond has not counted (R136). -/
structure Pond where
  nextFid : Nat
  arrivals : List Arrival
  frames : List PFrame
  voq : List Voq
  egress : List (Nat × Nat)
  nextBank : Nat
  ports : KV PortSt
  peak : KV Nat
  qdrop : KV Nat
  qdropDown : KV Nat
  qflush : KV Nat
  eccWindow : KV Nat
  migBank : Nat
  migSpare : Nat
  migHold : Bool
  ended : List (Nat × Nat)
deriving DecidableEq, Repr

def Pond.empty : Pond :=
  ⟨0, [], [], [], [], 0, [], [], [], [], [], [], 0, 0, false, []⟩

/-! ### Dials (06_dial_arbiter.md) -/

/-- A waiting request of a Dial: requester, bank of the group, rounds waited, starvation reported. -/
structure DialReq where
  req : Nat
  bank : Nat
  wait : Nat
  reported : Bool
deriving DecidableEq, Repr

/-- A Dial beside its registers: slot pointer, active table bank, ranks, waiting requests oldest first, drained. -/
structure Dial where
  slot : Nat
  active : Nat
  rank : KV Nat
  reqs : List DialReq
  drained : Bool
deriving DecidableEq, Repr

def Dial.idle : Dial := ⟨0, 0, [], [], false⟩

/-! ### Regulator (14_time_service.md) -/

/-- The time service: device time in units of 2^-32 ns (R368), VOFFSET in ns, ADDEND in 2^-32 ns per tick, remaining slew in
2^-32 ns, the step waiting for the next tick, status, holdover and its tick counts, and the accumulation of R379. -/
structure Tms where
  acc : Nat
  voffset : Nat
  addend : Nat
  slewRem : Int
  step : Option Int
  clamped : Bool
  steps : Nat
  holdover : Bool
  holdTicks : Nat
  limitReached : Bool
  accumulating : Bool
  lastErr : Int
  kickTicks : Nat
  refFrom : KV Nat
  refAt : KV Nat
deriving DecidableEq, Repr

def Tms.reset : Tms := ⟨0, 0, 0x0200000000, 0, none, false, 0, false, 0, false, false, 0, 0, [], []⟩

/-! ### Package power (15_sleep_and_wake.md) and the shores (12_shore_dies.md) -/

inductive PwrState where | run | doze | standby | sleep | off
deriving DecidableEq, Repr

/-- The package power state (R395) and its controller: the last request refused, the refuser, an entry into Standby under
way and how far it is, whether the main die is held in reset, the DRAM entering self-refresh. -/
structure Pwr where
  state : PwrState
  refused : Bool
  refuser : Nat
  entering : Option Nat
  held : Bool
deriving DecidableEq, Repr

inductive RelayState where | off | early | run | limp
deriving DecidableEq, Repr

/-- A relay table entry RE0–RE3 (R332): SOF of the last frame it forwarded, frames forwarded, frames dropped under MIN_GAP. -/
structure RelayEntry where
  e0 : Word
  e1 : Word
  e2 : Word
  e3 : Word
  last : Option Nat
  fwd : Nat
  gap : Nat
deriving DecidableEq, Repr

def RelayEntry.zero : RelayEntry := ⟨0, 0, 0, 0, none, 0, 0⟩

/-- The relay of a shore (R331–R334): state, the state before its last entry into Run, the instants of that entry and of the
last limp entry, a takeover instant that waits, entries, frames on their way to the partner shore with their channels. -/
structure Relay where
  state : RelayState
  prev : RelayState
  runAt : Nat
  limpAt : Nat
  takeover : Option Nat
  entries : KV RelayEntry
  crossing : List (Nat × CanFrame × Nat)
deriving DecidableEq, Repr

def Relay.reset : Relay := ⟨.off, .off, 0, 0, none, [], []⟩

/-- The shore controller (R327–R330): running, CRC failure, held after an ECC error until the next load, watchdog resets, bus
errors met while the link is down, SRAM words, words of the image written since LOAD. -/
structure ShoreCtl where
  running : Bool
  crcFail : Bool
  eccHold : Bool
  wdtResets : Nat
  busErr : Nat
  sram : KV Word
  words : Nat
deriving DecidableEq, Repr

def ShoreCtl.reset : ShoreCtl := ⟨false, false, false, 0, 0, [], 0⟩

/-- A register request that waits at a bridge (R308, R309); `ended` after its time-out. -/
structure ShoreReq where
  acc : Access
  ended : Bool
deriving DecidableEq, Repr

/-- The burst a bridge keeps for an initiator (R310): first address, words, device time of the burst. -/
structure Burst where
  init : Initiator
  addr : Nat
  words : List Word
  at_ : Nat
deriving DecidableEq, Repr

/-- The main-side bridge of a shore: link up, lanes in service, lanes' chip-reset notice owed at the next training, requests
outstanding, bursts, mirror of the INT levels by source key, NMI entries latched on the shore since the last poll. -/
structure Bridge where
  up : Bool
  lanes : Nat
  noticeOwed : Bool
  reqs : List ShoreReq
  bursts : List Burst
  mirror : KV Bool
  nmis : List Nat
deriving DecidableEq, Repr

def Bridge.reset : Bridge := ⟨false, 0, false, [], [], [], []⟩

/-- A shore die: powered, clocked (R531), shore time in 2^-32 ns with its last ADDEND, aligned (R376), shore time of the last
heartbeat, springs seen, latched wake reason (code, index, shore time), a spring since SPS EN was last cleared (R314 rule 5), a
partner wake on its way here, WAKE pin levels, INH outputs driven, in overcurrent, in their minimum off time, a release that
waits (R324), the Standby mark, outputs released for Standby (R398), VBAT and its minimum, under- and overvoltage, VCC5 low, over temperature, and what the
shore knows of the twin pair (R484): gate mask, the main die in Standby, TWIN_ROLE Mate; a power-on reset since it last held its
link (R434). -/
structure Shore where
  powered : Bool
  clocked : Bool
  time : Nat
  addend : Nat
  aligned : Bool
  beat : Nat
  seen : Nat
  reason : Option (Nat × Nat × Nat)
  sprung : Bool
  partner : Bool
  pins : Nat
  inhOn : Nat
  inhOc : Nat
  inhHold : Nat
  releasing : Bool
  mark : Bool
  stbyOff : Nat
  vbat : Nat
  vmin : Option Nat
  uv : Bool
  ov : Bool
  vcc5Low : Bool
  hot : Bool
  gate : Nat
  mainStby : Bool
  mate : Bool
  fresh : Bool
  relay : Relay
  ctl : ShoreCtl
deriving DecidableEq, Repr

def Shore.reset : Shore :=
  ⟨true, true, 0, 0x0200000000, false, 0, 0, none, false, false, 0, 0, 0, 0, false, false, 0, 0, none, false, false, false, false,
   0xFFFFFF, false, false, true, Relay.reset, ShoreCtl.reset⟩

/-- A transceiver (R313–R319): state code, ARMED, the state a resume is on its way to, DEC_ERR, transmitter off after a
dominant time-out. -/
structure Trx where
  state : Nat
  armed : Bool
  resume : Option Nat
  decErr : Nat
  txdDom : Bool
deriving DecidableEq, Repr

def Trx.reset : Trx := ⟨0, false, none, 0, false⟩

/-- A T1S line PHY (R337–R339): PLCA STATUS, PLCA_LOST, JABBER. -/
structure T1l where
  status : Bool
  lost : Bool
  jabber : Bool
deriving DecidableEq, Repr

def T1l.reset : T1l := ⟨false, false, false⟩

/-! ### NM units (15_sleep_and_wake.md) -/

/-- An NM unit (R388–R394): state code, LAST_CAUSE, descent under way, RMR and AW of this Repeat-Message, presence bits, PN
bits received. -/
structure NmUnit where
  state : Nat
  cause : Nat
  descent : Bool
  rmr : Bool
  aw : Bool
  pres : KV Bool
  pnrx : Nat
deriving DecidableEq, Repr

def NmUnit.off : NmUnit := ⟨0, 0, false, false, false, [], 0⟩

/-! ### CAN controllers (11_can_controllers.md) -/

/-- Where the frame of a transmit slot comes from: a class queue, the relay (with its SOF in shore time), or a reference
round. -/
inductive SlotSrc where
  | cls (c : Nat) | relay (sof : Nat) | sync | followUp
deriving DecidableEq, Repr

/-- A transmit slot in use (R288–R292): number, source, frame, SOF of the last attempt, committed, a cancel latched after
commitment, the port went down after commitment. -/
structure CxSlot where
  idx : Nat
  src : SlotSrc
  frame : Frame
  sof : Nat
  committed : Bool
  cancelled : Bool
  orphan : Bool
deriving DecidableEq, Repr

/-- A transmit event (R295). -/
structure TxEvent where
  outcome : Nat
  slot : Nat
  cls : Nat
  tag : Nat
  w7 : Word
  sof : Nat
  eofd : Nat
deriving DecidableEq, Repr

/-- A CAN controller beside its registers: error counters, CX_LASTERR, bus-off, recovery, integration, reception (with the
ingress claim: cells, or an overrun), slots, events and events lost, relay queue, auto-rate candidate with its good frames,
passes, lock and failure, error-burst windows (start, number, errors, reported), reference round step and SEQ. -/
structure Cx where
  txErr : Nat
  rxErr : Nat
  lec : Nat
  lecData : Bool
  busoff : Bool
  recovering : Bool
  recovSeq : Nat
  integrating : Bool
  rxActive : Bool
  claim : Option (Option Nat)
  slots : List CxSlot
  events : List TxEvent
  lost : Nat
  relayQ : List (Frame × Nat)
  abrCand : Option Nat
  abrGood : Nat
  abrPasses : Nat
  abrLocked : Bool
  abrLockCand : Nat
  abrFailed : Bool
  burstStart : Option Nat
  burstWin : Nat
  burstErrs : Nat
  burstDone : Bool
  refStep : Nat
  refSeq : Nat
deriving DecidableEq, Repr

def Cx.reset : Cx :=
  ⟨0, 0, 0, false, false, false, 0, false, false, none, [], [], 0, [], none, 0, 0, false, 0, false, none, 0, 0, false, 0, 0⟩

/-! ### Ethernet ports (13_ethernet_ports.md) -/

/-- An entry of a timestamp queue (R360): PTP, message type, domain, tag, sequence ID, captures lost after it, transmit time. -/
structure TsEntry where
  ptp : Bool
  msgType : Nat
  domain : Nat
  tag : Nat
  seqId : Nat
  lost : Nat
  time : Nat
deriving DecidableEq, Repr

/-- A gate schedule (R355): entries (OP and STATES, interval), cycle and base time in ns. -/
structure Schedule where
  entries : List (Nat × Nat)
  cycle : Nat
  base : Nat
deriving DecidableEq, Repr

/-- A frame in reception at an EMC: through the preemptable MAC, its frame number once it is presented to the fabric, the bytes
held while it is not, ingress time, discarded already. -/
structure MacRx where
  pre : Bool
  fid : Option Nat
  held : List Byte
  time : Nat
  dead : Bool
deriving DecidableEq, Repr

/-- How the MACsec egress pipeline treats a frame, as its entries stood when it began (R267, R268): unchanged, refused, its SA
exhausted, or protected with the SecY's D0, a packet number (taken already or not) of an SA, the SCI, the IV and the key. -/
inductive SecPlan where
  | pass | refuse | exhausted (hdr : Nat)
  | protect (d0 sa pn sci : Nat) (iv key : List Byte) (taken : Bool)
deriving DecidableEq, Repr

/-- A cut-through frame that a port is sending: its number, its rewrite profile and its MACsec treatment, as they stood when it
began. -/
structure Sending where
  fid : Nat
  prof : Nat
  plan : SecPlan
deriving DecidableEq, Repr

/-- An EMC beside its registers: PCS link up with its speed code and AN_DONE, frames in reception, timestamp queue, operational
and pending schedule, the instant at which the pending one starts, the hold of preemptable transmission, verification state and
attempts, wake pattern matched, credits per class in 10^-6 bit with the device time of their last change, the cut-through frame
it is sending, MDIO read data. -/
structure Emc where
  up : Bool
  speed : Nat
  anDone : Bool
  rx : List MacRx
  tsq : List TsEntry
  oper : Option Schedule
  pend : Option Schedule
  pendAt : Nat
  hold : Bool
  verify : Nat
  tries : Nat
  wake : Option Nat
  credit : KV Int
  creditAt : Nat
  sending : Option Sending
  mdio : Nat
deriving DecidableEq, Repr

def Emc.reset : Emc := ⟨false, 0, false, [], [], none, none, 0, false, 0, 0, none, [], 0, none, 0⟩

/-- A FRER stream of EMC[0] (R364): D0, GEN_SEQ, RECOV_SEQ, HIST, TAKE_ANY and its counts. -/
structure Frer where
  d0 : Word
  gen : Nat
  recov : Nat
  hist : Nat
  takeAny : Bool
  cnt : KV Nat
  timer : Option Nat
deriving DecidableEq, Repr

def Frer.zero : Frer := ⟨0, 0, 0, 0, false, [], none⟩

/-! ### Classification, EMT, WCT (07_classification_tables.md) -/

/-- An EMT entry: 16-byte key (K[0] most significant) and action record A0–A3 (R175). A0.VALID 0 is a free slot. -/
structure EmtEntry where
  key : BitVec 128
  a0 : Word
  a1 : Word
  a2 : Word
  a3 : Word
deriving DecidableEq, Repr

def EmtEntry.free : EmtEntry := ⟨0, 0, 0, 0, 0⟩

/-- A WCT entry: ternary key, action, hits (R173). -/
structure WctEntry where
  value : BitVec 128
  mask : BitVec 128
  a0 : Word
  a1 : Word
  a2 : Word
  a3 : Word
  hits : Nat
deriving DecidableEq, Repr

def WctEntry.free : WctEntry := ⟨0, 0, 0, 0, 0, 0, 0⟩

inductive ResvKind where | insert | modify | delete | rehome
deriving DecidableEq, Repr

/-- The held reservation (R168): what EXEC will do, the planned slot addresses, key and action, the groups it holds (way * 8192
+ bucket of the table, 16384 + index of the stash), the groups whose RR pointer EXEC advances, the slot address it concerns,
and expiry (R171). -/
structure Resv where
  kind : ResvKind
  plan : List Nat
  key : BitVec 128
  act : List Word
  held : List Nat
  victims : List Nat
  place : Nat
  expired : Bool
deriving DecidableEq, Repr

inductive LearnKind where | learn | refresh | move | ageOut
deriving DecidableEq, Repr

/-- An item of the learning queue (R180, R181): key, port, kind, the frame it waits for while that is in reception, and whether
the twin partner sent it (R492). -/
structure LearnItem where
  key : BitVec 128
  port : Nat
  kind : LearnKind
  waits : Option Nat
  twin : Bool
deriving DecidableEq, Repr

/-- The EMT beside its registers: entries by slot address, RR pointers by way * 8192 + bucket, reservation, learning queue,
flush that runs (port, all, by firmware), flushes that wait, scrubber position,
the vault time at which its pass began, and the keys of the entries learned from the twin partner (R492). -/
structure Emt where
  entries : KV EmtEntry
  rr : KV Nat
  resv : Option Resv
  queue : List LearnItem
  flush : Option (Nat × Bool × Bool)
  flushWait : List Nat
  scrubPos : Nat
  scrubStart : Nat
  foreign : List (BitVec 128)
deriving DecidableEq, Repr

/-! ### Policing and cadence (08_policing_and_filtering.md) -/

/-- A policer entry with its token buckets in 1/65,536 of a byte or frame, last refill in vault ns, and counts. -/
structure Policer where
  d0 : Word
  d1 : Word
  d2 : Word
  d3 : Word
  tc : Nat
  tp : Nat
  last : Nat
  green : Nat
  yellow : Nat
  red : Nat
deriving DecidableEq, Repr

def Policer.zero : Policer := ⟨0, 0, 0, 0, 0, 0, 0, 0, 0, 0⟩

/-- A gate configuration D0–D5. -/
structure GateCfg where
  d0 : Word
  d1 : Word
  d2 : Word
  d3 : Word
  d4 : Word
  d5 : Word
deriving DecidableEq, Repr

/-- A stream gate: operational and pending configuration, the instant of the change, frames met closed (R199). -/
structure Gate where
  cfg : GateCfg
  pend : Option GateCfg
  pendAt : Nat
  closed : Nat
deriving DecidableEq, Repr

def Gate.zero : Gate := ⟨⟨0, 0, 0, 0, 0, 0⟩, none, 0, 0⟩

inductive CadState where | unsynced | running | missing
deriving DecidableEq, Repr

/-- A cadence entry: configuration, state, LAST in ns, time of the next repeated report, counts. -/
structure Cadence where
  d0 : Word
  d1 : Word
  state : CadState
  last : Nat
  nextRep : Nat
  early : Nat
  miss : Nat
deriving DecidableEq, Repr

def Cadence.zero : Cadence := ⟨0, 0, .unsynced, 0, 0, 0, 0⟩

/-- POL beside its registers: policers, gates, GCL entries, and per violation code the vault time of the last notice plus one
(0 none) and the detections suppressed since. -/
structure Pol where
  policers : KV Policer
  gates : KV Gate
  gcl : KV Word
  vnLast : KV Nat
  vnSupp : KV Nat
deriving DecidableEq, Repr

/-! ### Ledger and capture (20_capture_and_ledger.md) -/

/-- An entry of the ledger's event queue (R508): vault TYPE and 36-byte payload. -/
structure LdgEvent where
  typ : Nat
  payload : List Byte
deriving DecidableEq, Repr

/-- The ledger (R506–R508): live counts and snapshot by image offset, retired banks, event queue. -/
structure Ldg where
  live : KV Nat
  snap : KV Nat
  retired : Nat
  events : List LdgEvent
deriving DecidableEq, Repr

/-- A capture ring's state (R498–R503). -/
inductive RingState where | stopped | running | triggered | frozen
deriving DecidableEq, Repr

/-- A capture ring: state, next sequence number, offsets, post-trigger bytes written since the trigger, the record being
written (its length and whether it is the trigger record), the records that are whole as (offset, length) oldest first,
commands that wait for the record's end, a digest in progress, DIGEST_DONE and the digest. -/
structure Ring where
  state : RingState
  seq : Nat
  next : Nat
  trigOff : Nat
  post : Nat
  writing : Option (Nat × Nat × Bool)
  records : List (Nat × Nat)
  cmds : List Nat
  sealing : Bool
  done : Bool
  digest : List Byte
deriving DecidableEq, Repr

def Ring.idle : Ring := ⟨.stopped, 0, 0, 0, 0, none, [], [], false, false, []⟩

/-! ### Signal engine (09_signal_engine.md) -/

/-- The running state of a SIGNALS definition (R226, R227): vault time of the last reception or of the apply, timed out. -/
structure DefRun where
  last : Option Nat
  out : Bool
deriving DecidableEq, Repr

def DefRun.idle : DefRun := ⟨none, false⟩

/-- An output buffer's live data and emission history (R228, R229): data, vault time and bytes of the last emission, due time
of a pending emission, and the tick up to which its cyclic emissions have left (R230). -/
structure BufRun where
  data : List Byte
  last : Option Nat
  sent : List Byte
  pend : Option Nat
  cyc : Nat
deriving DecidableEq, Repr

def BufRun.reset : BufRun := ⟨List.replicate 64 0, none, [], none, 0⟩

/-- States of a transport session (R234, R238); in `done` the last packet is stored and the Pond's admission is awaited
(R236). -/
inductive SessState where | bam | data | waitCts | done | txBam | txWait
deriving DecidableEq, Repr

/-- A J1939 transport session: number, definition, identity, protocol, role, message, packets, and the frame it fills or sends.
`next` is the next packet expected or to send, `winEnd` the last one of the window, `base` the packet offset of the last DPO;
`since` is the vault time at which its timer started, `held` that a CTS for 0 packets started T4. -/
structure Session where
  sid : Nat
  defn : Nat
  tx : Bool
  chan : Nat
  sa : Nat
  da : Nat
  etp : Bool
  respond : Bool
  state : SessState
  pgn : Nat
  prio : Nat
  size : Nat
  limit : Nat
  data : List Byte
  next : Nat
  winEnd : Nat
  base : Option Nat
  fid : Option Nat
  since : Nat
  held : Bool
deriving DecidableEq, Repr

/-- The open bundle of a stream: vault time of its opening and its ACF messages (R244). -/
structure Bundle where
  opened : Nat
  msgs : List Byte
deriving DecidableEq, Repr

/-- SGE beside its registers: table words keyed by object, index and word (live and shadow), running state of definitions and
buffers, sessions, claim entries, open bundles, next and last sequence numbers, microcode words, and the tick in which the
engine last began to run. -/
structure Sge where
  live : KV Word
  shad : KV Word
  defs : KV DefRun
  bufs : KV BufRun
  sessions : List Session
  claims : KV (Option DWord)
  bundles : KV (Option Bundle)
  seqOut : KV Nat
  seqIn : KV (Option Nat)
  ucode : KV Word
  since : Nat
deriving DecidableEq, Repr

/-- What becomes of a taken frame after its work: it ends, or returns under KEEP; or stays in egress storage for a session; or
is discarded (R218, R237, R244, R246). -/
inductive TakenEnd where | over | held | discarded
deriving DecidableEq, Repr

def Sge.reset : Sge := ⟨[], [], [], [], [], [], [], [], [], [], 0⟩

/-! ### Fuses, Jewel store, random numbers, records vault (18_key_store_and_vault.md) -/

/-- The fuse array (R459): bytes of the hashes, epoch bits, LIFECYCLE bits, certificate store. -/
structure Fuses where
  dus : List Byte
  vroot : List Byte
  croot : List Byte
  epoch : KV DWord
  life : Nat
  vaultInit : Bool
  cert : List Byte
deriving DecidableEq, Repr

/-- Fuses as manufactured: nothing programmed (state Blank). -/
def Fuses.blank : Fuses := ⟨List.replicate 32 0, List.replicate 48 0, List.replicate 48 0, [], 0, false, []⟩

/-- A key slot: attribute word (R463) and key material. -/
structure Slot where
  attr : Word
  key : List Byte
deriving DecidableEq, Repr

def Slot.empty : Slot := ⟨0, []⟩

/-- JWL beside its registers: slots, masks of the 514 stored keys, the root class of the last root derivation, the fuse request
in progress. -/
structure Jewel where
  slots : KV Slot
  masks : KV (List Byte)
  rootClass : Option Nat
  fuseReq : Option Nat
deriving DecidableEq, Repr

/-- VLT beside its registers: records of the open block (none: no block is open), hash of the block before it, the vault time of
its first record, and whether a sealed block is being written. -/
structure Vault where
  records : Option (List (List Byte))
  prevHash : List Byte
  writing : Option (List Byte)
deriving DecidableEq, Repr

def Vault.reset : Vault := ⟨none, List.replicate 32 0, none⟩

/-! ### Authentication engine (10_authentication_engine.md) -/

/-- A freshness entry: E0–E2, COUNTER, failure counts. -/
structure Fresh where
  e0 : Word
  e1 : Word
  e2 : Word
  counter : Nat
  fails : Nat
  replays : Nat
deriving DecidableEq, Repr

def Fresh.zero : Fresh := ⟨0, 0, 0, 0, 0, 0⟩

/-- The key that an AES core keeps loaded (R263): handle, key, device time of its last use. -/
structure Loaded where
  handle : Nat
  key : List Byte
  last : Nat
deriving DecidableEq, Repr

/-- AUE beside its registers: freshness entries, the words of SecY, SC and SA entries keyed by object, index and word, the SecY
counters keyed by 8m + word, and the keys loaded in the AES cores (0 CMAC, 1 and 2 the ingress and the egress pipeline). -/
structure Aue where
  fresh : KV Fresh
  sec : KV Word
  cnt : KV Nat
  cores : KV (Option Loaded)
deriving DecidableEq, Repr

/-! ### Core queues, interrupt routers, memory controllers (16_processors_and_core_queues.md) -/

/-- An Outlet (R422–R426): its frames oldest first, the items of the oldest one already popped, the configuration and notice
words that govern until that frame ends, whether the oldest frame has been found older than AGE, and the device time at which
each frame entered. -/
structure Outlet where
  frames : List Nat
  popped : Nat
  cfg : Nat
  notice : Nat
  aged : Bool
  since : List Nat
deriving DecidableEq, Repr

def Outlet.empty : Outlet := ⟨[], 0, 0, 0, false, []⟩

/-- An Inlet (R427–R430): words of the tag in progress, the mode it was begun in, the frame whose payload is in progress with
the bytes it needs in raw mode and those received, whether its rest is discarded, and the frames that still wait for their
admission decision with the words they stage. -/
structure Inlet where
  words : List DWord
  tagged : Bool
  fid : Option Nat
  need : Nat
  data : List Byte
  dead : Bool
  staged : List (Nat × Nat)
deriving DecidableEq, Repr

def Inlet.empty : Inlet := ⟨[], false, none, 0, [], false, []⟩

/-- An interrupt router (R420, R421): claims as (input, target), and per target the queue of NMI entries and the entries lost. -/
structure Irt where
  claims : List (Nat × Nat)
  nmi : KV (List Nat)
  lost : KV Nat
deriving DecidableEq, Repr

def Irt.reset : Irt := ⟨[], [], []⟩

/-- DMC beside its registers: a RESTORE under way (R410), a self-refresh entry that waits for the DRAM Dial (R397). -/
structure Dmc where
  restoring : Bool
  entering : Bool
deriving DecidableEq, Repr

/-- XSP beside its registers: the chip select that is polled, window reads that wait for it (R416). -/
structure Xsp where
  cs : Nat
  waiting : List Access
deriving DecidableEq, Repr

/-! ### Crown and start (17_start_and_update.md) -/

/-- The TABLE_IMAGE that the Crown has still to apply (R442): flash offset and length of its body, the record it has reached, the
data bytes of that record done, and the device time at which the record's poll began. -/
structure TableRun where
  base : Nat
  len : Nat
  off : Nat
  pos : Nat
  since : Option Nat
deriving DecidableEq, Repr

/-- Crown control: ticks of 2 ns since the last kick while the watchdog runs, WARN, the ROM halted (R435), the entry address at
which each Movement core started (R457), the retained digests by image type (R437), and the TABLE_IMAGE of this start. -/
structure Crown where
  wdtTicks : Nat
  warn : Bool
  halted : Bool
  starts : KV Nat
  digests : KV (List Byte)
  table : Option TableRun
deriving DecidableEq, Repr

def Crown.reset : Crown := ⟨0, false, false, [], [], none⟩

/-- The Unnov session (R450–R456): client host, whether PROVE has opened it, HELLO body, 0x81 body, leaf key, session key,
SESSION, last SEQ, stored last answer, and whether that request was executed; the type being staged with the next block
index; a restart that follows 100 ms after its answer; the last message sent (empty: the request was
discarded); the Crown's ledger image, empty until it is loaded (R509), and the counts by image offset that the Crown has still to add
to it (R506). -/
structure Unnov where
  host : Option Nat
  opened : Bool
  hello : List Byte
  reply : List Byte
  leaf : List Byte
  key : List Byte
  session : Nat
  seq : Nat
  last : List Byte
  stage : Option (Nat × Nat)
  restart : Option Nat
  sent : List Byte
  image : List Byte
  fed : KV Nat
deriving DecidableEq, Repr

def Unnov.idle : Unnov := ⟨none, false, [], [], [], [], 0, 0, [], none, none, [], [], []⟩

/-! ### The twin link (19_twin_pair.md) -/

/-- A local bridge access that waits for its response (R493, R495). -/
structure BridgeReq where
  init : Initiator
  write : Bool
  addr : Nat
  data : Nat
deriving DecidableEq, Repr

/-- TWL beside its registers: Active (while EN is 1), YIELDED, the pattern read on TWIN_FENCE_IN (0 DEAD, 1 STBY, 2 ALIVE),
MISSES, the partner's last heartbeat (ACTIVE, YIELDED), lanes in service, heartbeats sent, last SEQ sent and received in order
per virtual channel, bridge accesses that wait. -/
structure Twin where
  active : Bool
  yielded : Bool
  fence : Nat
  misses : Nat
  peerActive : Bool
  peerYielded : Bool
  lanes : Nat
  sent : Nat
  txSeq : KV Nat
  rxSeq : KV Nat
  reqs : List BridgeReq
deriving DecidableEq, Repr

def Twin.reset : Twin := ⟨false, false, 0, 0, false, false, 0, 0, [], [], []⟩

/-! ### The whole state -/

/-- Why a step could stop with a fault. No command of this block stops: a bus error answers the access and the machine goes
on (R61). The one reason is kept for the interface and is raised by nobody; safe. -/
inductive Fault where
  | none
deriving DecidableEq, Repr

/-- Why a command could be refused: raised by `exec` for a command whose meaning is not modelled yet; safe, since the machine
then takes no step. -/
inductive Refusal where
  | notModelled (mnemonic : String)
deriving DecidableEq, Repr

/-- The machine's state. Registers live in `regs` (and `shad` for the shadows of SH fields), keyed by window and offset;
a register that is not listed holds its reset value. -/
structure State where
  /-- commands waiting, first in, first out -/
  pending : List Instr
  regs : KV Word
  shad : KV Word
  wins : KV Win
  bus : BusAnswer
  deferred : List Waiting
  shared : Shared
  icxLog : List BusErr
  icxLost : Nat
  sources : KV Source
  /-- conditions posted inside the running step; empty between steps -/
  posts : List Post
  errPin : ErrPin
  bal : Bal
  trains : KV Train
  pairs : KV Pair
  rsqPeak : KV Nat
  pond : Pond
  dials : KV Dial
  tms : Tms
  ldg : Ldg
  rings : KV Ring
  emt : Emt
  wct : KV WctEntry
  pset : KV DWord
  pol : Pol
  cdm : KV Cadence
  pwr : Pwr
  shores : KV Shore
  mem : KV Byte
  nor : KV Byte
  sge : Sge
  fuses : Fuses
  jwl : Jewel
  trnReqs : Nat
  vlt : Vault
  aue : Aue
  bridges : KV Bridge
  trx : KV Trx
  t1l : KV T1l
  cx : KV Cx
  nm : KV NmUnit
  nmReports : List Nat
  s2s : Bool
  emc : KV Emc
  frer : KV Frer
  flow : KV Nat
  wakeFids : List Nat
  outlets : KV Outlet
  inlets : KV Inlet
  irts : KV Irt
  dmc : Dmc
  xsp : Xsp
  crn : Crown
  unnov : Unnov
  straps : Nat
  twin : Twin
  /-- draws made from the free values of Config (the model's own counter) -/
  free : Nat
deriving DecidableEq, Repr

/-- The machine right after reset: every register at the reset value of its map, tables, queues and counters empty. -/
def State.reset : State where
  pending := []
  regs := []
  shad := []
  wins := []
  bus := ⟨0, 0⟩
  deferred := []
  shared := ⟨false, false, false, false, 0, 0, [], none, false, 0⟩
  icxLog := []
  icxLost := 0
  sources := []
  posts := []
  errPin := ⟨false, false, false, false⟩
  bal := Bal.reset
  trains := []
  pairs := []
  rsqPeak := []
  pond := Pond.empty
  dials := []
  tms := Tms.reset
  ldg := ⟨[], [], 0, []⟩
  rings := []
  emt := ⟨[], [], none, [], none, [], 0, 0, []⟩
  wct := []
  pset := []
  pol := ⟨[], [], [], [], []⟩
  cdm := []
  pwr := ⟨.run, false, 0, none, false⟩
  shores := []
  mem := []
  nor := []
  sge := Sge.reset
  fuses := Fuses.blank
  jwl := ⟨[], [], none, none⟩
  trnReqs := 0
  vlt := Vault.reset
  aue := ⟨[], [], [], []⟩
  bridges := []
  trx := []
  t1l := []
  cx := []
  nm := []
  nmReports := []
  s2s := false
  emc := []
  frer := []
  flow := []
  wakeFids := []
  outlets := []
  inlets := []
  irts := []
  dmc := ⟨false, false⟩
  xsp := ⟨0, []⟩
  crn := Crown.reset
  unnov := Unnov.idle
  straps := 0
  twin := Twin.reset
  free := 0

end Sys2Proof.Machine
end

