-- ==== Sys2Proof/Machine/Ops.lean ====
section
/-! DEFINITION. The named operations over numbers, sparse stores, bytes and frames that every meaning is written with. -/
namespace Sys2Proof.Machine

/-! ### Bit fields of a number -/

/-- Bits [hi:lo] of `n` (R17). -/
def bits (n hi lo : Nat) : Nat := (n >>> lo) % 2 ^ (hi + 1 - lo)

/-- Bit `i` of `n`. -/
def bit (n i : Nat) : Bool := n.testBit i

/-- `n` with bits [hi:lo] replaced by `v`. -/
def putBits (n hi lo v : Nat) : Nat :=
  n - (bits n hi lo <<< lo) + ((v % 2 ^ (hi + 1 - lo)) <<< lo)

/-- `n` with bit `i` set to `b`. -/
def putBit (n i : Nat) (b : Bool) : Nat := putBits n i i (if b then 1 else 0)

/-- `n` without the bits of `m`, for numbers below 2^32. -/
def clearMask (n m : Nat) : Nat := n &&& (0xFFFFFFFF ^^^ (m % 2 ^ 32))

/-- 1 for true: a status bit as a number. -/
def b2n (b : Bool) : Nat := if b then 1 else 0

/-- A counter that saturates at `2^w - 1` (R15). -/
def satAdd (w n k : Nat) : Nat := min (n + k) (2 ^ w - 1)

/-- A two's complement number of `w` bits. -/
def toSigned (w n : Nat) : Int :=
  if n % 2 ^ w < 2 ^ (w - 1) then ((n % 2 ^ w : Nat) : Int) else ((n % 2 ^ w : Nat) : Int) - ((2 ^ w : Nat) : Int)

/-- The `w`-bit two's complement code of an integer. -/
def ofSigned (w : Nat) (i : Int) : Nat := (i % ((2 ^ w : Nat) : Int)).toNat

/-! ### Sparse stores -/

/-- The value at key `k`, `d` where none is listed. -/
def kvGet {α : Type} (d : α) : KV α → Nat → α
  | [], _ => d
  | (j, v) :: t, k => if j = k then v else kvGet d t k

/-- Insert `v` at key `k`, before the first greater key. -/
def kvIns {α : Type} : KV α → Nat → α → KV α
  | [], k, v => [(k, v)]
  | (j, w) :: t, k, v => if k < j then (k, v) :: (j, w) :: t else (j, w) :: kvIns t k v

/-- Write `v` at key `k`, whose default is `d`; the canonical form is kept (rising keys, no default listed). -/
def kvSet {α : Type} [DecidableEq α] (d : α) (m : KV α) (k : Nat) (v : α) : KV α :=
  let m := m.filter fun e => e.1 != k
  if v = d then m else kvIns m k v

/-- Keep only the keys that satisfy `p`. -/
def kvFilter {α : Type} (p : Nat → Bool) (m : KV α) : KV α := m.filter fun e => p e.1

/-- The canonical form of a store with constant default. -/
def kvWf {α : Type} [DecidableEq α] (d : α) : KV α → Bool
  | [] => true
  | [(_, v)] => decide (v ≠ d)
  | (j, v) :: (k, w) :: t => decide (v ≠ d) && decide (j < k) && kvWf d ((k, w) :: t)

/-! ### Lists -/

/-- Replace the first element that satisfies `p`. -/
def updFirst {α : Type} (p : α → Bool) (f : α → α) : List α → List α
  | [] => []
  | x :: t => if p x then f x :: t else x :: updFirst p f t

/-- Remove the first element that satisfies `p`. -/
def delFirst {α : Type} (p : α → Bool) : List α → List α
  | [] => []
  | x :: t => if p x then t else x :: delFirst p t

/-- Fold `f` over the numbers `a, …, a+n-1` in rising order. -/
def foldRange {σ : Type} (f : σ → Nat → σ) (s : σ) (a : Nat) : Nat → σ
  | 0 => s
  | n + 1 => foldRange f (f s a) (a + 1) n

/-- The first of `n` numbers starting at `a`, counted upward modulo `m`, that satisfies `p`. -/
def findFrom (p : Nat → Bool) (m a : Nat) : Nat → Option Nat
  | 0 => none
  | n + 1 => if p (a % m) then some (a % m) else findFrom p m (a + 1) n

/-! ### Bytes -/

/-- The number that bytes spell, first byte most significant. -/
def beNat (l : List Byte) : Nat := l.foldl (fun a b => a * 256 + b.toNat) 0

/-- The number that bytes spell, first byte least significant. -/
def leNat : List Byte → Nat
  | [] => 0
  | b :: t => b.toNat + 256 * leNat t

/-- `n` bytes of `v`, most significant first. -/
def beBytes : Nat → Nat → List Byte
  | 0, _ => []
  | n + 1, v => BitVec.ofNat 8 (v >>> (8 * n)) :: beBytes n v

/-- `n` bytes of `v`, least significant first. -/
def leBytes : Nat → Nat → List Byte
  | 0, _ => []
  | n + 1, v => BitVec.ofNat 8 v :: leBytes n (v >>> 8)

/-- Byte `i`, 0 beyond the end. -/
def byteAt (l : List Byte) (i : Nat) : Nat := ((l[i]?).getD 0).toNat

/-- `n` bytes from `i`. -/
def slice (l : List Byte) (i n : Nat) : List Byte := (l.drop i).take n

/-- `l` with the bytes from `i` on replaced by `v`, as far as `l` reaches. -/
def splice (l : List Byte) (i : Nat) (v : List Byte) : List Byte :=
  (l.take i ++ v ++ l.drop (i + v.length)).take l.length

/-- `n` zero bytes. -/
def zeros (n : Nat) : List Byte := List.replicate n 0

/-! ### Location codes (R2, R3) -/

/-- A location code from its fields. -/
def locCode (die block unit stage bitn : Nat) : Nat :=
  (die % 4) * 2 ^ 30 + (block % 1024) * 2 ^ 20 + (unit % 64) * 2 ^ 14 + (stage % 256) * 2 ^ 6 + bitn % 64

/-- The die of a window (R4). -/
def dieOf (w : Nat) : Nat := if w < 0x200 then 0 else if w < 0x300 then 1 else 2

/-- A report of a block's own unit, with no stage or bit that applies. -/
def locUnit (w unit : Nat) : Nat := locCode (dieOf w) w unit 0xFF 0x3F

/-- A report to which no field below BLOCK applies (R3). -/
def locBlock (w : Nat) : Nat := locCode (dieOf w) w 0x3F 0xFF 0x3F

/-! ### Cells (R91) -/

/-- The cells that a payload of `l` bytes occupies. -/
def cellsOf (l : Nat) : Nat := if l ≤ 16 then 1 else 1 + (l - 16 + 63) / 64

end Sys2Proof.Machine
end

