-- ==== Sys2Proof/Machine/TagOps.lean ====
section
/-! DEFINITION. The fields of the frame tag (R83): readers, writers, and the tag an ingress writes. -/
namespace Sys2Proof.Machine

/-- Bits [hi:lo] of a tag word. -/
def wf (w : Word) (hi lo : Nat) : Nat := bits w.toNat hi lo

/-- A tag word with bits [hi:lo] replaced. -/
def wput (w : Word) (hi lo v : Nat) : Word := BitVec.ofNat 32 (putBits w.toNat hi lo v)

end Sys2Proof.Machine

namespace Sys2Proof
open Sys2Proof.Machine

/-! ### The frame tag (R83) -/

/-- Word `i` of the tag. -/
def Tag.word (t : Tag) : Nat → Word
  | 0 => t.w0 | 1 => t.w1 | 2 => t.w2 | 3 => t.w3 | 4 => t.w4 | 5 => t.w5
  | 6 => t.w6 | 7 => t.w7 | 8 => t.w8 | 9 => t.w9 | 10 => t.w10 | _ => t.w11

def Tag.tagver (t : Tag) : Nat := wf t.w0 31 28
def Tag.kind (t : Tag) : Nat := wf t.w0 27 24
def Tag.srcPort (t : Tag) : Nat := wf t.w0 23 16
def Tag.dstPort (t : Tag) : Nat := wf t.w0 15 8
def Tag.cls (t : Tag) : Nat := wf t.w0 7 5
def Tag.dropPrec (t : Tag) : Nat := wf t.w0 4 3
def Tag.cm (t : Tag) : Bool := wf t.w0 2 2 == 1
def Tag.trunc (t : Tag) : Bool := wf t.w0 1 1 == 1
def Tag.err (t : Tag) : Bool := wf t.w0 0 0 == 1
def Tag.length (t : Tag) : Nat := wf t.w1 31 16
def Tag.flow (t : Tag) : Nat := wf t.w1 15 0
def Tag.seq (t : Tag) : Nat := wf t.w2 31 16
def Tag.portset (t : Tag) : Nat := wf t.w2 15 0
def Tag.auth (t : Tag) : Nat := wf t.w3 31 30
def Tag.viol (t : Tag) : Nat := wf t.w3 29 24
def Tag.capture (t : Tag) : Bool := wf t.w3 23 23 == 1
def Tag.coreCopy (t : Tag) : Bool := wf t.w3 22 22 == 1
def Tag.mirror (t : Tag) : Bool := wf t.w3 21 21 == 1
def Tag.noLearn (t : Tag) : Bool := wf t.w3 20 20 == 1
def Tag.engDone (t : Tag) : Bool := wf t.w3 19 19 == 1
def Tag.passes (t : Tag) : Nat := wf t.w3 18 17
def Tag.ct (t : Tag) : Bool := wf t.w3 16 16 == 1
def Tag.queue (t : Tag) : Nat := wf t.w3 15 8
def Tag.color (t : Tag) : Nat := wf t.w3 7 6
def Tag.frerSeq (t : Tag) : Nat := wf t.w4 31 16
def Tag.pdu (t : Tag) : Nat := wf t.w4 15 0
def Tag.timestamp (t : Tag) : Nat := t.w5.toNat * 2 ^ 32 + t.w6.toNat
def Tag.freshIdx (t : Tag) : Nat := wf t.w10 31 16
def Tag.keyHandle (t : Tag) : Nat := wf t.w10 15 0

def Tag.setTagver (t : Tag) (v : Nat) : Tag := { t with w0 := wput t.w0 31 28 v }
def Tag.setKind (t : Tag) (v : Nat) : Tag := { t with w0 := wput t.w0 27 24 v }
def Tag.setSrcPort (t : Tag) (v : Nat) : Tag := { t with w0 := wput t.w0 23 16 v }
def Tag.setDstPort (t : Tag) (v : Nat) : Tag := { t with w0 := wput t.w0 15 8 v }
def Tag.setCls (t : Tag) (v : Nat) : Tag := { t with w0 := wput t.w0 7 5 v }
def Tag.setDropPrec (t : Tag) (v : Nat) : Tag := { t with w0 := wput t.w0 4 3 v }
def Tag.setCm (t : Tag) (b : Bool) : Tag := { t with w0 := wput t.w0 2 2 (b2n b) }
def Tag.setTrunc (t : Tag) (b : Bool) : Tag := { t with w0 := wput t.w0 1 1 (b2n b) }
def Tag.setErr (t : Tag) (b : Bool) : Tag := { t with w0 := wput t.w0 0 0 (b2n b) }
def Tag.setLength (t : Tag) (v : Nat) : Tag := { t with w1 := wput t.w1 31 16 v }
def Tag.setFlow (t : Tag) (v : Nat) : Tag := { t with w1 := wput t.w1 15 0 v }
def Tag.setSeq (t : Tag) (v : Nat) : Tag := { t with w2 := wput t.w2 31 16 v }
def Tag.setPortset (t : Tag) (v : Nat) : Tag := { t with w2 := wput t.w2 15 0 v }
def Tag.setAuth (t : Tag) (v : Nat) : Tag := { t with w3 := wput t.w3 31 30 v }
def Tag.setCapture (t : Tag) (b : Bool) : Tag := { t with w3 := wput t.w3 23 23 (b2n b) }
def Tag.setCoreCopy (t : Tag) (b : Bool) : Tag := { t with w3 := wput t.w3 22 22 (b2n b) }
def Tag.setMirror (t : Tag) (b : Bool) : Tag := { t with w3 := wput t.w3 21 21 (b2n b) }
def Tag.setNoLearn (t : Tag) (b : Bool) : Tag := { t with w3 := wput t.w3 20 20 (b2n b) }
def Tag.setEngDone (t : Tag) (b : Bool) : Tag := { t with w3 := wput t.w3 19 19 (b2n b) }
def Tag.setPasses (t : Tag) (v : Nat) : Tag := { t with w3 := wput t.w3 18 17 v }
def Tag.setCt (t : Tag) (b : Bool) : Tag := { t with w3 := wput t.w3 16 16 (b2n b) }
def Tag.setQueue (t : Tag) (v : Nat) : Tag := { t with w3 := wput t.w3 15 8 v }
def Tag.setColor (t : Tag) (v : Nat) : Tag := { t with w3 := wput t.w3 7 6 v }
def Tag.setFrerSeq (t : Tag) (v : Nat) : Tag := { t with w4 := wput t.w4 31 16 v }
def Tag.setPdu (t : Tag) (v : Nat) : Tag := { t with w4 := wput t.w4 15 0 v }
def Tag.setTimestamp (t : Tag) (ns : Nat) : Tag :=
  { t with w5 := BitVec.ofNat 32 (ns >>> 32), w6 := BitVec.ofNat 32 ns }
def Tag.setFreshIdx (t : Tag) (v : Nat) : Tag := { t with w10 := wput t.w10 31 16 v }
def Tag.setKeyHandle (t : Tag) (v : Nat) : Tag := { t with w10 := wput t.w10 15 0 v }

/-- A block writes VIOL only while it is 0x00 (R87). -/
def Tag.codeViol (t : Tag) (v : Nat) : Tag := if t.viol = 0 then { t with w3 := wput t.w3 29 24 v } else t

/-- The tag of no frame: all words 0. -/
def Tag.zero : Tag := ⟨0, 0, 0, 0, 0, 0, 0, 0, 0, 0, 0, 0⟩

/-- A tag as its ingress writes it: TAGVER 1, kind, source port, destination none by the tag (0xFF), FLOW 0xFFFF, time. -/
def Tag.fresh (kind port ts : Nat) : Tag :=
  (((((Tag.zero.setTagver 1).setKind kind).setSrcPort port).setDstPort 0xFF).setFlow 0xFFFF).setTimestamp ts

/-- The 48 bytes of a tag, W0 first, each word most significant byte first. -/
def Tag.bytesBE (t : Tag) : List Byte :=
  (List.range 12).flatMap fun i => beBytes 4 (t.word i).toNat

/-- The tag with word `i` replaced. -/
def Tag.setWord (t : Tag) (i : Nat) (v : Word) : Tag :=
  match i with
  | 0 => { t with w0 := v } | 1 => { t with w1 := v } | 2 => { t with w2 := v } | 3 => { t with w3 := v }
  | 4 => { t with w4 := v } | 5 => { t with w5 := v } | 6 => { t with w6 := v } | 7 => { t with w7 := v }
  | 8 => { t with w8 := v } | 9 => { t with w9 := v } | 10 => { t with w10 := v } | _ => { t with w11 := v }

/-- The initiator code of R61. -/
def Initiator.code : Initiator → Nat
  | .crown => 0 | .mov0 => 1 | .mov1 => 2 | .mov2 => 3 | .mov3 => 4 | .twin => 5 | .debug => 6 | .capture => 7
  | .shcA => 8 | .shcB => 9

end Sys2Proof
end

