-- ==== Sys2Proof/Machine/Windows.lean ====
section
/-! DEFINITION. The block map: which block a window index holds (R7, R8), its instance number (R38), the fault sources it owns
(R418 and the source tables of the chapters), and the register row behind an offset. -/
namespace Sys2Proof.Machine

/-- The block types of R38, by their codes. -/
inductive Blk where
  | SYS | ICX | BAL | LDG | IRT | TMS | FAB | QMG | DIA | CLS | EMT | WCT | POL | CDM | SGE | AUE | JWL | TRN | VLT | CX | EMC
  | SVP | CQ | CAP | TWL | SHB | DMC | XSP | GPIO | CRN | NMU | TRX | T1L | SWK | SHC | SRL | SPS
deriving DecidableEq, Repr

/-! Window indices of the blocks with a single window, and of the first of the others (R7, R8). -/
namespace W
abbrev SYS : Nat := 0x000
abbrev ICX : Nat := 0x001
abbrev BAL : Nat := 0x002
abbrev LDG : Nat := 0x003
abbrev IRTM : Nat := 0x004
abbrev IRTC : Nat := 0x005
abbrev TMS : Nat := 0x008
abbrev FAB : Nat := 0x010
abbrev QMG : Nat := 0x014
abbrev DIA : Nat := 0x015
abbrev CLS : Nat := 0x01A
abbrev EMT : Nat := 0x01C
abbrev WCT : Nat := 0x01D
abbrev POL : Nat := 0x01E
abbrev CDM : Nat := 0x01F
abbrev SGE : Nat := 0x020
abbrev AUE : Nat := 0x024
abbrev JWL : Nat := 0x028
abbrev TRN : Nat := 0x029
abbrev VLT : Nat := 0x02A
abbrev EMC : Nat := 0x040
abbrev SVP : Nat := 0x058
abbrev CQ : Nat := 0x060
abbrev CAP : Nat := 0x070
abbrev TWL : Nat := 0x078
abbrev SHB : Nat := 0x080
abbrev DMC : Nat := 0x088
abbrev XSP : Nat := 0x089
abbrev GPIO : Nat := 0x090
abbrev CRN : Nat := 0x0A0
abbrev NMU : Nat := 0x100
end W

/-- The window of CX[n] (R9). -/
def cxWin (n : Nat) : Nat := if n < 12 then 0x200 + n else if n < 24 then 0x300 + (n - 12) else 0x030 + (n - 24)
/-- The window of TRX[n], n below 24 (R9). -/
def trxWin (n : Nat) : Nat := if n < 12 then 0x210 + n else 0x310 + (n - 12)
/-- The window of T1L[k] (R9). -/
def t1lWin (k : Nat) : Nat := if k < 4 then 0x220 + k else 0x320 + (k - 4)
/-- The window of EMC instance `k` (R38). -/
def emcWin (k : Nat) : Nat := W.EMC + k
/-- The windows of the single-window blocks of shore `d` (0 = A, 1 = B). -/
def swkWin (d : Nat) : Nat := 0x230 + 0x100 * d
def shcWin (d : Nat) : Nat := 0x231 + 0x100 * d
def srlWin (d : Nat) : Nat := 0x232 + 0x100 * d
def spsWin (d : Nat) : Nat := 0x233 + 0x100 * d
/-- The shore of a CAN channel below 24. -/
def shoreOf (n : Nat) : Nat := if n < 12 then 0 else 1

/-- The block of a window; none where the index is not mapped (R6, R7, R8). -/
def blkOf (w : Nat) : Option Blk :=
  if w < 0x200 then
    if w = 0x000 then some .SYS else if w = 0x001 then some .ICX else if w = 0x002 then some .BAL
    else if w = 0x003 then some .LDG else if w = 0x004 ∨ w = 0x005 then some .IRT else if w = 0x008 then some .TMS
    else if 0x010 ≤ w ∧ w ≤ 0x012 then some .FAB else if w = 0x014 then some .QMG
    else if 0x015 ≤ w ∧ w ≤ 0x019 then some .DIA else if w = 0x01A ∨ w = 0x01B then some .CLS
    else if w = 0x01C then some .EMT else if w = 0x01D then some .WCT else if w = 0x01E then some .POL
    else if w = 0x01F then some .CDM else if w = 0x020 then some .SGE else if w = 0x024 then some .AUE
    else if w = 0x028 then some .JWL else if w = 0x029 then some .TRN else if w = 0x02A then some .VLT
    else if 0x030 ≤ w ∧ w ≤ 0x037 then some .CX else if 0x040 ≤ w ∧ w ≤ 0x053 then some .EMC
    else if w = 0x058 then some .SVP else if w = 0x060 then some .CQ else if w = 0x070 then some .CAP
    else if w = 0x078 then some .TWL else if w = 0x080 ∨ w = 0x081 then some .SHB else if w = 0x088 then some .DMC
    else if w = 0x089 then some .XSP else if w = 0x090 then some .GPIO else if w = 0x0A0 then some .CRN
    else if w = 0x100 then some .NMU else none
  else if w < 0x400 then
    let l := w % 0x100
    if l ≤ 0x0B then some .CX else if 0x10 ≤ l ∧ l ≤ 0x1B then some .TRX else if 0x20 ≤ l ∧ l ≤ 0x23 then some .T1L
    else if l = 0x30 then some .SWK else if l = 0x31 then some .SHC else if l = 0x32 then some .SRL
    else if l = 0x33 then some .SPS else none
  else none

/-- Blocks whose chapters number units in UNIT of a location code: monitors, banks, requesters, ways, MACsec ports, lanes, units,
channels, chip selects and rings. -/
def manyUnits (w : Nat) : Bool :=
  match blkOf w with
  | some .BAL | some .QMG | some .DIA | some .EMT | some .AUE | some .SHB | some .NMU | some .DMC | some .XSP | some .CAP => true
  | _ => false

/-- A report of a block about itself: UNIT 0 in a block of a single unit, all ones where no unit applies (R3). -/
def locSelf (w : Nat) : Nat := if manyUnits w then locBlock w else locUnit w 0

/-- BLK_ID.INSTANCE (R38). -/
def instOf (w : Nat) : Nat :=
  match blkOf w with
  | some .IRT => w - 0x004
  | some .FAB => w - 0x010
  | some .DIA => w - 0x015
  | some .CLS => w - 0x01A
  | some .CX => if w < 0x200 then 24 + (w - 0x030) else if w < 0x300 then w - 0x200 else 12 + (w - 0x300)
  | some .TRX => if w < 0x300 then w - 0x210 else 12 + (w - 0x310)
  | some .T1L => if w < 0x300 then w - 0x220 else 4 + (w - 0x320)
  | some .EMC => w - 0x040
  | some .SHB => w - 0x080
  | some .SWK | some .SHC | some .SRL | some .SPS => if w < 0x300 then 0 else 1
  | _ => 0

/-- BLK_ID.TYPE (R38). -/
def typeCode : Blk → Nat
  | .SYS => 0x01 | .ICX => 0x02 | .BAL => 0x03 | .LDG => 0x04 | .IRT => 0x05 | .TMS => 0x06 | .FAB => 0x07 | .QMG => 0x08
  | .DIA => 0x09 | .CLS => 0x0A | .EMT => 0x0B | .WCT => 0x0C | .POL => 0x0D | .CDM => 0x0E | .SGE => 0x0F | .AUE => 0x10
  | .JWL => 0x11 | .TRN => 0x12 | .VLT => 0x13 | .CX => 0x14 | .EMC => 0x15 | .SVP => 0x16 | .CQ => 0x17 | .CAP => 0x18
  | .TWL => 0x19 | .SHB => 0x1A | .DMC => 0x1B | .XSP => 0x1C | .GPIO => 0x1D | .CRN => 0x1E | .NMU => 0x1F | .TRX => 0x20
  | .T1L => 0x21 | .SWK => 0x22 | .SHC => 0x23 | .SRL => 0x24 | .SPS => 0x25

/-- The register map of a block type beside the header. -/
def rowsOf : Blk → List RegRow
  | .SYS => rowsSYS | .ICX => rowsICX | .BAL => rowsBAL | .LDG => rowsLDG | .IRT => rowsIRT | .TMS => rowsTMS
  | .FAB => rowsFAB | .QMG => rowsQMG | .DIA => rowsDIA | .CLS => rowsCLS | .EMT => rowsEMT | .WCT => rowsWCT
  | .POL => rowsPOL | .CDM => rowsCDM | .SGE => rowsSGE | .AUE => rowsAUE | .JWL => rowsJWL | .TRN => rowsTRN
  | .VLT => rowsVLT | .CX => rowsCX | .EMC => rowsEMC | .SVP => rowsSVP | .CQ => rowsCQ | .CAP => rowsCAP
  | .TWL => rowsTWL | .SHB => rowsSHB | .DMC => rowsDMC | .XSP => rowsXSP | .GPIO => rowsGPIO | .CRN => rowsCRN
  | .NMU => rowsNMU | .TRX => rowsTRX | .T1L => rowsT1L | .SWK => rowsSWK | .SHC => rowsSHC | .SRL => rowsSRL | .SPS => rowsSPS

/-- BLK_CTRL is guarded in FAB 0–2, JWL, VLT, CRN and both SPS windows (R40). -/
def ctrlGuarded (w : Nat) : Bool :=
  match blkOf w with
  | some .FAB | some .JWL | some .VLT | some .CRN | some .SPS => true
  | _ => false

/-- BLK_CTRL.EN at reset (R39). -/
def enReset (w : Nat) : Bool :=
  match blkOf w with
  | some .SYS | some .ICX | some .BAL | some .CRN | some .JWL | some .TRN | some .XSP | some .SHB => true
  | some .IRT => w == 0x005
  | _ => false

/-- EN ignores writes of 0 in SYS, ICX and CRN (R39). -/
def enSticky (w : Nat) : Bool := w == W.SYS || w == W.ICX || w == W.CRN

/-- Whether a register that the block type's map lists exists in this window: the common registers of FAB[0], CLS[0] and
EMC[0], the CX registers of the main-die channels, the IRT Movement's own, and what the T1S MACs and DIA[4] leave out. -/
def present (w off : Nat) : Bool :=
  match blkOf w with
  | some .FAB => off < 0x400 || w == 0x010
  | some .CLS => if w == 0x01A then true else off < 0x100 || 0x800 ≤ off
  | some .CX => if off = Reg.CX_TRXCTL ∨ off = Reg.CX_PWM then w < 0x200 else true
  | some .EMC =>
    if 0x1000 ≤ off then w == 0x040
    else if w < 0x048 then
      !((0x140 ≤ off && off < 0x160) || (0x400 ≤ off && off < 0x600) || (0x800 ≤ off && off < 0x1000)
        || off == Reg.EMC_PREEMPT)
    else true
  | some .IRT =>
    if w == 0x005 then !((0x110 ≤ off && off < 0x200) || (0x900 ≤ off && off < 0xC00))
    else true
  | some .DIA =>
    if w == 0x019 then
      !((0x138 ≤ off && off < 0x140) || (0x148 ≤ off && off < 0x150) || (0x240 ≤ off && off < 0x280)
        || (0x2C0 ≤ off && off < 0x300) || (0x340 ≤ off && off < 0x380) || (0x500 ≤ off && off < 0x600) || 0x700 ≤ off)
    else true
  | _ => true

/-- A row covers an offset. -/
def RegRow.covers (r : RegRow) (off : Nat) : Bool :=
  decide (r.lo ≤ off) && decide ((off - r.lo) % r.st = 0) && decide ((off - r.lo) / r.st < r.n)

/-- The register row behind an offset of a window (R34, R37); none where the offset is unimplemented (R36). -/
def rowAt (w off : Nat) : Option RegRow :=
  match blkOf w with
  | none => none
  | some b =>
    if off < 0x100 then
      if off = Reg.BLK_CTRL ∧ ctrlGuarded w then some ⟨Reg.BLK_CTRL, 1, 4, 0, 0, 0, 0xD, 0, .plain⟩
      else rowsHDR.find? (·.covers off)
    else if present w off then (rowsOf b).find? (·.covers off)
    else none

/-- FLT_SRCBASE.NSRC, the fault sources of a window (the source tables of the chapters and R418). -/
def nsrc (w : Nat) : Nat :=
  match blkOf w with
  | none => 0
  | some b =>
    match b with
    | .SYS => 4 | .ICX => 3 | .BAL => 6 | .LDG => 4 | .IRT => 3 | .TMS => 7
    | .FAB => if w = 0x010 then 10 else 7
    | .QMG => 14 | .DIA => 5 | .CLS => 4 | .EMT => 10 | .WCT => 3 | .POL => 4 | .CDM => 5 | .SGE => 11 | .AUE => 11
    | .JWL => 5 | .TRN => 3 | .VLT => 6 | .CX => 14
    | .EMC => if w = 0x040 then 12 else 10
    | .SVP => 3 | .CQ => 6 | .CAP => 4 | .TWL => 11 | .SHB => 7 | .DMC => 5 | .XSP => 3 | .GPIO => 2 | .CRN => 5
    | .NMU => 7 | .TRX => 5 | .T1L => 4 | .SWK => 3 | .SHC => 8 | .SRL => 6 | .SPS => 5

/-- FLT_SRCBASE.BASE, the first global source number of a window (R418). -/
def srcBase (w : Nat) : Nat :=
  let i := instOf w
  match blkOf w with
  | none => 0
  | some b =>
    match b with
    | .SYS => 0 | .ICX => 16 | .BAL => 20 | .LDG => 28 | .IRT => 36 + 8 * i | .TMS => 52 | .FAB => 60 + 10 * i
    | .QMG => 90 | .DIA => 106 + 8 * i | .CLS => 146 + 4 * i | .EMT => 154 | .WCT => 164 | .POL => 168 | .CDM => 172
    | .SGE => 180 | .AUE => 192 | .JWL => 204 | .TRN => 220 | .VLT => 228
    | .CX => if i < 12 then 768 + 14 * i else if i < 24 then 1040 + 14 * (i - 12) else 236 + 14 * (i - 24)
    | .EMC => 348 + 12 * i | .SVP => 588 | .CQ => 596 | .CAP => 612 | .TWL => 628 | .SHB => 644 + 8 * i
    | .DMC => 660 | .XSP => 676 | .GPIO => 684 | .CRN => 688 | .NMU => 704
    | .TRX => if i < 12 then 936 + 5 * i else 1208 + 5 * (i - 12)
    | .T1L => if i < 4 then 996 + 4 * i else 1268 + 4 * (i - 4)
    | .SWK => 1012 + 272 * i | .SHC => 1016 + 272 * i | .SRL => 1024 + 272 * i | .SPS => 1032 + 272 * i

/-- Every mapped window, in ascending index (R6, R7, R8). -/
def allWindows : List Nat :=
  [0x000, 0x001, 0x002, 0x003, 0x004, 0x005, 0x008, 0x010, 0x011, 0x012, 0x014, 0x015, 0x016, 0x017, 0x018, 0x019,
   0x01A, 0x01B, 0x01C, 0x01D, 0x01E, 0x01F, 0x020, 0x024, 0x028, 0x029, 0x02A]
  ++ (List.range 8).map (0x030 + ·) ++ (List.range 20).map (0x040 + ·)
  ++ [0x058, 0x060, 0x070, 0x078, 0x080, 0x081, 0x088, 0x089, 0x090, 0x0A0, 0x100]
  ++ [0x200, 0x300].flatMap fun b =>
    (List.range 12).map (b + ·) ++ (List.range 12).map (b + 0x10 + ·) ++ (List.range 4).map (b + 0x20 + ·)
    ++ (List.range 4).map (b + 0x30 + ·)

end Sys2Proof.Machine
end

