-- ==== Sys2Proof/Machine/Operands.lean ====
section
/-! DEFINITION. The operand forms of the commands: initiators, addresses, registers with their live and shadow copies, counters,
and the posting of fault conditions. -/
namespace Sys2Proof.Machine

/-! ### Addresses and initiators -/

/-- The physical address of offset `off` of window `w` (R6). -/
def winAddr (w off : Nat) : Nat := 0x40000000 + w * 0x10000 + off

/-- The WIN_ACCESS bit that admits an initiator (R63): the shore controller's bit holds in windows of its own die. -/
def accessBit (i : Initiator) (w : Nat) : Option Nat :=
  match i with
  | .crown => some 0
  | .mov0 | .mov1 | .mov2 | .mov3 => some 1
  | .twin => some 2
  | .debug | .capture => some 3
  | .shcA => if dieOf w = 1 then some 4 else none
  | .shcB => if dieOf w = 2 then some 4 else none

/-! ### Registers -/

/-- The key of a register in the register file. -/
def regKey (w off : Nat) : Nat := w * 0x2000 + off

/-- BLK_ID of a window (R38); VERSION 0x01 for every block is the model's (the spec shows it for CX only). -/
def blkId (w : Nat) : Nat :=
  match blkOf w with
  | none => 0
  | some b => typeCode b * 2 ^ 24 + instOf w * 2 ^ 16 + 0x0100 + 0x11

/-- The BLOCK_CAPS that a chapter defines: DIA (slots, requesters), CX (R272), EMC (R342). -/
def blockCaps (w : Nat) : Nat :=
  match blkOf w with
  | some .DIA => if w = 0x019 then 256 + 16 * 2 ^ 10 else 512 + 32 * 2 ^ 10
  | some .CX => if w < 0x200 then 3 else 0
  | some .EMC =>
    (if w < 0x048 then 0 else if w < 0x050 then 1 else 2) + (if w < 0x048 then 0 else 0xC) + (if w = 0x040 then 0x10 else 0)
  | _ => 0

/-- BLK_CAPS of a window: SHADOW, GUARD and CNT64 as its register map has them; SVC 1 (DESIGN CHOICE, assumptions/4). -/
def blkCaps (w : Nat) : Nat :=
  match blkOf w with
  | none => 0
  | some b =>
    let rs := (rowsOf b).filter fun r => present w r.lo
    b2n (rs.any fun r => r.sh != 0) * 2 ^ 31 + b2n (ctrlGuarded w || rs.any fun r => r.gd != 0) * 2 ^ 30
      + b2n (rs.any fun r => r.kind == .lo) * 2 ^ 29 + 2 ^ 28 + blockCaps w

/-- The reset value of a register of the file: the map's, with the values that R38, R39, R418 and the map of QMG give per
window or per index. -/
def resetOf (w off : Nat) : Nat :=
  if off = Reg.BLK_ID then blkId w
  else if off = Reg.BLK_CAPS then blkCaps w
  else if off = Reg.BLK_CTRL then b2n (enReset w)
  else if off = Reg.FLT_SRCBASE then nsrc w * 2 ^ 16 + srcBase w
  else if w = W.QMG ∧ 0x600 ≤ off ∧ off < 0x680 then (off - 0x600) / 4
  else
    match rowAt w off with
    | some r => r.reset
    | none => 0

/-- The live value of a register of the file. -/
def State.reg (s : State) (w off : Nat) : Nat :=
  (kvGet (BitVec.ofNat 32 (resetOf w off)) s.regs (regKey w off)).toNat

/-- The shadow of a register (R42). -/
def State.shadow (s : State) (w off : Nat) : Nat :=
  (kvGet (BitVec.ofNat 32 (resetOf w off)) s.shad (regKey w off)).toNat

/-- Write a register of the file. -/
def State.setReg (s : State) (w off v : Nat) : State :=
  { s with regs := kvSet (BitVec.ofNat 32 (resetOf w off)) s.regs (regKey w off) (BitVec.ofNat 32 v) }

/-- Write a shadow. -/
def State.setShadow (s : State) (w off v : Nat) : State :=
  { s with shad := kvSet (BitVec.ofNat 32 (resetOf w off)) s.shad (regKey w off) (BitVec.ofNat 32 v) }

/-- Field [hi:lo] of a live register. -/
def State.fld (s : State) (w off hi lo : Nat) : Nat := bits (s.reg w off) hi lo

/-- Bit `i` of a live register. -/
def State.flag (s : State) (w off i : Nat) : Bool := bit (s.reg w off) i

/-- Write field [hi:lo] of a live register. -/
def State.setFld (s : State) (w off hi lo v : Nat) : State := s.setReg w off (putBits (s.reg w off) hi lo v)

/-- Write bit `i` of a live register. -/
def State.setFlag (s : State) (w off i : Nat) (b : Bool) : State := s.setFld w off i i (b2n b)

/-- The 64-bit value of a LO/HI pair. -/
def State.reg64 (s : State) (w off : Nat) : Nat := s.reg w off + 2 ^ 32 * s.reg w (off + 4)

/-- Write a LO/HI pair. -/
def State.setReg64 (s : State) (w off v : Nat) : State := (s.setReg w off v).setReg w (off + 4) (v >>> 32)

/-- A 32-bit counter that saturates (R15) takes `k` more. -/
def State.countBy (s : State) (w off k : Nat) : State := s.setReg w off (satAdd 32 (s.reg w off) k)

/-- A 32-bit counter that saturates (R15) counts one. -/
def State.count (s : State) (w off : Nat) : State := s.countBy w off 1

/-- A 32-bit counter marked wrapping counts `k`. -/
def State.countWrap (s : State) (w off k : Nat) : State := s.setReg w off (s.reg w off + k)

/-- A 64-bit wrapping counter takes `k` more. -/
def State.count64By (s : State) (w off k : Nat) : State := s.setReg64 w off (s.reg64 w off + k)

/-- A 64-bit counter that saturates (R15) counts one. -/
def State.count64Sat (s : State) (w off : Nat) : State := s.setReg64 w off (satAdd 64 (s.reg64 w off) 1)

/-- A 64-bit wrapping counter counts one. -/
def State.count64 (s : State) (w off : Nat) : State := s.count64By w off 1

/-! ### Windows -/

def State.win (s : State) (w : Nat) : Win := kvGet Win.idle s.wins w
def State.setWin (s : State) (w : Nat) (x : Win) : State := { s with wins := kvSet Win.idle s.wins w x }

/-- A block carries traffic: BLK_CTRL.EN is 1, it has not left traffic for service mode and no block reset runs (R37, R41,
R556). -/
def State.enabled (s : State) (w : Nat) : Bool :=
  s.flag w Reg.BLK_CTRL 0 && (s.win w).svc != .on && !(s.win w).resetting

/-! ### Fault conditions -/

/-- The key of local source `src` of window `w`. -/
def srcKey (w src : Nat) : Nat := w * 32 + src

def State.source (s : State) (w src : Nat) : Source := kvGet Source.idle s.sources (srcKey w src)
def State.setSource (s : State) (w src : Nat) (x : Source) : State :=
  { s with sources := kvSet Source.idle s.sources (srcKey w src) x }

/-- Post a condition of window `w`; a block whose reset runs detects none (R41). -/
def State.post (s : State) (p : Post) : State :=
  { s with posts := if (s.win p.win).resetting ∨ nsrc p.win ≤ p.src then s.posts else s.posts ++ [p] }

/-- A single event at a location (R66). -/
def State.raise (s : State) (w src loc : Nat) : State := s.post ⟨w, src, .event, loc, false⟩

/-- A single event of the block itself (R3). -/
def State.raise0 (s : State) (w src : Nat) : State := s.raise w src (locSelf w)

/-- A level condition takes the value `on` (R66); nothing is posted when it holds it already. -/
def State.level (s : State) (w src loc : Nat) (on : Bool) : State :=
  { s with posts := if (s.source w src).live == on then s.posts
      else (s.post ⟨w, src, if on then .levelOn else .levelOff, loc, false⟩).posts }

/-! ### Free values and time -/

/-- A value that the spec leaves open, below 2^32. -/
def State.drawWord (s : State) : Nat × State :=
  ((Config.freeWord s.free).toNat, { s with free := s.free + 1 })

/-- `n` bytes that the spec leaves open. -/
def State.drawBytes (s : State) (n : Nat) : List Byte × State :=
  (Config.freeBytes s.free n, { s with free := s.free + 1 })

/-- The device time in ns (R368). -/
def State.now (s : State) : Nat := (s.tms.acc >>> 32) % 2 ^ 64

/-- The vault time in ns (R373). -/
def State.vault (s : State) : Nat := (s.now + s.tms.voffset) % 2 ^ 64

end Sys2Proof.Machine
end

