-- ==== Sys2Proof/Machine/Balance.lean ====
section
/-! DEFINITION. The Balance and the pace-regulation loop (01_pace_and_timed_islands.md). -/
namespace Sys2Proof.Machine
open Reg

/-- The nearest voltage inside the live guard set (R28). -/
def clampMv (s : State) (v : Nat) : Nat :=
  min (max v (s.fld W.BAL BAL_REG_GUARD 15 0)) (s.fld W.BAL BAL_REG_GUARD 31 16)

/-- Start one PMBus VOUT_COMMAND: BUSY until it ends, one transaction counted, the PAGE prefix included (R26, R31;
assumptions/82). -/
def pmbusSend (mv : Nat) (s : State) : State :=
  let s := (s.count64 W.BAL BAL_PMB_TXN_LO).setFlag W.BAL BAL_VSTAT 1 true
  { s with bal := { s.bal with cmdMv := mv } }

/-- The loop commands `v`, clamped, when it differs from LAST_MV; nothing while PMB_ALERT_N is low (`alert`) or a transaction is
in progress (R26, R29). -/
def loopCommand (alert : Bool) (v : Nat) (s : State) : State :=
  let v := clampMv s v
  if alert || s.flag W.BAL BAL_VSTAT 1 || v == s.fld W.BAL BAL_VSTAT 31 16 then s else pmbusSend v s

/-- The loop's raise at PACE_LOW: STEP_UP steps at once, or when the transaction in progress has ended (R27). -/
def loopRaise (alert : Bool) (s : State) : State :=
  if s.flag W.BAL BAL_VSTAT 1 then { s with bal := { s.bal with raise := true } }
  else loopCommand alert (s.fld W.BAL BAL_VSTAT 31 16 + 5 * s.fld W.BAL BAL_REG_CTRL 27 24) s

/-- The lowest reading among the monitors of BAL_MASK and its monitor, the lowest number first among equals (R23). -/
def lowestReading (mask : Nat) : List Nat → Nat → Option (Nat × Nat)
  | [], _ => none
  | p :: t, m =>
    let rest := lowestReading mask t (m + 1)
    if bit mask m then
      match rest with
      | some (q, k) => if q < p then some (q, k) else some (p, m)
      | none => some (p, m)
    else rest

/-- The histogram bin of a reading (R25). -/
def histBin (p : Nat) : Nat := if p < 800 then 0 else if 2200 ≤ p then 15 else (p - 700) / 100

/-- The monitors' readings enter BAL_PACE (R23). -/
def storeReadings (rs : List Nat) (s : State) : State :=
  foldRange (fun s m => s.setReg W.BAL (BAL_PACE + 4 * m) (0x10000 + rs.getD m 0)) s 0 rs.length

/-- A window ends (R23–R25, R27). With no monitor in BAL_MASK only the readings are stored, and FLT_LOC of the two levels names
the lowest monitor (assumptions/82). -/
def doWindowEnd (readings : List Nat) (alert : Bool) (s : State) : State :=
  if !s.enabled W.BAL || !s.flag W.BAL BAL_MEAS 16 || s.fld W.BAL BAL_MEAS 15 0 == 0 then s
  else
    let rs := (readings.take 16).map (· % 2 ^ 16)
    let s := storeReadings rs s
    match lowestReading (s.fld W.BAL BAL_MASK 15 0) rs 0 with
    | none => s
    | some (p, m) =>
      let s := s.setReg W.BAL BAL_MIN (m * 0x10000 + p)
      let s := s.count W.BAL (BAL_HIST + 4 * histBin p)
      let low := decide (p < s.fld W.BAL BAL_THRESH 31 16)
      let wasLow := (s.source W.BAL 3).live
      let s := s.level W.BAL 2 (locUnit W.BAL m) (decide (p < s.fld W.BAL BAL_THRESH 15 0))
      let s := s.level W.BAL 3 (locUnit W.BAL m) low
      if low && !wasLow && s.flag W.BAL BAL_REG_CTRL 31 then loopRaise alert s else s

/-- The voltage that a loop period asks for, before the clamp, from the last window's reading (R26). -/
def loopTarget (s : State) : Nat :=
  let p := s.fld W.BAL BAL_MIN 15 0
  let tgt := s.fld W.BAL BAL_REG_TARGET 15 0
  let db := s.fld W.BAL BAL_REG_TARGET 31 16
  let last := s.fld W.BAL BAL_VSTAT 31 16
  if p + db < tgt then last + 5 * s.fld W.BAL BAL_REG_CTRL 27 24 else if tgt + db < p then last - 5 else last

/-- The loop stands at VMAX_MV with the reading below TARGET − DEADBAND (R28). -/
def loopStuck (s : State) : Bool :=
  decide (s.fld W.BAL BAL_MIN 15 0 + s.fld W.BAL BAL_REG_TARGET 31 16 < s.fld W.BAL BAL_REG_TARGET 15 0)
    && s.fld W.BAL BAL_VSTAT 31 16 == s.fld W.BAL BAL_REG_GUARD 31 16

/-- The periods at VMAX_MV are counted anew: the loop is off, or it has left the limit. -/
def forgetStuck (s : State) : State := { s with bal := { s.bal with vmaxPeriods := 0 } }

/-- The loop period expires (R26, R28, R29). -/
def doLoopPeriod (alert : Bool) (s : State) : State :=
  if !s.enabled W.BAL || !s.flag W.BAL BAL_REG_CTRL 31 then forgetStuck s
  else
    let n := if loopStuck s then s.bal.vmaxPeriods + 1 else 0
    let s := { s with bal := { s.bal with vmaxPeriods := n } }
    let s := if n == 16 then s.raise0 W.BAL 4 else s
    loopCommand alert (loopTarget s) s

/-- What waited for the PMBus: manual requests in their order, then the loop's raise (R27, R31). -/
def pmbusNext (alert : Bool) (s : State) : State :=
  match s.bal.queue with
  | v :: rest => pmbusSend v { s with bal := { s.bal with queue := rest } }
  | [] =>
    if !s.bal.raise then s
    else (fun s => if s.flag W.BAL BAL_REG_CTRL 31 then loopRaise alert s else s) { s with bal := { s.bal with raise := false } }

/-- A PMBus transaction failed: FAILS, PMB_FAIL, and at three or more the loop's EN clears in the live set and in the shadow
(R29, assumptions/10). -/
def pmbusFailed (s : State) : State :=
  let f := satAdd 8 (s.fld W.BAL BAL_VSTAT 15 8) 1
  let s := (s.setFld W.BAL BAL_VSTAT 15 8 f).raise0 W.BAL 5
  if 3 ≤ f then
    forgetStuck ((s.setFlag W.BAL BAL_REG_CTRL 31 false).setShadow W.BAL BAL_REG_CTRL (putBit (s.shadow W.BAL BAL_REG_CTRL) 31 false))
  else s

/-- A PMBus transaction ends (R29, R31). -/
def doPmbusEnd (ok alert : Bool) (s : State) : State :=
  if !s.flag W.BAL BAL_VSTAT 1 then s
  else
    let s := s.setFlag W.BAL BAL_VSTAT 1 false
    pmbusNext alert (if ok then (s.setFld W.BAL BAL_VSTAT 31 16 s.bal.cmdMv).setFld W.BAL BAL_VSTAT 15 8 0 else pmbusFailed s)

/-- A write to BAL_VSET while the loop is off (R31); one that finds a transaction in progress is sent after it. -/
def doVsetWrite (data : Nat) (s : State) : State :=
  if s.flag W.BAL BAL_REG_CTRL 31 then s
  else
    let s := s.setReg W.BAL BAL_VSET (bits data 15 0)
    let v := clampMv s (bits data 15 0)
    if s.flag W.BAL BAL_VSTAT 1 then { s with bal := { s.bal with queue := s.bal.queue ++ [v] } } else pmbusSend v s

/-- A write to BAL_HIST_CLR with CLR 1 clears the histogram (R25). -/
def doHistClr (data : Nat) (s : State) : State :=
  if bit data 0 then foldRange (fun s k => s.setReg W.BAL (BAL_HIST + 4 * k) 0) s 0 16 else s

/-- After an apply: a last commanded voltage outside the new guard set goes to the nearest limit at once (R28). -/
def balanceApplied (alert : Bool) (s : State) : State :=
  if !s.flag W.BAL BAL_REG_CTRL 31 then forgetStuck s
  else if s.fld W.BAL BAL_VSTAT 31 16 != 0 then loopCommand alert (s.fld W.BAL BAL_VSTAT 31 16) s
  else s

/-- What a read of BAL_VSTAT shows: ALERT is the level of PMB_ALERT_N at the read, which no command brings; a free value
(assumptions/82). -/
def balVstat (s : State) : Nat × State :=
  let d := s.drawWord
  (putBit (s.reg W.BAL BAL_VSTAT) 0 (bit d.1 0), d.2)

/-- BAL_REG_STAT: AT_VMAX, AT_VMIN, LOCKED. -/
def balRegStat (s : State) : Nat :=
  let last := s.fld W.BAL BAL_VSTAT 31 16
  let p := s.fld W.BAL BAL_MIN 15 0
  let tgt := s.fld W.BAL BAL_REG_TARGET 15 0
  let db := s.fld W.BAL BAL_REG_TARGET 31 16
  4 * b2n (last == s.fld W.BAL BAL_REG_GUARD 31 16) + 2 * b2n (last == s.fld W.BAL BAL_REG_GUARD 15 0)
    + b2n (decide (tgt ≤ p + db) && decide (p ≤ tgt + db))

/-- The strobe check of R30 on the shadow: 0, or the reject reason. -/
def balCheck (s : State) : Nat :=
  let sh := fun o hi lo => bits (s.shadow W.BAL o) hi lo
  let win := sh BAL_MEAS 15 0
  let vmin := sh BAL_REG_GUARD 15 0
  let vmax := sh BAL_REG_GUARD 31 16
  let period := sh BAL_REG_CTRL 15 0
  let step := sh BAL_REG_CTRL 27 24
  if (1 ≤ win ∧ win ≤ 9) ∨ 10000 < win then 1
  else if vmin < 650 ∨ 900 < vmax then 1
  else if sh BAL_THRESH 15 0 < sh BAL_THRESH 31 16 ∨ vmax < vmin then 2
  else if sh BAL_REG_CTRL 31 31 = 1 then
    if step = 0 ∨ 4 < step ∨ period = 0 then 1
    else if sh BAL_MASK 15 0 = 0 ∨ win = 0 ∨ period * 100 < win ∨ s.fld W.BAL BAL_VSTAT 31 16 = 0 then 2
    else 0
  else 0

end Sys2Proof.Machine
end

