-- ==== Sys2Proof/Machine/Frames.lean ====
section
/-! DEFINITION. Frames in the Pond and their copies: port map, occupancy, charges, removal and the egress queues
(04_frame_tag_and_fabric.md, 05_pond_and_queues.md). -/
namespace Sys2Proof.Machine
open Reg

/-! ### Ports (R10, R13) -/

/-- The fabric port that serves a logical port; 16 for a reserved one. -/
def fpOf (p : Nat) : Nat :=
  if p ≤ 11 then 0 else if p ≤ 23 then 1 else if p ≤ 31 then 2 else if p ≤ 35 then 0 else if p ≤ 39 then 1
  else if p ≤ 43 then 3 else if p ≤ 47 then 4 else if p ≤ 51 then 5 + (p - 48) else if p = 52 then 9
  else if p = 56 then 10 else if p = 57 then 11 else if p = 58 then 13 else if p = 60 then 12 else 16

/-- Mask of the ports that can receive a frame (R10, R11). -/
def realMask : Nat := (2 ^ 53 - 1) + 2 ^ 56 + 2 ^ 57 + 2 ^ 58 + 2 ^ 60

/-- The ports of a destination mask, lowest first. -/
def portsOf (m : Nat) : List Nat := (List.range 64).filter (bit m)

/-- A port of the Ethernet family: T1S, ETH or XE. -/
def isEthPort (p : Nat) : Bool := decide (32 ≤ p) && decide (p ≤ 51)

/-! ### Access to the Pond's frames -/

def State.modPond (s : State) (f : Pond → Pond) : State := { s with pond := f s.pond }

/-- The frame with number `fid`. -/
def State.frame? (s : State) (fid : Nat) : Option PFrame := s.pond.frames.find? (·.fid == fid)

/-- Change the frame with number `fid`. -/
def State.modFrame (s : State) (fid : Nat) (f : PFrame → PFrame) : State :=
  s.modPond fun p => { p with frames := updFirst (·.fid == fid) f p.frames }

/-- Change the copy of frame `fid` toward port `p`. -/
def State.modCopy (s : State) (fid p : Nat) (g : Copy → Copy) : State :=
  s.modFrame fid fun f => { f with copies := updFirst (·.port == p) g f.copies }

/-- A copy of the frame is owed to port `p`. -/
def PFrameHas (f : PFrame) (p : Nat) : Bool := f.copies.any (·.port == p)

/-- All cells of the frame have arrived. -/
def frameDone (f : PFrame) : Bool := f.whole && decide (cellsOf f.payload.length ≤ f.charges.length)

/-! ### Occupancy and charges (R121, R122) -/

/-- Sources of R122 as codes: 0–3 engine floors, 4–11 class floors, 12 shared pool, 13 headroom. -/
def srcClass (c : Nat) : Nat := 4 + c
def srcShared : Nat := 12
def srcHeadroom : Nat := 13

/-- Cells charged to a source. -/
def State.charged (s : State) (k : Nat) : Nat := (s.pond.frames.map fun f => f.charges.count k).sum

/-- Cells held in a logical bank. -/
def State.inBank (s : State) (b : Nat) : Nat := (s.pond.frames.map fun f => f.banks.count b).sum

/-- Occupancy Q of egress queue `8p + c`. -/
def State.occ (s : State) (q : Nat) : Nat :=
  (s.pond.frames.map fun f => if f.tag.cls == q % 8 && PFrameHas f (q / 8) then f.charges.length else 0).sum

/-- Cells held in egress storage for queue `8p + c` (R131). -/
def State.egressHeld (s : State) (q : Nat) : Nat :=
  (s.pond.frames.map fun f => if f.tag.cls == q % 8 then
    (f.copies.map fun c => if c.port == q / 8 && c.enq then c.rel else 0).sum else 0).sum

/-- Free descriptors (R119). -/
def State.descFree (s : State) : Nat := 65536 - s.pond.frames.length

/-- Cells of logical banks that are not retired; a draining bank counts the cells it still holds (R122, R142). -/
def State.bankTotal (s : State) : Nat :=
  ((List.range 32).map fun b => if s.flag W.QMG QMG_DRAIN b then s.inBank b else 12288).sum

/-- The engine floors, class floors and headroom of the live set. -/
def State.engFloor (s : State) (e : Nat) : Nat := s.fld W.QMG (QMG_ENGFLOOR + 4 * e) 15 0
def State.engGate (s : State) (e : Nat) : Nat := s.fld W.QMG (QMG_ENGFLOOR + 4 * e) 31 16
def State.clsFloor (s : State) (c : Nat) : Nat := s.fld W.QMG (QMG_FLOOR + 4 * c) 18 0
def State.headroom (s : State) : Nat := s.fld W.QMG QMG_HEADROOM 18 0

/-- S_free of R122, 0 when it would be negative. -/
def State.sharedFree (s : State) : Nat :=
  s.bankTotal - ((List.range 8).map s.clsFloor).sum - ((List.range 4).map s.engFloor).sum - s.headroom - s.charged srcShared

/-- Free cells of an engine floor. -/
def State.engFree (s : State) (e : Nat) : Nat := s.engFloor e - s.charged e

/-- The source that the next cell of a frame is charged to (R124). -/
def State.chargeFor (s : State) (eng : Option Nat) (cls : Nat) : Option Nat :=
  match eng with
  | some e =>
    if 0 < s.engFree e then some e
    else if s.charged (srcClass cls) < s.clsFloor cls then some (srcClass cls)
    else if 0 < s.sharedFree then some srcShared
    else if s.charged srcHeadroom < s.headroom then some srcHeadroom
    else none
  | none =>
    if s.charged (srcClass cls) < s.clsFloor cls then some (srcClass cls)
    else if 0 < s.sharedFree then some srcShared
    else if s.charged srcHeadroom < s.headroom then some srcHeadroom
    else none

/-- The next logical bank in round-robin order that has a free cell and is not draining (R118). -/
def State.pickBank (s : State) : Option Nat :=
  findFrom (fun b => !s.flag W.QMG QMG_DRAIN b && decide (s.inBank b < 12288)) 32 s.pond.nextBank 32

/-- Record the peak occupancy of every queue the frame is linked to (R121). -/
def notePeaks (fid : Nat) (s : State) : State :=
  match s.frame? fid with
  | none => s
  | some f =>
    f.copies.foldl (fun s c =>
      let q := 8 * c.port + f.tag.cls
      s.modPond fun p => { p with peak := kvSet 0 p.peak q (max (kvGet 0 p.peak q) (s.occ q)) }) s

/-- Level DESC_LOW: 256 or fewer descriptors free (R145). -/
def noteDesc (s : State) : State := s.level W.QMG 7 (locSelf W.QMG) (decide (s.descFree ≤ 256))

/-! ### Removal -/

/-- Take the frame out of the Pond: its cells, descriptor, links and queue places (R121). -/
def freeFrame (fid : Nat) (s : State) : State :=
  noteDesc <| s.modPond fun p => { p with
    frames := p.frames.filter (·.fid != fid), voq := p.voq.filter (·.fid != fid),
    egress := p.egress.filter (·.2 != fid) }

/-- A copy has been read out, or is discarded: it leaves its queue, and the frame is freed with its last copy (R119, R121). -/
def dropCopy (fid port : Nat) (s : State) : State :=
  let s := s.modFrame fid fun f => { f with copies := f.copies.filter (·.port != port) }
  match s.frame? fid with
  | none => s
  | some f =>
    if f.copies.isEmpty then freeFrame fid s
    else
      let left := f.copies.any fun c => fpOf c.port == fpOf port
      s.modPond fun p => { p with
        egress := p.egress.filter fun e => !(e.1 == 8 * port + f.tag.cls && e.2 == fid),
        voq := if left then p.voq else p.voq.filter fun v => !(v.fid == fid && v.out == fpOf port) }

/-! ### MACs that send a copy by cut-through -/

def State.mac (s : State) (k : Nat) : Emc := kvGet Emc.reset s.emc k
def State.modMac (s : State) (k : Nat) (f : Emc → Emc) : State := { s with emc := kvSet Emc.reset s.emc k (f (s.mac k)) }

/-- Port `p` is sending frame `fid` by cut-through. -/
def sendsCopy (s : State) (fid p : Nat) : Bool := isEthPort p && (s.mac (p - 32)).sending.any (·.fid == fid)

/-- A copy is discarded; one that its Ethernet port is sending ends there with a bad FCS, and the port counts it (R33, R112). -/
def endCopy (fid p : Nat) (s : State) : State :=
  if sendsCopy s fid p then
    dropCopy fid p ((s.count (emcWin (p - 32)) EMC_TX_UNDERRUN).modMac (p - 32) fun m => { m with sending := none })
  else dropCopy fid p s

/-- The copies of the frame toward Ethernet ports end (R112). -/
def endEthCopies (fid : Nat) (s : State) : State :=
  match s.frame? fid with
  | none => s
  | some f => (f.copies.filter fun c => isEthPort c.port).foldl (fun s c => endCopy fid c.port s) s

/-- Every copy of the frame ends, and the frame is freed. -/
def endFrame (fid : Nat) (s : State) : State :=
  match s.frame? fid with
  | none => s
  | some f => freeFrame fid (f.copies.foldl (fun s c => endCopy fid c.port s) s)

/-- The frame has a copy toward an Ethernet port by cut-through. -/
def ctThrough (f : PFrame) : Bool := f.tag.ct && f.copies.any fun c => isEthPort c.port

/-- The frames of an egress queue, oldest first. -/
def State.queueFids (s : State) (q : Nat) : List Nat := (s.pond.egress.filter (·.1 == q)).map (·.2)

/-- A copy can be read out whole: the frame is complete and all its cells are released (R111). -/
def copyReady (f : PFrame) (c : Copy) : Bool :=
  c.enq && !c.outlet && (frameDone f && c.rel == cellsOf f.payload.length)

/-- The oldest frame of queue `q` with its copy, when it is ready to be read out. -/
def State.headOf (s : State) (q : Nat) : Option (PFrame × Copy) :=
  match s.queueFids q with
  | [] => none
  | fid :: _ =>
    match s.frame? fid with
    | none => none
    | some f =>
      match f.copies.find? (·.port == q / 8) with
      | none => none
      | some c => if copyReady f c then some (f, c) else none

/-- The frame as its port reads it: the tag with this copy's congestion mark. -/
def frameOf (f : PFrame) (c : Copy) : Frame := ⟨if c.cm then f.tag.setCm true else f.tag, f.payload⟩

/-- A reader takes the copy out of its queue and keeps it until it drops it (R237, R422). -/
def holdCopy (fid port : Nat) (s : State) : State :=
  (s.modCopy fid port fun c => { c with outlet := true }).modPond fun p => { p with
    egress := p.egress.filter fun e => !(e.1 / 8 == port && e.2 == fid) }

/-! ### The twin pair's gates (R480, R483) -/

/-- The device is strapped Mate. -/
def twinMate (s : State) : Bool := bit s.straps 2

/-- The device is Active: by its strap while TWL has EN 0, else as TWL decides. -/
def twinActive (s : State) : Bool := if s.enabled W.TWL then s.twin.active else !twinMate s

/-- The twin link is up: TWL has EN 1 and a lane in service (R489). -/
def twinUp (s : State) : Bool := s.enabled W.TWL && s.twin.lanes != 0

/-- A message leaves on virtual channel `vc` of the twin link: the channel's SEQ advances (R489). -/
def twinSend (vc : Nat) (s : State) : State :=
  if twinUp s then { s with twin := { s.twin with txSeq := kvSet 0 s.twin.txSeq vc ((kvGet 0 s.twin.txSeq vc + 1) % 65536) } } else s

/-- The delta messages that TWL_CTRL asks for (R492): bit 29 learning, bit 28 NM. -/
def twinDelta (bitn : Nat) (s : State) : State := if s.flag W.TWL TWL_CTRL bitn then twinSend 3 s else s

/-- Port `p` is transmit-gated. -/
def ethGated (s : State) (p : Nat) : Bool := isEthPort p && !twinActive s && s.flag W.TWL TWL_GATE_ETH (p - 32)

/-! ### Frames that reach a fabric input -/

/-- A frame reaches fabric input `fp`; the answer is its number. -/
def offerFrame (fp : Nat) (f : Frame) (whole : Bool) (o : Origin) (s : State) : State :=
  s.modPond fun p => { p with
    nextFid := p.nextFid + 1
    arrivals := p.arrivals ++ [⟨p.nextFid, fp, f.tag, f.payload, whole, none, o⟩] }

/-- A frame that the device creates or returns, offered whole. -/
def offerWhole (fp : Nat) (f : Frame) (o : Origin) (s : State) : State :=
  offerFrame fp ⟨f.tag.setLength f.payload.length, f.payload⟩ true o s

/-! ### Ports going down and coming up (R133, R135) -/

def State.port (s : State) (p : Nat) : PortSt := kvGet (PortSt.reset p) s.pond.ports p
def State.setPort (s : State) (p : Nat) (x : PortSt) : State :=
  s.modPond fun q => { q with ports := kvSet (PortSt.reset p) q.ports p x }

/-- The port is down (R133). -/
def State.portDown (s : State) (p : Nat) : Bool := (s.port p).down

/-- Remove the port from every frame queued toward it and count each removal in QMG_QFLUSH (R133 step 3). -/
def flushPort (p : Nat) (s : State) : State :=
  (s.pond.frames.filter fun f => PFrameHas f p).foldl (fun s f =>
    let q := 8 * p + f.tag.cls
    dropCopy f.fid p (s.modPond fun x => { x with qflush := kvSet 0 x.qflush q (satAdd 32 (kvGet 0 x.qflush q) 1) })) s

/-- Discard the frames partly received from the port; a cut-through frame is ended at every Ethernet egress and counted (R133
step 2). -/
def dropPartial (p : Nat) (s : State) : State :=
  let s := s.modPond fun x => { x with arrivals := x.arrivals.filter fun a => a.whole || a.origin != .port p }
  let s := if isEthPort p then s.modMac (p - 32) fun m => { m with rx := [] } else s
  (s.pond.frames.filter fun f => !f.whole && f.origin == .port p).foldl (fun s f =>
    endFrame f.fid (if ctThrough f then s.count W.QMG QMG_CT_END else s)) s

/-- Ports that QMG_PORTCTL or their block can take down: every one but 56 to 60 (R133). -/
def canGoDown (p : Nat) : Bool := decide (p < 56) || (decide (60 < p) && decide (p < 64))

/-- A port with FLUSH_ON_DOWN asks for a flush of its learned entries (R183). -/
def askPortFlush (p : Nat) (s : State) : State :=
  if s.flag 0x01A (CLS_PORTLRN + 4 * p) 30 then { s with emt := { s.emt with flushWait := s.emt.flushWait ++ [p] } } else s

/-- A port goes down, or meets a new down event while it is down: DOWN, FLUSHING, hold timer from 0, partial frames and queued
copies gone (R133, R135). -/
def portGoesDown (p : Nat) (s : State) : State :=
  if !canGoDown p then s
  else
    let s := s.setPort p { s.port p with
      down := true, flushing := true, upWait := false, hold := s.fld W.QMG (QMG_PORTCFG + 4 * p) 25 16 != 0 }
    askPortFlush p (flushPort p (dropPartial p s))

/-- The port comes up when it waits to, its flush is complete and its hold has passed (R135). -/
def portTryUp (p : Nat) (s : State) : State :=
  let st := s.port p
  if st.down ∧ st.upWait ∧ !st.flushing ∧ !st.hold then s.setPort p { st with down := false, upWait := false } else s

/-- The port's block no longer reports it down and it is not forced down: it waits to come up (R135). -/
def portCauseGone (p : Nat) (s : State) : State :=
  let st := s.port p
  if st.down ∧ !st.cause ∧ !s.flag W.QMG (QMG_PORTCTL + 4 * p) 0 then portTryUp p (s.setPort p { st with upWait := true })
  else s

/-- The port's block reports it down, or no longer does (R133, R135). -/
def setPortCause (p : Nat) (down : Bool) (s : State) : State :=
  let s := s.setPort p { s.port p with cause := down }
  if down then portGoesDown p s else portCauseGone p s

/-- FLUSHING_END (R133 step 4, R135). -/
def doFlushingEnd (p : Nat) (s : State) : State := portTryUp p (s.setPort p { s.port p with flushing := false })

/-- PORT_UP: the hold time has passed (R135). -/
def doPortUp (p : Nat) (s : State) : State := portTryUp p (s.setPort p { s.port p with hold := false })

/-- QMG_PORTSTAT of a port. -/
def portStat (s : State) (p : Nat) : Nat :=
  let st := s.port p
  8 * b2n st.upWait + 4 * b2n st.hold + 2 * b2n st.flushing + b2n st.down

/-- A write to QMG_PORTCTL takes effect on the port when FORCE_DOWN changes; `was` is its value before (R133, R135). -/
def portForced (p : Nat) (was : Bool) (s : State) : State :=
  if s.flag W.QMG (QMG_PORTCTL + 4 * p) 0 == was then s else if was then portCauseGone p s else portGoesDown p s

end Sys2Proof.Machine
end

