-- ==== Sys2Proof/Machine/Ledger.lean ====
section
/-! DEFINITION. The lifetime ledger: live counts, snapshot, event queue (R506–R508). -/
namespace Sys2Proof.Machine
open Reg

/-- The ledger image's fields of 8 bytes; every other field is 4 bytes (R506). -/
def ledgerWide (off : Nat) : Bool :=
  (decide (0x40 ≤ off) && decide (off < 0x1C0)) || (decide (0x200 ≤ off) && decide (off < 0x220))
    || (decide (0x260 ≤ off) && decide (off < 0x280)) || (decide (0x388 ≤ off) && decide (off < 0x398))

/-- A live count takes one more: 32-bit counts saturate, 64-bit counts wrap (R506). -/
def ledgerCount (off : Nat) (s : State) : State :=
  let v := kvGet 0 s.ldg.live off
  let v := if ledgerWide off then (v + 1) % 2 ^ 64 else satAdd 32 v 1
  { s with ldg := { s.ldg with live := kvSet 0 s.ldg.live off v } }

/-- Count faults recorded by a window at a severity, and recoveries (R72, R73). -/
def ledgerFault (w sev : Nat) : State → State := ledgerCount (0x400 + 16 * w + 4 * sev)
def ledgerRecovery (w : Nat) : State → State := ledgerCount (0x4400 + 4 * w)

/-- Bus-offs per CAN channel (R297), corrected Pond ECC per physical bank, corrected DRAM ECC, train removals, takeovers,
descent aborts, time steps (R506). -/
def ledgerBusOff (c : Nat) : State → State := ledgerCount (0x280 + 4 * c)
def ledgerBankEcc (b : Nat) : State → State := ledgerCount (0x300 + 4 * b)
def ledgerDramEcc : State → State := ledgerCount 0x388
def ledgerTrainRemoved (t : Nat) : State → State := ledgerCount (0x398 + 4 * t)
def ledgerTakeover : State → State := ledgerCount 0x3A4
def ledgerDescentAbort : State → State := ledgerCount 0x3A8
def ledgerTimeStep : State → State := ledgerCount 0x3AC
def ledgerLost : State → State := ledgerCount 0x3B0

/-- A physical bank is retired (R140). -/
def ledgerRetire (b : Nat) (s : State) : State := { s with ldg := { s.ldg with retired := s.ldg.retired ||| 2 ^ b } }

/-- EVT_PENDING holds while the event queue is not empty (R512). -/
def noteLdgPending (s : State) : State := s.level W.LDG 3 (locSelf W.LDG) (!s.ldg.events.isEmpty)

/-- Post an event: dropped, counted and raised when the queue of 64 is full (R508). A payload without a location
code stays as R472 gives it (assumptions/95). -/
def ledgerEvent (typ : Nat) (payload : List Byte) (s : State) : State :=
  if 64 ≤ s.ldg.events.length then (ledgerLost s).raise0 W.LDG 2
  else noteLdgPending { s with ldg := { s.ldg with
    events := s.ldg.events ++ [⟨typ, (payload ++ zeros 36).take 36⟩] } }

/-- The snapshot's 32-bit word at byte offset `off`, most significant byte first (R506, R507). -/
def snapWord (s : State) (off : Nat) : Nat :=
  if ledgerWide off then
    let v := kvGet 0 s.ldg.snap (off - off % 8)
    if off % 8 < 4 then v / 2 ^ 32 else v % 2 ^ 32
  else kvGet 0 s.ldg.snap off

/-- LDG_CMD SNAP: live counts move to the snapshot, the retired mask is ORed in and stays (R507). -/
def doSnap (s : State) : State :=
  { s with ldg := { s.ldg with snap := kvSet 0 s.ldg.live 0x390 s.ldg.retired, live := [] } }

/-- A non-speculative read of LDG_RD_DATA: the word, and the offset advances by 4 (R507). -/
def doLdgRdData (s : State) : Nat × State :=
  let off := s.reg W.LDG LDG_RD_OFF
  (snapWord s off, s.setReg W.LDG LDG_RD_OFF ((off + 4) % 0x8000))

/-- LDG_EVT_INFO of the oldest entry; 0 when the queue is empty. -/
def ldgEvtInfo (s : State) : Nat :=
  match s.ldg.events with
  | [] => 0
  | e :: _ => 2 ^ 31 + s.ldg.events.length * 2 ^ 16 + e.typ % 2 ^ 16

/-- A non-speculative read of LDG_EVT_INFO removes the oldest entry and latches its payload (R508). -/
def doLdgEvtPop (s : State) : Nat × State :=
  match s.ldg.events with
  | [] => (0, s)
  | e :: rest =>
    let v := ldgEvtInfo s
    let s := { s with ldg := { s.ldg with events := rest } }
    let s := foldRange (fun s k => s.setReg W.LDG (LDG_EVT_PL + 4 * k) (beNat (slice e.payload (4 * k) 4))) s 0 9
    (v, noteLdgPending s)

/-- The temperature bin of a junction temperature in °C, and the bin of a VCORE in mV (R506). -/
def tjBin (t : Int) : Nat := if t < -10 then 0 else if 130 ≤ t then 15 else ((t + 20) / 10).toNat
def vcoreBin (mv : Nat) : Nat := if mv < 680 then 0 else if 890 ≤ mv then 15 else (mv - 665) / 15

end Sys2Proof.Machine
end

