-- ==== Sys2Proof/Machine/Fabric.lean ====
section
/-! DEFINITION. Trains, matching, cells and resequencers (04_frame_tag_and_fabric.md). -/
namespace Sys2Proof.Machine
open Reg

def State.train (s : State) (t : Nat) : Train := kvGet Train.idle s.trains t
def State.setTrain (s : State) (t : Nat) (x : Train) : State := { s with trains := kvSet Train.idle s.trains t x }
def State.pair (s : State) (i o : Nat) : Pair := kvGet Pair.idle s.pairs (16 * i + o)
def State.setPair (s : State) (i o : Nat) (x : Pair) : State := { s with pairs := kvSet Pair.idle s.pairs (16 * i + o) x }

/-- The window of train `t`. -/
def fabWin (t : Nat) : Nat := W.FAB + t

/-- A train is in service: EN 1 and not frozen (R94); in service mode it has left traffic (R37). -/
def inService (s : State) (t : Nat) : Bool :=
  s.flag (fabWin t) BLK_CTRL 0 && !s.flag (fabWin t) FAB_TCTRL 0 && (s.win (fabWin t)).svc != .on

/-- The lowest-numbered train in service (R94). -/
def lowestTrain (s : State) : Option Nat := (List.range 3).find? (inService s)

/-- Some train other than `t` is in service. -/
def otherInService (s : State) (t : Nat) : Bool := (List.range 3).any fun u => u != t && inService s u

/-- DRAINED: frozen or out of service, with no cell aboard. -/
def trainDrained (s : State) (t : Nat) : Bool := !inService s t && (s.train t).flight.isEmpty

/-! ### Cell header (R92) -/

/-- CRC-8, polynomial 0x07, initial value 0, over the bits of `n` from bit `k - 1` down. -/
def crc8 (n : Nat) : Nat → Nat → Nat
  | 0, c => c
  | k + 1, c =>
    let x := (if bit n k then 128 else 0) ^^^ c
    crc8 n k ((if 128 ≤ x % 256 then (2 * x) ^^^ 0x07 else 2 * x) % 256)

/-- The 64-bit cell header; BYTES and FDESC are given. -/
def cellHeader (c : Cell) (bytes : Nat) : Nat :=
  let h := c.pos * 2 ^ 54 + c.train * 2 ^ 52 + c.prev * 2 ^ 50 + c.src * 2 ^ 46 + c.dst * 2 ^ 42 + c.cseq * 2 ^ 26
    + c.cls * 2 ^ 23 + bytes * 2 ^ 16 + c.fid % 65536
  h * 256 + crc8 h 56 0

/-! ### VOQs -/

/-- POS of cell `idx` of `n` (R92): 0 middle, 1 first, 2 last, 3 only. -/
def cellPos (idx n : Nat) : Nat := if n = 1 then 3 else if idx = 0 then 1 else if idx + 1 = n then 2 else 0

/-- The fabric outputs of a frame's copies, each once. -/
def outputsOf (f : PFrame) : List Nat := (List.range 16).filter fun o => f.copies.any fun c => fpOf c.port == o

/-- Link cell `idx` of a frame into the VOQ of each destination output (R97). -/
def linkCell (f : PFrame) (idx : Nat) (s : State) : State :=
  s.modPond fun p => { p with voq := p.voq ++ (outputsOf f).map fun o => ⟨f.fp, o, f.tag.cls, f.fid, idx⟩ }

/-- Link every cell of a frame that has arrived whole. -/
def linkAll (fid : Nat) (s : State) : State :=
  match s.frame? fid with
  | none => s
  | some f => foldRange (fun s k => linkCell f k s) s 0 f.charges.length

/-- The highest class for which input `i` may request output `o` (R96). -/
def bestClass (s : State) (i o : Nat) : Option Nat :=
  if 128 ≤ (s.pair i o).used then none
  else (s.pond.voq.filter fun v => v.inp == i && v.out == o).foldl
    (fun b v => match b with | none => some v.cls | some c => some (max c v.cls)) none

/-- The oldest uncommitted cell of the class that `i` requests for `o`. -/
def voqHead (s : State) (i o : Nat) : Option Voq :=
  match bestClass s i o with
  | none => none
  | some c => s.pond.voq.find? fun v => v.inp == i && v.out == o && v.cls == c

/-! ### One round (R96, R98, R99) -/

/-- What a round has matched so far. -/
structure RoundSt where
  s : State
  inputs : List Nat
  outputs : List Nat

/-- The class of a request from `i` to `o` on train `t` whose cell another train has meanwhile committed: that of the newest cell
of the pair aboard another train (R98). -/
def staleClass (s : State) (t i o : Nat) : Option Nat :=
  (((List.range 3).filter (· != t)).flatMap fun u => (s.train u).flight.filter fun c => c.src == i && c.dst == o).getLast?.map (·.cls)

/-- The grant of output `o` among unmatched inputs: the requester of highest class, first from GPTR; the pairs of `stale` request
with a cell that has meanwhile left. -/
def grantOf (s : State) (t : Nat) (stale : List (Nat × Nat)) (matched : List Nat) (o : Nat) : Option (Nat × Nat) :=
  let reqs := (List.range 16).filterMap fun i =>
    if matched.contains i then none
    else (if stale.contains (i, o) then staleClass s t i o else bestClass s i o).map fun c => (i, c)
  match reqs.foldl (fun b r => match b with | none => some r.2 | some c => some (max c r.2)) none with
  | none => none
  | some c =>
    match findFrom (fun i => reqs.contains (i, c)) 16 (kvGet 0 (s.train t).gptr o) 16 with
    | none => none
    | some i => some (i, c)

/-- The egress queues that refuse a TRUNC or ERR frame at enqueue, with the register that counts it (R88). -/
def confinedReg (p : Nat) : Option (Nat × Nat) :=
  if p < 32 then some (cxWin p, CX_TX_BADFMT)
  else if p ≤ 51 then some (emcWin (p - 32), EMC_TX_CONFINED)
  else if p = 52 then some (W.TWL, TWL_CONFINED)
  else if p = 56 then some (W.SGE, SGE_DISCARD)
  else if p = 57 then some (W.AUE, AUE_DISCARD)
  else none

/-- ERR is set while the frame is in the Pond: its copies that wait in queues R88 closes to it leave them, counted as at enqueue,
and one in transmission ends with a bad FCS (assumptions/83). -/
def confineFrame (fid : Nat) (s : State) : State :=
  let s := s.modFrame fid fun f => { f with tag := f.tag.setErr true }
  match s.frame? fid with
  | none => s
  | some f =>
    (f.copies.filter fun c => c.enq && (!c.outlet || sendsCopy s fid c.port)).foldl (fun s c =>
      match confinedReg c.port with
      | none => s
      | some (w, r) => endCopy fid c.port (if sendsCopy s fid c.port then s else s.count w r)) s

/-- A cell with a poison mark is read: ERR (R140). -/
def readPoison (fid idx : Nat) (s : State) : State :=
  match s.frame? fid with
  | none => s
  | some f =>
    if f.poison.contains idx then
      confineFrame fid (s.modFrame fid fun f => { f with poison := f.poison.filter (· != idx) })
    else s

/-- Commit one cell copy of pair (i, o) to train `t` (R99, R100); the cell is read for its crossing. -/
def commitCopy (t i : Nat) (v : Voq) (o : Nat) (s : State) : State :=
  let pr := s.pair i o
  match s.frame? v.fid with
  | none => s
  | some f =>
    let n := cellsOf f.payload.length
    let pos := if f.whole then cellPos v.idx n else if v.idx = 0 then 1 else 0
    let c : Cell := ⟨v.fid, v.idx, pos, t, pr.prev, i, o, pr.cseq, v.cls⟩
    let s := s.setPair i o { pr with cseq := (pr.cseq + 1) % 65536, prev := t, used := pr.used + 1 }
    let s := s.setTrain t { s.train t with flight := (s.train t).flight ++ [c] }
    let s := s.modPond fun p => { p with voq := delFirst (fun w => w.inp == i && w.out == o && w.fid == v.fid && w.idx == v.idx) p.voq }
    let first := v.idx == 0 && (outputsOf f).head? == some o
    let s := s.modFrame v.fid fun f => { f with
      committed := true, tag := if first then f.tag.setSeq pr.cseq else f.tag }
    readPoison v.fid v.idx (s.count64 (fabWin t) FAB_CELLS_LO)

/-- Input `i` accepts among its grants in iteration `it` and commits its cell to the set (R96, R97). Where a grant answers a
request whose cell another train has committed, it declines and accepts nothing in this iteration (R98). -/
def acceptOf (t it : Nat) (grants : List (Nat × Nat × Nat)) (stale : List (Nat × Nat)) (r : RoundSt) (i : Nat) : RoundSt :=
  let mine := grants.filter fun g => g.2.1 == i
  let gone := mine.filter fun g => stale.contains (i, g.1)
  if r.inputs.contains i ∨ mine.isEmpty then r
  else if !gone.isEmpty then { r with s := r.s.countBy (fabWin t) FAB_DECLINE gone.length }
  else
    let c := mine.foldl (fun b g => max b g.2.2) 0
    let top := (mine.filter fun g => g.2.2 == c).map (·.1)
    match findFrom top.contains 16 (kvGet 0 (r.s.train t).aptr i) 16 with
    | none => r
    | some os =>
      match voqHead r.s i os with
      | none => r
      | some v =>
        let set := os :: (mine.map (·.1)).filter fun o => o != os &&
          ((voqHead r.s i o).map fun w => (w.fid, w.idx)) == some (v.fid, v.idx)
        let s := set.foldl (fun s o => commitCopy t i { v with out := o } o s) r.s
        let s := if it = 0 then
            let x := s.train t
            s.setTrain t { x with
              gptr := set.foldl (fun g o => kvSet 0 g o ((i + 1) % 16)) x.gptr
              aptr := kvSet 0 x.aptr i ((os + 1) % 16) }
          else s
        ⟨s.count (fabWin t) (FAB_ACC_IT + 4 * it), i :: r.inputs, set ++ r.outputs⟩

/-- One iteration of request, grant and accept; `stale` names the requests (iteration, input, output) whose cell another train
has committed before the input accepts. -/
def iteration (t : Nat) (stale : List (Nat × Nat × Nat)) (r : RoundSt) (it : Nat) : RoundSt :=
  let now := ((stale.filter fun x => x.1 == it).map (·.2)).filter fun x => (staleClass r.s t x.1 x.2).isSome
  let grants := (List.range 16).filterMap fun o =>
    if r.outputs.contains o then none else (grantOf r.s t now r.inputs o).map fun g => (o, g.1, g.2)
  (List.range 16).foldl (acceptOf t it grants now) r

/-- A pair's timer runs (R102). -/
def pairRunning (p : Pair) : Bool :=
  !(p.held.any fun c => c.cseq == p.expect) && (!p.held.isEmpty || p.openFrame.isSome)

/-! ### The resequencer (R101–R103) -/

/-- Position of a sequence number relative to E. -/
def seqDist (e q : Nat) : Nat := (q + 65536 - e) % 65536

/-- Copies at output `o` of frame `fid`: the whole frame is discarded there (R103 step 2). A cut-through frame that is being
released counts in FAB_CT_ABORT, its copies in transmission end with a bad FCS, and the Pond may still count their stall (R112,
R136). -/
def abortAt (fid o : Nat) (s : State) : State :=
  match s.frame? fid with
  | none => s
  | some f =>
    let mine := f.copies.filter fun c => fpOf c.port == o
    let begun := mine.filter fun c => f.tag.ct && isEthPort c.port && decide (0 < c.rel)
    let s := if f.tag.ct && mine.any (fun c => 0 < c.rel) then s.count W.FAB FAB_CT_ABORT else s
    let s := s.modPond fun p => { p with ended := p.ended ++ begun.map fun c => (fid, c.port) }
    mine.foldl (fun s c => endCopy fid c.port s) s

/-- Drop the copies at output `o` of frames of input `i` that no cell can complete any more. -/
def sweepDead (i o : Nat) (s : State) : State :=
  let alive := fun (fid : Nat) =>
    s.pond.voq.any (fun v => v.fid == fid && v.out == o)
      || (List.range 3).any (fun t => (s.train t).flight.any fun c => c.fid == fid && c.dst == o)
      || (s.pair i o).held.any fun c => c.fid == fid
  (s.pond.frames.filter fun f => f.fp == i && frameDone f && f.committed && !alive f.fid
      && f.copies.any fun c => fpOf c.port == o && c.rel < f.charges.length).foldl
    (fun s f => abortAt f.fid o s) s

/-- A copy joins its egress queue; CM is set when the queue holds more than its profile's threshold, and stays where it is
(R131). -/
def joinQueue (fid p cls : Nat) (s : State) : State :=
  let q := 8 * p + cls
  let th := s.fld W.QMG (QMG_CMPROF + 4 * s.fld W.QMG (QMG_PORTCFG + 4 * p) 3 0) 18 0
  let mark := th != 0 && decide (th < s.egressHeld q)
  let s := if mark then s.count W.QMG QMG_CM_MARKS else s
  (s.modCopy fid p fun c => { c with enq := true, cm := c.cm || mark }).modPond
    fun x => { x with egress := x.egress ++ [(q, fid)] }

/-- A copy's first cell is released for port `p`: it is enqueued, marked or refused (R88, R131, R491). -/
def enqueueCopy (fid p : Nat) (s : State) : State :=
  match s.frame? fid with
  | none => s
  | some f =>
    if p = 52 ∧ f.tag.srcPort = 52 then dropCopy fid p (s.count W.TWL TWL_LOOP_DROP)
    else
      match if f.tag.trunc || f.tag.err then confinedReg p else none with
      | some (w, r) => dropCopy fid p (s.count w r)
      | none => joinQueue fid p f.tag.cls s

/-- The resequencer of output `o` releases a cell into egress storage (R101). -/
def releaseCell (c : Cell) (s : State) : State :=
  match s.frame? c.fid with
  | none => s
  | some f =>
    (f.copies.filter fun x => fpOf x.port == c.dst).foldl (fun s x =>
      let s := s.modCopy c.fid x.port fun y => { y with rel := y.rel + 1 }
      if c.idx = 0 then enqueueCopy c.fid x.port s else s) s

/-- Release cells from E on while the cell at E is held; at most `n` of them. -/
def releaseRun (i o : Nat) : Nat → State → State
  | 0, s => s
  | n + 1, s =>
    let p := s.pair i o
    match p.held.find? (·.cseq == p.expect) with
    | none => s
    | some c =>
      let s := s.setPair i o { p with
        expect := (p.expect + 1) % 65536, used := p.used - 1, timer := 0, limit := none,
        held := p.held.filter (·.cseq != c.cseq),
        openFrame := if c.pos = 1 ∨ c.pos = 0 then some c.fid else none }
      releaseRun i o n (releaseCell c s)

/-- Move E to position `e`: held cells below it are discarded and their credits return (R100, R103 step 1). -/
def moveExpect (i o e : Nat) (s : State) : State :=
  let p := s.pair i o
  let d := seqDist p.expect e
  let below := p.held.filter fun c => seqDist p.expect c.cseq < d
  let s := s.setPair i o { p with
    expect := e, used := p.used - d, timer := 0, limit := none, openFrame := none, broken := false,
    held := p.held.filter fun c => !(seqDist p.expect c.cseq < d) }
  sweepDead i o (below.foldl (fun s c => abortAt c.fid o s) s)

/-- The held cell with POS first or only that has the lowest number, and its number. -/
def lowestFirst (p : Pair) : Option Nat :=
  ((p.held.filter fun c => c.pos = 1 ∨ c.pos = 3).foldl (fun b c =>
    match b with
    | none => some c.cseq
    | some q => if seqDist p.expect c.cseq < seqDist p.expect q then some c.cseq else some q) none)

/-- The frame that the gap breaks is discarded (R103 steps 1–3). -/
def breakFrame (i o : Nat) (s : State) : State :=
  let p := s.pair i o
  let s := match p.openFrame with
    | some fid => abortAt fid o s
    | none => s
  let s := s.count64Sat W.FAB FAB_RSQ_DISCARD_LO
  match lowestFirst p with
  | some q => releaseRun i o 128 (moveExpect i o q s)
  | none => s.setPair i o { s.pair i o with broken := true, openFrame := none, timer := 0, limit := none }

/-- A pair's timer has reached its limit: FAB_RSQ_TIMEOUT, or the limit that was live when the timer started (R103). -/
def pairDue (s : State) (p : Pair) : Bool :=
  pairRunning p && !p.broken && decide (p.limit.getD (s.fld W.FAB FAB_RSQ_TIMEOUT 15 0) ≤ p.timer)

/-- FAB[0] applied a set; `o` is the state before: timers that run keep their limit. -/
def fabApplied (o s : State) : State :=
  { s with pairs := s.pairs.map fun e =>
      if pairRunning e.2 && e.2.limit.isNone then (e.1, { e.2 with limit := some (o.fld W.FAB FAB_RSQ_TIMEOUT 15 0) }) else e }

/-- A pair's timer reaches the limit (R103). -/
def doReseqTimeout (i o : Nat) (s : State) : State :=
  let p := s.pair i o
  if !pairDue s p then s
  else
    let s := match p.held.find? (fun c => c.cseq == (p.expect + 1) % 65536) with
      | some c => (s.count (fabWin c.prev) FAB_OWED).raise0 (fabWin c.prev) 2
      | none => s.raise0 W.FAB 8
    breakFrame i o s

/-- Cells held by the resequencer of output `o` over all inputs; the peak is kept. -/
def State.rsqNow (s : State) (o : Nat) : Nat := ((List.range 16).map fun i => (s.pair i o).held.length).sum

/-- A cell reaches the resequencer (R101, R103). -/
def arriveCell (c : Cell) (s : State) : State :=
  let p := s.pair c.src c.dst
  if 128 ≤ seqDist p.expect c.cseq then
    sweepDead c.src c.dst (s.count W.FAB FAB_RSQ_LATE)
  else
    let s := s.setPair c.src c.dst { p with held := p.held ++ [c] }
    let s := { s with rsqPeak := kvSet 0 s.rsqPeak c.dst (max (kvGet 0 s.rsqPeak c.dst) (s.rsqNow c.dst)) }
    if p.broken then
      if c.pos = 1 ∨ c.pos = 3 then releaseRun c.src c.dst 128 (moveExpect c.src c.dst c.cseq s) else s
    else releaseRun c.src c.dst 128 s

/-- A train has drained: a completed EN 0 write takes it out of service now (R106, R107). -/
def doTrainDrained (t : Nat) (s : State) : State :=
  if !(s.flag (fabWin t) FAB_TCTRL 0) || !(s.train t).flight.isEmpty then s
  else
    let x := s.train t
    let s := s.level (fabWin t) 5 (locSelf (fabWin t)) false
    if x.leaving then ((ledgerTrainRemoved t s).setFlag (fabWin t) BLK_CTRL 0 false).setTrain t { x with leaving := false, stalled := false }
    else s.setTrain t { x with stalled := false }

/-- The oldest cell of train `t` toward output `o` arrives (R93, R101); a timeout that is due comes first. -/
def doCellArrival (t o : Nat) (chkOk parityOk : Bool) (s : State) : State :=
  match (s.train t).flight.find? (·.dst == o) with
  | none => s
  | some c =>
    let s := doReseqTimeout c.src o s
    let x := s.train t
    let s := s.setTrain t { x with flight := delFirst (fun d => d.dst == o) x.flight }
    let s :=
      if !chkOk then (s.count (fabWin t) FAB_HDR_ERR).raise0 (fabWin t) 3
      else if !parityOk then breakFrame c.src o ((s.count (fabWin t) FAB_PAR_ERR).raise0 (fabWin t) 4)
      else arriveCell c s
    doTrainDrained t s

/-- Admission is held: rounds of the hold are left (R51). -/
def admissionHeld (s : State) : Bool := s.shared.hold && s.shared.rounds != 0

/-- ROUNDS has run out before every block has applied: the hold is over and PAUSE_EXPIRED is set (R51). -/
def pauseExpired (s : State) : State :=
  if s.shared.hold ∧ s.shared.rounds = 0 then
    ({ s with shared := { s.shared with hold := false, pauseExpired := true } }).raise0 W.QMG 2
  else s

/-- The timers that count rounds of the lowest-numbered train in service (R51, R94, R102): what is due has its effect before the
next round counts. -/
def countRounds (s : State) : State :=
  let s := pauseExpired s
  let s := if s.shared.hold then { s with shared := { s.shared with rounds := s.shared.rounds - 1 } } else s
  s.pairs.foldl (fun s e =>
    let s := doReseqTimeout (e.1 / 16) (e.1 % 16) s
    let p := s.pair (e.1 / 16) (e.1 % 16)
    if pairRunning p && !p.broken then s.setPair (e.1 / 16) (e.1 % 16) { p with timer := p.timer + 1 } else s) s

/-- A train completes a round (R95, R96). The requests of `stale` (iteration, input, output) name a cell that another train has
committed meanwhile (R98). -/
def doFabricRound (t : Nat) (stale : List (Nat × Nat × Nat)) (s : State) : State :=
  if 3 ≤ t || !inService s t then s
  else
    let lowest := lowestTrain s == some t
    let r := (List.range 3).foldl (iteration t stale) ⟨s, [], []⟩
    let s := r.s.count64 (fabWin t) FAB_ROUNDS_LO
    if lowest then countRounds s else s

/-! ### Taking a train out of service and back (R106–R110) -/

/-- FREEZE is set, unless the last train in service would freeze (R106). -/
def freezeTrain (t : Nat) (s : State) : State :=
  if inService s t && !otherInService s t then s.setTrain t { s.train t with refused := true }
  else doTrainDrained t ((s.setTrain t { s.train t with refused := false }).setFlag (fabWin t) FAB_TCTRL 0 true)

/-- TRN_AUTOFROZEN holds while AUTOFREEZE has frozen a train; it reports the window of the lowest such train in BLOCK (R110,
R115). -/
def noteAutoFrozen (s : State) : State :=
  match (List.range 3).find? fun u => (s.train u).autoFrozen with
  | some u => s.level W.FAB 7 (locSelf (fabWin u)) true
  | none => s.level W.FAB 7 (locSelf W.FAB) false

/-- FREEZE is cleared: with EN 1 the train returns to service at once. -/
def unfreezeTrain (t : Nat) (s : State) : State :=
  let s := s.setTrain t { s.train t with refused := false, autoFrozen := false, leaving := false, stalled := false }
  noteAutoFrozen ((s.setFlag (fabWin t) FAB_TCTRL 0 false).level (fabWin t) 5 (locSelf (fabWin t)) false)

/-- A write to FAB_TCTRL. -/
def doTctrl (t data : Nat) (s : State) : State :=
  let s := s.setFlag (fabWin t) FAB_TCTRL 1 (bit data 1)
  if bit data 0 then freezeTrain t s else unfreezeTrain t s

/-- A completed guarded write of EN 0 (R107). -/
def doTrainDisable (t : Nat) (s : State) : State :=
  if inService s t && !otherInService s t then s.setTrain t { s.train t with refused := true }
  else if !s.flag (fabWin t) BLK_CTRL 0 then s.setFlag (fabWin t) FAB_TCTRL 0 true
  else if (s.train t).stalled then
    noteAutoFrozen <| (((ledgerTrainRemoved t s).setFlag (fabWin t) BLK_CTRL 0 false).setTrain t
      { s.train t with flight := [], leaving := false, stalled := false }).level (fabWin t) 5 (locSelf (fabWin t)) false
  else
    doTrainDrained t ((s.setFlag (fabWin t) FAB_TCTRL 0 true).setTrain t { s.train t with leaving := true })

/-- A completed guarded write of EN 1 (R109). -/
def doTrainEnable (t : Nat) (s : State) : State :=
  let s := s.setTrain t { s.train t with gptr := [], aptr := [], autoFrozen := false, leaving := false, stalled := false }
  noteAutoFrozen (((s.setFlag (fabWin t) FAB_TCTRL 0 false).setFlag (fabWin t) BLK_CTRL 0 true).level (fabWin t) 5
    (locSelf (fabWin t)) false)

/-- A frozen train has not drained within the resequencer timeout (R107). -/
def doDrainStall (t : Nat) (s : State) : State :=
  if s.flag (fabWin t) FAB_TCTRL 0 && !(s.train t).flight.isEmpty then
    (s.setTrain t { s.train t with stalled := true }).level (fabWin t) 5 (locSelf (fabWin t)) true
  else s

/-- FAB_BIST.START (R108). -/
def doBistStart (t data : Nat) (s : State) : State :=
  if !bit data 0 then s
  else if !s.flag (fabWin t) BLK_CTRL 0 && trainDrained s t then
    s.setTrain t { s.train t with bistBusy := true, bistPass := false, bistFail := false }
  else s.setTrain t { s.train t with bistFail := true }

/-- The BIST ends; a failure writes the location of its first failing stage (R108). -/
def doBistComplete (t : Nat) (pass : Bool) (loc : Nat) (s : State) : State :=
  if !(s.train t).bistBusy then s
  else
    let s := s.setTrain t { s.train t with bistBusy := false, bistPass := pass, bistFail := !pass }
    if pass then s else (s.setReg (fabWin t) FAB_BIST_LOC loc).raise (fabWin t) 6 loc

/-- Source 2–6 of a train with AUTOFREEZE has entered Faulted (R110). -/
def autoFreeze (w src : Nat) (s : State) : State :=
  let t := w - W.FAB
  if W.FAB ≤ w ∧ w ≤ W.FAB + 2 ∧ 2 ≤ src ∧ src ≤ 6 ∧ s.flag w FAB_TCTRL 1 ∧ !s.flag w FAB_TCTRL 0
      ∧ !(inService s t && !otherInService s t) then
    noteAutoFrozen (doTrainDrained t ((s.setTrain t { s.train t with autoFrozen := true }).setFlag w FAB_TCTRL 0 true))
  else s

/-- A block reset of a train keeps the last train in service and takes any other out at once (R107). `s` is the state before
the reset, `r` after its registers have returned to reset values. -/
def trainReset (t : Nat) (s r : State) : State :=
  let r := if t = 0 then { r with rsqPeak := [] } else r
  noteAutoFrozen <|
    if inService s t && !otherInService s t then
      (r.setFlag (fabWin t) BLK_CTRL 0 true).setTrain t { Train.idle with flight := (s.train t).flight, refused := true }
    else r.setTrain t Train.idle

/-! ### Status registers -/

/-- FAB_TSTAT. -/
def fabTstat (s : State) (t : Nat) : Nat :=
  let x := s.train t
  256 * b2n (inService s t) + 16 * b2n x.refused + 8 * b2n x.bistFail + 4 * b2n x.bistPass + 2 * b2n x.bistBusy
    + b2n (trainDrained s t)

/-- FAB_SVC. -/
def fabSvc (s : State) : Nat :=
  ((List.range 3).map fun t =>
    16 * 2 ^ t * b2n (s.flag (fabWin t) FAB_TCTRL 0) + 2 ^ t * b2n (inService s t)).sum

/-- FAB_RSQ_OCC of an output. -/
def fabOcc (s : State) (o : Nat) : Nat := kvGet 0 s.rsqPeak o * 65536 + s.rsqNow o

/-- FAB_PTR. -/
def fabPtr (s : State) (t k : Nat) : Nat := 16 * kvGet 0 (s.train t).aptr k + kvGet 0 (s.train t).gptr k

/-- The strobe check of R114. -/
def fabCheck (w : Nat) (s : State) : Nat :=
  if w = W.FAB ∧ bits (s.shadow w FAB_RSQ_TIMEOUT) 15 0 < 256 then 1 else 0

end Sys2Proof.Machine
end

