-- ==== Sys2Proof/Machine/Pond.lean ====
section
/-! DEFINITION. Admission, charging, push-out, stalls, ECC and bank retirement of the Pond (05_pond_and_queues.md). -/
namespace Sys2Proof.Machine
open Reg

/-- Remove the arrival from its fabric input. -/
def takeArrival (fid : Nat) (s : State) : State :=
  { s.modPond (fun p => { p with arrivals := p.arrivals.filter (·.fid != fid) }) with
    wakeFids := s.wakeFids.filter (· != fid) }

/-! ### Cells of admitted frames (R117, R118, R124) -/

/-- ENG_FLOOR_FULL for an engine return that found its floor full and was refused or discarded in R124 (R130). -/
def noteEngReturn (o : Origin) (passes : Nat) (s : State) : State :=
  match o with
  | .sgeReturn | .aueReturn => if 1 ≤ passes then s.raise0 W.QMG 9 else s
  | _ => s

/-- What a creator counts when the Pond refuses its frame (R129, R184, R211, R219, R387); `full` says that an engine floor was
asked and was full. -/
def noteRefused (a : Arrival) (full : Bool) (s : State) : State :=
  match a.origin with
  | .sgeCreated => (s.count W.SGE SGE_EMIT_DROP).raise0 W.SGE 9
  | .notice _ => (s.count W.POL POL_VN_DROP).raise0 W.POL 3
  | .learnNotice => s.count W.EMT EMT_NOTICE_DROP
  | .inlet _ => s.count W.CQ CQ_IN_REFUSED
  | .nmPdu u =>
    let o := NMU_UCNT2 + 0x40 * u
    s.setFld W.NMU o 23 16 (satAdd 8 (s.fld W.NMU o 23 16) 1)
  | o => if full then noteEngReturn o a.tag.passes s else s

/-- A cell of an admitted frame finds every source empty: the frame is discarded (R124). -/
def midframeDrop (fid : Nat) (s : State) : State :=
  match s.frame? fid with
  | none => s
  | some f =>
    noteEngReturn f.origin f.tag.passes <| endFrame fid ((s.count W.QMG QMG_DROP_MIDFRAME).raise0 W.QMG 8)

/-- A frame whose cells have all arrived becomes visible to the fabric; a cut-through frame's cells are linked one by one, each
as soon as it is known whether it is the frame's last (R92, assumptions/84). -/
def afterCell (fid : Nat) (s : State) : State :=
  match s.frame? fid with
  | none => s
  | some f =>
    let n := f.charges.length
    if !f.tag.ct then if frameDone f then linkAll fid s else s
    else if f.whole then linkCell f (n - 1) s
    else if 2 ≤ n then linkCell f (n - 2) s
    else s

/-- The end of a frame in reception is known, with `n` of its cells in the Pond: the cell that waited for it is linked, and a
frame with all its cells becomes visible. -/
def endKnown (fid n : Nat) (s : State) : State :=
  match s.frame? fid with
  | none => s
  | some f =>
    if f.tag.ct then if n = 0 then s else linkCell f (n - 1) s
    else if frameDone f then linkAll fid s else s

/-- One cell of an admitted frame arrives: it is charged and given a bank, or the frame is discarded (R118, R124). -/
def chargeCell (fid : Nat) (s : State) : State :=
  match s.frame? fid with
  | none => s
  | some f =>
    match s.chargeFor f.eng f.tag.cls, s.pickBank with
    | some k, some b =>
      let s := s.modFrame fid fun f => { f with charges := f.charges ++ [k], banks := f.banks ++ [b] }
      let s := s.modPond fun p => { p with nextBank := (b + 1) % 32 }
      afterCell fid (notePeaks fid s)
    | _, _ => midframeDrop fid s

/-- BANK_ECC_RISING holds while a bank's count of the window is at or above THRESH, not 0; it names the lowest such bank (R139). -/
def noteEccRising (s : State) : State :=
  let th := s.fld W.QMG QMG_ECC_WIN 31 16
  let hit := s.pond.eccWindow.find? fun e => decide (th ≤ e.2)
  s.level W.QMG 5 (match hit with | some e => locUnit W.QMG e.1 | none => locSelf W.QMG) (th != 0 && hit.isSome)

/-- A Pond access to physical bank `phys` meets an ECC error in the word at `stage` and `bitn` (R117, R139). -/
def bankEcc (phys : Nat) (e : Ecc) (stage bitn : Nat) (s : State) : State :=
  let loc := locCode 0 W.QMG phys stage bitn
  match e with
  | .ok => s
  | .corrected =>
    let s := ledgerBankEcc phys ((s.count W.QMG (QMG_ECC_CORR + 4 * phys)).raise W.QMG 3 loc)
    noteEccRising (s.modPond fun p => { p with eccWindow := kvSet 0 p.eccWindow phys (kvGet 0 p.eccWindow phys + 1) })
  | .uncorrectable => (s.count W.QMG QMG_ECC_UNCORR).raise W.QMG 4 loc

/-- An access to a cell of frame `fid` in the Pond meets an ECC error; an uncorrectable one sets ERR (R117). -/
def pondEcc (fid : Nat) (s : State) (c : CellErr) : State :=
  match (s.frame? fid).bind fun f => f.banks[c.idx]? with
  | none => s
  | some b =>
    let s := bankEcc (s.reg W.QMG (QMG_BANKMAP + 4 * b)) c.ecc c.stage c.bit s
    if c.ecc = .uncorrectable then confineFrame fid s else s

/-- The cells that `len` bytes in hand fill: the first carries 16 bytes, every further one 64. -/
def fullCells (len : Nat) : Nat := if len < 16 then 0 else 1 + (len - 16) / 64

/-- The cells of a frame that can have arrived. -/
def cellsAvail (f : PFrame) : Nat := if f.whole then cellsOf f.payload.length else fullCells f.payload.length

/-- A further cell of an admitted frame arrives (R124). -/
def doIngressCell (fid : Nat) (s : State) : State :=
  match s.frame? fid with
  | none => s
  | some f =>
    if f.charges.length < cellsAvail f then chargeCell fid s else s

/-- Charge cells until `n` of the frame are charged, or it is discarded. -/
def chargeUpTo (fid n : Nat) : Nat → State → State
  | 0, s => s
  | k + 1, s =>
    match s.frame? fid with
    | none => s
    | some f => if n ≤ f.charges.length then s else chargeUpTo fid n k (chargeCell fid s)

/-- A frame in reception, at its fabric input or admitted, now holds `payload`; `whole` ends it. -/
def feedFrame (fid : Nat) (payload : List Byte) (whole : Bool) (g : Tag → Tag) (s : State) : State :=
  let s := s.modPond fun p => { p with
    arrivals := updFirst (·.fid == fid) (fun a => { a with payload := payload, whole := whole, tag := g a.tag }) p.arrivals }
  match s.frame? fid with
  | none => s
  | some f =>
    let s := s.modFrame fid fun f => { f with payload := payload, whole := whole, tag := g f.tag }
    let n := if whole then cellsOf payload.length else fullCells payload.length
    let s := if whole && !f.whole then endKnown fid f.charges.length s else s
    chargeUpTo fid n n s

/-- The frame is at its fabric input or in the Pond. -/
def frameKnown (s : State) (fid : Nat) : Bool := s.pond.arrivals.any (·.fid == fid) || (s.frame? fid).isSome

/-- Discard a frame wherever it is. -/
def discardFrame (fid : Nat) (s : State) : State := freeFrame fid (takeArrival fid s)

/-- An ECC window ends and the counts restart (R139). -/
def doEccWindowEnd (s : State) : State := noteEccRising (s.modPond fun p => { p with eccWindow := [] })

/-! ### Push-out (R126–R128) -/

/-- A frame holds shared cells and may be evicted (R127). -/
def evictable (f : PFrame) : Bool :=
  !f.committed && !f.tag.ct && !(f.charges.any (· < 4)) && !(f.copies.any (·.outlet)) && f.charges.contains srcShared

/-- The victim for an arrival of class `c`: lowest class below `c`, its fullest queue, the newest frame there. -/
def victimFor (c : Nat) (s : State) : Option PFrame :=
  let ev := s.pond.frames.filter evictable
  match (List.range c).find? fun v => ev.any fun f => f.tag.cls == v with
  | none => none
  | some v =>
    let evv := ev.filter fun f => f.tag.cls == v
    let best := (List.range 64).foldl (fun (b : Option (Nat × Nat)) p =>
      if evv.any fun f => PFrameHas f p then
        let q := s.occ (8 * p + v)
        match b with
        | none => some (p, q)
        | some (_, q0) => if q0 < q then some (p, q) else b
      else b) none
    match best with
    | none => none
    | some (p, _) => (evv.filter fun f => PFrameHas f p).getLast?

/-- Count one in a store of 32-bit saturating counters. -/
def kvCount (m : KV Nat) (k : Nat) : KV Nat := kvSet 0 m k (satAdd 32 (kvGet 0 m k) 1)

/-- Evict a frame (R128). -/
def evict (f : PFrame) (s : State) : State :=
  let s := s.count W.QMG (QMG_PUSHED + 4 * f.tag.cls)
  let s := f.copies.foldl (fun s c => s.modPond fun p => { p with qdrop := kvCount p.qdrop (8 * c.port + f.tag.cls) }) s
  freeFrame f.fid s

/-- Evict victims until S_free reaches NEED or `n` frames are gone. -/
def pushout (c need : Nat) : Nat → State → State
  | 0, s => s
  | n + 1, s =>
    if need ≤ s.sharedFree then s
    else match victimFor c s with
      | none => s
      | some f => pushout c need n (evict f s)

/-! ### Admission (R123, R129, R134) -/

/-- The engine floor of a frame that returns through FP10 or FP11 (R129). -/
def engFloorOf (a : Arrival) : Option Nat :=
  if (a.fp = 10 ∨ a.fp = 11) ∧ 1 ≤ a.tag.passes ∧ a.tag.passes ≤ 2 then some (2 * (a.fp - 10) + (a.tag.passes - 1)) else none

/-- A refusal counted in register `r`. -/
def refuse (a : Arrival) (r : Nat) (s : State) : State :=
  noteRefused a (r != QMG_DROP_DESC && r != QMG_DROP_DOWN) (takeArrival a.fid (s.count W.QMG r))

/-- An NM unit counts the PDUs that admission accepts as sent (16-bit, wrapping). -/
def noteAdmitted (o : Origin) (s : State) : State :=
  match o with
  | .nmPdu u =>
    let r := NMU_UCNT1 + 0x40 * u
    s.setFld W.NMU r 15 0 (s.fld W.NMU r 15 0 + 1)
  | _ => s

/-- Admit a frame toward `ports`: it takes a descriptor and its first cell is charged (R119, R123, R124). -/
def admitTo (a : Arrival) (e : Option Nat) (ports : List Nat) (s : State) : State :=
  let s := noteAdmitted a.origin ((takeArrival a.fid s).count64 W.QMG QMG_ADMIT_LO)
  let f : PFrame := ⟨a.fid, a.fp, a.tag, a.payload, a.whole, e, [], [],
    ports.map fun p => ⟨p, 0, a.tag.cm, false, false⟩, false, a.origin, []⟩
  chargeCell a.fid (noteDesc (s.modPond fun p => { p with frames := p.frames ++ [f] }))

/-- In Doze, a frame with a destination other than 60 and 58 is refused, PDUs of NM units and frames that matched a wake pattern
apart (R396). -/
def dozeRefuses (s : State) (a : Arrival) (dest : Nat) : Bool :=
  let exempt := match a.origin with
    | .nmPdu _ => true
    | _ => s.wakeFids.contains a.fid
  s.pwr.state == .doze && !exempt && (portsOf dest).any fun p => p != 58 && p != 60

/-- The admission decision of R123 on a frame whose destination is resolved. -/
def admitDecision (a : Arrival) (dest : Nat) (s : State) : State :=
  let c := a.tag.cls
  let all := (portsOf dest).filter fun p => !(s.pwr.state == .doze && p == 58)
  let fromDown := match a.origin with
    | .port p => s.portDown p
    | .twin => s.portDown 52
    | _ => false
  let countDown := fun (s : State) (ps : List Nat) =>
    ps.foldl (fun s p => s.modPond fun x => { x with qdropDown := kvCount x.qdropDown (8 * p + c) }) s
  if !s.enabled W.QMG || s.pwr.entering.isSome then takeArrival a.fid s
  else if dozeRefuses s a dest then noteRefused a false (takeArrival a.fid (s.count W.SYS SYS_DOZE_DROP))
  else if fromDown then takeArrival a.fid (countDown s all)
  else
    let e := engFloorOf a
    if s.descFree = 0 ∨ (s.descFree ≤ 256 ∧ e = none) then refuse a QMG_DROP_DESC s
    else
      let s := countDown s (all.filter fun p => s.portDown p || ethGated s p)
      let up := all.filter fun p => !(s.portDown p || ethGated s p)
      if up.isEmpty then refuse a QMG_DROP_DOWN s
      else if e.any (fun k => decide (0 < s.engFree k)) then admitTo a e up s
      else if s.charged (srcClass c) < s.clsFloor c then admitTo a e up s
      else
        let need := s.fld W.QMG QMG_PUSHOUT 18 0
        let s := if s.sharedFree < need ∧ s.flag W.QMG QMG_PUSHOUT 31 then pushout c need (s.fld W.QMG QMG_PUSHOUT 26 24) s else s
        if s.sharedFree < need then refuse a QMG_DROP_POOL (s.raise0 W.QMG 6)
        else
          let exp := s.fld W.QMG QMG_ALPHA (4 * c + 3) (4 * c)
          let above := fun p => decide (2 ^ exp * s.sharedFree ≤ 64 * s.occ (8 * p + c))
          let kept := up.filter fun p => !above p
          let s := (up.filter above).foldl (fun s p => s.modPond fun x => { x with qdrop := kvCount x.qdrop (8 * p + c) }) s
          if kept.isEmpty then refuse a (QMG_DROP_ADM + 4 * c) s else admitTo a e kept s

/-- Frames that a hold of R51 does not stop: engine returns, engine-created frames, NM PDUs and notices. -/
def holdExempt (o : Origin) : Bool :=
  match o with
  | .sgeReturn | .sgeCreated | .aueReturn | .notice _ | .learnNotice | .nmPdu _ => true
  | _ => false

/-- FRAME_ADMISSION: the oldest classified frame at fabric input `fp` that no hold stops (R51, R123). -/
def doAdmission (fp : Nat) (s : State) : State :=
  match s.pond.arrivals.find? fun a => a.fp == fp && a.dest.isSome && (!admissionHeld s || holdExempt a.origin) with
  | none => s
  | some a => admitDecision a ((a.dest.getD 0).toNat) s

/-! ### Stalls (R136–R138) -/

/-- The cells of a frame that arrive later are discarded: it ends with those it has (R136). -/
def cutFrame (fid : Nat) (s : State) : State :=
  match s.frame? fid with
  | none => s
  | some f =>
    if f.whole then s
    else
      let p := f.payload.take (16 + 64 * (f.charges.length - 1))
      let s := match f.origin with
        | .port q => if isEthPort q then s.modMac (q - 32) fun m => { m with
            rx := m.rx.map fun r => if r.fid == some fid then { r with dead := true } else r } else s
        | _ => s
      feedFrame fid p true (fun t => t.setLength p.length) s

/-- A cut-through copy waits longer than STALL_US between the releases of two cells: its egress ends it with a bad FCS, and the
frame gets ERR and is counted once (R33, R136). A copy that the resequencer has ended already is only counted (assumptions/84). -/
def doCtStall (fid port : Nat) (s : State) : State :=
  if s.pond.ended.contains (fid, port) then
    (s.count W.QMG QMG_CT_END).modPond fun p => { p with ended := p.ended.filter (·.1 != fid) }
  else
    match s.frame? fid with
    | none => s
    | some f =>
      if f.tag.ct && isEthPort port && f.copies.any (fun c => c.port == port && c.enq && !(f.whole && c.rel == cellsOf f.payload.length))
      then
        let s := endCopy fid port ((s.count W.QMG QMG_CT_END).raise0 W.QMG 10)
        cutFrame fid (confineFrame fid (s.modPond fun p => { p with ended := p.ended.filter (·.1 != fid) }))
      else s

/-- Discard a frame that has stalled in reception (R137, R138). -/
def stallDrop (fid : Nat) (s : State) : State := freeFrame fid ((s.count W.QMG QMG_IN_STALL_DROP).raise0 W.QMG 11)

/-- RX_STALL: a partly received store-and-forward frame stalls (R138). -/
def doRxStall (fid : Nat) (s : State) : State :=
  match s.frame? fid with
  | none => s
  | some f => if f.whole || f.tag.ct then s else stallDrop fid s

/-! ### Bank retirement (R140–R143) -/

/-- A spare 32 or 33 is in use or retired (QMG_SPARE_STAT). -/
def spareTaken (s : State) (k : Nat) : Bool :=
  s.flag W.QMG QMG_SPARE_STAT (k - 32) || s.flag W.QMG QMG_SPARE_STAT (k - 30)

/-- QMG_MIGRATE START (R140, R141). -/
def doMigrateStart (data : Nat) (s : State) : State :=
  if !bit data 31 then s
  else
    let b := bits data 4 0
    let k := bits data 13 8
    if (k ≠ 32 ∧ k ≠ 33) ∨ !s.flag W.QMG QMG_DRAIN b ∨ spareTaken s k ∨ s.flag W.QMG QMG_MIGSTAT 0 then
      s.setFlag W.QMG QMG_MIGSTAT 2 true
    else
      (s.setReg W.QMG QMG_MIGSTAT 1).modPond fun p => { p with migBank := b, migSpare := k, migHold := false }

/-- The copy completes; `poisoned` names the cells (frame, cell, failing stage, bit) whose read was uncorrectable: each is
written with a poison mark. The Pond freezes the bank's Dial (R140). -/
def doMigrationCopyDone (poisoned : List (Nat × CellErr)) (s : State) : State :=
  if !s.flag W.QMG QMG_MIGSTAT 0 || s.pond.migHold then s
  else
    let b := s.pond.migBank
    let bad := poisoned.filter fun x => ((s.frame? x.1).bind fun f => f.banks[x.2.idx]?) == some b
    let s := s.setFld W.QMG QMG_MIGSTAT 15 8 (min bad.length 255)
    let s := bad.foldl (fun s x =>
      bankEcc (s.reg W.QMG (QMG_BANKMAP + 4 * b)) .uncorrectable x.2.stage x.2.bit
        (s.modFrame x.1 fun f => { f with poison := f.poison ++ [x.2.idx] })) s
    s.modPond fun p => { p with migHold := true }

/-- Egress storage is read: the poison marks of a copy that is ready at the head of its queue, or that its reader holds, set ERR
(R140, assumptions/83). -/
def sweepPoison (s : State) : State :=
  (s.pond.frames.filter fun f => !f.poison.isEmpty).foldl (fun s f =>
    if f.copies.any fun c => (c.enq && c.outlet) || (copyReady f c && (s.queueFids (8 * c.port + f.tag.cls)).head? == some f.fid) then
      confineFrame f.fid (s.modFrame f.fid fun f => { f with poison := [] })
    else s) s

/-- A physical bank is out of service: QMG_RETIRED, or SPARE_STAT for a spare; the ledger keeps it (R140, R141). -/
def retireBank (phys : Nat) (s : State) : State :=
  ledgerRetire phys <|
    if phys < 32 then s.setFlag W.QMG QMG_RETIRED phys true else s.setFlag W.QMG QMG_SPARE_STAT (phys - 30) true

/-- Point a logical bank at a spare and retire the bank it leaves (R140 steps 3 and 4). -/
def remapBank (b k : Nat) (s : State) : State :=
  let old := s.reg W.QMG (QMG_BANKMAP + 4 * b)
  let s := (s.setReg W.QMG (QMG_BANKMAP + 4 * b) k).setFlag W.QMG QMG_SPARE_STAT (k - 32) true
  (retireBank old (s.setFlag W.QMG QMG_DRAIN b false)).raise W.QMG 12 (locUnit W.QMG old)

/-- The Dial of the migrating bank. -/
def migDial (s : State) : Nat := s.pond.migBank / 8

/-- At enable, the banks named in QMG_RETIRE_LO and HI go onto spares or are left draining (R143). -/
def retireAtEnable (s : State) : State :=
  let named := fun k => if k < 32 then s.flag W.QMG QMG_RETIRE_LO k else s.flag W.QMG QMG_RETIRE_HI (k - 32)
  let s := if named 32 then s.setFlag W.QMG QMG_SPARE_STAT 2 true else s
  let s := if named 33 then s.setFlag W.QMG QMG_SPARE_STAT 3 true else s
  foldRange (fun s b =>
    let phys := s.reg W.QMG (QMG_BANKMAP + 4 * b)
    if !named phys then s
    else match [32, 33].find? fun k => !named k && !spareTaken s k with
      | some k => remapBank b k s
      | none => s.setFlag W.QMG QMG_DRAIN b true) s 0 32

/-! ### Registers -/

/-- QMG_QSEL: select a queue; CLRPEAK resets its peak to its present occupancy (R121). -/
def doQsel (data : Nat) (s : State) : State :=
  let q := bits data 8 0
  let s := s.setReg W.QMG QMG_QSEL q
  if bit data 31 then s.modPond fun p => { p with peak := kvSet 0 p.peak q (s.occ q) } else s

/-- Free cells in all sources (QMG_CELLS_FREE). -/
def cellsFree (s : State) : Nat := s.bankTotal - (s.pond.frames.map (·.charges.length)).sum

/-- The strobe check of R144. -/
def qmgCheck (s : State) : Nat :=
  let sh := fun o hi lo => bits (s.shadow W.QMG o) hi lo
  let al := s.shadow W.QMG QMG_ALPHA
  let need := sh QMG_PUSHOUT 18 0
  if (List.range 8).any (fun c => decide (9 < bits al (4 * c + 3) (4 * c)))
      || (List.range 64).any (fun p => decide (1000 < sh (QMG_PORTCFG + 4 * p) 25 16))
      || sh QMG_STALL 15 0 == 0 || sh QMG_STALL 31 16 == 0
      || (sh QMG_PUSHOUT 31 31 == 1 && (sh QMG_PUSHOUT 26 24 == 0 || need == 0)) || decide (393216 < need) then 1
  else if (List.range 4).any (fun e => decide (sh (QMG_ENGFLOOR + 4 * e) 15 0 < sh (QMG_ENGFLOOR + 4 * e) 31 16)) then 2
  else if s.bankTotal < ((List.range 8).map fun c => sh (QMG_FLOOR + 4 * c) 18 0).sum
      + ((List.range 4).map fun e => sh (QMG_ENGFLOOR + 4 * e) 15 0).sum + sh QMG_HEADROOM 18 0 + need then 2
  else 0

end Sys2Proof.Machine
end

