-- ==== Sys2Proof/Machine/Dial.lean ====
section
/-! DEFINITION. The Dials: slot tables, background ranking, freeze and drain, table swap (06_dial_arbiter.md). -/
namespace Sys2Proof.Machine
open Reg

def State.dial (s : State) (d : Nat) : Dial := kvGet Dial.idle s.dials d
def State.setDial (s : State) (d : Nat) (x : Dial) : State := { s with dials := kvSet Dial.idle s.dials d x }

/-- The window of DIA[d]. -/
def diaWin (d : Nat) : Nat := W.DIA + d

/-- Slots, requesters and resources of a Dial (R146, R147). -/
def dialLen (d : Nat) : Nat := if d = 4 then 256 else 512
def dialReqs (d : Nat) : Nat := if d = 4 then 16 else 32
def dialBanks (d : Nat) : Nat := if d = 4 then 1 else 8

/-- A requester number that never requests (R147). -/
def dialReserved (d r : Nat) : Bool := if d = 4 then decide (9 ≤ r) else decide (25 ≤ r)

/-- A requester that makes no requests now: a reserved number, or the crossing reader of a train that is not in service (R147). -/
def dialSilent (s : State) (d r : Nat) : Bool :=
  dialReserved d r || (d != 4 && decide (16 ≤ r) && decide (r < 19) && !inService s (r - 16))

/-- The bits of a table word that exist: in DIA[4] bit 4 of OWNER is reserved (R149). -/
def dialTableMask (d : Nat) : Nat := if d = 4 then 0x8F8F8F8F else 0x9F9F9F9F

/-- Byte `slot` of table bank `bank` (R149). -/
def slotEntry (s : State) (d bank slot : Nat) : Nat :=
  bits (s.reg (diaWin d) ((if bank = 0 then DIAL_TBL0 else DIAL_TBL1) + 4 * (slot / 4))) (8 * (slot % 4) + 7) (8 * (slot % 4))

/-- The owner of the slot at the pointer. -/
def slotOwner (s : State) (d : Nat) : Option Nat :=
  let e := slotEntry s d (s.dial d).active (s.dial d).slot
  if bit e 7 then some (bits e 4 0) else none

/-- The base rank of a requester (live set). -/
def baseRank (s : State) (d r : Nat) : Nat := bits (s.reg (diaWin d) (DIAL_BASE + 4 * (r / 8))) (4 * (r % 8) + 3) (4 * (r % 8))

/-- The current rank of a requester; unlisted, its base (R152). -/
def rankOf (s : State) (d r : Nat) : Nat := kvGet 0 (s.dial d).rank r

/-- A Dial is frozen by firmware or by a migration of the Pond (R155). -/
def dialFrozen (s : State) (d : Nat) : Bool :=
  s.flag (diaWin d) DIAL_FREEZE 0 || (s.pond.migHold && decide (d < 4) && migDial s == d)

/-- A grant: requester, resource, won in an owned slot. -/
structure Grant where
  req : Nat
  bank : Nat
  slot : Bool
deriving DecidableEq, Repr

/-- The grants of one round among waiting requests (R150, R151): slot claim, then background ranking per resource. -/
def dialGrants (s : State) (d : Nat) (reqs : List DialReq) : List Grant :=
  let claim := match slotOwner s d with
    | none => []
    | some r => match reqs.find? (·.req == r) with
      | none => []
      | some q => [(⟨r, q.bank, true⟩ : Grant)]
  (List.range (dialBanks d)).foldl (fun gs b =>
    if gs.any (·.bank == b) then gs
    else
      let cand := (List.range (dialReqs d)).filter fun r => reqs.any fun q => q.req == r && q.bank == b
      match cand.foldl (fun (w : Option Nat) r =>
          match w with
          | none => some r
          | some v => if rankOf s d v < rankOf s d r then some r else w) none with
      | none => gs
      | some w => gs ++ [⟨w, b, false⟩]) claim

/-- The oldest request of a grant leaves; the others wait one more round (R157). -/
def serveReqs (gs : List Grant) (reqs : List DialReq) : List DialReq :=
  (gs.foldl (fun (l : List DialReq) g => delFirst (fun q => q.req == g.req && q.bank == g.bank) l) reqs).map
    fun q => { q with wait := q.wait + 1 }

/-- The ranks after a round (R150). -/
def newRanks (s : State) (d : Nat) (gs : List Grant) (reqs : List DialReq) : KV Nat :=
  (List.range (dialReqs d)).foldl (fun m r =>
    if !(reqs.any (·.req == r)) then m
    else if gs.any (fun g => g.req == r && !g.slot) then kvSet 0 m r (baseRank s d r)
    else if gs.any (fun g => g.req == r) then m
    else kvSet 0 m r (min (kvGet 0 m r + 1) 15)) (s.dial d).rank

/-- Report requests whose wait reaches DIAL_STARVE.ROUNDS, once each (R159). -/
def reportStarved (d : Nat) (s : State) : State :=
  let lim := s.fld (diaWin d) DIAL_STARVE 15 0
  if lim = 0 then s
  else
    let x := s.dial d
    let hit := fun (q : DialReq) => !q.reported && decide (lim ≤ q.wait)
    let s := (x.reqs.filter hit).foldl (fun s q =>
      (s.setReg (diaWin d) DIAL_STARVE_WHO (2 ^ 31 + q.req)).raise (diaWin d) 3 (locUnit (diaWin d) q.req)) s
    s.setDial d { x with reqs := x.reqs.map fun q => if hit q then { q with reported := true } else q }

/-- The longest waits seen (DIAL_WAITMAX). -/
def noteWaits (d : Nat) (s : State) : State :=
  (s.dial d).reqs.foldl (fun s q =>
    let o := DIAL_WAITMAX + 4 * q.req
    s.setReg (diaWin d) o (max (s.reg (diaWin d) o) (min q.wait 65535))) s

/-- A free 40-bit address. -/
def State.drawAddr (s : State) : Nat × State :=
  let (a, s) := s.drawWord
  let (h, s) := s.drawWord
  (h % 256 * 2 ^ 32 + a, s)

/-- The DMC reports an inline-ECC error of a DRAM read at `addr` (R412): it counts and raises it; the ledger counts the
corrected. Channel and byte lane are the memory's: free values. The answer: the location, and the state. -/
def dramReport (e : Ecc) (addr : Nat) (s : State) : Nat × State :=
  let (c, s) := s.drawWord
  let (l, s) := s.drawWord
  let loc := locCode 0 W.DMC (c % 2) (l % 2) 0x3F
  (loc, match e with
    | .ok => s
    | .corrected => ledgerDramEcc ((s.count64 W.DMC DMC_ECC_CORR_LO).raise W.DMC 2 loc)
    | .uncorrectable =>
      let s := (s.setReg W.DMC DMC_ECC_ADDR_LO addr).setReg W.DMC DMC_ECC_ADDR_HI (addr / 2 ^ 32 % 256)
      (s.count W.DMC DMC_ECC_UNCORR).raise W.DMC 3 loc)

/-- A DRAM read of a block that no command names by its address meets an ECC error: the address is a free value. -/
def dramEcc (e : Ecc) (s : State) : State :=
  match e with
  | .ok => s
  | _ => let a := s.drawAddr; (dramReport e a.1 a.2).2

/-- DIAL_ROUND: requests of `newReqs` (requester, bank) are presented, then one round is granted (R150). A disabled or frozen
Dial grants nothing and its rounds do not count (R155, R157); nor does the DRAM Dial in Doze or while the memory is in
self-refresh (R396, R411). -/
def doDialRound (d : Nat) (newReqs : List (Nat × Nat)) (e : Ecc) (s : State) : State :=
  if 5 ≤ d then s
  else
    let x := s.dial d
    let asleep := d == 4 && (s.pwr.state == .doze || s.flag W.DMC DMC_STAT 3)
    let new := newReqs.map fun q => (⟨q.1, if d = 4 then 0 else q.2 % 8, 0, false⟩ : DialReq)
    let reqs := (x.reqs ++ new).filter fun q => !dialSilent s d q.req
    let s := s.setDial d { x with reqs := reqs }
    if !s.enabled (diaWin d) || dialFrozen s d || asleep then s
    else
      let gs := dialGrants s d reqs
      let slot := (x.slot + 1) % dialLen d
      let ranks := newRanks s d gs reqs
      let s := s.setDial d { x with reqs := serveReqs gs reqs, rank := ranks, slot := slot, drained := false }
      let s := s.level (diaWin d) 4 (locSelf (diaWin d)) false
      let s := gs.foldl (fun s g =>
        s.countWrap (diaWin d) ((if g.slot then DIAL_GRANT_SLOT else DIAL_GRANT_BG) + 4 * g.req) 1) s
      let s := (noteWaits d s).count64 (diaWin d) DIAL_ROUNDS_LO
      let s := reportStarved d s
      if d = 4 && !gs.isEmpty then dramEcc e s else s

/-- DIAL_FREEZE is written (R155). -/
def doDialFreeze (d data : Nat) (s : State) : State :=
  let s := s.setReg (diaWin d) DIAL_FREEZE (bits data 0 0)
  if dialFrozen s d then s else s.setDial d { s.dial d with drained := false }

/-- The last access of a frozen Dial completes: DRAINED, and DIAL_DRAIN_STALL ends, even where the freeze has been released
meanwhile (R155). -/
def doDialDrained (d : Nat) (s : State) : State :=
  if 5 ≤ d then s
  else
    let s := if dialFrozen s d then s.setDial d { s.dial d with drained := true } else s
    s.level (diaWin d) 4 (locSelf (diaWin d)) false

/-- A frozen Dial has not drained within 10 µs (R155). -/
def doDialStall (d : Nat) (s : State) : State :=
  if d < 5 && dialFrozen s d && !(s.dial d).drained then s.level (diaWin d) 4 (locSelf (diaWin d)) true else s

/-- DIAL_WAITCLR clears the selected WAITMAX entries (R157). -/
def doWaitClr (d data : Nat) (s : State) : State :=
  foldRange (fun s r => if bit data r then s.setReg (diaWin d) (DIAL_WAITMAX + 4 * r) 0 else s) s 0 (dialReqs d)

/-- The apply of a Dial update at table wrap: the swap bank becomes active, and a requester whose base rank is new takes it; `o`
is the state before (R152, R153). -/
def dialApplied (d : Nat) (o s : State) : State :=
  let ranks := (List.range (dialReqs d)).foldl
    (fun m r => if baseRank s d r = baseRank o d r then m else kvSet 0 m r (baseRank s d r)) (s.dial d).rank
  s.setDial d { s.dial d with active := s.fld (diaWin d) DIAL_SWAP 0 0, rank := ranks }

/-- A write to a table word: ignored and counted in the active bank and in one about to become active (R154). -/
def dialTableIgnored (d bank : Nat) (s : State) : Bool :=
  (s.dial d).active == bank || ((s.win (diaWin d)).upd.pending && s.fld (diaWin d) DIAL_SWAP 0 0 != bits (s.shadow (diaWin d) DIAL_SWAP) 0 0
    && bits (s.shadow (diaWin d) DIAL_SWAP) 0 0 == bank)

/-- The ignored write is counted and raised (R154). -/
def dialActiveWrite (d : Nat) (s : State) : State := (s.count (diaWin d) DIAL_AW_COUNT).raise0 (diaWin d) 2

/-- The strobe check of R156: a VALID entry of the swap bank that names a reserved requester. -/
def diaCheck (d : Nat) (s : State) : Nat :=
  let bank := bits (s.shadow (diaWin d) DIAL_SWAP) 0 0
  if (List.range (dialLen d)).any fun k =>
      let e := slotEntry s d bank k
      bit e 7 && dialReserved d (bits e 4 0) then 3 else 0

/-- MIGRATION_REMAP: once the frozen Dial has drained, the map points at the spare and the freeze is released (R140, R145). -/
def doMigrationRemap (s : State) : State :=
  let d := migDial s
  if !s.flag W.QMG QMG_MIGSTAT 0 || !s.pond.migHold || !(s.dial d).drained then s
  else
    let old := s.reg W.QMG (QMG_BANKMAP + 4 * s.pond.migBank)
    let s := remapBank s.pond.migBank s.pond.migSpare s
    let s := s.modPond fun p => { p with migHold := false }
    let s := if s.flag (diaWin d) DIAL_FREEZE 0 then s else s.setDial d { s.dial d with drained := false }
    let s := (s.setFlag W.QMG QMG_MIGSTAT 0 false).setFlag W.QMG QMG_MIGSTAT 1 true
    if s.fld W.QMG QMG_MIGSTAT 15 8 = 0 then s else s.raise W.QMG 13 (locUnit W.QMG old)

/-- DIAL_DRAINED and DIAL_BANK. -/
def dialDrainedReg (s : State) (d : Nat) : Nat :=
  2 * b2n (s.pond.migHold && decide (d < 4) && migDial s == d) + b2n (s.dial d).drained
def dialBankReg (s : State) (d : Nat) : Nat := (s.dial d).active * 65536 + (s.dial d).slot

end Sys2Proof.Machine
end

