-- ==== Sys2Proof/Machine/Memory.lean ====
section
/-! DEFINITION. The bytes of memory (SRAM and DRAM of R406) and of the NOR flash, and the DRAM fitted (R407). A byte that
nothing has written reads as 0 in memory and as 0xFF in the flash (notes/assumptions/12). -/
namespace Sys2Proof.Machine
open Reg

/-- The canonical form of memory: rising addresses, and no byte that an unlisted address reads as. -/
def Memory.wf (m : KV Byte) : Bool := kvWf 0 m

/-- The canonical form of the flash array. -/
def Flash.wf (m : KV Byte) : Bool := kvWf 0xFF m

/-- The byte of memory at a physical address. -/
def State.memByte (s : State) (a : Nat) : Byte := kvGet 0 s.mem a

/-- `n` bytes of memory from `a`. -/
def State.memBytes (s : State) (a n : Nat) : List Byte := (List.range n).map fun i => s.memByte (a + i)

/-- Write bytes from `a` on. -/
def State.memWrite (s : State) (a : Nat) : List Byte → State
  | [] => s
  | b :: t => State.memWrite { s with mem := kvSet 0 s.mem a b } (a + 1) t

/-- The byte of flash offset `a`, CS0 below CS1 in the space of R443. -/
def State.norByte (s : State) (a : Nat) : Byte := kvGet 0xFF s.nor a

/-- `n` bytes of flash from `a`. -/
def State.norBytes (s : State) (a n : Nat) : List Byte := (List.range n).map fun i => s.norByte (a + i)

/-- Set bytes of the flash from `a` on. -/
def State.norSet (s : State) (a : Nat) : List Byte → State
  | [] => s
  | b :: t => State.norSet { s with nor := kvSet 0xFF s.nor a b } (a + 1) t

/-- Program bytes from `a` on: a program only clears bits (R548). -/
def State.norProgram (s : State) (a : Nat) : List Byte → State
  | [] => s
  | b :: t => State.norProgram { s with nor := kvSet 0xFF s.nor a (s.norByte a &&& b) } (a + 1) t

/-- Erase `n` bytes from `a`. -/
def State.norErase (s : State) (a n : Nat) : State :=
  { s with nor := kvFilter (fun k => !(decide (a ≤ k) && decide (k < a + n))) s.nor }

/-- The DRAM fitted that DMC_CFG describes, in bytes (R407): seven eighths of 2 channels × RANKS × density. -/
def dramSize (cfg : Nat) : Nat := 7 * (2 * bits cfg 9 8 * (2 ^ bits cfg 5 4 * 2 ^ 29)) / 8

/-- The DRAM fitted for every check: 0 until DMC_STAT.INIT is 1 (R407). -/
def State.dramFitted (s : State) : Nat :=
  if s.flag W.DMC DMC_STAT 0 then dramSize (s.reg W.DMC DMC_CFG) else 0

/-- The base of the DRAM region (R406). -/
abbrev dramBase : Nat := 0x80000000

/-- A region lies wholly inside the DRAM fitted. -/
def State.inDram (s : State) (a n : Nat) : Bool := decide (dramBase ≤ a) && decide (a + n ≤ dramBase + s.dramFitted)

end Sys2Proof.Machine
end

