-- ==== Sys2Proof/Machine/Service.lean ====
section
/-! DEFINITION. The service MAC (R365), the LPDDR controller (R407–R412) and the xSPI controller (R413–R417). -/
namespace Sys2Proof.Machine
open Reg

/-! ### The service port (R365) -/

/-- The address of entry `i` of a ring whose base register is `base`: a 2-byte length and a 1,536-byte buffer each. -/
def ringEntry (base i : Nat) : Nat := 0x10000000 + 256 * base + 1538 * i

/-- The frame is for SVP: its own address, or a group address. -/
def svpAccepts (s : State) (l : List Byte) : Bool :=
  bit (byteAt l 0) 0 || beNat (l.take 6) == s.fld W.SVP SVP_MAC_HI 15 0 * 2 ^ 32 + s.reg W.SVP SVP_MAC_LO

/-- SVP_RX_FRAME: bytes without the FCS, and whether the FCS was right. A ring is full when one more entry would make HEAD meet
TAIL. -/
def doSvpRx (l : List Byte) (fcsOk : Bool) (s : State) : State :=
  if !s.enabled W.SVP then s
  else if l.length < 60 ∨ 1518 < l.length ∨ !fcsOk then s.count W.SVP SVP_RX_ERR
  else if !svpAccepts s l then s
  else
    let n := s.fld W.SVP SVP_RINGLEN 7 0
    let head := s.fld W.SVP SVP_RXPTR 15 8
    let tail := s.fld W.SVP SVP_RXPTR 7 0
    if n = 0 ∨ (head + 1) % n = tail % n then (s.count W.SVP SVP_RX_OVF).raise0 W.SVP 2
    else
      let s := s.memWrite (ringEntry (s.reg W.SVP SVP_RXRING) (head % n)) (beBytes 2 l.length ++ l)
      let s := s.setFld W.SVP SVP_RXPTR 15 8 ((head + 1) % n)
      s.setFld W.SVP SVP_FRAMES 15 0 (s.fld W.SVP SVP_FRAMES 15 0 + 1)

/-- A write to SVP_TXPTR: SVP sends the frames from TAIL up to the new HEAD. -/
def doSvpTx (data : Nat) (s : State) : State :=
  let head := bits data 15 8
  let s := s.setFld W.SVP SVP_TXPTR 15 8 head
  let n := s.fld W.SVP SVP_RINGLEN 23 16
  if !s.enabled W.SVP ∨ n = 0 then s
  else
    let sent := (head % n + n - s.fld W.SVP SVP_TXPTR 7 0 % n) % n
    let s := s.setFld W.SVP SVP_TXPTR 7 0 (head % n)
    s.setFld W.SVP SVP_FRAMES 31 16 (s.fld W.SVP SVP_FRAMES 31 16 + sent)

/-- A write of EN 1 to SVP is ignored while the SVC_EN strap is low. -/
def svpMayRun (s : State) : Bool := bit s.straps 3

/-! ### DMC (R407–R412) -/

/-- DMC_STAT bits: INIT, RESULTS_VALID, SR. -/
def dmcInit (s : State) : Bool := s.flag W.DMC DMC_STAT 0
def dmcSr (s : State) : Bool := s.flag W.DMC DMC_STAT 3

/-- DMC_SIZE: the DRAM fitted in MiB. -/
def dmcSizeReg (s : State) : Nat := s.dramFitted / 2 ^ 20

/-- DMC_TRAIN: START trains while EN is 1 and INIT is 0; RESTORE takes the kept results (R409, R410). -/
def doDmcTrain (data : Nat) (s : State) : State :=
  let s :=
    if bit data 0 && s.enabled W.DMC && !dmcInit s && !s.flag W.DMC DMC_TRAIN_STAT 31 then s.setReg W.DMC DMC_TRAIN_STAT (2 ^ 31)
    else s
  if !bit data 1 then s
  else if s.flag W.DMC DMC_STAT 2 then { s.setFlag W.DMC DMC_STAT 3 false with dmc := { s.dmc with restoring := true } }
  else s.setFlag W.DMC DMC_TRAIN_STAT 29 true

def State.modCrn (s : State) (f : Crown → Crown) : State := { s with crn := f s.crn }

/-- SYS_BOOT_STAT.ERROR takes its first code (R438). -/
def bootError (e : Nat) (s : State) : State :=
  if s.fld W.SYS SYS_BOOT_STAT 7 0 = 0 then s.setFld W.SYS SYS_BOOT_STAT 7 0 e else s

/-- The start halts (R435, R438). -/
def romHalt (s : State) : State := s.modCrn fun c => { c with halted := true }

/-- Training ends (R409); a failure is ERROR 0x06 of the start, which halts (R438). -/
def doTrainingComplete (ok : Bool) (chan lane : Nat) (s : State) : State :=
  if !s.flag W.DMC DMC_TRAIN_STAT 31 then s
  else if ok then
    ((s.setReg W.DMC DMC_TRAIN_STAT (2 ^ 30)).setFlag W.DMC DMC_STAT 0 true).setFlag W.DMC DMC_STAT 2 true
  else
    romHalt <| bootError 6 <| (s.setReg W.DMC DMC_TRAIN_STAT (2 ^ 29 + (chan % 2) * 2 ^ 8 + lane % 2)).raise W.DMC 4
      (locCode 0 W.DMC (chan % 2) (lane % 2) 0x3F)

/-- The memory has left self-refresh with the kept results (R410). -/
def doRestoreDone (s : State) : State :=
  if !s.dmc.restoring then s
  else { s.setFlag W.DMC DMC_STAT 0 true with dmc := { s.dmc with restoring := false } }

/-- DMC_SR: ENTER and EXIT (R411). -/
def doDmcSr (data : Nat) (s : State) : State :=
  let s := if bit data 0 && dmcInit s then s.setFlag W.DMC DMC_STAT 3 true else s
  if bit data 1 then s.setFlag W.DMC DMC_STAT 3 false else s

/-- The memory enters self-refresh once the DRAM Dial has no transfer in progress (R397, R411). -/
def doSelfRefresh (s : State) : State :=
  if !s.dmc.entering then s
  else { (if dmcInit s then s.setFlag W.DMC DMC_STAT 3 true else s) with dmc := { s.dmc with entering := false } }

/-- The memory leaves self-refresh at the return to Run (R411). -/
def leaveSelfRefresh (s : State) : State :=
  { s.setFlag W.DMC DMC_STAT 3 false with dmc := { s.dmc with entering := false } }

/-- A mode-register access through DMC_MR (R412): what a mode register holds is the memory's, a free value. -/
def doMrAccess (data : Nat) (e : Ecc) (s : State) : State :=
  if !bit data 31 || !dmcInit s then s
  else
    let s := dramEcc e s
    if bit data 30 then
      let (v, s) := s.drawWord
      s.setReg W.DMC DMC_MR_DATA (v % 256)
    else s

/-- The strobe check of R408. -/
def dmcCheck (s : State) : Nat :=
  let c := s.shadow W.DMC DMC_CFG
  let raw := 2 * bits c 9 8 * 2 ^ bits c 5 4 * 2 ^ 29
  if 4 < bits c 2 0 ∨ bits c 9 8 = 0 ∨ bits c 9 8 = 3 then 1
  else if raw < 2 ^ 31 ∨ 2 ^ 34 < raw ∨ (bits c 2 0 = 4 ∧ !bit c 11) ∨ (dmcInit s ∧ c ≠ s.reg W.DMC DMC_CFG) then 2
  else 0

/-- A DRAM request finds the memory trained, awake and, outside Doze, served by the Dial (R396, R409, R411). -/
def dramReady (s : State) : Bool := !dmcSr s && s.pwr.state != .doze

/-! ### XSP (R413–R417) -/

/-- The sizes of the chip selects in bytes. -/
def xspCs0 (s : State) : Nat := s.fld W.XSP XSP_CFG 9 0 * 2 ^ 20
def xspCs1 (s : State) : Nat := s.fld W.XSP XSP_CFG 25 16 * 2 ^ 20

/-- The chip select that a window offset reads. -/
def xspCsOf (s : State) (a : Nat) : Nat := if a < xspCs0 s then 0 else 1

/-- A transaction or a poll is under way. -/
def xspBusy (s : State) : Bool := s.flag W.XSP XSP_STAT 31

/-- The 256 bytes of XSP_BUF, first byte in word 0 [31:24]. -/
def xspBuf (s : State) : List Byte := (List.range 64).flatMap fun k => beBytes 4 (s.reg W.XSP (XSP_BUF + 4 * k))

/-- Put bytes at the front of XSP_BUF. -/
def setXspBuf (l : List Byte) (s : State) : State :=
  let all := splice (xspBuf s) 0 (l.take 256)
  foldRange (fun s k => s.setReg W.XSP (XSP_BUF + 4 * k) (beNat (slice all (4 * k) 4))) s 0 64

/-- XSP_CMD: one flash transaction (R415). What the flash answers to a read and which bytes of its array the transaction
changes are the flash's own (`answer`, `changes`, offsets within the chip select); with POLL the status of the flash is polled
until POLL_READY or POLL_TIMEOUT (R416). -/
def doXspCmd (data : Nat) (answer : List Byte) (changes : List (Nat × List Byte)) (s : State) : State :=
  if !bit data 31 || xspBusy s || decide (1 < bits data 26 25) || decide (256 < bits data 8 0) then s
  else
    let cs := bits data 28 28
    let base := if cs = 0 then 0 else xspCs0 s
    let s := s.setReg W.XSP XSP_STAT 0
    let s :=
      if bit data 30 then changes.foldl (fun s c => s.norSet (base + c.1) c.2) s
      else setXspBuf (answer.take (bits data 8 0)) s
    if bit data 27 then { s.setReg W.XSP XSP_STAT (2 ^ 31 + 2 ^ 29) with xsp := { s.xsp with cs := cs } } else s

/-- The strobe check of R414. -/
def xspCheck (s : State) : Nat :=
  let c := s.shadow W.XSP XSP_CFG
  let r := s.shadow W.XSP XSP_RDCFG
  if bits c 9 0 = 0 ∨ 512 < bits c 9 0 + bits c 25 16 ∨ 20 < bits r 4 0 ∨ 1 < bits r 15 14 then 1 else 0

/-! ### GPIO (R533) -/

/-- Pins that the device drives to a level it knows: outputs, or the 0 of an open-drain output. -/
def gpioDriven (s : State) : Nat :=
  if !s.enabled W.GPIO then 0
  else s.reg W.GPIO GPIO_DIR &&& ((s.reg W.GPIO GPIO_OD &&& s.reg W.GPIO GPIO_OUT) ^^^ 0xFFFFFFFF)

/-- GPIO_IN: the level of each pin; one that the device does not drive has the outside's level, a free value. -/
def gpioIn (s : State) : Nat × State :=
  let (v, s) := s.drawWord
  let d := gpioDriven s
  ((s.reg W.GPIO GPIO_OUT &&& d) ||| (v &&& (d ^^^ 0xFFFFFFFF)), s)

end Sys2Proof.Machine
end

