-- ==== Sys2Proof/Machine/Crypto.lean ====
section
/-! DEFINITION. The standard algorithms that the spec names: AES with CMAC (SP 800-38B) and GCM (SP 800-38D), SHA-256 and SHA-384,
HMAC-SHA-256, the counter-mode KDF of SP 800-108, ECDSA and ECDH on P-256 and P-384 (notes/assumptions/11.md). -/
namespace Sys2Proof.Machine

/-- Byte-wise exclusive or. -/
def xorBytes (a b : List Byte) : List Byte := List.zipWith (· ^^^ ·) a b

/-! ### AES (FIPS 197) -/

/-- Multiplication by x in GF(2^8). -/
def xtime (a : Nat) : Nat := if 128 ≤ a then (2 * a) ^^^ 0x11B else 2 * a

/-- Multiplication in GF(2^8). -/
def gfMul (a b : Nat) : Nat :=
  ((List.range 8).foldl (fun (x : Nat × Nat) i => (if bit b i then x.1 ^^^ x.2 else x.1, xtime x.2)) (0, a)).1

/-- The inverse in GF(2^8), 0 of 0: the 254th power. -/
def gfInv (a : Nat) : Nat :=
  ((List.range 7).foldl (fun (x : Nat × Nat) _ => (gfMul x.1 (gfMul x.2 x.2), gfMul x.2 x.2)) (1, a)).1

/-- SubBytes of one byte. -/
def subByte (a : Nat) : Nat :=
  let i := gfInv a
  let rot := fun n => (i <<< n ||| i >>> (8 - n)) % 256
  i ^^^ rot 1 ^^^ rot 2 ^^^ rot 3 ^^^ rot 4 ^^^ 0x63

/-- The S-box as a table. -/
def sbox : List Nat := (List.range 256).map subByte

/-- SubBytes of a word or a state. -/
def subBytes (l : List Nat) : List Nat := l.map fun a => sbox.getD a 0

/-- The words of the expanded key of `nk` words, newest first, `n` words after the key's. -/
def expandKey (nk : Nat) : Nat → List (List Nat) → Nat → List (List Nat)
  | 0, ws, _ => ws
  | n + 1, ws, rcon =>
    let i := ws.length
    let t := ws.headD []
    let t := if i % nk = 0 then List.zipWith (· ^^^ ·) (subBytes (t.drop 1 ++ t.take 1)) [rcon, 0, 0, 0]
      else if 6 < nk ∧ i % nk = 4 then subBytes t else t
    let w := List.zipWith (· ^^^ ·) (ws.getD (nk - 1) []) t
    expandKey nk n (w :: ws) (if i % nk = 0 then xtime rcon else rcon)

/-- The round keys of 16 bytes. -/
def roundKeys (key : List Byte) : List (List Nat) :=
  let nk := key.length / 4
  let ks := (List.range nk).map fun i => (slice key (4 * i) 4).map (·.toNat)
  let ws := (expandKey nk (4 * (nk + 7) - nk) ks.reverse 1).reverse
  (List.range (nk + 7)).map fun r => ((ws.drop (4 * r)).take 4).flatten

/-- ShiftRows on 16 bytes in columns. -/
def shiftRows (l : List Nat) : List Nat := (List.range 16).map fun k => l.getD ((k + 4 * (k % 4)) % 16) 0

/-- MixColumns. -/
def mixColumns (l : List Nat) : List Nat :=
  (List.range 16).map fun k =>
    let c := fun i => l.getD (k - k % 4 + (k + i) % 4) 0
    gfMul (c 0) 2 ^^^ gfMul (c 1) 3 ^^^ c 2 ^^^ c 3

/-- AES on one block under a list of round keys. -/
def aesBlock (rks : List (List Nat)) (block : List Byte) : List Byte :=
  let add := fun (a : List Nat) k => List.zipWith (· ^^^ ·) a (rks.getD k [])
  let n := rks.length - 1
  let st := (List.range (n - 1)).foldl (fun st r => add (mixColumns (shiftRows (subBytes st))) (r + 1))
    (add (block.map (·.toNat)) 0)
  (add (shiftRows (subBytes st)) n).map (BitVec.ofNat 8 ·)

/-! ### AES-CMAC (SP 800-38B) -/

/-- Doubling in GF(2^128). -/
def cmacDouble (n : Nat) : Nat := if bit n 127 then (2 * n % 2 ^ 128) ^^^ 0x87 else 2 * n

/-- The blocks of 16 bytes of a message. -/
def blocks16 (m : List Byte) : List (List Byte) := (List.range ((m.length + 15) / 16)).map fun i => slice m (16 * i) 16

/-- AES-CMAC of a message: 16 bytes. -/
def aesCmac (key m : List Byte) : List Byte :=
  let rks := roundKeys key
  let k1 := cmacDouble (beNat (aesBlock rks (zeros 16)))
  let n := max 1 ((m.length + 15) / 16)
  let last := m.drop (16 * (n - 1))
  let last := if last.length = 16 then xorBytes last (beBytes 16 k1)
    else xorBytes (last ++ 0x80 :: zeros (15 - last.length)) (beBytes 16 (cmacDouble k1))
  (blocks16 (m.take (16 * (n - 1))) ++ [last]).foldl (fun c b => aesBlock rks (xorBytes c b)) (zeros 16)

/-! ### AES-GCM (SP 800-38D) -/

/-- The product of two blocks in GF(2^128), bit 127 first. -/
def gcmMul (x y : Nat) : Nat :=
  ((List.range 128).foldl (fun (a : Nat × Nat) i =>
    (if bit x (127 - i) then a.1 ^^^ a.2 else a.1,
     if bit a.2 0 then (a.2 / 2) ^^^ (0xE1 * 2 ^ 120) else a.2 / 2)) (0, y)).1

/-- Pad with zeros to a whole block. -/
def pad16 (m : List Byte) : List Byte := m ++ zeros ((16 - m.length % 16) % 16)

/-- GHASH of additional data and cipher text, with their lengths. -/
def ghash (h : Nat) (aad c : List Byte) : Nat :=
  (blocks16 (pad16 aad ++ pad16 c ++ beBytes 8 (8 * aad.length) ++ beBytes 8 (8 * c.length))).foldl
    (fun y b => gcmMul (y ^^^ beNat b) h) 0

/-- The key stream for a 12-byte IV, from counter 2 on. -/
def gcmStream (rks : List (List Nat)) (iv : List Byte) (n : Nat) : List Byte :=
  ((List.range ((n + 15) / 16)).map fun i => aesBlock rks (iv ++ beBytes 4 (i + 2))).flatten

/-- The 16-byte ICV of cipher text `c`. -/
def gcmIcv (rks : List (List Nat)) (iv aad c : List Byte) : List Byte :=
  xorBytes (beBytes 16 (ghash (beNat (aesBlock rks (zeros 16))) aad c)) (aesBlock rks (iv ++ beBytes 4 1))

/-- Encryption: cipher text and ICV. -/
def gcmSeal (key iv aad plain : List Byte) : List Byte × List Byte :=
  let rks := roundKeys key
  let c := xorBytes plain (gcmStream rks iv plain.length)
  (c, gcmIcv rks iv aad c)

/-- Decryption: the plain text when the ICV is right. -/
def gcmOpen (key iv aad cipher icv : List Byte) : Option (List Byte) :=
  let rks := roundKeys key
  if gcmIcv rks iv aad cipher = icv then some (xorBytes cipher (gcmStream rks iv cipher.length)) else none

/-! ### SHA-256 and SHA-384 (FIPS 180-4) -/

/-- The largest `r` below `2 ^ n` whose `k`-th power is at most `v`. -/
def rootFloor (k v : Nat) : Nat → Nat
  | 0 => 0
  | n + 1 => (List.range (n + 1)).foldr (fun b r => if (r + 2 ^ b) ^ k ≤ v then r + 2 ^ b else r) 0

/-- The first primes below 410. -/
def primes : List Nat := ((List.range 410).drop 2).filter fun n => (List.range n).all fun d => d < 2 || n % d != 0

/-- The first `w` fraction bits of the square or cube root of a prime. -/
def rootBits (w k p : Nat) : Nat := rootFloor k (p * 2 ^ (k * w)) (w + 6) % 2 ^ w

/-- What differs between the two hashes: word size, rounds, initial words, the shifts of the four functions. -/
structure ShaKind where
  w : Nat
  rounds : Nat
  init : List Nat
  big0 : List Nat
  big1 : List Nat
  small0 : List Nat
  small1 : List Nat

def sha256Kind : ShaKind :=
  ⟨32, 64, (primes.take 8).map (rootBits 32 2), [2, 13, 22], [6, 11, 25], [7, 18, 3], [17, 19, 10]⟩
def sha384Kind : ShaKind :=
  ⟨64, 80, ((primes.drop 8).take 8).map (rootBits 64 2), [28, 34, 39], [14, 18, 41], [1, 8, 7], [19, 61, 6]⟩

/-- Rotation right of a `w`-bit word. -/
def rotr (w x n : Nat) : Nat := (x >>> n ||| x <<< (w - n)) % 2 ^ w

def shaBig (w : Nat) (r : List Nat) (x : Nat) : Nat := r.foldl (fun a n => a ^^^ rotr w x n) 0
def shaSmall (w : Nat) (r : List Nat) (x : Nat) : Nat := rotr w x (r.getD 0 0) ^^^ rotr w x (r.getD 1 0) ^^^ x >>> r.getD 2 0

/-- The message schedule, newest word first, extended by `n` words. -/
def shaSchedule (k : ShaKind) : Nat → List Nat → List Nat
  | 0, ws => ws
  | n + 1, ws =>
    let at_ := fun i => ws.getD (i - 1) 0
    shaSchedule k n ((shaSmall k.w k.small1 (at_ 2) + at_ 7 + shaSmall k.w k.small0 (at_ 15) + at_ 16) % 2 ^ k.w :: ws)

/-- One block of a hash. -/
def shaBlock (k : ShaKind) (ks : List Nat) (hs : List Nat) (block : List Byte) : List Nat :=
  let b := k.w / 8
  let ws := (shaSchedule k (k.rounds - 16) ((List.range 16).map fun i => beNat (slice block (b * i) b)).reverse).reverse
  let st := (ws.zip ks).foldl (fun (v : List Nat) x =>
    let g := fun i => v.getD i 0
    let ch := (g 4 &&& g 5) ^^^ ((2 ^ k.w - 1 - g 4) &&& g 6)
    let t1 := g 7 + shaBig k.w k.big1 (g 4) + ch + x.2 + x.1
    let maj := (g 0 &&& g 1) ^^^ (g 0 &&& g 2) ^^^ (g 1 &&& g 2)
    let t2 := shaBig k.w k.big0 (g 0) + maj
    [(t1 + t2) % 2 ^ k.w, g 0, g 1, g 2, (g 3 + t1) % 2 ^ k.w, g 4, g 5, g 6]) hs
  List.zipWith (fun a c => (a + c) % 2 ^ k.w) hs st

/-- A hash, cut to `n` bytes. -/
def shaHash (k : ShaKind) (n : Nat) (m : List Byte) : List Byte :=
  let blk := 2 * k.w
  let len := k.w / 4
  let pad := (blk - (m.length + 1 + len) % blk) % blk
  let m := m ++ 0x80 :: zeros pad ++ beBytes len (8 * m.length)
  let ks := (primes.take k.rounds).map (rootBits k.w 3)
  let hs := (List.range (m.length / blk)).foldl (fun hs i => shaBlock k ks hs (slice m (blk * i) blk)) k.init
  (hs.flatMap (beBytes (k.w / 8))).take n

def sha256 (m : List Byte) : List Byte := shaHash sha256Kind 32 m
def sha384 (m : List Byte) : List Byte := shaHash sha384Kind 48 m

/-! ### HMAC and the key derivation (FIPS 198-1, SP 800-108 counter mode) -/

/-- HMAC-SHA-256: 32 bytes. -/
def hmacSha256 (key m : List Byte) : List Byte :=
  let k := if 64 < key.length then sha256 key else key
  let k := k ++ zeros (64 - k.length)
  sha256 (k.map (· ^^^ 0x5C) ++ sha256 (k.map (· ^^^ 0x36) ++ m))

/-- `n` bytes derived from a key with label, zero byte and context in `info`; a 32-bit counter before and the length in bits in 32
bits after. -/
def kdf (key info : List Byte) (n : Nat) : List Byte :=
  (((List.range ((n + 31) / 32)).map fun i => hmacSha256 key (beBytes 4 (i + 1) ++ info ++ beBytes 4 (8 * n))).flatten).take n

/-! ### ECDSA and ECDH (FIPS 186-5, SP 800-56A) -/

/-- A curve y² = x³ − 3x + b over the field of `p`, with a point of order `n`; `len` bytes a number. -/
structure Curve where
  len : Nat
  p : Nat
  b : Nat
  n : Nat
  gx : Nat
  gy : Nat

def p256 : Curve :=
  ⟨32, 2 ^ 256 - 2 ^ 224 + 2 ^ 192 + 2 ^ 96 - 1,
   0x5AC635D8AA3A93E7B3EBBD55769886BC651D06B0CC53B0F63BCE3C3E27D2604B,
   0xFFFFFFFF00000000FFFFFFFFFFFFFFFFBCE6FAADA7179E84F3B9CAC2FC632551,
   0x6B17D1F2E12C4247F8BCE6E563A440F277037D812DEB33A0F4A13945D898C296,
   0x4FE342E2FE1A7F9B8EE7EB4A7C0F9E162BCE33576B315ECECBB6406837BF51F5⟩
def p384 : Curve :=
  ⟨48, 2 ^ 384 - 2 ^ 128 - 2 ^ 96 + 2 ^ 32 - 1,
   0xB3312FA7E23EE7E4988E056BE3F82D19181D9C6EFE8141120314088F5013875AC656398D8A2ED19D2A85C8EDD3EC2AEF,
   0xFFFFFFFFFFFFFFFFFFFFFFFFFFFFFFFFFFFFFFFFFFFFFFFFC7634D81F4372DDF581A0DB248B0A77AECEC196ACCC52973,
   0xAA87CA22BE8B05378EB1C71EF320AD746E1D3B628BA79B9859F741E082542A385502F25DBF55296C3A545E3872760AB7,
   0x3617DE4A96262C6F5D9E98BF9292DC29F8F41DBD289A147CE9DA3113B5F0B8C00A60B1CE1D7E819D7A431D7C90EA0E5F⟩

/-- The curve of numbers of `len` bytes. -/
def curveOf (len : Nat) : Curve := if len = 32 then p256 else p384

/-- `x ^ e` modulo `m`. -/
def powMod (x e m : Nat) : Nat :=
  ((List.range (Nat.log2 e + 1)).foldl (fun (a : Nat × Nat) i => (if bit e i then a.1 * a.2 % m else a.1, a.2 * a.2 % m)) (1 % m, x % m)).1

/-- The inverse modulo a prime. -/
def invMod (x m : Nat) : Nat := powMod x (m - 2) m

/-- The sum of two points; `none` is the neutral one. -/
def ecAdd (c : Curve) : Option (Nat × Nat) → Option (Nat × Nat) → Option (Nat × Nat)
  | none, q => q
  | some a, none => some a
  | some a, some q =>
    if a.1 = q.1 ∧ (a.2 + q.2) % c.p = 0 then none
    else
      let l := if a.1 = q.1 then (3 * a.1 * a.1 + (c.p - 3)) * invMod (2 * a.2) c.p % c.p
        else (q.2 + (c.p - a.2)) * invMod (q.1 + (c.p - a.1)) c.p % c.p
      let x := (l * l + 2 * c.p - a.1 - q.1) % c.p
      some (x, (l * (a.1 + c.p - x) + (c.p - a.2)) % c.p)

/-- A multiple of a point. -/
def ecMul (c : Curve) (k : Nat) (q : Option (Nat × Nat)) : Option (Nat × Nat) :=
  ((List.range (Nat.log2 k + 1)).foldl (fun (a : Option (Nat × Nat) × Option (Nat × Nat)) i =>
    (if bit k i then ecAdd c a.1 a.2 else a.1, ecAdd c a.2 a.2)) (none, q)).1

/-- The point that X then Y spell, when it lies on the curve. -/
def ecPoint (c : Curve) (l : List Byte) : Option (Nat × Nat) :=
  let x := beNat (l.take c.len)
  let y := beNat (slice l c.len c.len)
  if l.length = 2 * c.len ∧ x < c.p ∧ y < c.p ∧ y * y % c.p = (x * x * x + (c.p - 3) * x + c.b) % c.p then some (x, y) else none

/-- The public key X then Y of a private key of 32 or 48 bytes. -/
def ecdsaPublic (priv : List Byte) : List Byte :=
  let c := curveOf priv.length
  match ecMul c (beNat priv) (some (c.gx, c.gy)) with
  | some (x, y) => beBytes c.len x ++ beBytes c.len y
  | none => zeros (2 * c.len)

/-- A number of 1 to n − 1 from bytes with 64 extra bits (FIPS 186-5 A.2.1). -/
def ecNumber (c : Curve) (extra : List Byte) : Nat := beNat extra % (c.n - 1) + 1

/-- The signature r then s on a digest, with the per-message secret taken from `extra`. -/
def ecdsaSign (priv digest extra : List Byte) : List Byte :=
  let c := curveOf priv.length
  let k := ecNumber c extra
  let r := ((ecMul c k (some (c.gx, c.gy))).map (·.1)).getD 0 % c.n
  let s := invMod k c.n * (beNat (digest.take c.len) + beNat priv * r) % c.n
  beBytes c.len r ++ beBytes c.len s

/-- A signature on a digest is right under a public key. -/
def ecdsaVerify (pub digest sig : List Byte) : Bool :=
  let c := curveOf (pub.length / 2)
  let r := beNat (sig.take c.len)
  let s := beNat (slice sig c.len c.len)
  match ecPoint c pub with
  | none => false
  | some q =>
    if r = 0 ∨ s = 0 ∨ c.n ≤ r ∨ c.n ≤ s ∨ sig.length ≠ 2 * c.len then false
    else
      let w := invMod s c.n
      let z := beNat (digest.take c.len)
      match ecAdd c (ecMul c (z * w % c.n) (some (c.gx, c.gy))) (ecMul c (r * w % c.n) (some q)) with
      | none => false
      | some x => x.1 % c.n == r

/-- The shared secret of ECDH on P-384, none for a peer key that is no point of the curve. -/
def ecdh (priv peer : List Byte) : Option (List Byte) :=
  match ecPoint p384 peer with
  | none => none
  | some q => (ecMul p384 (beNat priv) (some q)).map fun x => beBytes 48 x.1

end Sys2Proof.Machine
end

