-- ==== Sys2Proof/Machine/Capture.lean ====
section
/-! DEFINITION. Capture rings and the ledger's second (20_capture_and_ledger.md). -/
namespace Sys2Proof.Machine
open Reg

def State.ring (s : State) (r : Nat) : Ring := kvGet Ring.idle s.rings r
def State.setRing (s : State) (r : Nat) (x : Ring) : State := { s with rings := kvSet Ring.idle s.rings r x }

/-- The register at offset `o` of ring `r`. -/
def ringReg (o r : Nat) : Nat := o + 0x80 * r

/-! ### Configuration of a ring (R498–R502) -/

def ringSize (s : State) (r : Nat) : Nat := s.fld W.CAP (ringReg CAP_RCFG r) 24 15 * 2 ^ 20
def ringBase (s : State) (r : Nat) : Nat :=
  s.fld W.CAP (ringReg CAP_RBASE_HI r) 7 0 * 2 ^ 32 + s.reg W.CAP (ringReg CAP_RBASE_LO r)
def ringSnap (s : State) (r : Nat) : Nat := s.fld W.CAP (ringReg CAP_RCFG r) 13 0
def ringSeals (s : State) (r : Nat) : Bool := s.flag W.CAP (ringReg CAP_RCFG r) 30

/-- POST = (16 − PRE) × SIZE / 16 (R502). -/
def ringPost (s : State) (r : Nat) : Nat := (16 - s.fld W.CAP (ringReg CAP_RCFG r) 29 25) * ringSize s r / 16

/-- Offset of the oldest record that is still whole. -/
def ringOldest (x : Ring) : Nat :=
  match x.records with
  | [] => x.next
  | e :: _ => e.1

/-- The location of a report of ring `r` (R512). -/
def ringLoc (r : Nat) : Nat := locUnit W.CAP r

/-! ### Records (R499) -/

/-- The header of a record. -/
def recordHead (rlen caplen r flags seq : Nat) : List Byte :=
  beBytes 2 rlen ++ beBytes 2 caplen ++ [BitVec.ofNat 8 r, BitVec.ofNat 8 flags, 0, 0] ++ beBytes 8 seq

/-- The record of a frame. -/
def recordOf (f : Frame) (r snap seq : Nat) (trig : Bool) : List Byte :=
  let cap := min f.payload.length snap
  let rlen := (64 + cap + 15) / 16 * 16
  (recordHead rlen cap r (b2n (decide (cap < f.payload.length)) + 2 * b2n trig) seq ++ f.tag.bytesBE ++ f.payload.take cap
    ++ zeros 16).take rlen

/-- Records that writing `n` bytes at `off` leaves whole. -/
def keepWhole (off n : Nat) (l : List (Nat × Nat)) : List (Nat × Nat) :=
  l.filter fun e => decide (e.1 + e.2 ≤ off) || decide (off + n ≤ e.1)

/-- A ring enters Frozen; with SEAL_EN its digest begins (R502, R504). -/
def freezeRing (r : Nat) (s : State) : State :=
  s.setRing r { s.ring r with state := .frozen, sealing := ringSeals s r }

/-- A Running ring triggers at `off` (R501). -/
def triggerRing (r off : Nat) (s : State) : State :=
  (s.setRing r { s.ring r with state := .triggered, trigOff := off, post := 0 }).raise W.CAP 2 (ringLoc r)

/-- A trigger by command or by fault: at NEXT_OFF of that instant (R501). -/
def triggerNow (r : Nat) (s : State) : State :=
  match (s.ring r).state with
  | .running => triggerRing r (s.ring r).next s
  | .triggered | .frozen => s.count W.CAP CAP_TRIG_IGNORED
  | .stopped => s

/-- A command between two records (R501–R503): 1 TRIGGER, 2 RELEASE, 3 FREEZE. -/
def ringCommand (r op : Nat) (s : State) : State :=
  let x := s.ring r
  match op with
  | 1 => triggerNow r s
  | 2 =>
    if x.state = .frozen then
      s.setRing r { x with state := .running, next := 0, trigOff := 0, post := 0, records := [], sealing := false, done := false }
    else s
  | 3 => if x.state = .running ∨ x.state = .triggered then freezeRing r s else s
  | _ => s

/-- CAP_CMD: it acts at once, or after the record that is being written. -/
def doCapCmd (data : Nat) (s : State) : State :=
  let r := bits data 2 0
  let op := bits data 31 30
  if (s.ring r).writing.isSome then s.setRing r { s.ring r with cmds := (s.ring r).cmds ++ [op] } else ringCommand r op s

/-- A global source enters Faulted: rings whose EN_FAULT names it trigger (R501). -/
def capFault (g : Nat) (s : State) : State :=
  (List.range 8).foldl (fun s r =>
    if s.flag W.CAP (ringReg CAP_TRIG0 r) 29 && s.fld W.CAP (ringReg CAP_TRIG0 r) 26 16 == g then triggerNow r s else s) s

/-- A frame meets a trigger condition of ring `r`. -/
def meetsTrigger (s : State) (r : Nat) (t : Tag) : Bool :=
  let c := s.reg W.CAP (ringReg CAP_TRIG0 r)
  (bit c 31 && t.viol == bits c 5 0) || (bit c 30 && t.flow == s.fld W.CAP (ringReg CAP_TRIG1 r) 15 0)

/-- The nibble of CAP_PORTRING for a source port: nibble 63 also serves 0xFF. -/
def portRing (s : State) (p : Nat) : Nat :=
  let p := if 63 < p then 63 else p
  s.fld W.CAP (CAP_PORTRING + 4 * (p / 8)) (4 * (p % 8) + 3) (4 * (p % 8))

/-- A record is written at the ring's next offset, after a padding record where the ring's end is too near (R500). -/
def writeRecord (r : Nat) (f : Frame) (trig : Bool) (s : State) : State :=
  let x := s.ring r
  let bytes := recordOf f r (ringSnap s r) x.seq trig
  let room := ringSize s r - x.next
  let base := ringBase s r
  if room < bytes.length then
    let s := s.memWrite (base + x.next) (recordHead room 0 r 4 x.seq ++ zeros (room - 16))
    let s := s.memWrite base bytes
    let recs := keepWhole 0 bytes.length (keepWhole x.next room x.records ++ [(x.next, room)])
    s.setRing r { x with seq := x.seq + 1, records := recs, writing := some (0, bytes.length, trig) }
  else
    let s := s.memWrite (base + x.next) bytes
    s.setRing r { x with
      seq := x.seq + 1, records := keepWhole x.next bytes.length x.records, writing := some (x.next, bytes.length, trig) }

/-- The bytes that a record of `n` bytes, with its padding, would add to the ring. -/
def recordCost (s : State) (r n : Nat) : Nat :=
  let room := ringSize s r - (s.ring r).next
  if room < n then room + n else n

/-- CAP takes the oldest ready frame of the highest class of port 58 (R498). -/
def doCapTake (s : State) : State :=
  if !s.enabled W.CAP then s
  else match (List.range 8).findSome? fun k => s.headOf (8 * 58 + (7 - k)) with
    | none => s
    | some (pf, c) =>
      let f := frameOf pf c
      let n := portRing s f.tag.srcPort
      let r := n % 8
      let x := s.ring r
      if n < 8 then dropCopy pf.fid 58 (s.count W.CAP CAP_NOMAP)
      else if x.state = .stopped ∨ x.state = .frozen then dropCopy pf.fid 58 (s.count W.CAP CAP_FROZEN_DROP)
      else if x.writing.isSome then s
      else
        let len := (recordOf f r (ringSnap s r) 0 false).length
        if x.state = .triggered ∧ ringPost s r < x.post + recordCost s r len then
          dropCopy pf.fid 58 ((freezeRing r s).count W.CAP CAP_FROZEN_DROP)
        else
          let trig := x.state == .running && meetsTrigger s r f.tag
          let off := if ringSize s r - x.next < len then 0 else x.next
          let again := x.state == .triggered && meetsTrigger s r f.tag
          let s := writeRecord r f trig s
          dropCopy pf.fid 58 (if trig then triggerRing r off s else if again then s.count W.CAP CAP_TRIG_IGNORED else s)

/-- RECORD_DONE: the record is whole in DRAM, NEXT_OFF advances, waiting commands act (R500). The bytes that count toward POST
are the record's and those of the padding before it (R502). -/
def doRecordDone (r : Nat) (s : State) : State :=
  let x := s.ring r
  match x.writing with
  | none => s
  | some (off, len, trig) =>
    let nx := if off + len = ringSize s r then 0 else off + len
    let pad := if off = x.next then 0 else ringSize s r - x.next
    let s := s.setRing r { x with
      writing := none, next := nx, records := x.records ++ [(off, len)], cmds := []
      post := if x.state = .triggered && !trig then x.post + pad + len else x.post }
    let s := s.count64 W.CAP CAP_RECORDS_LO
    let s := if (s.ring r).state = .triggered ∧ ringPost s r ≤ (s.ring r).post then freezeRing r s else s
    x.cmds.foldl (fun s op => ringCommand r op s) s

/-- DIGEST_DONE: SHA-256 over the ring's records in ring order; an uncorrectable DRAM read abandons it (R412, R504). -/
def doDigestDone (r : Nat) (ok : Bool) (s : State) : State :=
  let x := s.ring r
  if x.state ≠ .frozen ∨ !x.sealing then s
  else if !ok then s.setRing r { x with sealing := false }
  else
    let bytes := x.records.flatMap fun e => s.memBytes (ringBase s r + e.1) e.2
    (s.setRing r { x with sealing := false, done := true, digest := sha256 bytes }).raise W.CAP 3 (ringLoc r)

/-- An apply of CAP: rings start and stop with EN (R500). -/
def capApplied (s : State) : State :=
  (List.range 8).foldl (fun s r =>
    let x := s.ring r
    if s.flag W.CAP (ringReg CAP_RCFG r) 31 then
      if x.state = .stopped then s.setRing r { x with state := .running, next := 0, trigOff := 0, post := 0, records := [] } else s
    else s.setRing r { x with state := .stopped, writing := none, cmds := [], sealing := false }) s

/-- The strobe check of R511. -/
def capCheck (s : State) : Nat :=
  let sh := fun o r => s.shadow W.CAP (ringReg o r)
  let en := fun r => bit (sh CAP_RCFG r) 31
  let size := fun r => bits (sh CAP_RCFG r) 24 15 * 2 ^ 20
  let base := fun r => bits (sh CAP_RBASE_HI r) 7 0 * 2 ^ 32 + sh CAP_RBASE_LO r
  let rs := (List.range 8).filter en
  if rs.any fun r => bits (sh CAP_RCFG r) 29 25 == 0 || decide (16 < bits (sh CAP_RCFG r) 29 25)
      || size r == 0 || decide (512 * 2 ^ 20 < size r) || sh CAP_RBASE_LO r % 2 ^ 20 != 0 then 1
  else if rs.any (fun r => rs.any fun q => r != q && decide (base r < base q + size q) && decide (base q < base r + size r))
      || rs.any (fun r => !s.inDram (base r) (size r))
      || (List.range 8).any (fun r => decide ((s.ring r).state ≠ .stopped)
          && (size r != ringSize s r || base r != ringBase s r)) then 2
  else 0

/-- CAP_RSTAT. -/
def ringStat (s : State) (r : Nat) : Nat :=
  let x := s.ring r
  (match x.state with
    | .stopped => 0 | .running => 1 | .triggered => 2 | .frozen => 3) * 2 ^ 30 + b2n x.done * 2 ^ 29

/-- CAP_DIGEST[k] of ring `r`. -/
def ringDigest (s : State) (r k : Nat) : Nat := beNat (slice ((s.ring r).digest ++ zeros 32) (4 * k) 4)

/-! ### The ledger's second (R506) -/

/-- LEDGER_SECOND: the package sensor reads `tj` °C; the bins of temperature and VCORE and the seconds of the power state
count. -/
def doLedgerSecond (tj : Int) (s : State) : State :=
  let s := ledgerCount (0x40 + 8 * tjBin tj) s
  let s := ledgerCount (0xC0 + 8 * vcoreBin (s.fld W.BAL BAL_VSTAT 11 0)) s
  match s.pwr.state with
  | .run => ledgerCount 0x260 s
  | .doze => ledgerCount 0x268 s
  | _ => s

end Sys2Proof.Machine
end

