-- ==== Sys2Proof/Machine/Regulator.lean ====
section
/-! DEFINITION. The Regulator: device time, vault time, slews, steps, holdover, alignment (14_time_service.md). -/
namespace Sys2Proof.Machine
open Reg

def State.modTms (s : State) (f : Tms → Tms) : State := { s with tms := f s.tms }

/-- The nominal ADDEND (R369). -/
def addendNominal : Nat := 0x0200000000

/-- ADDEND within 1,000 ppm of nominal (R369). -/
def clampAddend (a : Nat) : Nat :=
  let d := addendNominal / 1000
  if a < addendNominal - d then addendNominal - d else if addendNominal + d < a then addendNominal + d else a

/-- What a slew adds in `n` ticks: at most RATE_PPM × 10⁻⁶ of each tick, until the rest is applied (R371). -/
def slewPart (rate addend : Nat) (rem : Int) (n : Nat) : Int :=
  let most : Int := ((n * (addend * rate / 1000000) : Nat) : Int)
  if rem < 0 then max rem (-most) else min rem most

/-- The main die is in a state whose time base runs: Run or Doze, out of reset (R368). -/
def mainTimeRuns (s : State) : Bool := (s.pwr.state == .run || s.pwr.state == .doze) && !s.pwr.held

def State.shore (s : State) (d : Nat) : Shore := kvGet Shore.reset s.shores d
def State.setShore (s : State) (d : Nat) (h : Shore) : State := { s with shores := kvSet Shore.reset s.shores d h }
def State.modShore (s : State) (d : Nat) (f : Shore → Shore) : State := s.setShore d (f (s.shore d))

/-- The shore time in ns (R376). -/
def State.shoreNow (s : State) (d : Nat) : Nat := ((s.shore d).time >>> 32) % 2 ^ 64

/-- `n` ticks pass on a powered shore. -/
def shoreTick (n d : Nat) (s : State) : State :=
  s.modShore d fun h => if h.powered then { h with time := h.time + n * h.addend } else h

/-- A domain disciplines the device time and HOLD_MS is not 0 (R379). -/
def servoHeld (s : State) : Bool :=
  s.enabled W.TMS && (s.flag W.TMS TMS_DOM 28 || s.flag W.TMS (TMS_DOM + 4) 28) && s.fld W.TMS TMS_HOLD_CFG 31 16 != 0

/-- `n` ticks of 2 ns pass: ADDEND and slew are added to the device time (R368, R371); the shores' times follow their last
ADDEND in every state except Off (R376). -/
def doTicks (n : Nat) (s : State) : State :=
  let s := shoreTick n 1 (shoreTick n 0 s)
  if !mainTimeRuns s then s
  else
    let t := s.tms
    let d := slewPart (s.fld W.TMS TMS_SLEW_CFG 15 0) t.addend t.slewRem n
    s.modTms fun t => { t with
      acc := (((t.acc + n * t.addend : Nat) : Int) + d).toNat % 2 ^ 96, slewRem := t.slewRem - d,
      kickTicks := if servoHeld s && !t.holdover then t.kickTicks + n else 0,
      holdTicks := if t.holdover then t.holdTicks + n else t.holdTicks }

/-- TMS_ADDEND_HI is written: the new ADDEND is formed and clamped (R369). -/
def doAddendWrite (data : Nat) (s : State) : State :=
  let a := bits data 7 0 * 2 ^ 32 + s.reg W.TMS TMS_ADDEND_LO
  let s := s.setReg W.TMS TMS_ADDEND_HI (bits data 7 0)
  s.modTms fun t => { t with addend := clampAddend a, clamped := clampAddend a != a }

/-- A signed sum saturating at 32 bits (R379). -/
def sat32 (i : Int) : Int := max (-2147483648) (min i 2147483647)

/-- Firmware's steps and slews after holdover are summed in HOLD_LAST_ERR (R379). -/
def noteDrift (ns : Int) (s : State) : State :=
  if s.tms.accumulating then s.modTms fun t => { t with lastErr := sat32 (t.lastErr + ns) } else s

/-- TMS_SLEW is written: a slew replaces what remains (R371). -/
def doSlew (data : Nat) (s : State) : State :=
  let ns := toSigned 32 data
  noteDrift ns ((s.setReg W.TMS TMS_SLEW data).modTms fun t => { t with slewRem := ns * 2 ^ 32 })

/-- TMS_CMD.STEP: the step waits for the next tick; a step of 0 is none (R372). -/
def doStep (s : State) : State :=
  let d := toSigned 64 (s.reg64 W.TMS TMS_STEP_LO)
  if d = 0 then s else s.modTms fun t => { t with step := some d }

/-- The 36-byte payload of a TIME_STEP entry (R375, R472). -/
def timeStepPayload (old : Nat) (d : Int) (v0 v1 : Nat) : List Byte :=
  beBytes 8 old ++ beBytes 8 (ofSigned 64 d) ++ beBytes 8 v0 ++ beBytes 8 v1

/-- Every Running or Missing cadence entry returns to Unsynced (R203). -/
def cdmResyncAll (s : State) : State :=
  { s with cdm := s.cdm.map fun e => (e.1, { e.2 with state := .unsynced }) }

/-- The time that the reference triggers of a group of channels follow: shore time of shore 0 or 1, device time for group 2. -/
def refTime (s : State) (g : Nat) : Nat := if g < 2 then s.shoreNow g else s.now

/-- The group of channel `c` (R380): CX0-CX11 and CX12-CX23 stand on the shores. -/
def refGroup (c : Nat) : Nat := if c < 12 then 0 else if c < 24 then 1 else 2

/-- The time of a group has stepped: instants it skipped are not triggered, those that come round again are (R380). -/
def refMark (g : Nat) (s : State) : State :=
  s.modTms fun t => { t with refFrom := kvSet 0 t.refFrom g (refTime s g), refAt := kvFilter (fun c => refGroup c != g) t.refAt }

/-- The latest instant of channel `c`'s schedule at or before `t` (R380). -/
def refInstant (s : State) (c t : Nat) : Option Nat :=
  let r := TMS_REF + 4 * c
  let first := s.reg64 W.TMS TMS_REF_BASE_LO + s.fld W.TMS r 29 15 * 1000000
  let per := s.fld W.TMS r 14 0 * 1000000
  if per = 0 ∨ t < first then none else some (first + (t - first) / per * per)

/-- The instant that channel `c` is to be triggered for: the latest one, if it has not been triggered and lies in the time that
the schedule governs (R380). -/
def refDue (s : State) (c : Nat) : Option Nat :=
  match refInstant s c (refTime s (refGroup c)) with
  | none => none
  | some i => if max (kvGet 0 s.tms.refFrom (refGroup c)) (kvGet 0 s.tms.refAt c) ≤ i then some i else none

/-- An apply, or EN 1: the schedule governs the instants that follow (R380). -/
def refGovern (s : State) : State :=
  s.modTms fun t => { t with refFrom := [0, 1, 2].foldl (fun m g => kvSet 0 m g (refTime s g)) t.refFrom }

/-- The step applies (R372, R373, R375): the device time moves, VOFFSET keeps the vault time from running back, CDM is
resynchronized, and the ledger gets an entry. The CX controllers age frames in the row's meaning (R290). -/
def doStepApply (s : State) : State :=
  match s.tms.step with
  | none => s
  | some d =>
    let old := s.now
    let v0 := s.vault
    let s := s.modTms fun t => { t with
      acc := ((t.acc : Int) + d * 2 ^ 32).toNat % 2 ^ 96
      voffset := if d < 0 then t.voffset + (-d).toNat else t.voffset - min d.toNat t.voffset
      step := none
      slewRem := 0
      steps := (t.steps + 1) % 65536 }
    let s := refMark 2 (noteDrift d (s.raise0 W.TMS 2))
    let s := if s.enabled W.CDM then cdmResyncAll s else s
    ledgerTimeStep (ledgerEvent 4 (timeStepPayload old d v0 s.vault) s)

/-- HOLDOVER and HOLD_LIMIT are levels (R382). -/
def noteHold (s : State) : State :=
  (s.level W.TMS 3 (locSelf W.TMS) s.tms.holdover).level W.TMS 4 (locSelf W.TMS) (s.tms.holdover && s.tms.limitReached)

/-- TMS_CMD.KICK: the first kick ends holdover and starts the accumulation, the next one ends that (R379). -/
def doKick (s : State) : State :=
  if s.tms.holdover then
    noteHold (s.modTms fun t => { t with holdover := false, limitReached := false, accumulating := true, lastErr := 0 })
  else s.modTms fun t => { t with accumulating := false, kickTicks := 0 }

/-- ELAPSED in ms: 500,000 ticks of 2 ns each. -/
def holdElapsed (s : State) : Nat := min (s.tms.holdTicks / 500000) (2 ^ 32 - 1)
def holdEst (s : State) : Nat := min (holdElapsed s * s.fld W.TMS TMS_HOLD_CFG 15 0 / 1000) (2 ^ 32 - 1)

/-- HOLD_MS have passed since the servo began to discipline, or since the last kick (R379). -/
def holdoverDue (s : State) : Bool :=
  servoHeld s && !s.tms.holdover && decide (s.fld W.TMS TMS_HOLD_CFG 31 16 * 500000 ≤ s.tms.kickTicks)

/-- HOLD_MS pass without a kick (R379). A drift that is being summed is summed on, until the next kick. -/
def doHoldover (s : State) : State :=
  if holdoverDue s then
    noteHold (s.modTms fun t => { t with holdover := true, holdTicks := 0, limitReached := false, kickTicks := 0 })
  else s

/-- The estimate reaches HOLD_LIMIT_NS, which is not 0 (R379). -/
def doHoldLimit (s : State) : State :=
  if s.tms.holdover && s.reg W.TMS TMS_HOLD_LIMIT != 0 && decide (s.reg W.TMS TMS_HOLD_LIMIT ≤ holdEst s) then
    noteHold (s.modTms fun t => { t with limitReached := true })
  else s

/-- Holdover ends without a kick when the servo, HOLD_MS or the block goes, and nothing is summed; the timer starts anew
(R379). -/
def holdGone (s : State) : State :=
  if servoHeld s then s
  else if s.tms.holdover then
    noteHold (s.modTms fun t => { t with holdover := false, limitReached := false, accumulating := false, kickTicks := 0 })
  else s.modTms fun t => { t with kickTicks := 0 }

/-- A completed guarded sequence to TMS_VBASE_HI (R374, R375). -/
def doVbase (data : Nat) (s : State) : State :=
  let s := s.setReg W.TMS TMS_VBASE_HI data
  let v := data * 2 ^ 32 + s.reg W.TMS TMS_VBASE_LO
  let v0 := s.vault
  if v0 < v then
    let s := s.modTms fun t => { t with voffset := v - s.now }
    ledgerTimeStep (ledgerEvent 4 (timeStepPayload s.now 0 v0 v) s)
  else s.raise0 W.TMS 6

/-! ### Status registers -/

def tmsStat (s : State) : Nat :=
  b2n s.tms.holdover * 2 ^ 31 + b2n (s.tms.slewRem != 0) * 2 ^ 30 + b2n s.tms.clamped * 2 ^ 29
    + b2n (s.shore 1).aligned * 2 ^ 27 + b2n (s.shore 0).aligned * 2 ^ 26
    + s.tms.steps

/-- TMS_SLEW_REM: the signed rest in ns. -/
def slewRemReg (s : State) : Nat := ofSigned 32 (s.tms.slewRem / 2 ^ 32)

/-- A non-speculative read of TMS_NOW_LO also latches the fraction (R370). -/
def latchFrac (s : State) : State := s.setReg W.TMS TMS_NOW_FRAC (bits s.tms.acc 31 16)

/-- The strobe check of R381. -/
def tmsCheck (s : State) : Nat :=
  let sh := fun o hi lo => bits (s.shadow W.TMS o) hi lo
  let en := fun c => sh (TMS_REF + 4 * c) 31 31 == 1
  let dom := fun d => TMS_DOM + 4 * d
  let rate := sh TMS_SLEW_CFG 15 0
  let per := sh TMS_ALIGN 15 0
  if rate == 0 || decide (1000 < rate) || decide (per < 100) || decide (10000 < per)
      || (List.range 32).any (fun c => en c && sh (TMS_REF + 4 * c) 14 0 == 0) then 1
  else if (List.range 32).any (fun c => en c && decide (sh (TMS_REF + 4 * c) 14 0 ≤ sh (TMS_REF + 4 * c) 29 15))
      || (sh (dom 0) 28 28 == 1 && sh (dom 1) 28 28 == 1)
      || [0, 1].any (fun d => sh (dom d) 28 28 == 1 && sh (dom d) 30 29 != 2)
      || (sh (dom 0) 31 31 == 1 && sh (dom 1) 31 31 == 1 && sh (dom 0) 7 0 == sh (dom 1) 7 0) then 2
  else 0

/-- A block reset of TMS keeps device time, fraction and VOFFSET; the rest of the service returns to reset values. -/
def tmsReset (s : State) : State := s.modTms fun t => { Tms.reset with acc := t.acc, voffset := t.voffset }

end Sys2Proof.Machine
end

