-- ==== Sys2Proof/Machine/Violation.lean ====
section
/-! DEFINITION. Violation notices (R192, R211, R212). -/
namespace Sys2Proof.Machine
open Reg

def State.modPol (s : State) (f : Pol → Pol) : State := { s with pol := f s.pol }

/-- The answers of a notice (R212). -/
abbrev ansMarked : Nat := 0
abbrev ansDropped : Nat := 1
abbrev ansNoFrame : Nat := 2
abbrev ansCounted : Nat := 3

/-- The destination mask of one port. -/
def onePort (p : Nat) : BitVec 64 := BitVec.ofNat 64 (2 ^ p)

/-- A frame that the device creates with its destination fixed: it skips classification and waits for admission at the
loopback fabric input FP15 (assumptions/20). -/
def offerTo (fp : Nat) (dest : BitVec 64) (f : Frame) (o : Origin) (s : State) : State :=
  s.modPond fun p => { p with
    nextFid := p.nextFid + 1
    arrivals := p.arrivals ++ [⟨p.nextFid, fp, f.tag.setLength f.payload.length, f.payload, true, some dest, o⟩] }

/-- The notice frame of R212. -/
def noticeFrame (code ans : Nat) (tag : Option Tag) (port index loc supp now outlet cls : Nat) : Frame :=
  let t := (((Tag.fresh 7 port now).setDstPort 60).setQueue outlet).setCls cls
  let t := { t with
    w7 := BitVec.ofNat 32 (code * 2 ^ 26 + ans * 2 ^ 24 + b2n tag.isSome * 2 ^ 23 + index % 65536)
    w8 := BitVec.ofNat 32 loc, w9 := BitVec.ofNat 32 (min supp (2 ^ 32 - 1)) }
  match tag with
  | some x => ⟨t.setLength 48, x.bytesBE⟩
  | none => ⟨t.setLength 0, []⟩

/-- A detection is offered to the notice generator (R211); GAP_US runs on the vault time, which never runs backwards. -/
def noticeOffer (code ans : Nat) (tag : Option Tag) (port index loc : Nat) (s : State) : State :=
  if !s.enabled W.POL then s
  else
    let cfg := s.reg W.POL (POL_VN_CFG + 4 * code)
    let last := kvGet 0 s.pol.vnLast code
    let due := last = 0 ∨ (last - 1) + bits cfg 15 0 * 1000 ≤ s.vault
    if bit cfg 31 ∧ due then
      let f := noticeFrame code ans tag port index loc (kvGet 0 s.pol.vnSupp code) s.now (bits cfg 21 16) (bits cfg 24 22)
      let s := s.modPol fun p => { p with vnLast := kvSet 0 p.vnLast code (s.vault + 1), vnSupp := kvSet 0 p.vnSupp code 0 }
      offerTo 15 (onePort 60) f (.notice code) (s.count W.POL POL_VN_SENT)
    else
      (s.count W.POL POL_VN_SUPPRESSED).modPol fun p =>
        { p with vnSupp := kvSet 0 p.vnSupp code (satAdd 32 (kvGet 0 p.vnSupp code) 1) }

/-- A violation on a frame: the code is written while VIOL is 0x00 (R87), and the detection is offered with its answer; a
forwarded frame that already carried a code is only counted. -/
def violate (code : Nat) (dropped : Bool) (index loc : Nat) (t : Tag) (s : State) : Tag × State :=
  let t' := t.codeViol code
  let ans := if dropped then ansDropped else if t.viol = 0 then ansMarked else ansCounted
  (t', noticeOffer code ans (some t') t.srcPort index loc s)

/-- The capture copy that a dropped frame keeps: ACT.CAPTURE and POL_CTRL.KEEP_CAPTURE (R192). -/
def keepsCapture (s : State) (t : Tag) : Bool := t.capture && s.flag W.POL POL_CTRL 0

end Sys2Proof.Machine
end

