-- ==== Sys2Proof/Machine/Signals.lean ====
section
/-! DEFINITION. The signal engine's tables, signal routes, output buffers and their emissions (09_signal_engine.md). -/
namespace Sys2Proof.Machine
open Reg

def State.modSge (s : State) (f : Sge → Sge) : State := { s with sge := f s.sge }

/-! ### Tables (R221, R224, R228, R242, R249) -/

/-- The key of word `k` of entry `idx` of object `obj`. -/
def sgeKey (obj idx k : Nat) : Nat := obj * 2 ^ 20 + idx * 8 + k

/-- A word of the live set. -/
def State.sgeW (s : State) (obj idx k : Nat) : Nat := (kvGet 0 s.sge.live (sgeKey obj idx k)).toNat

/-- A word of the shadow. -/
def State.sgeS (s : State) (obj idx k : Nat) : Nat := (kvGet 0 s.sge.shad (sgeKey obj idx k)).toNat

/-- A signed 32-bit table word. -/
def signed32 (n : Nat) : Int := toSigned 32 n

/-- The location of a table entry (R251): low 6 bits of the index in BIT, the next 8 in STAGE. -/
def sgeLoc (idx : Nat) : Nat := locCode 0 W.SGE 0 (idx / 64 % 256) (idx % 64)

/-- Signal operations are counted (R248). -/
def sgeOps (n : Nat) (s : State) : State := s.count64By W.SGE SGE_OPS_LO n

/-- A table entry is read: a corrected error is counted as an event, an uncorrectable one makes the entry act as absent. -/
def sgeRead (bad : List BadEntry) (obj idx : Nat) (s : State) : Bool × State :=
  if bad.contains (.sge obj idx) then (false, s.raise W.SGE 4 (sgeLoc idx))
  else if bad.contains (.sgeFix obj idx) then (true, s.raise W.SGE 3 (sgeLoc idx))
  else (true, s)

/-! ### Created and returned frames (R218–R220) -/

/-- A frame that the engine creates reaches FP10. -/
def sgeCreate (f : Frame) (s : State) : State :=
  offerWhole 10 f .sgeCreated (sgeOps 1 (s.count W.SGE SGE_EMITTED))

/-- Write a destination: a port-set index or a logical port. -/
def destTag (pset : Bool) (dest : Nat) (t : Tag) : Tag :=
  if pset then (t.setDstPort 0xFF).setPortset dest else t.setDstPort (dest % 256)

/-- The tag of a created frame with the D3 word of its definition. -/
def createdTag (kind now d3 : Nat) : Tag :=
  let t := ((Tag.fresh kind 56 now).setEngDone (bit d3 31)).setCls (bits d3 30 28)
  if bit d3 31 then destTag (bit d3 27) (bits d3 26 15) t else t

/-- The KEEP return of the taken frame (R218, R104). -/
def keepReturn (d0 : Nat) (t : Tag) (payload : List Byte) (s : State) : State :=
  if !bit d0 27 then s
  else
    let t := (t.setPasses (t.passes + 1)).setEngDone (bit d0 26)
    let t := if bit d0 26 then destTag (bit d0 25) (bits d0 24 13) t else t
    offerWhole 10 ⟨t, payload⟩ .sgeReturn s

/-! ### Signals in bytes (R222) -/

/-- Bit number `n` of a byte string: little-endian numbering 8i + j, or big-endian 8i + 7 - j. -/
def sigBit (big : Bool) (l : List Byte) (n : Nat) : Bool :=
  bit (byteAt l (n / 8)) (if big then 7 - n % 8 else n % 8)

/-- Extract `len` bits at `start` (R222). -/
def sigExtract (big : Bool) (l : List Byte) (start len : Nat) : Nat :=
  (List.range len).foldl (fun v k =>
    if big then v * 2 + b2n (sigBit true l (start + k)) else v + b2n (sigBit false l (start + k)) * 2 ^ k) 0

/-- Set bit number `n` of a byte string. -/
def sigSetBit (big : Bool) (l : List Byte) (n : Nat) (b : Bool) : List Byte :=
  l.modify (n / 8) fun x => BitVec.ofNat 8 (putBit x.toNat (if big then 7 - n % 8 else n % 8) b)

/-- Pack the low `len` bits of `v` at `start`; other bits stay (R225). -/
def sigPack (big : Bool) (l : List Byte) (start len v : Nat) : List Byte :=
  (List.range len).foldl (fun l k => sigSetBit big l (start + k) (bit v (if big then len - 1 - k else k))) l

/-- The limit of the J1939 error and not-available codes (R225). -/
def j1939Lim (len : Nat) : Nat := if len < 8 then 2 ^ len - 2 else 2 ^ len - 2 ^ (len - 7)

/-- Saturate to `len` bits, signed or not (R225). -/
def sigSaturate (y : Int) (len : Nat) (sgn : Bool) : Int :=
  let lo : Int := if sgn then -((2 ^ (len - 1) : Nat) : Int) else 0
  let hi : Int := if sgn then ((2 ^ (len - 1) : Nat) : Int) - 1 else ((2 ^ len : Nat) : Int) - 1
  if y < lo then lo else if hi < y then hi else y

/-! ### Output buffers (R228–R230) -/

def State.sgeBuf (s : State) (b : Nat) : BufRun := kvGet BufRun.reset s.sge.bufs b
def State.setBuf (s : State) (b : Nat) (x : BufRun) : State :=
  s.modSge fun g => { g with bufs := kvSet BufRun.reset g.bufs b x }

def bufMode (s : State) (b : Nat) : Nat := bits (s.sgeW 2 b 0) 31 30
def bufLen (s : State) (b : Nat) : Nat := bits (s.sgeW 2 b 0) 6 0

/-- MIN_GAP in ns: ticks of 100 µs. -/
def bufGap (s : State) (b : Nat) : Nat := bits (s.sgeW 2 b 1) 15 0 * 100000

/-- The engine runs while RUNNING and EN are both 1 (R247). -/
def sgeRunning (s : State) : Bool := s.enabled W.SGE && s.flag W.SGE SGE_UC_STAT 31

/-- The tick of the present vault time (R230). -/
def sgeTick (s : State) : Nat := s.vault / 100000

/-- Tick `t` is due for a cyclic or mixed buffer (R230). -/
def tickDue (s : State) (b t : Nat) : Bool :=
  let w := s.sgeW 2 b 3
  bits w 31 16 != 0 && t % bits w 31 16 == bits w 15 0

/-- The cyclic emission of a buffer is due: the latest due tick began after the engine began to run, and its emission, or that
of a later tick, has not left. Where a forward step of the time skipped due ticks, one emission is due (R230). -/
def cyclicDue (s : State) (b : Nat) : Bool :=
  let w := s.sgeW 2 b 3
  let cyc := bits w 31 16
  let t := sgeTick s
  (bufMode s b == 2 || bufMode s b == 3) && cyc != 0 && decide (bits w 15 0 ≤ t)
    && decide (max (s.sgeBuf b).cyc s.sge.since < t - (t - bits w 15 0) % cyc)

/-- The pending emission of a buffer is due (R229). -/
def pendingDue (s : State) (b : Nat) : Bool := (s.sgeBuf b).pend.any fun d => decide (d ≤ s.vault)

/-- The buffers that the live set configures, as often as it lists words of them. -/
def liveBufs (s : State) : List Nat := (s.sge.live.filter fun e => e.1 / 2 ^ 20 == 2).map fun e => e.1 % 2 ^ 20 / 8

/-- An emission of a buffer is due (R229, R230). -/
def emissionDue (s : State) (b : Nat) : Bool := cyclicDue s b || pendingDue s b

/-- Buffer `b` may emit: no lower buffer has an emission that is due and has not left (R231). -/
def emitsNext (s : State) (b : Nat) : Bool := (liveBufs s).all fun c => !(decide (c < b) && emissionDue s c)

/-- The engine stands inside the emissions of one tick: one has left in this tick and another is due. -/
def insideTick (s : State) : Bool :=
  sgeRunning s && (liveBufs s).any (emissionDue s)
    && (liveBufs s).any fun b => (s.sgeBuf b).last.any fun l => l / 100000 == sgeTick s

/-- The update bits that the live routes into a buffer set. -/
def updBits (s : State) (b : Nat) : List Nat :=
  (s.sge.live.filter fun e => e.1 / 2 ^ 20 == 1 && e.1 % 8 == 2 && wf e.2 11 0 == b && wf e.2 12 12 == 1
    && s.sgeW 1 (e.1 % 2 ^ 20 / 8) 0 ≥ 2 ^ 31).map fun e => wf e.2 31 13

/-- One emission: the frame of R229 with R220's words; the buffer's update bits clear, nothing stays pending, and the cyclic
emission of this tick has left where it was due. -/
def bufEmit (b : Nat) (s : State) : State :=
  let b0 := s.sgeW 2 b 0
  let x := s.sgeBuf b
  let bytes := x.data.take (bufLen s b)
  let t := ((Tag.fresh 4 56 s.now).setEngDone (bit b0 28)).setCls (bits b0 27 25)
  let t := if bit b0 28 then destTag (bit b0 24) (bits b0 23 12) t else t
  let t := { t.setPdu (bits (s.sgeW 2 b 1) 31 16) with
    w7 := BitVec.ofNat 32 (s.sgeW 2 b 2), w8 := BitVec.ofNat 32 (2 ^ 28 + b), w9 := 0 }
  let s' := s.setBuf b { x with
    data := (updBits s b).foldl (fun l n => sigSetBit false l n false) x.data, last := some s.vault, sent := bytes, pend := none,
    cyc := if cyclicDue s b then sgeTick s else x.cyc }
  sgeCreate ⟨t, bytes⟩ s'

/-- A trigger on a buffer whose data has been written (R229). In a mixed buffer, a trigger in a tick in which the cyclic
emission is due adds no second emission. The buffer's configuration is read; an uncorrectable entry acts as MODE 0 (R251). -/
def bufTrigger (bad : List BadEntry) (b : Nat) (s : State) : State :=
  let rd := sgeRead bad 2 b s
  let s := rd.2
  let x := s.sgeBuf b
  let m := bufMode s b
  if !rd.1 ∨ (m ≠ 1 ∧ m ≠ 3) then s
  else if bit (s.sgeW 2 b 0) 29 ∧ x.last.isSome ∧ x.data.take (bufLen s b) = x.sent then s
  else if x.pend.isSome then s.count W.SGE SGE_DEFERRED
  else if m = 3 ∧ tickDue s b (sgeTick s) then s
  else
    match x.last with
    | none => bufEmit b s
    | some l =>
      if l + bufGap s b ≤ s.vault then bufEmit b s else s.setBuf b { x with pend := some (l + bufGap s b) }

/-- An emission that is due leaves while the engine runs, after those of lower buffers (R231); its configuration is read. -/
def dueEmit (bad : List BadEntry) (b : Nat) (due : Bool) (s : State) : State :=
  if !sgeRunning s || !due || !emitsNext s b then s
  else
    let rd := sgeRead bad 2 b s
    if rd.1 then bufEmit b rd.2 else rd.2.setBuf b { rd.2.sgeBuf b with pend := none, cyc := sgeTick rd.2 }

/-- CYCLIC_EMISSION: the due tick of a cyclic or mixed buffer (R229, R230). -/
def doCyclicEmission (b : Nat) (bad : List BadEntry) (s : State) : State := dueEmit bad b (cyclicDue s b) s

/-- PENDING_EMISSION: the pending emission of a buffer becomes due (R229). -/
def doPendingEmission (b : Nat) (bad : List BadEntry) (s : State) : State := dueEmit bad b (pendingDue s b) s

/-! ### Routes (R223, R225) -/

/-- Write a value into the destination of route `r`, saturated (R225); the SUBST of a timeout (`upd` false) sets no update bit
and is not counted. -/
def routeWrite (r : Nat) (y : Int) (upd : Bool) (s : State) : State :=
  let r1 := s.sgeW 1 r 1
  let r2 := s.sgeW 1 r 2
  let dlen := bits r1 29 23
  let z := sigSaturate y dlen (bit r1 30)
  let s := if z = y ∨ !upd then s else s.count W.SGE SGE_SATURATED
  let x := s.sgeBuf (bits r2 11 0)
  let data := sigPack (bit r1 31) x.data (bits r1 18 0) dlen (ofSigned dlen z)
  let data := if upd ∧ bit r2 12 then sigSetBit false data (bits r2 31 13) true else data
  s.setBuf (bits r2 11 0) { x with data := data }

/-- The value that a route computes from its raw bits; none where the route holds, with the state after its counts. -/
def routeValue (r raw : Nat) (s : State) : Option Int × State :=
  let r0 := s.sgeW 1 r 0
  let r1 := s.sgeW 1 r 1
  let len := bits r0 28 22
  let x : Int := if bit r0 29 then toSigned len raw else ((raw : Nat) : Int)
  let subst := signed32 (s.sgeW 1 r 7)
  let inv := bits r1 20 19
  if (inv = 1 ∧ raw = 2 ^ len - 1) ∨ (inv = 2 ∧ j1939Lim len ≤ raw) then (some subst, s.count W.SGE SGE_INVALID)
  else
    let y := (x * signed32 (s.sgeW 1 r 3) + 0x8000) / 65536 + signed32 (s.sgeW 1 r 4)
    let act := bits r1 22 21
    let lo := signed32 (s.sgeW 1 r 5)
    let hi := signed32 (s.sgeW 1 r 6)
    if act ≠ 0 ∧ (y < lo ∨ hi < y) then
      let s := s.count W.SGE SGE_RANGE
      if act = 1 then (some (if y < lo then lo else hi), s)
      else if act = 2 then (some subst, s)
      else (none, s)
    else (some y, s)

/-- Execute one route on the PDU bytes; the answer lists the buffer it wrote. -/
def routeExec (pdu : List Byte) (r : Nat) (s : State) : List Nat × State :=
  let r0 := s.sgeW 1 r 0
  let len := bits r0 28 22
  let start := bits r0 18 0
  if !bit r0 31 then ([], s)
  else if 8 * pdu.length < start + len then ([], s.count W.SGE SGE_SHORT)
  else
    let s := sgeOps 1 s
    match routeValue r (sigExtract (bit r0 30) pdu start len) s with
    | (none, s) => ([], s)
    | (some y, s) => ([bits (s.sgeW 1 r 2) 11 0], routeWrite r y true s)

/-- Run `n` routes from `first`; the answer lists the buffers written, each once. -/
def routesRun (bad : List BadEntry) (pdu : List Byte) (first n : Nat) (s : State) : List Nat × State :=
  (List.range n).foldl (fun (acc : List Nat × State) k =>
    let rd := sgeRead bad 1 (first + k) acc.2
    if !rd.1 then (acc.1, rd.2)
    else
      let r := routeExec pdu (first + k) rd.2
      (acc.1 ++ r.1.filter (fun b => !acc.1.contains b), r.2)) ([], s)

/-! ### Definitions of type SIGNALS (R226, R227) -/

def State.sgeDef (s : State) (d : Nat) : DefRun := kvGet DefRun.idle s.sge.defs d
def State.setDef (s : State) (d : Nat) (x : DefRun) : State :=
  s.modSge fun g => { g with defs := kvSet DefRun.idle g.defs d x }

/-- A SIGNALS frame arrives (R226). -/
def sgeSignals (bad : List BadEntry) (d : Nat) (pdu : List Byte) (s : State) : State :=
  let d1 := s.sgeW 0 d 1
  let s := s.setDef d ⟨some s.vault, false⟩
  let r := routesRun bad pdu (bits d1 31 17) (bits d1 16 8) s
  r.1.foldl (fun s b => bufTrigger bad b s) r.2

/-- A definition's timeout has come: the present tick began at or after the last reception plus TIMEOUT_MS (R227). -/
def srcDue (s : State) (d : Nat) : Bool :=
  let ms := bits (s.sgeW 0 d 2) 31 16
  let x := s.sgeDef d
  bits (s.sgeW 0 d 0) 31 28 == 1 && ms != 0 && !x.out
    && x.last.any fun l => decide (l + ms * 1000000 ≤ sgeTick s * 100000)

/-- SRC_TIMEOUT: the definition times out at a tick (R227). Its entry and its routes are read (R251). -/
def doSrcTimeout (d : Nat) (bad : List BadEntry) (s : State) : State :=
  if !sgeRunning s || !srcDue s d then s
  else
    let rd := sgeRead bad 0 d s
    let s := rd.2
    if !rd.1 then s
    else
      let d1 := s.sgeW 0 d 1
      let s := ((s.count W.SGE SGE_TIMEOUTS).raise W.SGE 5 (sgeLoc d)).setDef d { s.sgeDef d with out := true }
      if !bit (s.sgeW 0 d 2) 15 then s
      else
        let r := (List.range (bits d1 16 8)).foldl (fun (acc : List Nat × State) k =>
          let i := bits d1 31 17 + k
          let rr := sgeRead bad 1 i acc.2
          if !rr.1 ∨ !bit (rr.2.sgeW 1 i 0) 31 then (acc.1, rr.2)
          else
            let b := bits (rr.2.sgeW 1 i 2) 11 0
            (if acc.1.contains b then acc.1 else acc.1 ++ [b], routeWrite i (signed32 (rr.2.sgeW 1 i 7)) false rr.2)) ([], s)
        r.1.foldl (fun s b => bufTrigger bad b s) r.2

end Sys2Proof.Machine
end

