-- ==== Sys2Proof/Machine/Transport.lean ====
section
/-! DEFINITION. J1939 transport sessions, address claims and NAME bindings (R232–R241). The control bytes, layouts, PGN fields
and abort reasons are those of SAE J1939-21, which the spec names without listing them (notes/assumptions/21). -/
namespace Sys2Proof.Machine
open Reg

/-! ### Identifiers and frames of J1939 -/

def idPrio (id : Nat) : Nat := bits id 28 26
def idPf (id : Nat) : Nat := bits id 23 16
def idPs (id : Nat) : Nat := bits id 15 8
def idSa (id : Nat) : Nat := bits id 7 0

/-- The identifier of a PGN: the PS byte is the destination where PF is below 240. -/
def j1939Id (prio pgn da sa : Nat) : Nat :=
  let base := prio % 8 * 2 ^ 26 + pgn % 2 ^ 18 * 2 ^ 8 + sa % 256
  if bits pgn 15 8 < 240 then putBits base 15 8 da else base

/-- The PGNs of the transport messages. -/
def pgnTpCm : Nat := 0xEC00
def pgnTpDt : Nat := 0xEB00
def pgnEtpCm : Nat := 0xC800
def pgnEtpDt : Nat := 0xC700

/-- A PGN as three bytes, least significant first. -/
def pgnBytes (pgn : Nat) : List Byte := leBytes 3 pgn

/-- A classical CAN frame that the engine sends on a channel: IDE 1, ENG_DONE 1 (R237). -/
def sgeSendCan (chan cls id : Nat) (data : List Byte) (s : State) : State :=
  let t := (((Tag.fresh 0 56 s.now).setEngDone true).setCls cls).setDstPort chan
  let t := { t with w7 := BitVec.ofNat 32 (2 ^ 31 + id % 2 ^ 29), w8 := BitVec.ofNat 32 (data.length * 2 ^ 8) }
  sgeOps 1 (sgeCreate ⟨t, data⟩ s)

/-- OUT_CLASS of a definition. -/
def outClass (s : State) (d : Nat) : Nat := bits (s.sgeW 0 d 3) 30 28

/-- A connection management frame of 8 bytes. -/
def sgeSendCm (d chan prio : Nat) (etp : Bool) (da sa : Nat) (data : List Byte) (s : State) : State :=
  sgeSendCan chan (outClass s d) (j1939Id prio (if etp then pgnEtpCm else pgnTpCm) da sa) data s

/-- A connection abort with a reason. -/
def sgeSendAbort (d chan : Nat) (etp : Bool) (da sa reason pgn : Nat) (s : State) : State :=
  sgeSendCm d chan 7 etp da sa ([255, BitVec.ofNat 8 reason, 255, 255, 255] ++ pgnBytes pgn) s

/-! ### Sessions (R232) -/

def State.sess? (s : State) (sid : Nat) : Option Session := s.sge.sessions.find? (·.sid == sid)
def State.modSess (s : State) (sid : Nat) (f : Session → Session) : State :=
  s.modSge fun g => { g with sessions := updFirst (·.sid == sid) f g.sessions }
def State.dropSess (s : State) (sid : Nat) : State :=
  s.modSge fun g => { g with sessions := g.sessions.filter (·.sid != sid) }

/-- A free session number. -/
def freeSid (s : State) : Option Nat := (List.range 64).find? fun k => (s.sess? k).isNone

/-- End a session: its partial message, or the frame it keeps, is freed. -/
def sessFree (x : Session) (s : State) : State :=
  let s := s.dropSess x.sid
  match x.fid with
  | none => s
  | some f => if x.tx then dropCopy f 56 s else if frameKnown s f then discardFrame f s else s

/-- SGE_TP_ABORT. -/
def tpAborted (s : State) : State := s.count W.SGE SGE_TP_ABORT

/-- A session ends with a code (R239), revealed by frame `t`, or by no frame. -/
def tpViolation (code d chan : Nat) (t : Option Tag) (s : State) : Option Tag × State :=
  let s := (tpAborted s).raise W.SGE 6 (sgeLoc d)
  match t with
  | none => (none, noticeOffer code ansNoFrame none chan d (sgeLoc d) s)
  | some t =>
    let r := violate code false d (sgeLoc d) t s
    (some r.1, r.2)

/-- The packets of a message. -/
def pktsOf (size : Nat) : Nat := (size + 6) / 7

/-- A size is invalid (R233). -/
def sizeBad (etp bam etpEn : Bool) (size pkts : Nat) : Bool :=
  size == 0 || (!etp && !(decide (9 ≤ size) && decide (size ≤ 1785))) || (!etp && pkts != pktsOf size)
    || (etp && !(decide (1786 ≤ size) && decide (size ≤ 65535))) || (etp && !etpEn) || (bam && decide (1786 ≤ size))

/-- CTS of the receive session for the next window (R234): min(RTS limit, CTS_PKTS, remaining) packets. -/
def sendCts (x : Session) (s : State) : State :=
  let n := min (min x.limit (s.fld W.SGE SGE_TP_CFG 7 0)) (pktsOf x.size - (x.next - 1))
  let data : List Byte :=
    if x.etp then [21, BitVec.ofNat 8 n] ++ leBytes 3 x.next ++ pgnBytes x.pgn
    else [17, BitVec.ofNat 8 n, BitVec.ofNat 8 x.next, 255, 255] ++ pgnBytes x.pgn
  (sgeSendCm x.defn x.chan 7 x.etp x.sa x.da data s).modSess x.sid fun y =>
    { y with state := .data, winEnd := x.next + n - 1, base := none, since := s.vault }

/-- EOMA of the receive session. -/
def sendEoma (x : Session) (s : State) : State :=
  let data : List Byte :=
    if x.etp then [23] ++ leBytes 4 x.size ++ pgnBytes x.pgn
    else [19] ++ leBytes 2 x.size ++ [BitVec.ofNat 8 (pktsOf x.size), 255] ++ pgnBytes x.pgn
  sgeSendCm x.defn x.chan 7 x.etp x.sa x.da data s

/-- The tag of a received message (R220, R236). -/
def messageTag (x : Session) (s : State) : Tag :=
  let d3 := s.sgeW 0 x.defn 3
  let t := createdTag 4 s.now d3
  { (t.setPdu (bits (s.sgeW 0 x.defn 1) 15 0)).setLength x.size with
    w7 := BitVec.ofNat 32 (2 ^ 31 + j1939Id x.prio x.pgn x.da x.sa)
    w8 := BitVec.ofNat 32 (2 ^ 29 + x.defn % 65536)
    w9 := BitVec.ofNat 32 (x.da * 2 ^ 24 + x.pgn % 2 ^ 18) }

/-- The message's frame takes the data in hand: it is presented once 16 bytes are there (R236). -/
def presentMessage (x : Session) (have_ : Nat) (done : Bool) (s : State) : State :=
  let bytes := x.data.take (min have_ x.size)
  match x.fid with
  | some f => feedFrame f bytes done id s
  | none =>
    if 16 ≤ have_ ∨ done then
      let f := s.pond.nextFid
      let s := offerFrame 10 ⟨messageTag x s, bytes⟩ done .sgeCreated (sgeOps 1 (s.count W.SGE SGE_EMITTED))
      s.modSess x.sid fun y => { y with fid := some f }
    else s

/-- The last packet is stored: the message commits once the Pond has admitted it (R236); `sgeSweep` then ends the session. -/
def sessDone (x : Session) (s : State) : State :=
  (presentMessage x x.size true s).modSess x.sid fun y => { y with state := .done }

/-- A data packet for a receive session (R234, R235). The answer is the frame's tag with a code it revealed. -/
def sessData (x : Session) (t : Tag) (data : List Byte) (s : State) : Tag × State :=
  let seq := byteAt data 0
  let inOrder := (!x.etp || x.base.isSome) && x.state != .waitCts && seq != 0 && seq + x.base.getD 0 == x.next
  if !inOrder then
    let s := if x.respond then sendAbort x s else s
    let r := tpViolation 0x07 x.defn x.chan (some t) (sessFree x s)
    (r.1.getD t, r.2)
  else
    let x' := { x with data := splice x.data (7 * (x.next - 1)) (slice data 1 7), next := x.next + 1, since := s.vault }
    let s := s.modSess x.sid fun _ => x'
    let s := presentMessage x' (7 * x.next) false s
    let x' := (s.sess? x.sid).getD x'
    if pktsOf x.size ≤ x.next then (t, sessDone x' s)
    else if x.state = .data ∧ x.winEnd ≤ x.next then
      if x.respond then (t, sendCts x' s) else (t, s.modSess x.sid fun y => { y with state := .waitCts })
    else (t, s)
where
  sendAbort (x : Session) (s : State) : State := sgeSendAbort x.defn x.chan x.etp x.sa x.da 7 x.pgn s

/-- A BAM or RTS opens a receive session (R232–R234). -/
def sessOpen (d chan sa da : Nat) (etp bam : Bool) (data : List Byte) (prio : Nat) (t : Tag) (s : State) : Tag × State :=
  let d1 := s.sgeW 0 d 1
  let size := if etp then leNat (slice data 1 4) else leNat (slice data 1 2)
  let pkts := byteAt data 3
  let pgn := leNat (slice data 5 3)
  let respond := bit d1 31 && !bam && bits d1 29 22 == da
  let s := match s.sge.sessions.find? fun x => !x.tx && x.state != .done && x.chan == chan && x.sa == sa && x.da == da with
    | some x => tpAborted (sessFree x s)
    | none => s
  if sizeBad etp bam (bit d1 30) size pkts then
    let s := if respond then sgeSendAbort d chan etp sa da 9 pgn s else s
    let r := tpViolation 0x08 d chan (some t) s
    (r.1.getD t, r.2)
  else
    match freeSid s with
    | none =>
      let s := if respond then sgeSendAbort d chan etp sa da 1 pgn s else s
      (t, (s.count W.SGE SGE_TP_BUSY).raise0 W.SGE 7)
    | some sid =>
      let limit := if bam then 255 else if etp then 255 else byteAt data 4
      let x : Session := ⟨sid, d, false, chan, sa, da, etp, respond, if bam then .bam else if respond then .data else .waitCts,
        pgn, prio, size, if limit = 0 then 255 else limit, zeros size, 1, pktsOf size, none, none, s.vault, false⟩
      let s := s.modSge fun g => { g with sessions := g.sessions ++ [x] }
      (t, if respond then sendCts x s else s)

/-! ### Transmit sessions (R237, R238) -/

/-- The data packet `p` of a message. -/
def dtBytes (x : Session) (p : Nat) : List Byte :=
  let seq := match x.base with
    | some b => p - b
    | none => p
  let d := slice x.data (7 * (p - 1)) 7
  [BitVec.ofNat 8 seq] ++ (d ++ List.replicate 7 255).take 7

/-- Send data packet `p`. -/
def sendDt (x : Session) (p : Nat) (s : State) : State :=
  sgeSendCan x.chan (outClass s x.defn) (j1939Id x.prio (if x.etp then pgnEtpDt else pgnTpDt) x.da x.sa) (dtBytes x p) s

/-- A CTS reaches a transmit session that waits (R238). -/
def txCts (x : Session) (data : List Byte) (s : State) : State :=
  let k := byteAt data 1
  let n := if x.etp then leNat (slice data 2 3) else byteAt data 2
  if x.state ≠ .txWait then s
  else if k = 0 ∨ n = 0 then (if k = 0 then s.modSess x.sid fun y => { y with since := s.vault, held := true } else s)
  else
    let x := { x with base := if x.etp then some (n - 1) else none }
    let last := min (n + k - 1) (pktsOf x.size)
    let s := if x.etp then
        sgeSendCm x.defn x.chan x.prio true x.da x.sa ([22, BitVec.ofNat 8 k] ++ leBytes 3 (n - 1) ++ pgnBytes x.pgn) s
      else s
    (foldRange (fun s p => sendDt x p s) s n (last + 1 - n)).modSess x.sid fun y =>
      { y with next := last + 1, base := x.base, since := s.vault, held := false }

/-- A control frame for a transmit session (R238). -/
def txControl (x : Session) (data : List Byte) (s : State) : State :=
  let c := byteAt data 0
  if c = (if x.etp then 21 else 17) then txCts x data s
  else if c = (if x.etp then 23 else 19) then (sessFree x s).count W.SGE SGE_TP_DONE
  else if c = 255 then tpAborted (sessFree x s)
  else s

/-- A control frame for a receive session of this direction: CTS from the destination in the listen role, DPO from the source,
abort from either end (R234, R235). -/
def rxControl (x : Session) (fromSource : Bool) (data : List Byte) (s : State) : State :=
  let c := byteAt data 0
  if c = 255 then tpAborted (sessFree x s)
  else if !fromSource ∧ !x.respond ∧ c = (if x.etp then 21 else 17) then
    let k := byteAt data 1
    let n := if x.etp then leNat (slice data 2 3) else byteAt data 2
    if k = 0 ∨ n = 0 ∨ x.next < n then s
    else s.modSess x.sid fun y => { y with state := .data, next := n, winEnd := n + k - 1, base := none, since := s.vault }
  else if fromSource ∧ x.etp ∧ c = 22 then s.modSess x.sid fun y => { y with base := some (leNat (slice data 2 3)) }
  else s

/-- A TP.CM or ETP.CM frame: matched against the transmit sessions, then the receive sessions, else it may open one (R232). -/
def tpControl (d chan sa da prio : Nat) (etp : Bool) (t : Tag) (data : List Byte) (s : State) : Tag × State :=
  let c := byteAt data 0
  let opens := (!etp && (c == 16 || c == 32)) || (etp && c == 20)
  if opens then sessOpen d chan sa da etp (c == 32) data prio t s
  else
    match s.sge.sessions.find? fun x => x.tx && x.etp == etp && x.chan == chan && x.sa == da && x.da == sa with
    | some x => (t, txControl x data s)
    | none =>
      match s.sge.sessions.find? fun x => !x.tx && x.state != .done && x.etp == etp && x.chan == chan
          && ((x.sa == sa && x.da == da) || (x.sa == da && x.da == sa)) with
      | some x => (t, rxControl x (x.sa == sa && x.da == da) data s)
      | none => (t, s)

/-- A frame taken under a J1939_RX definition. -/
def sgeJ1939Rx (d : Nat) (t : Tag) (data : List Byte) (s : State) : Tag × State :=
  let id := bits t.w7.toNat 28 0
  let chan := t.srcPort
  let pf := idPf id
  if 31 < chan ∨ data.length < 8 ∨ bits id 25 24 ≠ 0 then (t, s)
  else if pf = 0xEC ∨ pf = 0xC8 then tpControl d chan (idSa id) (idPs id) (idPrio id) (pf == 0xC8) t data (sgeOps 1 s)
  else if pf = 0xEB ∨ pf = 0xC7 then
    let s := sgeOps 1 s
    match s.sge.sessions.find? fun x => !x.tx && x.state != .done && x.chan == chan && x.sa == idSa id && x.da == idPs id
        && x.etp == (pf == 0xC7) with
    | some x => sessData x t data s
    | none => (t, s)
  else (t, s)

/-! ### NAMEs (R240, R241) -/

def State.claim (s : State) (c a : Nat) : Option DWord := kvGet none s.sge.claims (256 * c + a)
def State.setClaim (s : State) (c a : Nat) (n : Option DWord) : State :=
  s.modSge fun g => { g with claims := kvSet none g.claims (256 * c + a) n }

/-- The address that a binding resolves to. -/
def bindingAddr (s : State) (b : Nat) : Option Nat :=
  let b0 := s.sgeW 6 b 0
  if !bit b0 31 then none
  else
    let name := BitVec.ofNat 64 (s.sgeW 6 b 1 + 2 ^ 32 * s.sgeW 6 b 2)
    (List.range 254).find? fun a => s.claim (bits b0 4 0) a == some name

/-- A frame taken under a CLAIM definition (R240). -/
def sgeClaim (d : Nat) (t : Tag) (data : List Byte) (s : State) : Tag × State :=
  let id := bits t.w7.toNat 28 0
  let c := t.srcPort
  let a := idSa id
  if 31 < c || !s.flag W.SGE SGE_CLAIM_CFG c || idPf id != 0xEE || bits id 25 24 != 0 || decide (data.length < 8) then (t, s)
  else
    let s := sgeOps 1 s
    let n := BitVec.ofNat 64 (leNat (data.take 8))
    let clear := fun (s : State) (keep : Option Nat) => (List.range 254).foldl (fun s b =>
      if s.claim c b = some n ∧ keep ≠ some b then s.setClaim c b none else s) s
    if a = 0xFE then (t, clear s none)
    else if a = 0xFF then (t, s.count W.SGE SGE_CLAIM_BAD)
    else
      let s := clear s (some a)
      match s.claim c a with
      | none => (t, s.setClaim c a (some n))
      | some m =>
        if m = n then (t, s)
        else
          let s := (s.setClaim c a (some (if m.toNat < n.toNat then m else n))).count W.SGE SGE_CLAIM_CONFLICT
          let r := violate 0x0A false d (sgeLoc d) t (s.raise0 W.SGE 8)
          (r.1, r.2)

/-! ### Sending a PDU (R237) -/

/-- A frame taken under a J1939_TX definition; `fid` is its number in the Pond. -/
def sgeJ1939Tx (bad : List BadEntry) (d fid : Nat) (t : Tag) (pdu : List Byte) (s : State) : Tag × TakenEnd × State :=
  let d1 := s.sgeW 0 d 1
  let d2 := s.sgeW 0 d 2
  let named := wf t.w8 31 28 == 2
  let sa := if named then wf t.w7 7 0 else bits d1 31 24
  let prio := if named then wf t.w7 28 26 else bits d1 10 8
  let pgn := if named then wf t.w9 17 0 else bits d2 17 0
  let da0 := if named then wf t.w9 31 24 else bits d1 23 16
  let chan := bits d1 15 11
  let size := pdu.length
  let rd := if bit d1 6 then sgeRead bad 6 (bits d2 31 24) s else (true, s)
  let s := rd.2
  let da? := if !bit d1 6 then some da0 else if rd.1 then bindingAddr s (bits d2 31 24) else none
  match da? with
  | none => (t, .discarded, s.count W.SGE SGE_NAME_UNRES)
  | some da =>
    if size = 0 ∨ (1785 < size ∧ (!bit d1 7 ∨ da = 0xFF)) then
      let r := tpViolation 0x08 d chan (some t) s
      (r.1.getD t, .over, r.2)
    else if size ≤ 8 then (t, .over, sgeSendCan chan (outClass s d) (j1939Id prio pgn da sa) pdu s)
    else
      match freeSid s with
      | none => (t, .over, (s.count W.SGE SGE_TP_BUSY).raise0 W.SGE 7)
      | some sid =>
        let etp := decide (1785 < size)
        let bam := da == 0xFF
        let x : Session := ⟨sid, d, true, chan, sa, da, etp, false, if bam then .txBam else .txWait, pgn, prio, size, 0, pdu, 1,
          pktsOf size, none, some fid, s.vault, false⟩
        let s := s.modSge fun g => { g with sessions := g.sessions ++ [x] }
        let open_ : List Byte :=
          if bam then [32] ++ leBytes 2 size ++ [BitVec.ofNat 8 (pktsOf size), 255] ++ pgnBytes pgn
          else if etp then [20] ++ leBytes 4 size ++ pgnBytes pgn
          else [16] ++ leBytes 2 size ++ [BitVec.ofNat 8 (pktsOf size), BitVec.ofNat 8 (s.fld W.SGE SGE_TP_CFG 7 0)] ++ pgnBytes pgn
        (t, .held, sgeSendCm d chan prio etp da sa open_ s)

/-! ### Timers (R234, R238) -/

/-- The time in ms after which a session's timer expires: T1 in a BAM, T2 within a window, T3 while a CTS is awaited, T4 after a
CTS for 0 packets, BAM_GAP_MS between the packets of a BAM that is sent (R234, R238). -/
def sessLimit (s : State) (x : Session) : Nat :=
  match x.state with
  | .bam => s.fld W.SGE SGE_TP_T12 15 0
  | .data => s.fld W.SGE SGE_TP_T12 31 16
  | .txBam => s.fld W.SGE SGE_TP_CFG 15 8
  | .txWait => if x.held then s.fld W.SGE SGE_TP_T34 31 16 else s.fld W.SGE SGE_TP_T34 15 0
  | _ => s.fld W.SGE SGE_TP_T34 15 0

/-- A session's timer has expired; it runs on the vault time (R230). -/
def sessDue (s : State) (x : Session) : Bool := decide (x.since + sessLimit s x * 1000000 ≤ s.vault)

/-- TP_RX_TIMEOUT: T1, T2 or T3 of a receive session expires. -/
def doTpRxTimeout (sid : Nat) (s : State) : State :=
  match s.sess? sid with
  | none => s
  | some x =>
    if !sgeRunning s || x.tx || x.state == .done || !sessDue s x then s
    else
      let s := if x.respond then sgeSendAbort x.defn x.chan x.etp x.sa x.da 3 x.pgn s else s
      (tpViolation 0x09 x.defn x.chan none (sessFree x s)).2

/-- TP_TX_TIMEOUT: T3 or T4 of a transmit session expires. -/
def doTpTxTimeout (sid : Nat) (s : State) : State :=
  match s.sess? sid with
  | none => s
  | some x =>
    if !sgeRunning s || x.state != .txWait || !sessDue s x then s
    else
      let s := sgeSendAbort x.defn x.chan x.etp x.da x.sa 3 x.pgn s
      (tpViolation 0x09 x.defn x.chan none (sessFree x s)).2

/-- BAM_GAP: the next packet of a BAM is sent; after the last one the session is done. -/
def doBamGap (sid : Nat) (s : State) : State :=
  match s.sess? sid with
  | none => s
  | some x =>
    if !sgeRunning s || x.state != .txBam || !sessDue s x then s
    else
      let s := sendDt x x.next s
      if pktsOf x.size ≤ x.next then (sessFree x s).count W.SGE SGE_TP_DONE
      else s.modSess sid fun y => { y with next := x.next + 1, since := s.vault }

/-- What the Pond has decided of a receive session's message (R236): refused or discarded, the session closes, with an abort in
the respond role; admitted after its last packet, the session is done, with EOMA in the respond role (R234). -/
def sgeSweep (s : State) : State :=
  s.sge.sessions.foldl (fun s x =>
    match x.fid with
    | none => s
    | some f =>
      if x.tx then s
      else if !frameKnown s f then
        let s := s.dropSess x.sid
        if x.respond then sgeSendAbort x.defn x.chan x.etp x.sa x.da 2 x.pgn s else s
      else if x.state = .done ∧ (s.frame? f).isSome then
        let s := (s.dropSess x.sid).count W.SGE SGE_TP_DONE
        if x.respond then sendEoma x s else s
      else s) s

end Sys2Proof.Machine
end

