-- ==== Sys2Proof/Machine/Bundles.lean ====
section
/-! DEFINITION. IEEE 1722 bundles: building NTSCF and TSCF streams of ACF CAN messages and splitting them (R242–R246). The bit
places of the AVTP and ACF headers are those of IEEE 1722-2016, which the spec names; its examples agree (assumptions/22). -/
namespace Sys2Proof.Machine
open Reg

/-! ### CAN lengths -/

/-- The payload length of a DLC code of CAN FD. -/
def fdLen (dlc : Nat) : Nat :=
  if dlc ≤ 8 then dlc else match dlc with
    | 9 => 12 | 10 => 16 | 11 => 20 | 12 => 24 | 13 => 32 | 14 => 48 | _ => 64

/-- The DLC code for a length: the smallest code whose length holds it. -/
def dlcOf (len : Nat) : Nat := ((List.range 16).find? fun d => decide (len ≤ fdLen d)).getD 15

/-- A length that the kind can carry: up to 8 bytes, or a CAN FD length. -/
def canLenOk (fd : Bool) (len : Nat) : Bool :=
  if fd then (List.range 16).any fun d => fdLen d == len else decide (len ≤ 8)

/-! ### Building (R243–R245) -/

/-- The ACF message of a PDU (R243). -/
def acfMessage (brief : Bool) (bus : Nat) (t : Tag) (pdu : List Byte) : List Byte :=
  let pad := (4 - pdu.length % 4) % 4
  let hdr := if brief then 8 else 16
  let quads := (hdr + pdu.length + pad) / 4
  let can := decide (t.kind ≤ 2)
  let brs := can && wf t.w8 30 30 == 1
  let esi := can && wf t.w8 29 29 == 1
  let b2 := pad * 64 + 32 + wf t.w7 30 30 * 16 + wf t.w7 31 31 * 8 + b2n brs * 4 + wf t.w7 29 29 * 2 + b2n esi
  beBytes 2 ((if brief then 2 else 1) * 512 + quads) ++ [BitVec.ofNat 8 b2, BitVec.ofNat 8 (bus % 32)]
    ++ (if brief then [] else beBytes 8 t.timestamp) ++ beBytes 4 (wf t.w7 28 0) ++ pdu ++ zeros pad

/-- The AVTP header of a stream's bundle with `len` bytes of messages (R243). -/
def avtpHeader (s : State) (st len seq : Nat) : List Byte :=
  let sid := beBytes 8 (s.sgeW 4 st 2 + 2 ^ 32 * s.sgeW 4 st 3)
  if bit (s.sgeW 4 st 0) 30 then
    [0x05, 0x81, BitVec.ofNat 8 seq, 0] ++ sid ++ beBytes 4 (s.now % 2 ^ 32) ++ zeros 4 ++ beBytes 2 len ++ zeros 2
  else [0x82] ++ beBytes 2 (0x8000 + len % 2048) ++ [BitVec.ofNat 8 seq] ++ sid

def avtpHeaderLen (s0 : Nat) : Nat := if bit s0 30 then 24 else 12

/-- Emit the open bundle of a stream (R243, R245). -/
def bundleEmit (st : Nat) (s : State) : State :=
  match kvGet none s.sge.bundles st with
  | none => s
  | some b =>
    let s0 := s.sgeW 4 st 0
    let s1 := s.sgeW 4 st 1
    let vlan := bit s1 23
    let tci := bits (s.sgeW 4 st 5) 31 16
    let seq := kvGet 0 s.sge.seqOut st
    let mac := fun k => beBytes 2 (bits (s.sgeW 4 st (k + 1)) 15 0) ++ beBytes 4 (s.sgeW 4 st k)
    let bytes := mac 4 ++ mac 6 ++ (if vlan then [0x81, 0x00] ++ beBytes 2 tci else []) ++ [0x22, 0xF0]
      ++ avtpHeader s st b.msgs.length seq ++ b.msgs
    let t := (((Tag.fresh 3 56 s.now).setEngDone true).setDstPort (bits s1 31 24)).setCls (bits s0 23 21)
    let t := { t with w7 := BitVec.ofNat 32 (0x22F0 * 65536 + (if vlan then tci else 0)) }
    let s := s.modSge fun g => { g with
      bundles := kvSet none g.bundles st none, seqOut := kvSet 0 g.seqOut st ((seq + 1) % 256) }
    sgeCreate ⟨t, bytes⟩ (s.count W.SGE SGE_BUNDLES)

/-- BUNDLE_DEADLINE: DEADLINE_US has passed since the stream's bundle opened (R244). The stream's entry is read; while it is
uncorrectable the stream is not enabled, and its bundle stays open. -/
def doBundleDeadline (st : Nat) (bad : List BadEntry) (s : State) : State :=
  let due := (kvGet none s.sge.bundles st).any fun b => decide (b.opened + bits (s.sgeW 4 st 0) 15 0 * 1000 ≤ s.vault)
  if !sgeRunning s || !due then s
  else
    let rd := sgeRead bad 4 st s
    if rd.1 then bundleEmit st rd.2 else rd.2

/-- A frame taken under an ENCAP definition joins its stream's bundle (R244). -/
def sgeEncap (bad : List BadEntry) (d : Nat) (t : Tag) (pdu : List Byte) (s : State) : TakenEnd × State :=
  let st := bits (s.sgeW 0 d 1) 7 0
  let rd := sgeRead bad 4 st s
  let s := rd.2
  let s0 := s.sgeW 4 st 0
  if !rd.1 ∨ !bit s0 31 ∨ 64 < pdu.length ∨ t.kind = 2 then (.discarded, s.count W.SGE SGE_ENCAP_BAD)
  else
    let m := acfMessage (bit s0 29) (bits s0 28 24) t pdu
    let s := sgeOps 1 s
    let len := match kvGet none s.sge.bundles st with
      | none => 0
      | some b => b.msgs.length
    let s := if bits (s.sgeW 4 st 1) 10 0 < avtpHeaderLen s0 + len + m.length then bundleEmit st s else s
    let b : Bundle := match kvGet none s.sge.bundles st with
      | none => ⟨s.vault, m⟩
      | some b => { b with msgs := b.msgs ++ m }
    let s := s.modSge fun g => { g with bundles := kvSet none g.bundles st (some b) }
    (.over, if bits s0 15 0 = 0 then bundleEmit st s else s)

/-! ### Splitting (R246) -/

/-- One ACF message of a received stream becomes a created frame, or is skipped. -/
def acfSplit (d3 : Nat) (ts : Nat) (m : List Byte) (s : State) : State :=
  let typ := byteAt m 0 / 2
  let b2 := byteAt m 2
  let hdr := if typ = 2 then 8 else 16
  let len := m.length - hdr - b2 / 64
  let fdf := bit b2 1
  if (typ ≠ 1 ∧ typ ≠ 2) ∨ m.length < hdr + b2 / 64 ∨ !canLenOk fdf len then s.count W.SGE SGE_SPLIT_BAD
  else
    let stamp := if typ = 1 ∧ bit b2 5 then beNat (slice m 4 8) else ts
    let idw := bits (beNat (slice m (hdr - 4) 4)) 28 0
    let t := createdTag (if fdf then 1 else 0) stamp d3
    let t := { t with
      w7 := BitVec.ofNat 32 (b2n (bit b2 3) * 2 ^ 31 + b2n (bit b2 4) * 2 ^ 30 + b2n fdf * 2 ^ 29 + idw)
      w8 := BitVec.ofNat 32 (b2n (bit b2 2) * 2 ^ 30 + b2n (bit b2 0) * 2 ^ 29 + dlcOf len * 2 ^ 8) }
    sgeCreate ⟨t, slice m hdr len⟩ (sgeOps 1 (s.count W.SGE SGE_SPLIT_MSGS))

/-- Split the ACF messages of `data`, at most `n` of them; a message that does not fit ends the split. -/
def acfSplitAll (d3 ts : Nat) : Nat → List Byte → State → State
  | 0, _, s => s
  | n + 1, data, s =>
    if data.isEmpty then s
    else
      let len := 4 * (beNat (data.take 2) % 512)
      if len = 0 ∨ data.length < len then s.count W.SGE SGE_SPLIT_BAD
      else acfSplitAll d3 ts n (data.drop len) (acfSplit d3 ts (data.take len) s)

/-- A frame taken under a DECAP definition (R246). -/
def sgeDecap (bad : List BadEntry) (d : Nat) (t : Tag) (pdu : List Byte) (s : State) : TakenEnd × State :=
  let rs := bits (s.sgeW 0 d 1) 7 0
  let rd := sgeRead bad 5 rs s
  let s := rd.2
  let rs0 := s.sgeW 5 rs 0
  let tscf := bit rs0 30
  let hdr := if tscf then 24 else 12
  let len := if tscf then beNat (slice pdu 20 2) else beNat (slice pdu 1 2) % 2048
  let seq := if tscf then byteAt pdu 2 else byteAt pdu 3
  let ok := rd.1 && bit rs0 31 && byteAt pdu 0 == (if tscf then 0x05 else 0x82) && bit (byteAt pdu 1) 7
    && beNat (slice pdu 4 8) == s.sgeW 5 rs 1 + 2 ^ 32 * s.sgeW 5 rs 2 && decide (hdr + len ≤ pdu.length)
  if !ok then (.discarded, s.count W.SGE SGE_SPLIT_BAD)
  else
    let gap := match kvGet none s.sge.seqIn rs with
      | none => false
      | some l => bit rs0 29 && seq != (l + 1) % 256
    let s := if gap then (s.count W.SGE SGE_STREAM_GAP).raise0 W.SGE 10 else s
    let s := s.modSge fun g => { g with seqIn := kvSet none g.seqIn rs (some seq) }
    (.over, acfSplitAll (s.sgeW 0 d 3) t.timestamp len (slice pdu hdr len) s)

end Sys2Proof.Machine
end

