-- ==== Sys2Proof/Machine/Jewel.lean ====
section
/-! DEFINITION. Fuses, the Jewel store's key slots and commands, the key port, attestation, and the random numbers of TRN
(18_key_store_and_vault.md). The algorithms are those of Crypto.lean; random bytes are free values (assumptions/11). -/
namespace Sys2Proof.Machine
open Reg

def State.modJwl (s : State) (f : Jewel → Jewel) : State := { s with jwl := f s.jwl }

/-! ### Random numbers (R469) -/

/-- A health test of TRN fails. -/
def trnFailed (s : State) : Bool := s.flag W.TRN TRN_STAT 31

/-- `n` random bytes of the DRBG; the requests of up to 128 bits each count toward the reseed. -/
def trnDraw (n : Nat) (s : State) : List Byte × State :=
  let r := s.drawBytes n
  let k := s.trnReqs + (n + 15) / 16
  (r.1, { r.2 with trnReqs := if s.reg W.TRN TRN_CFG ≤ k then 0 else k })

/-- A non-speculative read of TRN_OUT. -/
def doTrnOut (s : State) : Nat × State :=
  if trnFailed s then (0, s)
  else
    let r := trnDraw 4 s
    (beNat r.1, r.2)

/-- HEALTH_TEST_FAIL: the repetition-count or adaptive-proportion test fails. -/
def doHealthFail (rct apt : Bool) (s : State) : State :=
  if !rct && !apt then s
  else
    let v := 2 ^ 31 + b2n (apt || s.flag W.TRN TRN_STAT 1) * 2 + b2n (rct || s.flag W.TRN TRN_STAT 0)
    ((s.setReg W.TRN TRN_STAT v).count W.TRN TRN_HEALTH).level W.TRN 2 (locSelf W.TRN) true

/-- START_UP_TEST: every 10 ms while FAIL is 1; a pass clears it. -/
def doStartUpTest (pass : Bool) (s : State) : State :=
  if !trnFailed s || !pass then s
  else (s.setReg W.TRN TRN_STAT 0).level W.TRN 2 (locSelf W.TRN) false

/-! ### Fuses and lifecycle (R459–R461) -/

/-- The lifecycle state: the highest LIFECYCLE bit that is set, 0 Blank (R460). -/
def lifecycle (s : State) : Nat :=
  if bit s.fuses.life 3 then 4 else if bit s.fuses.life 2 then 3 else if bit s.fuses.life 1 then 2
  else if bit s.fuses.life 0 then 1 else 0

/-- CROOT_HASH is programmed. -/
def crootSet (s : State) : Bool := s.fuses.croot != zeros 48

/-- The fuse epoch of a class: the number of bits set. -/
def fuseEpoch (s : State) (k : Nat) : Nat :=
  let v := kvGet 0 s.fuses.epoch k
  ((List.range 64).filter fun i => v.getLsbD i).length

/-- JWL_FUSE_STAT. -/
def fuseStat (s : State) : Nat :=
  b2n s.jwl.fuseReq.isSome * 2 ^ 31 + b2n (crootSet s) * 2 ^ 30 + b2n s.fuses.vaultInit * 2 ^ 29 + s.fld W.JWL JWL_FUSE_STAT 3 0

/-- A word of the fuse-backed registers: hashes and certificate most significant byte first, epochs in LO/HI words. -/
def fuseWord (s : State) (off : Nat) : Nat :=
  if 0x800 ≤ off then beNat (slice (s.fuses.cert ++ zeros (2048 - s.fuses.cert.length)) (off - 0x800) 4)
  else if 0x2C0 ≤ off then
    let v := (kvGet 0 s.fuses.epoch ((off - 0x2C0) / 8)).toNat
    if (off - 0x2C0) % 8 = 0 then v % 2 ^ 32 else v / 2 ^ 32
  else if 0x240 ≤ off then beNat (slice s.fuses.croot (off - 0x240) 4)
  else beNat (slice s.fuses.vroot (off - 0x200) 4)

/-- End a fuse request with an ERR code. -/
def fuseErr (e : Nat) (s : State) : State := s.setFld W.JWL JWL_FUSE_STAT 3 0 e

/-- A completed guarded sequence to JWL_FUSE_PROG (R461): the request is refused at once or programming starts. A request while
one runs, and one with a reserved FIELD or an EPOCH count outside 1–8, does nothing. -/
def doFuseProg (data : Nat) (s : State) : State :=
  let s := s.setReg W.JWL JWL_FUSE_PROG data
  let field := bits data 31 28
  let target := bits data 7 4
  let start := fun (s : State) => (fuseErr 0 s).modJwl fun j => { j with fuseReq := some data }
  if s.jwl.fuseReq.isSome then s
  else if field = 1 then (if crootSet s then fuseErr 2 s else start s)
  else if field = 2 then (if bits data 3 0 = 0 ∨ 8 < bits data 3 0 then s else start s)
  else if field = 3 then
    if target ≤ lifecycle s ∨ 4 < target ∨ (target = 2 ∧ !crootSet s) ∨ (target = 4 ∧ lifecycle s = 0) then fuseErr 3 s
    else start s
  else s

/-- Set the lowest `n` unset bits of an epoch. -/
def addEpoch (v : DWord) : Nat → DWord
  | 0 => v
  | n + 1 =>
    match (List.range 64).find? fun i => !v.getLsbD i with
    | none => v
    | some i => addEpoch (v ||| BitVec.ofNat 64 (2 ^ i)) n

/-- FUSE_PROG_DONE: the bits read back or not; the answer says whether a lifecycle advance resets the package. -/
def doFuseProgDone (ok : Bool) (s : State) : Bool × State :=
  match s.jwl.fuseReq with
  | none => (false, s)
  | some data =>
    let s := s.modJwl fun j => { j with fuseReq := none }
    if !ok then (false, (fuseErr 1 s).raise0 W.JWL 4)
    else
      let f := s.fuses
      match bits data 31 28 with
      | 1 =>
        let h := (List.range 12).flatMap fun k => beBytes 4 (s.reg W.JWL (JWL_CROOT_STAGE + 4 * k))
        (false, { s with fuses := { f with croot := h } })
      | 2 =>
        let k := bits data 9 8
        (false, { s with fuses := { f with epoch := kvSet 0 f.epoch k (addEpoch (kvGet 0 f.epoch k) (bits data 3 0)) } })
      | _ => (true, { s with fuses := { f with life := f.life ||| 2 ^ (bits data 7 4 - 1) } })

/-! ### Keys and the key port (R462, R463, R468) -/

/-- The root key of a class (R462). -/
def rootKey (s : State) (cls : Nat) : List Byte :=
  kdf s.fuses.dus (beBytes 8 0x4A574C20524F4F54 ++ [0, BitVec.ofNat 8 cls]) 32

/-- The labels "JWL ATTEST", "JWL VAULT" and "JWL SAVE" in ASCII. -/
def labelAttest : List Byte := beBytes 10 0x4A574C20415454455354
def labelVault : List Byte := beBytes 9 0x4A574C205641554C54
def labelSave : List Byte := beBytes 8 0x4A574C2053415645

/-- A key derived from the root under a label. -/
def rootDerived (s : State) (label : List Byte) (n : Nat) : List Byte :=
  match s.jwl.rootClass with
  | none => []
  | some c => kdf (rootKey s c) (label ++ [0]) n

/-- The root derivation of a start (R436, R462): no root in Blank, class 1 in Returned, else class 0. -/
def deriveRoot (s : State) : State :=
  s.modJwl fun j => { j with rootClass := if lifecycle s = 0 then none else some (if lifecycle s = 4 then 1 else 0) }

/-- Handles: slots, the attestation key and the vault key. -/
def hAttest : Nat := 0x200
def hVault : Nat := 0x201

def attrType (a : Word) : Nat := wf a 31 28
def attrUsage (a : Word) : Nat := wf a 7 0

/-- A private key of `len` bytes from random bits with 64 extra ones. -/
def ecPrivate (len : Nat) (extra : List Byte) : List Byte := beBytes len (ecNumber (curveOf len) extra)

/-- The key behind a handle; a slot that fails ECC reads empty (R479). -/
def slotOf (bad : List BadEntry) (s : State) (h : Nat) : Slot :=
  if h = hAttest ∧ s.jwl.rootClass.isSome then ⟨0x5C000008, ecPrivate 48 (rootDerived s labelAttest 56)⟩
  else if h = hVault ∧ s.jwl.rootClass.isSome then ⟨0x4C000008, ecPrivate 32 (rootDerived s labelVault 40)⟩
  else if h < 512 ∧ !bad.contains (.key h) then kvGet Slot.empty s.jwl.slots h
  else Slot.empty

/-- The location of a slot (R479). -/
def keyLoc (h : Nat) : Nat := locCode 0 W.JWL 0 (h / 64 % 256) (h % 64)

/-- Reading a slot reports an ECC error. -/
def keyEcc (bad : List BadEntry) (h : Nat) (s : State) : State :=
  if bad.contains (.key h) then s.raise W.JWL 3 (keyLoc h) else s

/-- The key port: the key of a handle that has a usage bit; none while JWL EN is 0 (R262). -/
def keyLoad (bad : List BadEntry) (s : State) (h usage : Nat) : Option (List Byte) :=
  let k := slotOf bad s h
  if s.flag W.JWL BLK_CTRL 0 && !(s.win W.JWL).resetting && attrType k.attr != 0 && bit (attrUsage k.attr) usage then some k.key
  else none

/-- The AES cores drop their loaded copy of a key whose slot gets a new mask (R263, R468). -/
def dropLoaded (h : Nat) (s : State) : State :=
  { s with aue := { s.aue with cores := s.aue.cores.filter fun e => e.2.all (·.handle != h) } }

/-- Put a key into a slot with a fresh mask, or empty it; JWL_SLOTS_USED follows. -/
def setSlot (h : Nat) (k : Slot) (mask : List Byte) (s : State) : State :=
  dropLoaded h (s.modJwl fun j => { j with slots := kvSet Slot.empty j.slots h k, masks := kvSet [] j.masks h mask })

def slotsUsed (s : State) : Nat := s.jwl.slots.length

/-- REMASK: the mask of one stored key is replaced, or skipped when the DRBG has failed (R468). -/
def doRemask (h : Nat) (s : State) : State :=
  if hVault < h then s
  else if trnFailed s then (s.count W.JWL JWL_REMASK_STAT).raise0 W.JWL 2
  else
    let r := trnDraw (slotOf [] s h).key.length s
    dropLoaded h (r.2.modJwl fun j => { j with masks := kvSet [] j.masks h r.1 })

/-! ### Commands (R465–R467) -/

/-- The first `n` bytes of JWL_DATA, and writing bytes there. -/
def jwlIn (s : State) (n : Nat) : List Byte :=
  ((List.range ((n + 3) / 4)).flatMap fun k => beBytes 4 (s.reg W.JWL (JWL_DATA + 4 * k))).take n
def jwlOut (b : List Byte) (s : State) : State :=
  foldRange (fun s k => s.setReg W.JWL (JWL_DATA + 4 * k) (beNat ((slice b (4 * k) 4 ++ zeros 4).take 4))) s 0 (min ((b.length + 3) / 4) 128)

def jwlStatus (st : Nat) (s : State) : State := s.setReg W.JWL JWL_CMD_STAT st

/-- Key bytes of a type; a type that names no key has none. -/
def keyLen (typ : Nat) : Nat :=
  match typ with
  | 1 => 16 | 2 => 32 | 3 => 32 | 4 => 32 | 5 => 48 | _ => 0

/-- The usages that a type allows (R463). -/
def usageMask (typ : Nat) : Nat :=
  match typ with
  | 1 => 0x03 | 2 => 0x13 | 3 => 0x24 | 4 | 5 => 0x08 | _ => 0

/-- The attribute word of a new slot: status 0 when TYPE, reserved bits and USAGE are in order. -/
def attrCheck (a : Word) : Nat :=
  if keyLen (attrType a) = 0 ∨ wf a 25 8 ≠ 0 ∨ wf a 7 6 ≠ 0 then 5
  else if attrUsage a ||| usageMask (attrType a) ≠ usageMask (attrType a) then 2
  else 0

/-- A key event (R467, R472 type 0x0009). -/
def keyEvent (h op : Nat) (attr : Word) (s : State) : State :=
  ledgerEvent 0x0009 (beBytes 2 h ++ [BitVec.ofNat 8 op, 0] ++ beBytes 4 attr.toNat) s

/-- Fill a slot: mask, key event, OK. -/
def fillSlot (h op : Nat) (attr : Word) (origin : Nat) (key : List Byte) (s : State) : State :=
  let a := wput attr 27 26 origin
  let r := trnDraw key.length s
  jwlStatus 0 (keyEvent h op a (setSlot h ⟨a, key⟩ r.1 r.2))

/-- A command that fills slot `h` may go on; a slot that fails ECC reads empty (R479). -/
def slotFree (bad : List BadEntry) (s : State) (h : Nat) (a : Word) : Nat :=
  if 511 < h then 1 else if attrCheck a ≠ 0 then attrCheck a
  else if attrType (slotOf bad s h).attr ≠ 0 then 3 else 0

/-- The parent key of IMPORT and DERIVE: status and key. -/
def parentKey (bad : List BadEntry) (s : State) (p usage : Nat) : Nat × List Byte :=
  if bad.contains (.key p) then (8, [])
  else
    let k := slotOf bad s p
    if attrType k.attr = 0 then (1, []) else if bit (attrUsage k.attr) usage then (0, k.key) else (2, [])

/-- GENERATE. -/
def jwlGenerate (h : Nat) (bad : List BadEntry) (s : State) : State :=
  let a := BitVec.ofNat 32 (beNat (jwlIn s 4))
  let e := slotFree bad s h a
  if e ≠ 0 then jwlStatus e s
  else if trnFailed s then jwlStatus 7 s
  else
    let n := keyLen (attrType a)
    let r := trnDraw (if attrType a < 4 then n else n + 8) s
    fillSlot h 1 a 1 (if attrType a < 4 then r.1 else ecPrivate n r.1) r.2

/-- IMPORT. -/
def jwlImport (h p : Nat) (bad : List BadEntry) (s : State) : State :=
  let b := jwlIn s 512
  let a := BitVec.ofNat 32 (beNat (b.take 4))
  let e := slotFree bad s h a
  let par := parentKey bad s p 4
  let n := keyLen (attrType a)
  if e ≠ 0 then jwlStatus e s
  else if par.1 ≠ 0 then jwlStatus par.1 s
  else if trnFailed s then jwlStatus 7 s
  else
    match gcmOpen par.2 (slice b 4 12) (b.take 4) (slice b 16 n) (slice b (16 + n) 16) with
    | none => jwlStatus 4 s
    | some k => fillSlot h 2 a 2 k s

/-- DERIVE. -/
def jwlDerive (h p : Nat) (bad : List BadEntry) (s : State) : State :=
  let b := jwlIn s 128
  let a := BitVec.ofNat 32 (beNat (b.take 4))
  let e := slotFree bad s h a
  let par := parentKey bad s p 5
  let l := byteAt b 4
  let c := byteAt b 5
  if e ≠ 0 then jwlStatus e s
  else if 3 < attrType a ∨ 32 < l ∨ 32 < c then jwlStatus 5 s
  else if par.1 ≠ 0 then jwlStatus par.1 s
  else if trnFailed s then jwlStatus 7 s
  else fillSlot h 3 a 3 (kdf par.2 (slice b 6 l ++ [0] ++ slice b (6 + l) c) (keyLen (attrType a))) s

/-- DELETE. -/
def jwlDelete (h : Nat) (bad : List BadEntry) (s : State) : State :=
  if 511 < h then jwlStatus 1 s
  else jwlStatus 0 (keyEvent h 4 (slotOf bad s h).attr (setSlot h Slot.empty [] s))

/-- The public key of an ECDSA key; nothing for the symmetric types. -/
def publicOf (k : Slot) : List Byte :=
  if attrType k.attr = 4 then (ecdsaPublic k.key).take 64
  else if attrType k.attr = 5 then (ecdsaPublic k.key).take 96 else []

/-- INFO. An empty slot answers with an attribute word of 0. -/
def jwlInfo (h : Nat) (bad : List BadEntry) (s : State) : State :=
  if hVault < h then jwlStatus 1 s
  else if bad.contains (.key h) then jwlStatus 8 s
  else
    let k := slotOf bad s h
    jwlStatus 0 (jwlOut (beBytes 4 k.attr.toNat ++ publicOf k) s)

/-- SAVE. -/
def jwlSave (h : Nat) (bad : List BadEntry) (s : State) : State :=
  let k := slotOf bad s h
  if bad.contains (.key h) then jwlStatus 8 s
  else if 511 < h ∨ attrType k.attr = 0 then jwlStatus 1 s
  else if trnFailed s then jwlStatus 7 s
  else
    let r := trnDraw 12 s
    let a := beBytes 4 k.attr.toNat
    let c := gcmSeal (rootDerived s labelSave 32) r.1 a k.key
    jwlStatus 0 (jwlOut (a ++ r.1 ++ c.1 ++ c.2) r.2)

/-- RESTORE. -/
def jwlRestore (h : Nat) (bad : List BadEntry) (s : State) : State :=
  let b := jwlIn s 512
  let a := BitVec.ofNat 32 (beNat (b.take 4))
  let n := keyLen (attrType a)
  let e := slotFree bad s h a
  if e ≠ 0 then jwlStatus e s
  else if trnFailed s then jwlStatus 7 s
  else
    match gcmOpen (rootDerived s labelSave 32) (slice b 4 12) (b.take 4) (slice b 16 n) (slice b (16 + n) 16) with
    | none => jwlStatus 4 s
    | some k => fillSlot h 7 a (wf a 27 26) k s

/-- DEVICE_ID: the first 16 bytes of SHA-256 of the attestation public key (R470). -/
def deviceId (s : State) : List Byte := (sha256 (publicOf (slotOf [] s hAttest))).take 16

/-- A digest signed under a fixed key or a slot; the per-message secret comes from the DRBG. -/
def signWith (k : Slot) (digest : List Byte) (s : State) : List Byte × State :=
  let r := trnDraw (k.key.length + 8) s
  (ecdsaSign k.key digest r.1, r.2)

/-- The attestation statement for a handle (R470). -/
def attestStatement (h : Nat) (nonce : List Byte) (s : State) : List Byte × State :=
  let k := slotOf [] s h
  let pub := publicOf k
  let body := beBytes 4 0x4F4E4154 ++ beBytes 2 1 ++ beBytes 2 h ++ beBytes 4 k.attr.toNat
    ++ [BitVec.ofNat 8 (lifecycle s), 1] ++ beBytes 2 pub.length ++ nonce ++ deviceId s ++ beBytes 8 s.vault ++ pub
  let r := signWith (slotOf [] s hAttest) (sha384 body) s
  (body ++ r.1, r.2)

/-- ATTEST. -/
def jwlAttest (h : Nat) (bad : List BadEntry) (s : State) : State :=
  if bad.contains (.key h) then jwlStatus 8 s
  else if attrType (slotOf bad s h).attr = 0 then jwlStatus 1 s
  else if trnFailed s then jwlStatus 7 s
  else
    let r := attestStatement h (jwlIn s 32) s
    jwlStatus 0 (jwlOut r.1 r.2)

/-- SIGN: a digest of 32 bytes for P-256 and of 48 for P-384. -/
def jwlSign (h : Nat) (bad : List BadEntry) (s : State) : State :=
  let k := slotOf bad s h
  if bad.contains (.key h) then jwlStatus 8 s
  else if attrType k.attr = 0 then jwlStatus 1 s
  else if !bit (attrUsage k.attr) 3 then jwlStatus 2 s
  else if trnFailed s then jwlStatus 7 s
  else
    let r := signWith k (jwlIn s (keyLen (attrType k.attr))) s
    jwlStatus 0 (jwlOut r.1 r.2)

/-- HMAC. -/
def jwlHmac (h : Nat) (bad : List BadEntry) (s : State) : State :=
  let k := slotOf bad s h
  let n := beNat (jwlIn s 2)
  if bad.contains (.key h) then jwlStatus 8 s
  else if attrType k.attr = 0 then jwlStatus 1 s
  else if !bit (attrUsage k.attr) 2 then jwlStatus 2 s
  else if 500 < n then jwlStatus 5 s
  else jwlStatus 0 (jwlOut (hmacSha256 k.key (slice (jwlIn s 502) 2 n)) s)

/-- JWL_CMD is written (R465, R466). -/
def doJwlCmd (data : Nat) (bad : List BadEntry) (s : State) : State :=
  let h := bits data 9 0
  let p := bits data 25 16
  let op := bits data 31 28
  if op = 0 ∨ 10 < op then jwlStatus 5 s
  else if lifecycle s = 0 ∨ !s.flag W.JWL BLK_CTRL 0 then jwlStatus 6 s
  else
    let s := keyEcc bad h s
    match op with
    | 1 => jwlGenerate h bad s
    | 2 => jwlImport h p bad (keyEcc bad p s)
    | 3 => jwlDerive h p bad (keyEcc bad p s)
    | 4 => jwlDelete h bad s
    | 5 => jwlInfo h bad s
    | 6 => jwlSave h bad s
    | 7 => jwlRestore h bad s
    | 8 => jwlAttest h bad s
    | 9 => jwlSign h bad s
    | _ => jwlHmac h bad s

/-- The strobe checks of JWL and TRN: a period or a reseed count outside its stated range is refused (R16). -/
def jwlCheck (s : State) : Nat :=
  let p := bits (s.shadow W.JWL JWL_REMASK) 15 0
  if p = 0 ∨ 16000 < p then 1 else 0
def trnCheck (s : State) : Nat :=
  let p := s.shadow W.TRN TRN_CFG
  if p = 0 ∨ 2 ^ 24 < p then 1 else 0

end Sys2Proof.Machine
end

