-- ==== Sys2Proof/Machine/Aue.lean ====
section
/-! DEFINITION. The authentication engine: authenticated PDUs, freshness entries, shedding, and the MACsec pipelines
(10_authentication_engine.md). -/
namespace Sys2Proof.Machine
open Reg

def State.modAue (s : State) (f : Aue → Aue) : State := { s with aue := f s.aue }
def State.freshAt (s : State) (i : Nat) : Fresh := kvGet Fresh.zero s.aue.fresh i
def State.setFresh (s : State) (i : Nat) (x : Fresh) : State :=
  s.modAue fun a => { a with fresh := kvSet Fresh.zero a.fresh i x }

/-- The location of a freshness entry (R271). -/
def freshLoc (i : Nat) : Nat := locCode 0 W.AUE 0 (i / 64 % 256) (i % 64)

/-! ### Layout (R252, R253) -/

def freshF (x : Fresh) : Nat := wf x.e1 31 25
def freshM (x : Fresh) : Nat := 8 * wf x.e1 24 20
def freshId (x : Fresh) : Nat := wf x.e1 15 0
def freshFlag (x : Fresh) (i : Nat) : Bool := wf x.e0 i i == 1

/-- The bytes of freshness and MAC after the payload. -/
def authLen (x : Fresh) : Nat := (freshF x + freshM x + 7) / 8

/-- The CMAC of a payload with a freshness value, as a 128-bit number (R253). -/
def pduMac (key : List Byte) (x : Fresh) (payload : List Byte) (c : Nat) : Nat :=
  beNat (aesCmac key (beBytes 2 (freshId x) ++ payload ++ beBytes 8 c)) % 2 ^ 128

/-- The first M bits of the MAC. -/
def macTop (x : Fresh) (mac : Nat) : Nat := mac >>> (128 - freshM x)

/-- The authenticator of a freshness value and MAC: F bits, M bits, zero bits to the byte boundary. -/
def authBytes (x : Fresh) (c mac : Nat) : List Byte :=
  let n := freshF x + freshM x
  beBytes (authLen x) (((c % 2 ^ freshF x) * 2 ^ freshM x + macTop x mac) <<< (8 * authLen x - n))

/-- CMAC operations of a payload of `p` bytes (R265). -/
def cmacOps (p : Nat) : Nat := 1 + (p - 1) / 64
def countCmac (p : Nat) (s : State) : State := s.count64By W.AUE AUE_CMAC_OPS_LO (cmacOps p)

/-- The key that AES core `core` works with for a handle, and the core's loaded copy after it: a copy serves consecutive
operations with the same handle less than 100 µs apart (R262, R263). -/
def coreLoad (core : Nat) (bad : List BadEntry) (h usage : Nat) (s : State) : Option (List Byte) × State :=
  match keyLoad bad s h usage with
  | none => (none, s)
  | some k =>
    let key := match kvGet none s.aue.cores core with
      | some l => if l.handle = h ∧ s.now ≤ l.last + 100000 then l.key else k
      | none => k
    (some key, s.modAue fun a => { a with cores := kvSet none a.cores core (some ⟨h, key, s.now⟩) })

/-- A loaded key that has not been used for 100 µs is discarded (R263). -/
def sweepCores (s : State) : State :=
  s.modAue fun a => { a with cores := a.cores.filter fun e => e.2.all fun l => decide (s.now ≤ l.last + 100000) }

/-! ### Endings (R254, R257, R261, R262) -/

/-- Set the DLC of a CAN-kind frame to its length. -/
def setDlc (t : Tag) (len : Nat) : Tag :=
  if t.kind = 0 then { t with w8 := wput t.w8 11 8 len }
  else if t.kind = 1 then { t with w8 := wput t.w8 11 8 (dlcOf len) } else t

/-- The return of a frame (R261). -/
def aueReturn (x : Fresh) (t : Tag) (payload : List Byte) (s : State) : State :=
  let t := (t.setPasses (t.passes + 1)).setEngDone (freshFlag x 25)
  let t := if freshFlag x 25 then destTag (freshFlag x 24) (wf x.e0 23 12) t else t
  offerWhole 11 ⟨t, payload⟩ .aueReturn s

/-- The capture copy of a dropped frame (R192). -/
def aueCapture (t : Tag) (payload : List Byte) (s : State) : State :=
  if keepsCapture s t then
    let t := (((t.setPasses (t.passes + 1)).setEngDone true).setDstPort 58).setMirror false
    offerWhole 11 ⟨t, payload⟩ .aueReturn s
  else s

/-- A discarded frame (R254, R255). -/
def aueDiscard (i : Nat) (t : Tag) (payload : List Byte) (s : State) : State :=
  let r := violate 0x3F true 0xFFFF (freshLoc i) t (s.count W.AUE AUE_DISCARD)
  aueCapture r.1 payload r.2

/-- A frame whose key is refused (R262). -/
def aueRefused (i : Nat) (t : Tag) (payload : List Byte) (s : State) : State :=
  let r := violate 0x3F true 0xFFFF (freshLoc i) t ((s.count W.AUE AUE_KEY_REFUSED).raise0 W.AUE 4)
  aueCapture r.1 payload r.2

/-! ### Generation (R254, R255) -/

/-- A generated frame must fit its kind (R255). -/
def genFits (kind len : Nat) : Bool := if kind = 0 then decide (len ≤ 8) else if kind = 1 then canLenOk true len else true

/-- Generate. -/
def aueGenerate (bad : List BadEntry) (i : Nat) (x : Fresh) (t : Tag) (payload : List Byte) (s : State) : State :=
  if x.counter = 2 ^ 64 - 1 then aueDiscard i t payload (s.raise W.AUE 8 (freshLoc i))
  else
    let len := payload.length + authLen x
    if !genFits t.kind len then aueDiscard i t payload s
    else
      match coreLoad 0 bad t.keyHandle 0 s with
      | (none, s) => aueRefused i t payload s
      | (some key, s) =>
        let c := x.counter + 1
        let s := (countCmac payload.length s).setFresh i { x with counter := c }
        let bytes := payload ++ authBytes x c (pduMac key x payload c)
        aueReturn x (setDlc t len) bytes (s.count W.AUE AUE_GENERATED)

/-! ### Verification (R256–R258) -/

/-- The outcome of R256 on a received freshness `t` and MAC: AUTH 1 with the new COUNTER, or the code; and the tests made. -/
def verifyDecide (key : List Byte) (x : Fresh) (payload : List Byte) (t mac : Nat) : Option Nat × Nat × Nat :=
  let f := freshF x
  let l := x.counter
  let old := f == 64 && decide (t ≤ l)
  let c1 := if f = 64 then t else
    let c := l - l % 2 ^ f + t
    if c ≤ l then c + 2 ^ f else c
  let good := fun c => macTop x (pduMac key x payload c) == mac
  let ok1 := !old && decide (c1 ≤ 2 ^ 64 - 1) && decide (c1 - l ≤ x.e2.toNat)
  if ok1 && good c1 then (some c1, 0, 1)
  else
    let has0 := if f = 64 then old else decide (2 ^ f ≤ c1)
    let c0 := if f = 64 then t else c1 - 2 ^ f
    let try0 := freshFlag x 26 && has0
    (none, if try0 && good c0 then 0x06 else 0x05, b2n ok1 + b2n try0)

/-- Remove the authenticator when STRIP is 1 (R258); a frame shorter than it keeps its bytes. -/
def aueStrip (x : Fresh) (t : Tag) (payload : List Byte) : Tag × List Byte :=
  if freshFlag x 27 && decide (authLen x ≤ payload.length) then
    let p := payload.length - authLen x
    (setDlc t p, payload.take p)
  else (t, payload)

/-- A frame fails verification with a code (R257). -/
def aueFail (i code : Nat) (x : Fresh) (t : Tag) (payload : List Byte) (s : State) : State :=
  let s := if code = 0x06 then
      ((s.count W.AUE AUE_REPLAYED).raise W.AUE 6 (freshLoc i)).setFresh i { x with replays := satAdd 16 x.replays 1 }
    else ((s.count W.AUE AUE_FAILED).raise W.AUE 5 (freshLoc i)).setFresh i { x with fails := satAdd 16 x.fails 1 }
  let r := violate code (freshFlag x 29) 0xFFFF (freshLoc i) (t.setAuth 2) s
  if freshFlag x 29 then aueCapture r.1 payload r.2
  else
    let st := aueStrip x r.1 payload
    aueReturn x st.1 st.2 r.2

/-- Verify. -/
def aueVerify (bad : List BadEntry) (i : Nat) (x : Fresh) (t : Tag) (payload : List Byte) (s : State) : State :=
  let n := authLen x
  if payload.length < n then aueFail i 0x05 x t payload s
  else
    match coreLoad 0 bad t.keyHandle 0 s with
    | (none, s) => aueRefused i t payload s
    | (some key, s) =>
      let p := payload.length - n
      let v := beNat (payload.drop p) >>> (8 * n - (freshF x + freshM x))
      let r := verifyDecide key x (payload.take p) (v >>> freshM x) (v % 2 ^ freshM x)
      let s := s.count64By W.AUE AUE_CMAC_OPS_LO (r.2.2 * cmacOps p)
      match r.1 with
      | some c =>
        let s := (s.setFresh i { x with counter := c }).count W.AUE AUE_VERIFIED
        let st := aueStrip x (t.setAuth 1) payload
        aueReturn x st.1 st.2 s
      | none => aueFail i r.2.1 x t payload s

/-! ### Shedding and the take (R254, R264) -/

/-- The verification backlog: cells in egress storage for port 57. -/
def backlog (s : State) : Nat := ((List.range 8).map fun c => s.egressHeld (8 * 57 + c)).sum
def shedding (s : State) : Bool := s.flag W.AUE AUE_STAT 31

/-- Enter or leave shed mode (R264). -/
def noteShed (s : State) : State :=
  let on := s.fld W.AUE AUE_SHED_ON 18 0
  let b := backlog s
  let m := if on = 0 then false
    else if shedding s then !decide (b ≤ s.fld W.AUE AUE_SHED_OFF 18 0) else decide (on ≤ b)
  if m == shedding s then s else (s.setFlag W.AUE AUE_STAT 31 m).level W.AUE 7 (locSelf W.AUE) m

/-- AUE_STAT. -/
def aueStat (s : State) : Nat := b2n (shedding s) * 2 ^ 31 + backlog s % 2 ^ 19

/-- A verify frame in shed mode. -/
def aueShed (x : Fresh) (t : Tag) (payload : List Byte) (s : State) : State :=
  if freshFlag x 28 then aueReturn x (t.setAuth 3) payload (s.count W.AUE AUE_SHED_PASS)
  else aueCapture t payload (s.count W.AUE AUE_SHED_DROP)

/-- AUE_TAKE: the oldest frame of class `cls` toward port 57, under the gate of R130. Which class goes first is open. -/
def doAueTake (cls : Nat) (bad : List BadEntry) (s : State) : State :=
  match s.headOf (8 * 57 + cls) with
  | none => s
  | some (pf, c) =>
    let f := frameOf pf c
    let e := 2 + min f.tag.passes 1
    if !s.enabled W.AUE ∨ s.engFree e < s.engGate e then s
    else
      let shed := shedding s
      let i := f.tag.freshIdx % 16384
      let isBad := bad.contains (.fresh i)
      let s := dropCopy pf.fid 57 s
      let s := if isBad then s.raise W.AUE 3 (freshLoc i)
        else if bad.contains (.freshFix i) then s.raise W.AUE 2 (freshLoc i) else s
      let x := s.freshAt i
      let kindOk := decide (f.tag.kind ≤ 2) || f.tag.kind == 4
      noteShed <|
        if !kindOk ∨ 2048 < f.payload.length ∨ isBad ∨ 16384 ≤ f.tag.freshIdx ∨ !freshFlag x 31 then aueDiscard i f.tag f.payload s
        else if freshFlag x 30 then aueGenerate bad i x f.tag f.payload s
        else if shed then aueShed x f.tag f.payload s
        else aueVerify bad i x f.tag f.payload s

/-! ### MACsec entries (R268, R269) -/

/-- Word `k` of a SecY (object 1), SC (2) or SA (3) entry. -/
def secKey (obj i k : Nat) : Nat := obj * 2 ^ 16 + i * 8 + k
def State.secW (s : State) (obj i k : Nat) : Nat := (kvGet 0 s.aue.sec (secKey obj i k)).toNat
def State.setSecW (s : State) (obj i k v : Nat) : State :=
  s.modAue fun a => { a with sec := kvSet 0 a.sec (secKey obj i k) (BitVec.ofNat 32 v) }

/-- Count `k` of the SecY's eight counters. -/
def secCount (m k : Nat) (s : State) : State :=
  s.modAue fun a => { a with cnt := kvSet 0 a.cnt (8 * m + k) (satAdd 32 (kvGet 0 a.cnt (8 * m + k)) 1) }

/-- The SCI of an SC, the next PN, SSCI and salt of an SA. -/
def scSci (s : State) (i : Nat) : Nat := s.secW 2 i 1 + 2 ^ 32 * s.secW 2 i 2
def saPn (s : State) (i : Nat) : Nat := s.secW 3 i 1 + 2 ^ 32 * s.secW 3 i 2
def setSaPn (i v : Nat) (s : State) : State := (s.setSecW 3 i 1 v).setSecW 3 i 2 (v >>> 32)
def saSalt (s : State) (i : Nat) : Nat := s.secW 3 i 4 + 2 ^ 32 * s.secW 3 i 5 + 2 ^ 64 * s.secW 3 i 6

/-- The 12-byte IV of a packet number (R266). -/
def secIv (s : State) (xpn : Bool) (sa sci pn : Nat) : List Byte :=
  if xpn then beBytes 12 ((s.secW 3 sa 3 * 2 ^ 64 + pn) ^^^ saSalt s sa) else beBytes 8 sci ++ beBytes 4 pn

/-- The full packet number recovered from the SecTAG (IEEE 802.1AE). -/
def recoverPn (xpn : Bool) (next pn : Nat) : Nat :=
  if !xpn then pn
  else
    let hi := next / 2 ^ 32
    if bit next 31 ∧ !bit pn 31 then (hi + 1) * 2 ^ 32 + pn else hi * 2 ^ 32 + pn

/-- Bytes after the SecTAG that stay in the clear (R267). -/
def confOffset (d0 : Nat) : Nat :=
  match bits d0 25 24 with
  | 1 => 30 | 2 => 50 | _ => 0

/-- MACSEC_FAIL with UNIT m. -/
def macsecLoc (m : Nat) : Nat := locUnit W.AUE m

/-- A failing frame: strict validation drops it, check validation marks it (R266). The answer: frame, dropped. -/
def macsecFail (m code cnt : Nat) (strict : Bool) (f : Frame) (s : State) : Frame × Bool × State :=
  let r := violate code strict 0xFFFF (macsecLoc m) (if strict then f.tag else f.tag.setAuth 2)
    ((secCount m cnt s).raise W.AUE 10 (macsecLoc m))
  (⟨r.1, f.payload⟩, strict, r.2)

/-- The ingress pipeline on a frame that has ended at its port (R266). The answer: frame, dropped. -/
def macsecIn (bad : List BadEntry) (m : Nat) (f : Frame) (s : State) : Frame × Bool × State :=
  let d0 := s.secW 1 m 0
  let p := f.payload
  let tagged := beNat (slice p 12 2) == 0x88E5
  let val := bits d0 28 27
  let strict := val == 2
  if !s.enabled W.AUE || !bit d0 31 then (f, false, s)
  else if val = 0 then (f, false, if tagged then secCount m 4 s else s)
  else if !tagged then
    if strict then macsecFail m 0x13 3 true f s else (f, false, s)
  else
    let tci := byteAt p 14
    let an := tci % 4
    let sl := byteAt p 15 % 64
    let hasSci := bit tci 5
    let hdr := if hasSci then 28 else 20
    let sci := if hasSci then beNat (slice p 20 8) else beNat (slice p 6 6) * 65536 + 1
    let len := if sl ≠ 0 then sl else p.length - hdr - 16
    let sc := (List.range 31).find? fun k => bit (s.secW 2 (32 * m + k + 1) 0) 31 && scSci s (32 * m + k + 1) == sci
    match sc with
    | none => macsecFail m 0x13 3 strict f s
    | some k =>
      let sa := 4 * (32 * m + k + 1) + an
      if !bit (s.secW 3 sa 0) 31 then macsecFail m 0x13 3 strict f s
      else
        let xpn := decide (2 ≤ bits d0 23 22)
        let next := saPn s sa
        let pn := recoverPn xpn next (beNat (slice p 16 4))
        if bit d0 29 ∧ pn + s.secW 1 m 1 < next then macsecFail m 0x14 2 strict f s
        else
          let data := slice p hdr len
          let icv := slice p (hdr + len) 16
          let enc := bit tci 3
          let off := if enc then confOffset d0 else len
          let c := coreLoad 1 bad (bits (s.secW 3 sa 0) 9 0) 1 s
          let opened := c.1.bind fun key =>
            gcmOpen key (secIv s xpn sa sci pn) (p.take hdr ++ data.take off) (data.drop off) icv
          if p.length < hdr + len + 16 then macsecFail m 0x13 1 strict f c.2
          else match opened with
            | none => macsecFail m 0x13 1 strict f c.2
            | some plain =>
              let s := c.2
              let bytes := p.take 12 ++ data.take off ++ plain
              let s := secCount m 0 (setSaPn sa (max next (pn + 1)) s)
              (⟨(f.tag.setAuth 1).setLength bytes.length, bytes⟩, false, s)

/-- The transmit SA of a SecY: SC 0, TX_AN (R267). -/
def txSa (s : State) (m : Nat) : Nat := 128 * m + bits (s.secW 1 m 0) 18 17

/-- The SecY is active and the next PN of its transmit SA has reached PN_WARN; a PN_WARN of 0 gives no warning
(assumptions/85). -/
def pnWarned (s : State) (m : Nat) : Bool :=
  let warn := s.secW 1 m 2 + 2 ^ 32 * s.secW 1 m 3
  bit (s.secW 1 m 0) 31 && warn != 0 && decide (warn ≤ saPn s (txSa s m))

/-- SA_PN_LIMIT, once: the next PN of the transmit SA has reached PN_WARN since `o`, or another SA transmits that has (R267). -/
def notePnLimit (m : Nat) (o s : State) : State :=
  if pnWarned s m && (!pnWarned o m || txSa o m != txSa s m) then s.raise W.AUE 9 (macsecLoc m) else s

/-- The next PN of SA `sa` is used. -/
def takePn (m sa pn : Nat) (s : State) : State := notePnLimit m s (setSaPn sa (pn + 1) s)

/-- What the egress pipeline does with a frame that begins now with the bytes `p` (R267, R268). -/
def secPlan (bad : List BadEntry) (m : Nat) (p : List Byte) (s : State) : SecPlan × State :=
  let d0 := s.secW 1 m 0
  let etype := beNat (slice p 12 2)
  if !s.enabled W.AUE || !bit d0 31 || !bit d0 30 || etype == 0x888E || etype == 0x88E5 then (.pass, s)
  else
    let sa := txSa s m
    let xpn := decide (2 ≤ bits d0 23 22)
    let pn := saPn s sa
    if !bit (s.secW 3 sa 0) 31 then (.refuse, s)
    else match coreLoad 2 bad (bits (s.secW 3 sa 0) 9 0) 1 s with
      | (none, s) => (.refuse, s)
      | (some key, s) =>
        if pn = (if xpn then 2 ^ 64 - 1 else 2 ^ 32 - 1) then (.exhausted (if bit d0 21 then 16 else 8), s)
        else (.protect d0 sa pn (scSci s (32 * m)) (secIv s xpn sa (scSci s (32 * m)) pn) key false, s)

/-- A refused frame is answered as an ICV failure (R262). -/
def secRefused (m : Nat) (t : Tag) (s : State) : State :=
  (violate 0x13 true 0xFFFF (macsecLoc m) t (s.raise W.AUE 10 (macsecLoc m))).2

/-- The SecTAG, the clear bytes, the cipher text and the ICV of a protected frame (R267). -/
def secSeal (d0 pn sci : Nat) (iv key p : List Byte) : List Byte :=
  let conf := bit d0 26
  let data := p.drop 12
  let tci := b2n (bit d0 20) * 64 + b2n (bit d0 21) * 32 + b2n (bit d0 19) * 16 + b2n conf * 12 + bits d0 18 17
  let tag := [0x88, 0xE5, BitVec.ofNat 8 tci, BitVec.ofNat 8 (if data.length < 48 then data.length else 0)]
    ++ beBytes 4 pn ++ (if bit d0 21 then beBytes 8 sci else [])
  let off := if conf then min (confOffset d0) data.length else data.length
  let r := gcmSeal key iv (p.take 12 ++ tag ++ data.take off) (data.drop off)
  p.take 12 ++ tag ++ data.take off ++ r.1 ++ r.2

/-- The egress pipeline on the bytes of a frame, before the FCS, by the plan it began with (R267, R268); none: the frame is
dropped. -/
def macsecOut (plan : SecPlan) (m maxLen : Nat) (t : Tag) (p : List Byte) (s : State) : Option (List Byte) × State :=
  match plan with
  | .pass => (some p, s)
  | .refuse => (none, secRefused m t s)
  | .exhausted hdr => (none, secCount m (if maxLen < p.length + hdr + 20 then 6 else 7) s)
  | .protect d0 sa pn sci iv key taken =>
    if maxLen < p.length + (if bit d0 21 then 16 else 8) + 20 then (none, secCount m 6 s)
    else (some (secSeal d0 pn sci iv key p), secCount m 5 (if taken then s else takePn m sa pn s))

/-! ### Commands (R260, R269, R559) -/

def aueStatus (st : Nat) (s : State) : State := s.setReg W.AUE AUE_CMD_STAT st
def aueData (s : State) (k : Nat) : Nat := s.reg W.AUE (AUE_DATA + 4 * k)
def putAue (k v : Nat) (s : State) : State := s.setReg W.AUE (AUE_DATA + 4 * k) v

/-- The index limit of an object. -/
def aueMax (obj : Nat) : Nat :=
  match obj with
  | 0 => 16383 | 2 => 639 | 3 => 2559 | _ => 19

/-- A freshness entry that a WRITE refuses (R260). -/
def freshBad (s : State) : Bool :=
  let d := aueData s
  bit (d 0) 31 && (decide (64 < bits (d 1) 31 25) || decide (bits (d 1) 24 20 < 3) || decide (16 < bits (d 1) 24 20)
    || (d 2 == 0 && !bit (d 0) 30) || bits (d 0) 11 0 != 0 || bits (d 1) 19 16 != 0)

/-- A SecY's D0 names a suite without extended packet numbers. -/
def nonXpn (d0 : Nat) : Bool := decide (bits d0 23 22 < 2)

/-- An SA of SecY `m` is in use with a next PN above 2^32 - 1. -/
def hasLongPn (m : Nat) (s : State) : Bool :=
  s.aue.sec.any fun e =>
    let sa := e.1 % 2 ^ 16 / 8
    e.1 / 2 ^ 16 == 3 && e.1 % 8 == 2 && sa / 128 == m && bit (s.secW 3 sa 0) 31 && e.2 != 0

/-- A MACsec entry that a WRITE refuses (R269). -/
def secBad (obj i : Nat) (s : State) : Bool :=
  let d := aueData s
  match obj with
  | 1 => bits (d 0) 28 27 == 3 || bits (d 0) 25 24 == 3 || bits (d 0) 16 0 != 0 || (nonXpn (d 0) && hasLongPn i s)
  | 2 => bits (d 0) 30 0 != 0
  | _ => bits (d 0) 30 10 != 0 || (bit (d 0) 31 && nonXpn (s.secW 1 (i / 128) 0) && d 2 != 0)

/-- The SecY that a MACsec entry belongs to (R268). -/
def secOf (obj i : Nat) : Nat :=
  match obj with
  | 1 => i | 2 => i / 32 | _ => i / 128

def secWords (obj : Nat) : Nat :=
  match obj with
  | 1 => 4 | 2 => 3 | _ => 7

/-- AUE_CMD is written. -/
def doAueCmd (data : Nat) (bad : List BadEntry) (s : State) : State :=
  let obj := bits data 19 17
  let op := bits data 16 15
  let i := bits data 13 0
  let d := aueData s
  if 4 < obj ∨ op = 0 ∨ (op = 1 ∧ obj = 4) ∨ (op = 3 ∧ obj ≠ 0 ∧ obj ≠ 4) then aueStatus 2 s
  else if aueMax obj < i then aueStatus 1 s
  else if obj = 0 then
    let x := s.freshAt i
    if op = 1 then
      if freshBad s then aueStatus 2 s
      else aueStatus 0 (s.setFresh i ⟨BitVec.ofNat 32 (d 0 - bits (d 0) 11 0), wput (BitVec.ofNat 32 (d 1)) 19 16 0,
        BitVec.ofNat 32 (d 2), d 3 + 2 ^ 32 * d 4, 0, 0⟩)
    else if bad.contains (.fresh i) then aueStatus 5 (s.raise W.AUE 3 (freshLoc i))
    else
      let s := if bad.contains (.freshFix i) then s.raise W.AUE 2 (freshLoc i) else s
      if op = 2 then
        aueStatus 0 <| putAue 5 (x.fails * 65536 + x.replays) <| putAue 4 (x.counter >>> 32) <| putAue 3 x.counter <|
          putAue 2 x.e2.toNat <| putAue 1 x.e1.toNat <| putAue 0 x.e0.toNat s
      else aueStatus 0 (s.setFresh i { x with fails := 0, replays := 0 })
  else if obj = 4 then
    if op = 2 then aueStatus 0 (foldRange (fun s k => putAue k (kvGet 0 s.aue.cnt (8 * i + k)) s) s 0 8)
    else aueStatus 0 (s.modAue fun a => { a with cnt := kvFilter (fun k => k / 8 != i) a.cnt })
  else if op = 1 then
    if secBad obj i s then aueStatus 2 s
    else aueStatus 0 (notePnLimit (secOf obj i) s (foldRange (fun s k => s.setSecW obj i k (d k)) s 0 (secWords obj)))
  else aueStatus 0 (foldRange (fun s k => putAue k (s.secW obj i k) s) s 0 (secWords obj))

/-- The strobe check of R270. -/
def aueCheck (s : State) : Nat :=
  let on := bits (s.shadow W.AUE AUE_SHED_ON) 18 0
  if 393216 < on then 1
  else if on ≠ 0 ∧ on ≤ bits (s.shadow W.AUE AUE_SHED_OFF) 18 0 then 2
  else 0

end Sys2Proof.Machine
end

