-- ==== Sys2Proof/Machine/Crc.lean ====
section
/-! DEFINITION. The cyclic redundancy checks that the spec names with their parameters (R164, R93, and the chapters that use them). -/
namespace Sys2Proof.Machine

/-- One bit of a reflected CRC with reversed polynomial `poly`. -/
def crcBit (poly c : Nat) : Nat := if c % 2 = 1 then (c / 2) ^^^ poly else c / 2

/-- One byte, least significant bit first. -/
def crcByte (poly c b : Nat) : Nat :=
  crcBit poly <| crcBit poly <| crcBit poly <| crcBit poly <| crcBit poly <| crcBit poly <| crcBit poly <| crcBit poly (c ^^^ b)

/-- A reflected 32-bit CRC, initial value and final XOR all ones. -/
def crc32Of (poly : Nat) (l : List Byte) : Nat := (l.foldl (fun c b => crcByte poly c b.toNat) 0xFFFFFFFF) ^^^ 0xFFFFFFFF

/-- CRC-32 of IEEE 802.3, polynomial 0x04C1_1DB7 (R164). -/
def crc32 : List Byte → Nat := crc32Of 0xEDB88320

/-- CRC-32C, polynomial 0x1EDC_6F41 (R164). -/
def crc32c : List Byte → Nat := crc32Of 0x82F63B78

/-- One bit of a CRC-16 with polynomial 0x1021, most significant bit first. -/
def crc16Bit (c : Nat) : Nat := if 0x8000 ≤ c then ((2 * c) % 65536) ^^^ 0x1021 else 2 * c

/-- CRC-16/CCITT-FALSE: polynomial 0x1021, initial value 0xFFFF, not reflected. -/
def crc16 (l : List Byte) : Nat :=
  l.foldl (fun c b => crc16Bit <| crc16Bit <| crc16Bit <| crc16Bit <| crc16Bit <| crc16Bit <| crc16Bit <| crc16Bit
    (c ^^^ (b.toNat * 256))) 0xFFFF

end Sys2Proof.Machine
end

