-- ==== Sys2Proof/Machine/Emt.lean ====
section
/-! DEFINITION. The exact-match table with its command engine, learning, aging, flush and scrubber, the wildcard table and the
port-set table (07_classification_tables.md). -/
namespace Sys2Proof.Machine
open Reg

def State.modEmt (s : State) (f : Emt → Emt) : State := { s with emt := f s.emt }

/-! ### Entries and addresses (R164, R165) -/

/-- The bytes of a key, K[0] first. -/
def keyBytes (k : BitVec 128) : List Byte := beBytes 16 k.toNat

/-- The bucket of a key in a way (R164). -/
def bucketOf (s : State) (way : Nat) (k : BitVec 128) : Nat :=
  if way = 0 then (crc32c (keyBytes k) % 8192) ^^^ s.fld W.EMT EMT_SEED 12 0
  else (crc32 (keyBytes k) % 8192) ^^^ s.fld W.EMT EMT_SEED 28 16

/-- Slot addresses of 17 bits: AREA, BUCKET, SLOT; for the stash the index in [7:2]. -/
def slotAddr (way bkt slot : Nat) : Nat := way * 32768 + bkt * 4 + slot
def stashAddr (i : Nat) : Nat := 65536 + i * 4
def noAddr : Nat := 0x18000
def areaOf (a : Nat) : Nat := a / 32768

/-- The group of a slot address: way * 8192 + bucket, or 16384 + stash index. -/
def groupOf (a : Nat) : Nat := a / 4

/-- The four slots of a bucket, the stash, and the candidate slots of a key in the order of R165. -/
def slotsOf (way bkt : Nat) : List Nat := (List.range 4).map (slotAddr way bkt)
def stashSlots : List Nat := (List.range 64).map stashAddr
def candidates (s : State) (k : BitVec 128) : List Nat :=
  slotsOf 0 (bucketOf s 0 k) ++ slotsOf 1 (bucketOf s 1 k) ++ stashSlots

/-- Fields of an entry (R175). -/
def EmtEntry.valid (e : EmtEntry) : Bool := wf e.a0 31 31 == 1
def EmtEntry.static (e : EmtEntry) : Bool := wf e.a0 30 30 == 1
def EmtEntry.learned (e : EmtEntry) : Bool := e.valid && !e.static
def EmtEntry.age (e : EmtEntry) : Nat := wf e.a0 29 28
def EmtEntry.dest (e : EmtEntry) : Nat := wf e.a1 30 19
def EmtEntry.pset (e : EmtEntry) : Bool := wf e.a1 31 31 == 1
def EmtEntry.act (e : EmtEntry) : List Word := [e.a0, e.a1, e.a2, e.a3]
def EmtEntry.ofAct (k : BitVec 128) (l : List Word) : EmtEntry :=
  ⟨k, l[0]?.getD 0, l[1]?.getD 0, l[2]?.getD 0, l[3]?.getD 0⟩

/-- The entry in a slot. -/
def State.emtAt (s : State) (a : Nat) : EmtEntry := kvGet EmtEntry.free s.emt.entries a

/-- An action record is bad (R176). -/
def badAction (l : List Word) : Bool :=
  let a1 := l[1]?.getD 0
  let a2 := l[2]?.getD 0
  let a3 := l[3]?.getD 0
  wf a2 5 0 != 0 || wf a3 30 30 != 0 || wf a3 15 10 != 0 || (wf a1 31 31 == 0 && wf a1 30 27 != 0)

/-- Valid entries, learned entries and stash use (EMT_COUNT, EMT_LEARNED, EMT_STASH_USE). -/
def emtCount (s : State) : Nat := (s.emt.entries.filter fun e => e.2.valid).length
def emtLearnedCount (s : State) : Nat := (s.emt.entries.filter fun e => e.2.learned).length
def stashUse (s : State) : Nat := (s.emt.entries.filter fun e => e.2.valid && areaOf e.1 == 2).length

/-- STASH_HIGH holds while the stash holds STASH_WARN entries or more (R190). -/
def noteStash (s : State) : State :=
  let th := s.fld W.EMT EMT_STASH_WARN 6 0
  s.level W.EMT 4 (locCode 0 W.EMT 2 0xFF 0x3F) (th != 0 && decide (th ≤ stashUse s))

/-- Write or clear a slot. -/
def State.setEmt (s : State) (a : Nat) (e : EmtEntry) : State :=
  noteStash (s.modEmt fun m => { m with entries := kvSet EmtEntry.free m.entries a (if e.valid then e else EmtEntry.free) })

/-- The location of a slot (R190): way (2 for the stash), bucket's low 8 bits, slot or stash index. -/
def emtLoc (a : Nat) : Nat :=
  if areaOf a = 2 then locCode 0 W.EMT 2 0xFF (groupOf a % 64) else locCode 0 W.EMT (areaOf a) (groupOf a % 256) (a % 4)

/-- Slots are read: corrected and uncorrectable words are counted and raised (R165). -/
def emtReads (bad : List BadEntry) (l : List Nat) (s : State) : State :=
  l.foldl (fun s a =>
    if bad.contains (.emt a) then (s.count W.EMT EMT_ECC_UNCORR).raise W.EMT 3 (emtLoc a)
    else if bad.contains (.emtFix a) then (s.count W.EMT EMT_ECC_CORR).raise W.EMT 2 (emtLoc a)
    else s) s

/-- Some slot of the list is uncorrectable. -/
def anyBad (bad : List BadEntry) (l : List Nat) : Bool := l.any fun a => bad.contains (.emt a)

/-- The first valid entry with key `k` (R165). -/
def emtFind (bad : List BadEntry) (k : BitVec 128) (s : State) : Option Nat :=
  (candidates s k).find? fun a => (s.emtAt a).valid && (s.emtAt a).key == k && !bad.contains (.emt a)

/-- A lookup: the slot found, and the state after the ECC reports of its reads. -/
def emtLookup (bad : List BadEntry) (k : BitVec 128) (s : State) : Option Nat × State :=
  (emtFind bad k s, emtReads bad (candidates s k) s)

/-! ### Places (R167, R169, R181) -/

/-- The groups that the held reservation holds; those of a live one. -/
def heldGroups (s : State) : List Nat :=
  match s.emt.resv with
  | none => []
  | some r => r.held
def liveGroups (s : State) : List Nat :=
  match s.emt.resv with
  | none => []
  | some r => if r.expired then [] else r.held

/-- The lowest free slot of a list. -/
def freeOf (s : State) (l : List Nat) : Option Nat := l.find? fun a => !(s.emtAt a).valid

/-- After a deletion in a table slot, the lowest stash entry whose b0 or b1 names the freed bucket moves into it; the groups in
`keep` stay as they are (R169). -/
def stashRefill (keep : List Nat) (a : Nat) (s : State) : State :=
  if areaOf a = 2 ∨ (s.emtAt a).valid then s
  else
    match stashSlots.find? fun t =>
        (s.emtAt t).valid && !keep.contains (groupOf t)
          && (areaOf a * 8192 + bucketOf s (areaOf a) (s.emtAt t).key == groupOf a) with
    | none => s
    | some t => (s.setEmt a (s.emtAt t)).setEmt t EmtEntry.free

/-- Delete the entry in a slot with the stash rule, which leaves the groups in `keep` alone. -/
def emtDelete (keep : List Nat) (a : Nat) (s : State) : State := stashRefill keep a (s.setEmt a EmtEntry.free)

/-- The victim pointer of a group. -/
def rrOf (s : State) (g : Nat) : Nat := kvGet 0 s.emt.rr g
def bumpRr (g : Nat) (s : State) : State := s.modEmt fun m => { m with rr := kvSet 0 m.rr g ((kvGet 0 m.rr g + 1) % 4) }

/-- The relocation chain of R167 from the places `x` so far: the places and whether a free slot ends them. -/
def planChain (s : State) : Nat → List Nat → List Nat × Bool
  | 0, x => (x, false)
  | n + 1, x =>
    let cur := x.getLast?.getD noAddr
    let w2 := 1 - areaOf cur
    let b2 := bucketOf s w2 (s.emtAt cur).key
    match freeOf s (slotsOf w2 b2) with
    | some a => (x ++ [a], true)
    | none =>
      let nxt := slotAddr w2 b2 (rrOf s (w2 * 8192 + b2))
      if x.contains nxt then (x, false) else planChain s n (x ++ [nxt])

/-- The search of R167 for key `k`: the places, whether a place was found, and the slots it read. -/
def planSearch (s : State) (k : BitVec 128) : List Nat × Bool × List Nat :=
  let b0 := slotsOf 0 (bucketOf s 0 k)
  let b1 := slotsOf 1 (bucketOf s 1 k)
  match freeOf s b0 with
  | some a => ([a], true, b0)
  | none =>
    match freeOf s b1 with
    | some a => ([a], true, b0 ++ b1)
    | none =>
      let r := planChain s 32 [slotAddr 0 (bucketOf s 0 k) (rrOf s (bucketOf s 0 k))]
      (r.1, r.2, b0 ++ b1 ++ r.1.flatMap fun a => (List.range 4).map (groupOf a * 4 + ·))

/-! ### Firmware commands (R166–R172) -/

/-- EMT_CMD_KEY and EMT_CMD_ACT. -/
def cmdKey (s : State) : BitVec 128 :=
  BitVec.ofNat 128 ((List.range 4).foldl (fun n j => n * 2 ^ 32 + s.reg W.EMT (EMT_CMD_KEY + 4 * j)) 0)
def cmdAct (s : State) : List Word := (List.range 4).map fun j => BitVec.ofNat 32 (s.reg W.EMT (EMT_CMD_ACT + 4 * j))

/-- Finish a command with a status. -/
def emtStatus (st : Nat) (s : State) : State := s.setFld W.EMT EMT_CMD_STAT 23 16 st

/-- Report a slot in EMT_CMD_WHERE and its action in EMT_RES_ACT. -/
def emtReport (a : Nat) (s : State) : State :=
  let e := s.emtAt a
  ((((s.setReg W.EMT EMT_CMD_WHERE a).setReg W.EMT EMT_RES_ACT e.a0.toNat).setReg W.EMT (EMT_RES_ACT + 4) e.a1.toNat).setReg
    W.EMT (EMT_RES_ACT + 8) e.a2.toNat).setReg W.EMT (EMT_RES_ACT + 12) e.a3.toNat

/-- Find the key of the command and go on with its slot. -/
def emtWith (bad : List BadEntry) (s : State) (f : Nat → State → State) : State :=
  let r := emtLookup bad (cmdKey s) s
  if anyBad bad (candidates s (cmdKey s)) then emtStatus 8 r.2
  else match r.1 with
    | none => emtStatus 2 (r.2.setReg W.EMT EMT_CMD_WHERE noAddr)
    | some a => f a (emtReport a r.2)

/-- Write a plan to EMT_PLAN and PLAN_LEN. -/
def putPlan (x : List Nat) (s : State) : State :=
  let s := foldRange (fun s i => s.setReg W.EMT (EMT_PLAN + 4 * i) (x[i]?.getD 0)) s 0 x.length
  s.setFld W.EMT EMT_CMD_STAT 5 0 (x.length - 1)

/-- Hold a reservation and answer OK. -/
def reserve (r : Resv) (s : State) : State := emtStatus 0 (s.modEmt fun m => { m with resv := some r })

/-- The groups whose pointer a plan's chain used: every place but the last. -/
def planVictims (x : List Nat) : List Nat := x.dropLast.map groupOf

/-- PLAN_INSERT. -/
def emtPlanInsert (bad : List BadEntry) (s : State) : State :=
  let k := cmdKey s
  if badAction (cmdAct s) then emtStatus 6 s
  else
    let r := emtLookup bad k s
    let p := planSearch s k
    let s := emtReads bad (p.2.2.filter fun a => !(candidates s k).contains a) r.2
    if anyBad bad (candidates s k ++ p.2.2) then emtStatus 8 s
    else if r.1.isSome then emtStatus 3 s
    else
      let g0 := bucketOf s 0 k
      let own := [g0, 8192 + bucketOf s 1 k]
      if p.2.1 then
        reserve ⟨.insert, p.1, k, cmdAct s, own ++ p.1.map groupOf, planVictims p.1, 0, false⟩ (putPlan p.1 s)
      else match freeOf s stashSlots with
        | some a => reserve ⟨.insert, [a], k, cmdAct s, own ++ [groupOf a], [g0], 0, false⟩ (putPlan [a] s)
        | none => emtStatus 4 s

/-- PLAN_REHOME of stash entry `i`. -/
def emtPlanRehome (i : Nat) (bad : List BadEntry) (s : State) : State :=
  let a := stashAddr i
  let e := s.emtAt a
  if !e.valid then emtStatus 9 s
  else
    let p := planSearch s e.key
    let reads := a :: p.2.2
    let s := emtReads bad reads s
    if anyBad bad reads then emtStatus 8 s
    else if p.2.1 then
      reserve ⟨.rehome, p.1, e.key, e.act, p.1.map groupOf ++ [groupOf a], planVictims p.1, a, false⟩ (putPlan p.1 s)
    else emtStatus 4 s

/-- The moves of a plan from the tail: X[i] to X[i+1] for i = n-1 down to 0. -/
def planMoves (x : List Nat) (s : State) : State :=
  ((x.zip x.tail).reverse).foldl (fun s p => (s.setEmt p.2 (s.emtAt p.1)).setEmt p.1 EmtEntry.free) s

/-- EXEC's changes (R169). -/
def execPlan (r : Resv) (s : State) : State :=
  match r.kind with
  | .insert =>
    r.victims.foldl (fun s g => bumpRr g s) ((planMoves r.plan s).setEmt (r.plan.headD noAddr) (EmtEntry.ofAct r.key r.act))
  | .rehome =>
    let s := (planMoves r.plan s).setEmt (r.plan.headD noAddr) (s.emtAt r.place)
    r.victims.foldl (fun s g => bumpRr g s) (s.setEmt r.place EmtEntry.free)
  | .modify =>
    let old := s.emtAt r.place
    let e := EmtEntry.ofAct r.key r.act
    s.setEmt r.place { e with a0 := wput e.a0 29 28 old.age }
  | .delete => emtDelete [] r.place s

/-- The slots that EXEC reads. -/
def execReads (r : Resv) : List Nat :=
  match r.kind with
  | .insert => r.plan.dropLast
  | .rehome => r.place :: r.plan.dropLast
  | .modify | .delete => [r.place]

/-- EXEC. -/
def emtExec (bad : List BadEntry) (s : State) : State :=
  match s.emt.resv with
  | none => emtStatus 5 s
  | some r =>
    if r.expired then emtStatus 7 s
    else if anyBad bad (execReads r) then emtStatus 8 (emtReads bad (execReads r) s)
    else emtStatus 0 (execPlan r ((emtReads bad (execReads r) s).modEmt fun m => { m with resv := none }))

/-- ABORT. -/
def emtAbort (s : State) : State :=
  match s.emt.resv with
  | none => emtStatus 5 s
  | some _ => emtStatus 0 (s.modEmt fun m => { m with resv := none })

/-- The walk of a flush: every learned entry of the port, or every learned entry, outside the reserved groups (R172, R183). -/
def flushWalk (port : Nat) (all : Bool) (s : State) : State :=
  let hit := fun (a : Nat) (e : EmtEntry) =>
    e.learned && (all || (!e.pset && e.dest % 256 == port)) && !(heldGroups s).contains (groupOf a)
  ((s.emt.entries.filter fun p => hit p.1 p.2).map (·.2.key)).foldl (fun s k =>
    match s.emt.entries.find? fun p => p.2.key == k && hit p.1 p.2 with
    | none => s
    | some p => emtDelete (heldGroups s) p.1 s) s

/-- FLUSH: the walk runs, and BUSY stays 1 until FLUSH_DONE. -/
def emtFlush (port : Nat) (all : Bool) (s : State) : State :=
  flushWalk port all (s.modEmt fun m => { m with flush := some (port, all, true) })

/-- A firmware FLUSH, or a flush of R183, runs. -/
def fwFlushing (s : State) : Bool :=
  match s.emt.flush with
  | some (_, _, fw) => fw
  | none => false
def hwFlushing (s : State) : Bool :=
  match s.emt.flush with
  | some (_, _, fw) => !fw
  | none => false

/-- EMT_CMD is written (R166, R168, R172). A reserved OP is no command and returns BAD_COMMAND whatever is held. -/
def doEmtCmd (data : Nat) (bad : List BadEntry) (s : State) : State :=
  let op := bits data 3 0
  if fwFlushing s then s
  else
    let s := s.count64 W.EMT EMT_CMDS_LO
    if op = 0 ∨ 9 ≤ op then emtStatus 9 s
    else if hwFlushing s then emtStatus 1 s
    else if op = 1 then emtWith bad s fun _ s => emtStatus 0 s
    else if op = 6 then emtExec bad s
    else if op = 7 then emtAbort s
    else if s.emt.resv.isSome then emtStatus 1 s
    else if op = 2 then emtPlanInsert bad s
    else if op = 3 then
      if badAction (cmdAct s) then emtStatus 6 s
      else emtWith bad s fun a s => reserve ⟨.modify, [], cmdKey s, cmdAct s, [groupOf a], [], a, false⟩ s
    else if op = 4 then emtWith bad s fun a s => reserve ⟨.delete, [], cmdKey s, [], [groupOf a], [], a, false⟩ s
    else if op = 5 then emtPlanRehome (bits data 13 8) bad s
    else emtFlush (bits data 23 16) (bit data 24) s

/-- FLUSH_DONE: the walk completes (R172, R183). -/
def doFlushDone (s : State) : State :=
  match s.emt.flush with
  | none => s
  | some (_, _, fw) => (if fw then emtStatus 0 s else s).modEmt fun m => { m with flush := none }

/-- PORT_FLUSH: the oldest waiting port's flush runs when the command engine is free (R183). -/
def doPortFlush (s : State) : State :=
  match s.emt.flush, s.emt.flushWait with
  | none, p :: rest => flushWalk p false (s.modEmt fun m => { m with flush := some (p, false, false), flushWait := rest })
  | _, _ => s

/-- RSV_EXPIRED: the time of the reservation has passed (R171). -/
def doRsvExpired (s : State) : State :=
  match s.emt.resv with
  | none => s
  | some r =>
    if r.expired ∨ s.fld W.EMT EMT_RSV 15 0 = 0 then s
    else (s.modEmt fun m => { m with resv := some { r with expired := true } }).raise0 W.EMT 8

/-- EMT_CMD_STAT (R166, R171): BUSY, which a firmware FLUSH holds, and RSV beside STATUS and PLAN_LEN. -/
def emtStat (s : State) : Nat :=
  let rsv := match s.emt.resv with
    | none => 0
    | some r => if r.expired then 2 else 1
  b2n (fwFlushing s) * 2 ^ 31 + rsv * 2 ^ 29 + s.fld W.EMT EMT_CMD_STAT 28 0

/-! ### Learning (R180–R184) -/

/-- A notice of R184. -/
def learnNotice (typ new old wher : Nat) (k : BitVec 128) (s : State) : State :=
  if !s.flag W.EMT EMT_LEARN 31 then s
  else
    let t := (((Tag.fresh 6 new s.now).setDstPort 60).setQueue (s.fld W.EMT EMT_LEARN 5 0)).setCls (s.fld W.EMT EMT_LEARN 10 8)
    let t := { t with
      w7 := BitVec.ofNat 32 (typ * 2 ^ 24 + new % 256 * 2 ^ 16 + old % 256 * 2 ^ 8), w8 := BitVec.ofNat 32 (wher % 2 ^ 17) }
    offerTo 15 (onePort 60) ⟨t, keyBytes k⟩ .learnNotice s

/-- The template of learned entries for a port (R181). -/
def learnedEntry (s : State) (k : BitVec 128) (p : Nat) : EmtEntry :=
  let t := fun j => BitVec.ofNat 32 (s.reg W.EMT (EMT_LEARN_TPL + 4 * j))
  ⟨k, wput (t 0) 31 28 0xB, wput (wput (t 1) 31 31 0) 30 19 p, t 2, t 3⟩

/-- Queue an item (R181). -/
def queueLearn (i : LearnItem) (s : State) : State :=
  if 256 ≤ s.emt.queue.length then s.count W.EMT EMT_LEARN_OVF
  else s.modEmt fun m => { m with queue := m.queue ++ [i] }

/-- An item is dropped for a reservation (R181). -/
def learnDefer (s : State) : State := s.count W.EMT EMT_LEARN_DEFER

/-- An entry is learned or moved: by an item of the twin partner it counts as the partner's, else a LEARN_DELTA leaves
(R492). -/
def noteDelta (twin : Bool) (k : BitVec 128) (s : State) : State :=
  let s := s.modEmt fun m => { m with foreign := m.foreign.filter (· != k) ++ (if twin then [k] else []) }
  if twin then s else twinDelta 29 s

/-- A learned entry ages out (R182); it leaves as a LEARN_DELTA unless the twin partner taught it or asked for it. -/
def emtAgeOut (a : Nat) (e : EmtEntry) (twin : Bool) (s : State) : State :=
  let local_ := !twin && !s.emt.foreign.contains e.key
  let s := (emtDelete (liveGroups s) a s).count W.EMT EMT_AGED
  let s := s.modEmt fun m => { m with foreign := m.foreign.filter (· != e.key) }
  let s := if local_ then twinDelta 29 s else s
  if s.flag W.EMT EMT_LEARN 30 then learnNotice 3 (e.dest % 256) 0xFF a e.key s else s

/-- An age-out of the twin partner deletes only a learned entry of the same key and port (R492). -/
def carryAgeOut (i : LearnItem) (s : State) : State :=
  match emtFind [] i.key s with
  | none => s
  | some a =>
    let e := s.emtAt a
    if !e.learned || e.pset || e.dest % 256 != i.port then s
    else if (liveGroups s).contains (groupOf a) then learnDefer s
    else emtAgeOut a e true s

/-- The command engine carries out an item; its key is judged again against the table (R181). -/
def carryOut (i : LearnItem) (s : State) : State :=
  if i.kind == .ageOut then carryAgeOut i s else
  match emtFind [] i.key s with
  | none =>
    let g0 := bucketOf s 0 i.key
    let b1 := bucketOf s 1 i.key
    let live := liveGroups s
    if live.contains g0 || live.contains (8192 + b1) then learnDefer s
    else
      match freeOf s (slotsOf 0 g0 ++ slotsOf 1 b1 ++ stashSlots.filter fun a => !live.contains (groupOf a)) with
      | some a =>
        let s := noteDelta i.twin i.key (s.setEmt a (learnedEntry s i.key i.port))
        learnNotice 1 i.port 0xFF a i.key (s.count W.EMT EMT_LEARN_CNT)
      | none => learnNotice 4 i.port 0xFF noAddr i.key ((s.count W.EMT Reg.EMT_LEARN_FAIL).raise0 W.EMT 7)
  | some a =>
    let e := s.emtAt a
    if e.static then s
    else if (liveGroups s).contains (groupOf a) then learnDefer s
    else
      let e' := { e with a0 := wput e.a0 29 28 3 }
      if !e.pset && e.dest % 256 == i.port then s.setEmt a e'
      else
        let s := (s.setEmt a { e' with a1 := wput (wput e.a1 31 31 0) 30 19 i.port }).count W.EMT EMT_MOVE_COUNT
        let s := noteDelta (i.twin || s.emt.foreign.contains i.key) i.key s
        learnNotice 2 i.port (e.dest % 256) a i.key s

/-- The oldest item of a kind whose frame has ended is carried out, while the engine is free of a flush of R183 or FLUSH or
beside it (R172: learning continues); an age-out of the twin partner goes with the learns. -/
def doLearnItem (k : LearnKind) (s : State) : State :=
  if !s.enabled W.EMT then s
  else
    match s.emt.queue.find? fun i => (i.kind == k || (k == .learn && i.kind == .ageOut)) && i.waits.isNone with
    | none => s
    | some i => carryOut i (s.modEmt fun m => { m with queue := delFirst (· == i) m.queue })

/-- A frame ends: its queued items wait no longer, or are dropped when it did not end well (R180). -/
def learnFrameEnd (fid : Nat) (ok : Bool) (s : State) : State :=
  s.modEmt fun m => { m with
    queue := (m.queue.filter fun i => ok || i.waits != some fid).map fun i =>
      if i.waits == some fid then { i with waits := none } else i }

/-- A port is receiving frame `fid`. -/
def receiving (s : State) (fid : Nat) : Bool := s.emc.any fun e => e.2.rx.any fun r => r.fid == some fid && !r.dead

/-- Items whose frame ended without its end being judged are dropped: its port lost it (R180). -/
def sweepLearn (s : State) : State :=
  s.modEmt fun m => { m with queue := m.queue.filter fun i => i.waits.all (receiving s) }

/-- AGING_SWEEP (R182). -/
def doAgingSweep (s : State) : State :=
  if !s.enabled W.EMT || s.fld W.EMT EMT_AGE 15 0 == 0 then s
  else
    let old := s.emt.entries.filter fun p => p.2.learned && !(liveGroups s).contains (groupOf p.1)
    old.foldl (fun s p =>
      match s.emt.entries.find? fun q => q.2.key == p.2.key && q.2.learned with
      | none => s
      | some q =>
        if q.2.age = 0 then
          emtAgeOut q.1 q.2 false s
        else s.setEmt q.1 { q.2 with a0 := wput q.2.a0 29 28 (q.2.age - 1) }) s

/-! ### Scrubber (R185–R187) -/

/-- The slots of visit `pos`: a bucket of 4 slots, or 4 stash entries. -/
def scrubSlots (pos : Nat) : List Nat :=
  (List.range 4).map fun i => if pos < 16384 then pos * 4 + i else stashAddr (4 * (pos - 16384) + i)

/-- An entry from the 32 bytes of its shadow (R185). -/
def entryOf (l : List Byte) : EmtEntry :=
  let w := fun j => BitVec.ofNat 32 (leNat (slice l (16 + 4 * j) 4))
  ⟨BitVec.ofNat 128 (beNat (l.take 16)), w 0, w 1, w 2, w 3⟩

/-- The entry with its AGE bits cleared. -/
def noAge (e : EmtEntry) : EmtEntry := { e with a0 := wput e.a0 29 28 0 }

/-- The verdict on a slot and its repair (R187): verdict 0 good, 1 static, 2 missing, 3 learned. -/
def scrubJudge (t sh : EmtEntry) : Nat × EmtEntry :=
  if t.valid && t.static then (if noAge t = noAge sh then 0 else 1, sh)
  else if t.valid then
    if !sh.valid then (0, t)
    else if sh.static then (3, sh)
    else if sh.key = t.key then (0, t) else (3, EmtEntry.free)
  else if sh.valid && sh.static then (2, sh) else (0, t)

/-- One slot is judged, reported and repaired. -/
def scrubSlot (base pos : Nat) (s : State) (p : Nat × Nat) : State :=
  let sh := entryOf (s.memBytes (base + pos * 128 + p.1 * 32) 32)
  let j := scrubJudge (s.emtAt p.2) sh
  if j.1 = 0 then s
  else
    let s := (s.count W.EMT EMT_SCRUB_MISM).setReg W.EMT EMT_SCRUB_LAST (j.1 * 2 ^ 18 + p.2)
    let s := s.raise W.EMT 5 (emtLoc p.2)
    if s.flag W.EMT Reg.EMT_SCRUB 30 then ((s.setEmt p.2 j.2).count W.EMT EMT_SCRUB_REPAIRED).raise W.EMT 6 (emtLoc p.2) else s

/-- SCRUB_VISIT: one bucket; `changed` says that the two table reads differ, `shadowBad` that the shadow read was
uncorrectable (R186, R412). -/
def doScrubVisit (changed shadowBad : Bool) (bad : List BadEntry) (s : State) : State :=
  if !s.enabled W.EMT || !s.flag W.EMT Reg.EMT_SCRUB 31 then s
  else
    let pos := s.emt.scrubPos
    let s := if pos = 0 then s.modEmt fun m => { m with scrubStart := s.vault } else s
    let slots := scrubSlots pos
    let s := emtReads bad slots s
    let skip := changed || shadowBad || anyBad bad slots || slots.any fun a => (heldGroups s).contains (groupOf a)
    let base := s.reg W.EMT EMT_SHADOW_LO + 2 ^ 32 * s.reg W.EMT EMT_SHADOW_HI
    let s := if skip then s.count W.EMT Reg.EMT_SCRUB_SKIP
      else ((List.range 4).zip slots).foldl (scrubSlot base pos) s
    let took := s.vault - s.emt.scrubStart
    let slow := decide (2 * s.fld W.EMT Reg.EMT_SCRUB 15 0 * 1000000 < took)
    if pos + 1 < 16400 then
      let s := s.modEmt fun m => { m with scrubPos := pos + 1 }
      if slow then s.level W.EMT 9 (locSelf W.EMT) true else s
    else
      let s := s.modEmt fun m => { m with scrubPos := 0 }
      let s := s.setReg W.EMT EMT_SCRUB_STAT
        (min (took / 1000000) 0xFFFF * 65536 + (s.fld W.EMT EMT_SCRUB_STAT 15 0 + 1) % 65536)
      s.level W.EMT 9 (locSelf W.EMT) slow

/-! ### Wildcard and port-set tables (R173, R179) -/

def State.wctAt (s : State) (i : Nat) : WctEntry := kvGet WctEntry.free s.wct i
def State.setWct (s : State) (i : Nat) (e : WctEntry) : State := { s with wct := kvSet WctEntry.free s.wct i e }
def WctEntry.act (e : WctEntry) : List Word := [e.a0, e.a1, e.a2, e.a3]

/-- Entry `e` matches key `k` (R173). -/
def wctMatch (e : WctEntry) (k : BitVec 128) : Bool := wf e.a0 31 31 == 1 && ((k &&& e.mask) == (e.value &&& e.mask))

/-- The location of a WCT entry. -/
def wctLoc (i : Nat) : Nat := locCode 0 W.WCT 0 (i / 64) (i % 64)

/-- A WCT lookup: uncorrectable entries never match and are raised; the lowest match takes a hit (R173). -/
def wctLookup (bad : List BadEntry) (k : BitVec 128) (s : State) : Option WctEntry × State :=
  let s := foldRange (fun s i => if bad.contains (.wct i) then s.raise W.WCT 2 (wctLoc i) else s) s 0 1024
  match s.wct.find? fun e => wctMatch e.2 k && !bad.contains (.wct e.1) with
  | none => (none, s)
  | some e => (some e.2, s.setWct e.1 { e.2 with hits := satAdd 32 e.2.hits 1 })

/-- A staged 16-byte value. -/
def staged (s : State) (off : Nat) : BitVec 128 :=
  BitVec.ofNat 128 ((List.range 4).foldl (fun n j => n * 2 ^ 32 + s.reg W.WCT (off + 4 * j)) 0)

/-- Stage a 16-byte value. -/
def stage128 (off : Nat) (v : BitVec 128) (s : State) : State :=
  foldRange (fun s j => s.setReg W.WCT (off + 4 * j) (v.toNat >>> (32 * (3 - j)))) s 0 4

/-- WCT_CMD is written. -/
def doWctCmd (data : Nat) (s : State) : State :=
  let i := s.fld W.WCT WCT_IDX 9 0
  let s := if bit data 0 then
      let act := (List.range 4).map fun j => BitVec.ofNat 32 (s.reg W.WCT (WCT_ACT + 4 * j))
      if badAction act then s.setReg W.WCT WCT_STAT 1
      else
        (s.setWct i ⟨staged s WCT_VALUE, staged s WCT_MASK, act[0]?.getD 0, act[1]?.getD 0, act[2]?.getD 0, act[3]?.getD 0,
          (s.wctAt i).hits⟩).setReg W.WCT WCT_STAT 0
    else s
  let s := if bit data 1 then
      let e := s.wctAt i
      let s := stage128 WCT_MASK e.mask (stage128 WCT_VALUE e.value s)
      let s := foldRange (fun s j => s.setReg W.WCT (WCT_ACT + 4 * j) ((e.act[j]?.getD 0).toNat)) s 0 4
      s.setReg W.WCT WCT_HITS e.hits
    else s
  if bit data 2 then (s.setWct i { s.wctAt i with hits := 0 }).setReg W.WCT WCT_HITS 0 else s

/-- CLS_PSET_CMD is written (R179). -/
def doPsetCmd (data : Nat) (s : State) : State :=
  let i := s.fld W.CLS CLS_PSET_IDX 11 0
  let s := if bit data 0 then
      { s with pset := kvSet 0 s.pset i (BitVec.ofNat 64 (s.reg W.CLS CLS_PSET_LO + 2 ^ 32 * s.reg W.CLS CLS_PSET_HI)) }
    else s
  if bit data 1 then
    let v := (kvGet 0 s.pset i).toNat
    (s.setReg W.CLS CLS_PSET_LO v).setReg W.CLS CLS_PSET_HI (v >>> 32)
  else s

/-! ### Strobe checks (R188, R189) -/

/-- The key length of a profile: 1 plus its field sizes (R163). -/
def profileKeyLen (fields : Nat) : Nat :=
  1 + b2n (bit fields 0) + 4 * b2n (bit fields 1) + 2 * b2n (bit fields 2) + 2 * b2n (bit fields 3) + 6 * b2n (bit fields 4)
    + 6 * b2n (bit fields 5) + 2 * b2n (bit fields 6) + 13 * b2n (bit fields 7)

/-- The strobe check of CLS[0] (R188). -/
def clsCheck (s : State) : Nat :=
  let sh := fun o => s.shadow W.CLS o
  let learn := fun p => bit (sh (CLS_PORTLRN + 4 * p)) 31
  let badDef := fun k => badAction ((List.range 4).map fun j => BitVec.ofNat 32 (sh (CLS_DEFACT + 16 * k + 4 * j)))
  if (List.range 32).any (fun k => decide (16 < profileKeyLen (bits (sh (CLS_PROF + 4 * k)) 7 0)) || badDef k)
      || (List.range 64).any (fun p => learn p && !(decide (32 ≤ p) && decide (p ≤ 51))) then 1
  else if (List.range 64).any (fun p => learn p &&
      bits (sh (CLS_PROF + 4 * bits (sh (CLS_PORTLRN + 4 * p)) 20 16)) 7 0 != 0x18) then 2
  else 0

/-- The strobe check of EMT (R189). -/
def emtCheck (s : State) : Nat :=
  let sh := fun o => s.shadow W.EMT o
  let ms := bits (sh Reg.EMT_SCRUB) 15 0
  let en := bit (sh Reg.EMT_SCRUB) 31
  let base := sh EMT_SHADOW_LO + 2 ^ 32 * sh EMT_SHADOW_HI
  if (decide (1 ≤ ms) && decide (ms ≤ 9)) || (en && ms == 0) || decide (64 < sh EMT_STASH_WARN) || base % 4096 != 0
      || badAction ((List.range 4).map fun j => BitVec.ofNat 32 (sh (EMT_LEARN_TPL + 4 * j))) then 1
  else if (sh EMT_SEED != s.reg W.EMT EMT_SEED && emtCount s != 0) || (en && !s.inDram base 2099200) then 2
  else 0

end Sys2Proof.Machine
end

