-- ==== Sys2Proof/Machine/Ether.lean ====
section
/-! DEFINITION. Reading an Ethernet frame: VLAN tags, EtherType, IP header (R160, R346). -/
namespace Sys2Proof.Machine

/-- The 16-bit number at byte `i`, most significant byte first. -/
def u16 (p : List Byte) (i : Nat) : Nat := byteAt p i * 256 + byteAt p (i + 1)

/-- An EtherType that opens a VLAN tag (R346). -/
def isTpid (v : Nat) : Bool := v == 0x8100 || v == 0x88A8

/-- VLAN tags that the frame carries, at most two. -/
def vlanTags (p : List Byte) : Nat :=
  if isTpid (u16 p 12) then (if isTpid (u16 p 16) then 2 else 1) else 0

/-- Offset of the EtherType after the VLAN tags, and the EtherType. -/
def typeOff (p : List Byte) : Nat := 12 + 4 * vlanTags p
def etherType (p : List Byte) : Nat := u16 p (typeOff p)

/-- The TCI of the outer tag, 0 when untagged. -/
def outerTci (p : List Byte) : Nat := if vlanTags p = 0 then 0 else u16 p 14

/-- The ECN field of IPv4 or IPv6 after the VLAN tags, 0 otherwise (R347). -/
def ecnOf (p : List Byte) : Nat :=
  if etherType p = 0x0800 then byteAt p (typeOff p + 3) % 4
  else if etherType p = 0x86DD then byteAt p (typeOff p + 3) / 16 % 4
  else 0

end Sys2Proof.Machine
end

