-- ==== Sys2Proof/Machine/Channels.lean ====
section
/-! DEFINITION. What the shore dies, the CAN channels and the NM units share: access to their state, the chosen transceiver and
T1S line states (R314, R338), and when the ports of channels and segments are down (R277, R305, R337, R376). -/
namespace Sys2Proof.Machine
open Reg

def State.cxs (s : State) (n : Nat) : Cx := kvGet Cx.reset s.cx n
def State.setCx (s : State) (n : Nat) (x : Cx) : State := { s with cx := kvSet Cx.reset s.cx n x }
def State.modCx (s : State) (n : Nat) (f : Cx → Cx) : State := s.setCx n (f (s.cxs n))

def State.tr (s : State) (n : Nat) : Trx := kvGet Trx.reset s.trx n
def State.setTr (s : State) (n : Nat) (x : Trx) : State := { s with trx := kvSet Trx.reset s.trx n x }
def State.modTr (s : State) (n : Nat) (f : Trx → Trx) : State := s.setTr n (f (s.tr n))

def State.line (s : State) (k : Nat) : T1l := kvGet T1l.reset s.t1l k
def State.modLine (s : State) (k : Nat) (f : T1l → T1l) : State :=
  { s with t1l := kvSet T1l.reset s.t1l k (f (s.line k)) }

def State.bridge (s : State) (d : Nat) : Bridge := kvGet Bridge.reset s.bridges d
def State.modBridge (s : State) (d : Nat) (f : Bridge → Bridge) : State :=
  { s with bridges := kvSet Bridge.reset s.bridges d (f (s.bridge d)) }

def State.modRelay (s : State) (d : Nat) (f : Relay → Relay) : State := s.modShore d fun h => { h with relay := f h.relay }

def State.unit (s : State) (u : Nat) : NmUnit := kvGet NmUnit.off s.nm u
def State.modUnit (s : State) (u : Nat) (f : NmUnit → NmUnit) : State :=
  { s with nm := kvSet NmUnit.off s.nm u (f (s.unit u)) }

/-- The window of SHB of shore `d`. -/
def shbWin (d : Nat) : Nat := W.SHB + d

/-- The shore of a T1S segment. -/
def shoreOfSeg (k : Nat) : Nat := if k < 4 then 0 else 1

/-- Shore `d` works: it is powered and clocked. -/
def shoreRuns (s : State) (d : Nat) : Bool := (s.shore d).powered && (s.shore d).clocked

/-- SPS BLK_CTRL.EN of a shore. -/
def State.spsEn (s : State) (d : Nat) : Bool := s.flag (spsWin d) BLK_CTRL 0

/-- CAN channel `n` is gated: on the main die while the device is in Standby, on a shore as its relay's state says (R483,
R484). -/
def cxGated (s : State) (n : Nat) : Bool :=
  if 24 ≤ n then !twinActive s && s.flag W.TWL TWL_GATE_CAN n
  else
    let h := s.shore (shoreOf n)
    bit h.gate n && (match h.relay.state with
      | .limp => true
      | .off | .early => h.mate
      | .run => h.mainStby)

/-- The live MODE of CX[n] (R274); a gated channel acts in MODE 0x1 as in 0x2 (R483). -/
def cxMode (s : State) (n : Nat) : Nat :=
  let m := s.fld (cxWin n) CX_MODE 2 0
  if m = 1 ∧ cxGated s n then 2 else m

/-- An NM unit is in Bus-Sleep; Off counts as not in Bus-Sleep (R383). -/
def nmSleeps (s : State) (u : Nat) : Bool := (s.unit u).state == 1

/-- The NM unit of a bus on shore `d` governs (R314 rule 4). -/
def nmGoverns (s : State) (d : Nat) : Bool := s.enabled W.NMU && (s.bridge d).up

/-- The state that R314 chooses for TRX[n]. -/
def trxChosen (s : State) (n : Nat) : Nat :=
  let w := trxWin n
  let d := shoreOf n
  let sleep := s.fld w TRX_CFG 6 4
  if s.flag w TRX_FORCE 31 then s.fld w TRX_FORCE 2 0
  else if !s.flag w TRX_CFG 31 then s.fld w TRX_CFG 2 0
  else if cxMode s n = 2 ∨ cxMode s n = 4 then 2
  else if nmGoverns s d then (if nmSleeps s n then sleep else 1)
  else if (s.shore d).sprung && s.flag w TRX_CFG 14 then 1
  else sleep

/-- The receiver of a channel toward its CX is on: shore transceivers in Normal or Listen-only (R313); the external
transceivers of CX24–CX31 are not the device's. -/
def rxOn (s : State) (n : Nat) : Bool := if n < 24 then (s.tr n).state == 1 || (s.tr n).state == 2 else true

/-- The transmitter of TRX[n] is on (R313, R316, R325, R532). -/
def txOn (s : State) (n : Nat) : Bool :=
  let h := s.shore (shoreOf n)
  let w := spsWin (shoreOf n)
  (s.tr n).state == 1 && !(s.tr n).txdDom && !h.hot && !h.vcc5Low && !(h.uv && s.flag w SPS_VBAT_CFG2 16)
    && !(h.ov && s.flag w SPS_VBAT_CFG2 17)

/-- CSTB of an external transceiver: high in its sleep state (R391), or the STB level while AUTO is 0. -/
def cstb (s : State) (n : Nat) : Bool :=
  if s.flag (cxWin n) CX_TRXCTL 1 then s.enabled W.NMU && nmSleeps s n else s.flag (cxWin n) CX_TRXCTL 0

/-- The live state of T1L[k] (R338): 0 Off, 1 Normal, 2 Sleep. -/
def t1lState (s : State) (k : Nat) : Nat :=
  let w := t1lWin k
  if !s.flag w T1L_CTRL 31 then s.fld w T1L_CTRL 1 0
  else if nmGoverns s (shoreOfSeg k) then (if nmSleeps s (32 + k) then 2 else 1)
  else 2

/-- The port of a channel is down for its CX (R277). -/
def cxDown (s : State) (n : Nat) : Bool :=
  !s.enabled (cxWin n) || cxMode s n == 0 || (s.cxs n).busoff || cxMode s n == 4

/-- The link of shore `d` carries ports: it is up and the shore is aligned (R305, R376). -/
def shoreCarries (s : State) (d : Nat) : Bool := (s.bridge d).up && (s.shore d).aligned


/-- The link of EMC `k` is up: a T1S link under R337, R305 and R376, the others as their PCS says (R343). -/
def emcLink (s : State) (k : Nat) : Bool :=
  if k < 8 then t1lState s k == 1 && shoreCarries s (shoreOfSeg k) else (s.mac k).up

/-- The port of EMC `k` is down (R344). -/
def emcDown (s : State) (k : Nat) : Bool :=
  !s.enabled (emcWin k) || !s.flag (emcWin k) EMC_CFG 31 || !s.flag (emcWin k) EMC_CFG 30 || !emcLink s k

/-- A lost link is counted; while EN or RX_EN is 0 the MAC counts nothing (R344). -/
def countLinkDown (k : Nat) (s : State) : State :=
  if s.enabled (emcWin k) && s.flag (emcWin k) EMC_CFG 31 then s.count (emcWin k) EMC_LINKDOWNS else s

/-- LINK_LOSS holds while the link is not up and BLK_CTRL.EN is 1 (R344). A T1S link that went down is counted. -/
def noteLink (k : Nat) (s : State) : State :=
  let s :=
    if 8 ≤ k ∨ (s.mac k).up = emcLink s k then s
    else
      let s := if (s.mac k).up then countLinkDown k s else s
      s.modMac k fun m => { m with up := emcLink s k }
  s.level (emcWin k) 9 (locSelf (emcWin k)) (s.enabled (emcWin k) && !emcLink s k)

/-- The block of port `p` reports it down, for the CAN, T1S, ETH, XE and twin ports. -/
def portCause (s : State) (p : Nat) : Bool :=
  if p < 24 then cxDown s p || !shoreCarries s (shoreOf p)
  else if p < 32 then cxDown s p
  else if p < 52 then emcDown s (p - 32)
  else !twinUp s

/-- Bring the port's reported state in line with its block. -/
def syncPort (p : Nat) (s : State) : State :=
  let s := if 32 ≤ p ∧ p < 52 then noteLink (p - 32) s else s
  if (s.port p).cause == portCause s p then s else setPortCause p (portCause s p) s

/-- PORT_DOWN: the port goes down for its block, or by FORCE_DOWN (R133); a port that is down already meets a new down event
(R135). -/
def doPortDown (p : Nat) (s : State) : State :=
  let forced := s.flag W.QMG (QMG_PORTCTL + 4 * p) 0
  let caused := decide (p ≤ 52) && portCause s p
  if !forced && !caused then s else portGoesDown p (if caused then s.setPort p { s.port p with cause := true } else s)

/-- PORT_CAUSE_CLEARS: the port's block no longer reports it down (R135). -/
def doPortCauseClears (p : Nat) (s : State) : State := if p ≤ 52 && portCause s p then s else setPortCause p false s

/-- The CAN and T1S ports of shore `d`. -/
def shorePorts (d : Nat) : List Nat :=
  ((List.range 12).map (12 * d + ·)) ++ ((List.range 4).map (32 + 4 * d + ·))

def syncShore (d : Nat) (s : State) : State := (shorePorts d).foldl (fun s p => syncPort p s) s

/-- A shore spring is reported to the NM unit of its bus (R388). -/
def reportWake (u : Nat) (s : State) : State := { s with nmReports := s.nmReports ++ [u] }

end Sys2Proof.Machine
end

