-- ==== Sys2Proof/Machine/Relay.lean ====
section
/-! DEFINITION. The shore relay (R331–R336) and the shore-to-shore link (R307). -/
namespace Sys2Proof.Machine
open Reg

/-! ### States (R331) -/

/-- LIMP holds while the relay is in Limp. -/
def noteLimp (d : Nat) (s : State) : State :=
  s.level (srlWin d) 2 (locSelf (srlWin d)) ((s.shore d).relay.state == .limp)

def setRelay (d : Nat) (r : RelayState) (s : State) : State := noteLimp d (s.modRelay d fun x => { x with state := r })

/-- A spring that wakes starts the relay. -/
def relayWake (d : Nat) (s : State) : State :=
  if (s.shore d).relay.state == .off && s.flag (srlWin d) SRL_CFG 31 then setRelay d .early s else s

/-- A limp condition has effect only in Run; the instant of Limp is recorded. -/
def limpCondition (d : Nat) (s : State) : State :=
  if (s.shore d).relay.state != .run then s
  else if s.flag (srlWin d) SRL_CFG 30 then
    setRelay d .limp ((s.modRelay d fun x => { x with limpAt := s.shoreNow d }).setReg64 (srlWin d) SRL_LIMP_AT_LO (s.shoreNow d))
  else setRelay d .off s

/-- The takeover instant passes on shore time (R334). -/
def doTakeoverInstant (d : Nat) (s : State) : State :=
  match (s.shore d).relay.takeover with
  | none => s
  | some t =>
    let r := (s.shore d).relay.state
    let passed := s.modRelay d fun x => { x with takeover := none }
    if s.shoreNow d < t then s
    else if r == .run then passed
    else setRelay d .run (passed.modRelay d fun x => { x with prev := r, runAt := t })

/-- SRL_CMD: HANDOVER fixes the takeover instant, LIMP is a limp condition, OFF leaves Run. -/
def doHandover (d : Nat) (s : State) : State :=
  s.modRelay d fun x => { x with takeover := some (max (s.reg64 (srlWin d) SRL_HANDOVER_LO) (s.shoreNow d)) }
def doRelayOff (d : Nat) (s : State) : State := if (s.shore d).relay.state == .run then setRelay d .off s else s
def doSrlCmd (d data : Nat) (s : State) : State :=
  let s := if bit data 2 then doRelayOff d s else s
  let s := if bit data 1 then doHandover d s else s
  if bit data 0 then limpCondition d s else s

/-- No heartbeat for LIMP_MS ms of shore time (R331). -/
def beatLost (s : State) (d : Nat) : Bool :=
  let ms := s.fld (srlWin d) SRL_CFG 23 16
  ms != 0 && decide ((s.shore d).beat + ms * 1000000 ≤ s.shoreNow d)

def doHeartbeatLoss (d : Nat) (s : State) : State := if beatLost s d then limpCondition d s else s

/-- A heartbeat arrives (R304). -/
def doHeartbeat (d : Nat) (s : State) : State :=
  if s.enabled (shbWin d) && (s.bridge d).up then s.modShore d fun h => { h with beat := s.shoreNow d } else s

/-- SPS BLK_CTRL.EN is cleared: the relay goes to Off from any state. -/
def relayPowerOff (d : Nat) (s : State) : State := setRelay d .off s

/-! ### Which path a frame takes (R332, R334) -/

/-- The relay state that decides about a frame with this SOF; none when it goes to the fabric. -/
def relayPath (s : State) (d sof : Nat) : Option RelayState :=
  let r := (s.shore d).relay
  match r.state with
  | .off => none
  | .early => some .early
  | .limp => if r.limpAt ≤ sof then some .limp else none
  | .run =>
    if r.runAt ≤ sof then none
    else match r.prev with
      | .early => some .early
      | .limp => if r.limpAt ≤ sof then some .limp else none
      | _ => none

/-- A channel takes part in relaying: transceiver in Normal, live MODE 0x1 (R335). -/
def relayPart (s : State) (n : Nat) : Bool := s.enabled (cxWin n) && cxMode s n == 1 && (s.tr n).state == 1

/-- A count of R332 or R333 increased (R341). -/
def relayDrop (d r : Nat) (s : State) : State := (s.count (srlWin d) r).raise0 (srlWin d) 3

/-- The tag of a frame received by CX[n] (R284). -/
def rxTag (n cls sof : Nat) (f : CanFrame) : Tag :=
  let t := ((Tag.fresh f.fmt n sof).setCls cls).setLength f.data.length
  { t with
    w7 := BitVec.ofNat 32 (b2n f.ide * 2 ^ 31 + b2n f.rtr * 2 ^ 30 + (if f.fmt = 1 then 2 ^ 29 else 0) + f.id % 2 ^ 29)
    w8 := BitVec.ofNat 32 (
      if f.fmt = 2 then 2 ^ 31 + b2n f.sec * 2 ^ 28 + f.sdt % 256 * 2 ^ 20 + f.vcid % 256 * 2 ^ 12
      else b2n f.brs * 2 ^ 30 + b2n f.esi * 2 ^ 29 + f.dlc % 16 * 2 ^ 8)
    w9 := if f.fmt = 2 then f.af else 0 }

/-- Queue a relay frame for channel `n` of shore `d` (R333). -/
def relayPush (d n : Nat) (f : Frame) (sof : Nat) (s : State) : State :=
  if !relayPart s n then s
  else if 16 ≤ (s.cxs n).relayQ.length then relayDrop d SRL_QDROP s
  else s.modCx n fun x => { x with relayQ := x.relayQ ++ [(f, sof)] }

/-- Queue a relay frame for the channels of `dest` on shore `d`. -/
def relayQueue (d dest : Nat) (f : Frame) (sof : Nat) (s : State) : State :=
  ((List.range 24).filter fun n => bit dest n && shoreOf n == d).foldl (fun s n => relayPush d n f sof s) s

def relayEntry (s : State) (d e : Nat) : RelayEntry := kvGet RelayEntry.zero (s.shore d).relay.entries e
def setRelayEntry (d e : Nat) (x : RelayEntry) (s : State) : State :=
  s.modRelay d fun r => { r with entries := kvSet RelayEntry.zero r.entries e x }

/-- An entry matches a frame of channel `n` in relay state `r` (R332). -/
def entryMatches (x : RelayEntry) (n : Nat) (r : RelayState) (f : CanFrame) : Bool :=
  wf x.e0 31 31 == 1 && wf x.e2 28 24 == n && (wf x.e0 30 30 == 1) == f.ide
    && ((wf x.e0 28 0 ^^^ f.id) &&& wf x.e1 28 0) == 0
    && (if r == .early then wf x.e1 31 31 == 1 else wf x.e1 30 30 == 1)

/-- Queue the copies of a matched frame on this shore and across the shore-to-shore link. -/
def relayForward (d dest : Nat) (f : CanFrame) (n sof : Nat) (s : State) : State :=
  let fr : Frame := ⟨rxTag n 0 sof f, f.data⟩
  let s := relayQueue d dest fr sof s
  if !(List.range 24).any (fun k => bit dest k && shoreOf k != d) then s
  else if !s.s2s then s.count (srlWin d) SRL_S2S_DROP
  else s.modRelay d fun r => { r with crossing := r.crossing ++ [(dest, f, sof)] }

/-- A frame received without error on channel `n` of shore `d`, on the relay path in state `r` (R332). Entries in `bad` are
uncorrectable: they never match and raise ECC_UNCORR (R336). -/
def relayFrame (d n : Nat) (r : RelayState) (f : CanFrame) (sof : Nat) (bad : List BadEntry) (s : State) : State :=
  if f.fmt = 2 ∨ !relayPart s n then s
  else
    let s := bad.foldl (fun s b =>
      match b with
      | .relay e => if e < 256 then s.raise (srlWin d) 5 (locCode (dieOf (srlWin d)) (srlWin d) 0 e 0x3F) else s
      | _ => s) s
    match (s.shore d).relay.entries.find? fun e => !bad.contains (.relay e.1) && entryMatches e.2 n r f with
    | none => s
    | some (e, x) =>
      if x.last.any fun l => decide (sof < l + wf x.e3 15 0 * 100000) then
        relayDrop d SRL_GAP_DROP (setRelayEntry d e { x with gap := satAdd 32 x.gap 1 } s)
      else
        let s := setRelayEntry d e { x with last := some sof, fwd := satAdd 32 x.fwd 1 } s
        relayForward d (putBit (wf x.e2 23 0) n false) f n sof (s.count (srlWin d) SRL_FWD)

/-- A relay frame arrives from the partner shore (R333): accepted in every state except Off. -/
def doRelayS2sRx (d : Nat) (s : State) : State :=
  match (s.shore (1 - d)).relay.crossing with
  | [] => s
  | (dest, f, sof) :: rest =>
    let s := s.modRelay (1 - d) fun r => { r with crossing := rest }
    let s := s.count (srlWin d) SRL_S2S_RX
    if (s.shore d).relay.state == .off then s else relayQueue d dest ⟨rxTag 0xFF 0 sof f, f.data⟩ sof s

/-! ### The shore-to-shore link (R307) -/

/-- S2S_DOWN holds in a shore that runs while the link is down. -/
def noteS2sOf (d : Nat) (s : State) : State :=
  if shoreRuns s d then s.level (srlWin d) 4 (locSelf (srlWin d)) (!s.s2s) else s
def noteS2s (s : State) : State := noteS2sOf 1 (noteS2sOf 0 s)

/-- Frames that wait for a link that is down are dropped and counted. -/
def dropCrossing (d : Nat) (s : State) : State :=
  let k := (s.shore d).relay.crossing.length
  (s.countBy (srlWin d) SRL_S2S_DROP k).modRelay d fun r => { r with crossing := [] }

/-- The link goes down; `lane` says that a lane failed, which SHB reports with DIE 0x3 (R341). -/
def doS2sDown (lane : Bool) (s : State) : State :=
  let s := if lane then s.raise (shbWin 0) 6 (locCode 3 (shbWin 0) 0x3F 0xFF 0x3F) else s
  noteS2s (dropCrossing 1 (dropCrossing 0 { s with s2s := false }))

/-! ### Relay commands (R336) -/

def srlDone (d st : Nat) (s : State) : State := s.setReg (srlWin d) SRL_ESTAT st

/-- SRL_ECMD: WRITE, READ, CLEAR of an entry; a reserved OP returns BAD_VALUE. -/
def doSrlEcmd (d data : Nat) (bad : List BadEntry) (s : State) : State :=
  let w := srlWin d
  let e := bits data 7 0
  let x := relayEntry s d e
  let dw := fun k => s.reg w (SRL_EDATA + 4 * k)
  match bits data 15 14 with
  | 1 =>
    let src := bits (dw 2) 28 24
    if bit (dw 0) 29 || bit (dw 1) 29 || bits (dw 2) 31 29 != 0 || bits (dw 3) 31 16 != 0
        || decide (23 < src) || shoreOf src != d then srlDone d 2 s
    else
      let wd := fun k => BitVec.ofNat 32 (dw k)
      srlDone d 0 (setRelayEntry d e { x with e0 := wd 0, e1 := wd 1, e2 := wd 2, e3 := wd 3, last := none } s)
  | 2 =>
    if bad.contains (.relay e) then
      srlDone d 5 (s.raise w 5 (locCode (dieOf w) w 0 e 0x3F))
    else
      let vs := [x.e0.toNat, x.e1.toNat, x.e2.toNat, x.e3.toNat, x.fwd, x.gap]
      srlDone d 0 ((List.range 6).foldl (fun s k => s.setReg w (SRL_EDATA + 4 * k) (vs[k]?.getD 0)) s)
  | 3 => srlDone d 0 (setRelayEntry d e { x with fwd := 0, gap := 0 } s)
  | _ => srlDone d 2 s

/-- SRL clears every entry's spacing history at the first alignment (R376). -/
def forgetSpacing (d : Nat) (s : State) : State :=
  s.modRelay d fun r => { r with entries :=
    (r.entries.map fun e => (e.1, { e.2 with last := none })).filter (fun e => e.2 != RelayEntry.zero) }

/-! ### Registers -/

def relayCode : RelayState → Nat
  | .off => 0 | .early => 1 | .run => 2 | .limp => 3

/-- SRL_STATE. -/
def srlState (s : State) (d : Nat) : Nat := b2n s.s2s * 256 + relayCode (s.shore d).relay.state

/-- The strobe check of SRL (R336). -/
def srlCheck (s : State) (d : Nat) : Nat :=
  let c := s.shadow (srlWin d) SRL_CFG
  if bit c 30 && bits c 23 16 == 0 then 1 else 0

end Sys2Proof.Machine
end

