-- ==== Sys2Proof/Machine/Can.lean ====
section
/-! DEFINITION. The CAN controllers (11_can_controllers.md): modes and bit timing, reception, transmission, cancel, transmit
events, errors and bus-off, automatic rate detection, reference messages. -/
namespace Sys2Proof.Machine
open Reg

/-! ### Levels, counts, events -/

/-- BUSOFF, ERR_PASSIVE and ERR_WARNING are levels (R296, R297); error passive begins above 127. -/
def cxPassive (x : Cx) : Bool := !x.busoff && (decide (127 < x.txErr) || decide (127 < x.rxErr))
def cxWarn (x : Cx) : Bool := decide (96 ≤ x.txErr) || decide (96 ≤ x.rxErr)
def noteCx (n : Nat) (s : State) : State :=
  let w := cxWin n
  let x := s.cxs n
  let l := locSelf w
  ((s.level w 2 l x.busoff).level w 3 l (cxPassive x)).level w 4 l (cxWarn x)

/-- Post a transmit event (R295). -/
def pushEvent (n : Nat) (e : TxEvent) (s : State) : State :=
  if 32 ≤ (s.cxs n).events.length then
    (s.modCx n fun x => { x with lost := satAdd 16 x.lost 1 }).raise0 (cxWin n) 12
  else s.modCx n fun x => { x with events := x.events ++ [e] }

/-- The outcome of a slot (R294): 0x2, 0x3 and 0x4 always, others where the class has EVT 1; relay and reference frames post
none (R301, R333). -/
def slotOutcome (n : Nat) (x : CxSlot) (out eofd : Nat) (s : State) : State :=
  match x.src with
  | .cls c =>
    if (2 ≤ out ∧ out ≤ 4) ∨ s.flag (cxWin n) (CX_TXCLASS + 4 * c) 31 then
      pushEvent n ⟨out, x.idx, c, wf x.frame.tag.w11 15 0, x.frame.tag.w7, x.sof, eofd⟩ s
    else s
  | _ => s

/-- Free a slot. -/
def freeSlot (n : Nat) (x : CxSlot) (s : State) : State :=
  s.modCx n fun c => { c with slots := delFirst (· == x) c.slots }

/-- Change a slot. -/
def modSlot (n : Nat) (x : CxSlot) (f : CxSlot → CxSlot) (s : State) : State :=
  s.modCx n fun c => { c with slots := updFirst (· == x) f c.slots }

/-- A reference slot (R301). -/
def refSlot (x : CxSlot) : Bool := x.src == .sync || x.src == .followUp

/-- The round ends as missed (R301): its waiting frame is removed, one that is on the bus is not retried. -/
def refMissed (n : Nat) (s : State) : State :=
  let s := (s.count (cxWin n) CX_REF_MISSED).raise0 (cxWin n) 11
  s.modCx n fun c => { c with
    refStep := 0
    slots := (c.slots.filter fun x => !(refSlot x && !x.committed)).map
      (fun x => if refSlot x then { x with orphan := true } else x) }

/-- Every frame in a transmit slot is discarded (R277); one committed already ends as the bus decides. -/
def dropSlots (n : Nat) (s : State) : State :=
  let s := if (s.cxs n).refStep ≠ 0 then refMissed n s else s
  let s := ((s.cxs n).slots.filter fun x => !x.committed && !refSlot x).foldl (fun s x =>
    slotOutcome n x 6 0 ((freeSlot n x s).count (cxWin n) CX_TX_FLUSHED)) s
  s.modCx n fun c => { c with slots := c.slots.map fun x => { x with orphan := true } }

/-- Bring the slots and the port in line with the channel (R277). -/
def cxSettle (n : Nat) (s : State) : State := syncPort n (if cxDown s n then dropSlots n s else s)

/-! ### Modes (R274, R275) -/

/-- The error counters stand still in listen-only, restricted and auto-rate mode (R274). -/
def countersRun (mode : Nat) : Bool := mode == 1 || mode == 5

/-- Automatic rate detection starts with candidate 0 (R282). -/
def abrStart (n : Nat) (s : State) : State :=
  s.modCx n fun x => { x with
    abrCand := some 0, abrGood := 0, abrPasses := 0, abrLocked := false, abrLockCand := 0, abrFailed := false }

/-- A move out of mode 0x0: TEC and REC clear, and the controller waits for 11 recessive bits (R275). -/
def cxJoin (n : Nat) (s : State) : State :=
  noteCx n (s.modCx n fun x => { x with txErr := 0, rxErr := 0, integrating := true, claim := none, rxActive := false })

/-- The live MODE has changed from `m0` by an apply (R275, R294, R299). -/
def cxModeChanged (n m0 : Nat) (s : State) : State :=
  let m := cxMode s n
  if m = m0 then s
  else
    let s := s.modCx n fun x => { x with burstStart := none }
    let s := if m0 = 0 then cxJoin n s else s
    let s := if m = 4 then abrStart n s else s.modCx n fun x => { x with abrCand := none }
    let s := if m = 2 ∨ m = 3 then dropSlots n s else s
    cxSettle n s

/-- BLK_CTRL.EN of a CX changed: a reception in progress ends with its claim; to 1 with a live MODE other than 0x0 acts as a move
out of mode 0x0 (R275). -/
def cxEnabled (n : Nat) (on : Bool) (s : State) : State :=
  let s := s.modCx n fun x => { x with claim := none, rxActive := false }
  let s := if on ∧ cxMode s n ≠ 0 then cxJoin n s else s
  let s := if on ∧ cxMode s n = 4 then abrStart n s else s
  cxSettle n s

/-- INTEGRATION_DONE: 11 recessive bits have passed. -/
def doIntegrationDone (n : Nat) (s : State) : State := s.modCx n fun x => { x with integrating := false }

/-! ### Bit timing (R278–R281) -/

def btBrp (v : Nat) : Nat := bits v 29 24
def btSeg1 (v : Nat) : Nat := bits v 23 16
def btSeg2 (v : Nat) : Nat := bits v 15 8
def btSjw (v : Nat) : Nat := bits v 7 0
/-- The bit time in ticks (R278). -/
def btTicks (v : Nat) : Nat := btBrp v * (1 + btSeg1 v + btSeg2 v)

/-- A set of bit timing within its ranges (R279). -/
def btOk (v lo1 hi1 hi2 least : Nat) : Bool :=
  decide (1 ≤ btBrp v) && decide (btBrp v ≤ 32) && decide (lo1 ≤ btSeg1 v) && decide (btSeg1 v ≤ hi1)
    && decide (1 ≤ btSeg2 v) && decide (btSeg2 v ≤ hi2) && btSjw v != 0 && decide (least ≤ btTicks v)

/-- The strobe check of a CX (R279–R281). -/
def cxCheck (s : State) (n : Nat) : Nat :=
  let w := cxWin n
  let sh := fun o => s.shadow w o
  let md := sh CX_MODE
  let m := bits md 2 0
  let fd := bit md 9
  let xl := bit md 10
  let pwm := bit md 11
  let nbt := sh CX_NBT
  let dbt := sh CX_DBT
  let xbt := sh CX_XBT
  let on := m != 0
  let cnt := bits (sh CX_ABR_CFG) 20 16
  let sjwBad := fun v => decide (btSeg1 v < btSjw v) || decide (btSeg2 v < btSjw v)
  let moved := fun o => sh o != s.reg w o
  let tdcFast := fun t v => bit t 31 && decide (2 < btBrp v)
  let tdcOff := fun t v => !bit t 31 && decide (btTicks v < 40)
  let pw := sh CX_PWM
  if (on && !btOk nbt 2 255 128 80) || (on && fd && !btOk dbt 1 63 31 10)
      || (on && xl && !btOk xbt 1 63 31 (if pwm then 4 else 10))
      || decide (6 ≤ m) || (pwm && decide (n < 24)) || (m == 4 && (cnt == 0 || decide (16 < cnt))) then 1
  else if (on && sjwBad nbt) || (on && fd && (sjwBad dbt || decide (btTicks nbt < btTicks dbt)))
      || (on && xl && (sjwBad xbt || decide (btTicks nbt < btTicks xbt)))
      || (on && cxMode s n != 0 && (moved CX_NBT || moved CX_DBT || moved CX_XBT || moved CX_TDC || moved CX_XTDC
            || moved CX_PWM || bit md 11 != s.flag w CX_MODE 11))
      || tdcFast (sh CX_TDC) dbt || tdcFast (sh CX_XTDC) xbt
      || (on && fd && tdcOff (sh CX_TDC) dbt) || (on && xl && tdcOff (sh CX_XTDC) xbt)
      || (pwm && (bits pw 7 0 == 0 || bits pw 15 8 == 0 || bits pw 7 0 + bits pw 15 8 != btTicks xbt
            || decide (bits pw 7 0 + bits pw 15 8 ≤ bits pw 23 16))) then 2
  else 0

/-! ### Frames on the bus (R286) -/

/-- The frame that the controller sends for a tag and its payload; it sends its own error state as ESI, which a classical frame
does not have. -/
def busFrame (s : State) (n : Nat) (f : Frame) : CanFrame :=
  let t := f.tag
  let w := cxWin n
  let len := f.payload.length
  let esi := cxPassive (s.cxs n)
  let ide := wf t.w7 31 31 == 1
  let id := if ide then wf t.w7 28 0 else wf t.w7 10 0
  let fdf := t.kind == 1 || ((t.kind == 4 || t.kind == 5) && wf t.w7 29 29 == 1)
  if t.kind = 2 then
    ⟨2, false, wf t.w7 30 30 == 1, wf t.w7 10 0, false, esi, 0, wf t.w8 28 28 == 1, wf t.w8 27 20, wf t.w8 19 12, t.w9, f.payload⟩
  else if fdf then
    let dlc := dlcOf len
    let brs := if t.kind = 1 then wf t.w8 30 30 == 1 else s.flag w CX_TXCFG 8
    let pad := List.replicate (fdLen dlc - len) (BitVec.ofNat 8 (s.fld w CX_TXCFG 7 0))
    ⟨1, ide, false, id, brs, esi, dlc, false, 0, 0, 0, f.payload ++ pad⟩
  else
    let rtr := wf t.w7 30 30 == 1
    let dlc := if t.kind = 0 ∧ (rtr ∨ (len = 8 ∧ 8 ≤ wf t.w8 11 8)) then wf t.w8 11 8 else len
    ⟨0, ide, rtr, id, false, false, dlc, false, 0, 0, 0, f.payload⟩

/-- The arbitration field as a number whose lower value wins: base or priority identifier, RTR/RRS or SRR, IDE, then the
extended identifier with RTR/RRS, and the format bits FDF and XLF (ISO 11898-1). -/
def arbKey (f : CanFrame) : Nat :=
  let fmt := (if f.fmt = 0 then 0 else 2) + (if f.fmt = 2 then 1 else 0)
  if f.ide then (f.id >>> 18) * 2 ^ 23 + 2 ^ 22 + 2 ^ 21 + f.id % 2 ^ 18 * 2 ^ 3 + b2n f.rtr * 4 + fmt
  else f.id % 2 ^ 11 * 2 ^ 23 + b2n f.rtr * 2 ^ 22 + fmt * 2 ^ 19

/-! ### Slot load (R276, R287, R288, R290, R333) -/

/-- The device time minus TIMESTAMP exceeds the class's AGE_MS (R290). -/
def agedClass (s : State) (n c : Nat) (t : Tag) : Bool :=
  let ms := s.fld (cxWin n) (CX_TXCLASS + 4 * c) 15 0
  ms != 0 && decide (t.timestamp + ms * 1000000 < s.now)

/-- The shore time minus the frame's SOF exceeds SRL_CFG.AGE_MS (R333). -/
def agedRelay (s : State) (n sof : Nat) : Bool :=
  let ms := s.fld (srlWin (shoreOf n)) SRL_CFG 7 0
  ms != 0 && decide (sof + ms * 1000000 < s.shoreNow (shoreOf n))

def slotAged (s : State) (n : Nat) (x : CxSlot) : Bool :=
  match x.src with
  | .cls c => agedClass s n c x.frame.tag
  | .relay sof => agedRelay s n sof
  | _ => false

/-- A frame that the channel cannot send (R287). -/
def badFormat (s : State) (n : Nat) (f : Frame) : Bool :=
  let t := f.tag
  let w := cxWin n
  let len := f.payload.length
  let fdf := t.kind == 1 || ((t.kind == 4 || t.kind == 5) && wf t.w7 29 29 == 1)
  t.kind == 3 || decide (6 ≤ t.kind)
    || (fdf && !s.flag w CX_MODE 9) || (t.kind == 2 && !s.flag w CX_MODE 10)
    || (if t.kind = 2 then decide (2048 < len) || len == 0 else if fdf then decide (64 < len) else decide (8 < len))
    || (t.kind != 1 && t.kind != 2 && !fdf && wf t.w7 30 30 == 1 && len != 0)

/-- The highest class of channel `n` whose queue head can be read out and that satisfies `p`. -/
def headClass (s : State) (n : Nat) (p : Nat → Bool) : Option Nat :=
  ([7, 6, 5, 4, 3, 2, 1, 0] : List Nat).find? fun c => (s.headOf (8 * n + c)).isSome && p c

/-- Count an aged frame (R290). -/
def ageOut (n : Nat) (s : State) : State := (s.count (cxWin n) CX_TX_AGED).raise0 (cxWin n) 7

def newSlot (idx : Nat) (src : SlotSrc) (f : Frame) : CxSlot := ⟨idx, src, f, 0, false, false, false⟩

def addSlot (n : Nat) (x : CxSlot) (s : State) : State := s.modCx n fun c => { c with slots := c.slots ++ [x] }

/-- A relay frame loads before any class queue, up to 8 slots (R333). -/
def loadRelay (n slot : Nat) (s : State) : State :=
  match (s.cxs n).relayQ with
  | [] => s
  | (f, sof) :: rest =>
    let s := s.modCx n fun x => { x with relayQ := rest }
    if f.tag.kind = 1 ∧ !s.flag (cxWin n) CX_MODE 9 then relayDrop (shoreOf n) SRL_FMT_DROP s
    else if agedRelay s n sof then ageOut n s
    else addSlot n (newSlot slot (.relay sof) f) s

/-- The head frame of class `c` leaves the Pond and is checked as it is loaded (R287, R288, R290). -/
def loadClass (n slot c : Nat) (s : State) : State :=
  match s.headOf (8 * n + c) with
  | none => s
  | some (f, cp) =>
    let fr := frameOf f cp
    let s := dropCopy f.fid n s
    let x := newSlot slot (.cls c) fr
    if badFormat s n fr then slotOutcome n x 7 0 (s.count (cxWin n) CX_TX_BADFMT)
    else if agedClass s n c fr.tag then slotOutcome n x 5 0 (ageOut n s)
    else addSlot n x s

/-- SLOT_LOAD: free slot `slot` is filled; in listen-only and restricted mode a head frame is discarded instead (R276). -/
def doSlotLoad (n slot : Nat) (s : State) : State :=
  let x := s.cxs n
  if !s.enabled (cxWin n) then s
  else
    let m := cxMode s n
    if m = 2 ∨ m = 3 ∨ m = 4 then
      match headClass s n fun _ => true with
      | none => s
      | some c =>
        match s.headOf (8 * n + c) with
        | none => s
        | some (f, _) => dropCopy f.fid n (s.count (cxWin n) CX_TX_SUPPRESSED)
    else if cxDown s n || decide (64 ≤ slot) || x.slots.any (·.idx == slot) then s
    else
      let relays := x.slots.countP fun y => match y.src with | .relay _ => true | _ => false
      if decide (n < 24) && relayPart s n && !x.relayQ.isEmpty && decide (relays < 8) then loadRelay n slot s
      else
        let used := fun c => x.slots.countP fun y => y.src == .cls c
        match headClass s n fun c => decide (used c < s.fld (cxWin n) (CX_TXCLASS + 4 * c) 22 16) with
        | none => s
        | some c => loadClass n slot c s

/-! ### Ingress buffer (R285) -/

/-- Cells that the channel holds for frames not yet in the Pond. -/
def ingressHeld (s : State) (n : Nat) : Nat :=
  ((s.pond.arrivals.filter fun a => a.origin == .port n).map fun a => cellsOf a.payload.length).sum
    + ((s.pond.frames.filter fun f => f.origin == .port n).map fun f => cellsOf f.payload.length - f.charges.length).sum

/-- Claim the cells of a frame of `len` bytes: none when too few are free. -/
def claimCells (s : State) (n len : Nat) : Option Nat :=
  if ingressHeld s n + cellsOf len ≤ 192 then some (cellsOf len) else none

/-- The relay path decides about frames of shore channels; it uses no ingress cells. -/
def pathOf (s : State) (n sof : Nat) : Option RelayState := if n < 24 then relayPath s (shoreOf n) sof else none

/-- A controller takes part in reception. -/
def receives (s : State) (n : Nat) : Bool :=
  let x := s.cxs n
  let m := cxMode s n
  s.enabled (cxWin n) && !x.busoff && !x.integrating && rxOn s n && (decide (1 ≤ m) && decide (m ≤ 4))
    && (m != 4 || x.abrCand.isSome)

/-- The slot whose frame the controller drives. -/
def onBus (s : State) (n : Nat) : Option CxSlot := (s.cxs n).slots.find? (·.committed)

/-- The controller receives the frame that it sends: loopback (R274). -/
def loops (s : State) (n : Nat) : Bool := s.enabled (cxWin n) && cxMode s n == 5 && (onBus s n).isSome

/-- RX_CLAIM: a frame's length field is received; with too few cells free it will be discarded (R285). -/
def doRxClaim (n len sof : Nat) (s : State) : State :=
  if !(receives s n || loops s n) || !(s.cxs n).claim.isNone then s
  else if !loops s n && (pathOf s n sof).isSome then s.modCx n fun x => { x with rxActive := true }
  else
    let c := claimCells s n len
    let s := s.modCx n fun x => { x with rxActive := true, claim := some c }
    if c.isNone then (s.count (cxWin n) CX_RX_OVF).raise0 (cxWin n) 6 else s

/-! ### Automatic rate detection (R282, R283) -/

/-- The candidate fails: the next one is tried, or the list has failed. -/
def abrNext (n : Nat) (s : State) : State :=
  let w := cxWin n
  match (s.cxs n).abrCand with
  | none => s
  | some k =>
    if cxMode s n ≠ 4 then s
    else if k + 1 < s.fld w CX_ABR_CFG 20 16 then s.modCx n fun x => { x with abrCand := some (k + 1), abrGood := 0 }
    else
      let s := s.raise0 w 9
      let rep := s.flag w CX_ABR_CFG 31
      s.modCx n fun x => { x with
        abrFailed := true, abrGood := 0, abrCand := if rep then some 0 else none
        abrPasses := if rep then (x.abrPasses + 1) % 256 else x.abrPasses }

/-- ABR_DWELL: DWELL_MS pass without a lock (R282). -/
def doAbrDwell (n : Nat) (s : State) : State :=
  if s.enabled (cxWin n) && s.fld (cxWin n) CX_ABR_CFG 15 0 != 0 then abrNext n s else s

/-- The candidate locks (R283). -/
def abrLock (n k : Nat) (s : State) : State :=
  let w := cxWin n
  let cp := fun (s : State) (i o : Nat) =>
    let v := s.reg w (CX_ABR_CAND + 16 * k + 4 * i)
    (s.setReg w o v).setShadow w o v
  let s := cp (cp (cp s 0 CX_NBT) 1 CX_DBT) 2 CX_XBT
  let m := if s.flag w CX_ABR_CFG 30 then 1 else 2
  let s := (s.setFld w CX_MODE 2 0 m).setShadow w CX_MODE (putBits (s.shadow w CX_MODE) 2 0 m)
  let s := s.modCx n fun x => { x with abrLocked := true, abrLockCand := k, abrCand := none, abrGood := 0, burstStart := none }
  cxSettle n (s.raise0 w 8)

/-- A frame without error in auto-rate mode: counted, not forwarded; the second in a row locks. -/
def abrGoodFrame (n : Nat) (s : State) : State :=
  let s := s.count (cxWin n) CX_ABR_FRAMES
  match (s.cxs n).abrCand with
  | none => s
  | some k =>
    let g := (s.cxs n).abrGood + 1
    if 2 ≤ g then abrLock n k s else s.modCx n fun x => { x with abrGood := g }

/-! ### Errors (R296–R299) -/

/-- A slot's frame met an error or lost arbitration (R277, R290–R292). -/
def attemptFailed (n : Nat) (x : CxSlot) (s : State) : State :=
  let w := cxWin n
  if x.cancelled then slotOutcome n x 4 0 ((freeSlot n x s).count w CX_TX_CANCEL_LATE)
  else if x.orphan ∨ cxDown s n then
    if refSlot x then freeSlot n x s else slotOutcome n x 6 0 ((freeSlot n x s).count w CX_TX_FLUSHED)
  else if slotAged s n x then slotOutcome n x 5 0 (ageOut n (freeSlot n x s))
  else modSlot n x (fun y => { y with committed := false }) s

/-- The device time that channel `n` sees: the shore's own below 24 (R376). -/
def cxNow (s : State) (n : Nat) : Nat := if n < 24 then s.shoreNow (shoreOf n) else s.now

/-- An error counts toward the burst of its window; a burst is reported once per window, and its notice crosses the shore link
(R211, R299). -/
def noteBurst (n : Nat) (s : State) : State :=
  let w := cxWin n
  let cnt := s.fld w CX_EBURST 23 16
  let ns := s.fld w CX_EBURST 15 0 * 1000000
  let x := s.cxs n
  if cnt = 0 ∨ ns = 0 then s
  else
    let start := x.burstStart.getD (cxNow s n)
    let win := (cxNow s n - start) / ns
    let fresh := x.burstStart.isNone || win != x.burstWin
    let errs := (if fresh then 0 else x.burstErrs) + 1
    let done := !fresh && x.burstDone
    let hit := !done && decide (cnt ≤ errs)
    let s := s.modCx n fun x => { x with burstStart := some start, burstWin := win, burstErrs := errs, burstDone := done || hit }
    if hit then
      let s := (s.count w CX_EBURSTS).raise0 w 5
      if n < 24 ∧ !(s.bridge (shoreOf n)).up then s else noticeOffer 0x01 ansNoFrame none n 0xFFFF (locSelf w) s
    else s

/-- The counter of an error type and its LEC code (R296). -/
def errCounter : CanErr → Option (Nat × Nat)
  | .stuff => some (CX_ERR_STUFF, 1)
  | .form => some (CX_ERR_FORM, 2)
  | .ack => some (CX_ERR_ACK, 3)
  | .bit1 => some (CX_ERR_BIT, 4)
  | .bit0 => some (CX_ERR_BIT, 5)
  | .crc => some (CX_ERR_CRC, 6)
  | .exception => none

/-- The controller enters bus-off (R297). -/
def enterBusoff (n : Nat) (s : State) : State :=
  let s := s.modCx n fun x => { x with busoff := true, recovering := false, recovSeq := 0, integrating := false }
  ledgerBusOff n (s.count (cxWin n) CX_BUSOFF_CNT)

/-- A detected error of a type that counts. -/
def busError (n : Nat) (e : CanErrEvent) (r lec : Nat) (s : State) : State :=
  let m := cxMode s n
  let tx := onBus s n
  let s := (s.count (cxWin n) r).modCx n fun x => { x with lec := lec, lecData := e.dataPhase, rxActive := false, claim := none }
  let s := if countersRun m then s.modCx n fun x => { x with txErr := e.txErr % 512, rxErr := e.rxErr % 256 } else s
  let s := if countersRun m ∧ 255 < e.txErr % 512 then enterBusoff n s else s
  let s := noteBurst n (noteCx n s)
  let s := match tx with
    | some x => attemptFailed n x s
    | none => s
  cxSettle n (abrNext n s)

/-- A protocol exception event: the controller waits for 11 recessive bits (R296). -/
def protException (n : Nat) (s : State) : State :=
  let s := (s.count (cxWin n) CX_PEX).raise0 (cxWin n) 10
  abrNext n (s.modCx n fun x => { x with integrating := true, rxActive := false, claim := none })

/-- CX_BUS_ERROR: with PEX 0 a protocol exception is a form error (R296). -/
def doBusError (n : Nat) (e : CanErrEvent) (s : State) : State :=
  let x := s.cxs n
  if (!s.enabled (cxWin n) && (onBus s n).isNone) || x.busoff || x.integrating || (cxMode s n == 0 && (onBus s n).isNone) then s
  else
    match errCounter e.kind with
    | some (r, lec) => busError n e r lec s
    | none => if s.flag (cxWin n) CX_MODE 8 then protException n s else busError n e CX_ERR_FORM 2 s

/-- A frame that became valid leaves error counters no higher than before. -/
def calm (n tec rec : Nat) (s : State) : State :=
  if countersRun (cxMode s n) then
    noteCx n (s.modCx n fun x => { x with txErr := min x.txErr tec, rxErr := min x.rxErr rec })
  else s

/-- RECOVER: starts the recovery while bus-off and none runs (R298). -/
def doRecover (n : Nat) (s : State) : State :=
  let x := s.cxs n
  if x.busoff && !x.recovering then s.modCx n fun x => { x with recovering := true, recovSeq := 0 } else s

/-- RECOVERY_DONE: the 128th occurrence of 11 recessive bits (R298). -/
def doRecoveryDone (n : Nat) (s : State) : State :=
  if !(s.cxs n).recovering then s
  else
    let s := s.modCx n fun x => { x with
      busoff := false, recovering := false, recovSeq := 128, txErr := 0, rxErr := 0 }
    cxSettle n (noteCx n s)

/-! ### Reception (R284) -/

/-- The frame enters the fabric. -/
def forwardRx (n : Nat) (f : CanFrame) (sof eof : Nat) (s : State) : State :=
  let w := cxWin n
  let s := (s.count64 w CX_RX_LO).setReg64 w CX_RXEOF_LO eof
  offerFrame (fpOf n) ⟨rxTag n (s.fld w CX_RXCFG 2 0) sof f, f.data⟩ true (.port n) s

/-- A received frame with its claim: forwarded, or discarded for want of cells (R285). -/
def takeRx (n : Nat) (f : CanFrame) (sof eof : Nat) (s : State) : State :=
  let cl := (s.cxs n).claim
  let got := match cl with
    | some c => c.isSome
    | none => (claimCells s n f.data.length).isSome
  let s := s.modCx n fun x => { x with claim := none, rxActive := false }
  let s := if cl.isNone && !got then (s.count (cxWin n) CX_RX_OVF).raise0 (cxWin n) 6 else s
  if got then forwardRx n f sof eof s else s

/-- CX_RX_FRAME: a frame received without error. A format that the channel has disabled is a protocol exception or a form
error (R296); `err` carries the counters that such an error leaves. -/
def doCxRx (n : Nat) (f : CanFrame) (sof eof tec rec : Nat) (bad : List BadEntry) (s : State) : State :=
  let w := cxWin n
  if !receives s n then s
  else if (f.fmt = 1 ∧ !s.flag w CX_MODE 9) ∨ (f.fmt = 2 ∧ !s.flag w CX_MODE 10) then
    doBusError n ⟨.exception, false, tec, rec⟩ s
  else
    let path := pathOf s n sof
    let s := calm n tec rec s
    if cxMode s n = 4 then abrGoodFrame n (s.modCx n fun x => { x with claim := none, rxActive := false })
    else
      match path with
      | some r => relayFrame (shoreOf n) n r f sof bad (s.modCx n fun x => { x with claim := none, rxActive := false })
      | none => takeRx n f sof eof s

/-! ### Transmission (R289–R291) -/

/-- The ready slot that would win arbitration; ties go in slot order (R289). -/
def bestSlot (s : State) (n : Nat) : Option CxSlot :=
  (s.cxs n).slots.foldl (fun b x =>
    match b with
    | none => some x
    | some y =>
      let kx := arbKey (busFrame s n x.frame)
      let ky := arbKey (busFrame s n y.frame)
      if kx < ky ∨ (kx = ky ∧ x.idx < y.idx) then some x else b) none

/-- TDC applies to the data phase of this frame (R280). -/
def tdcOn (s : State) (n : Nat) (f : CanFrame) : Bool :=
  (f.fmt == 1 && s.flag (cxWin n) CX_TDC 31) || (f.fmt == 2 && s.flag (cxWin n) CX_XTDC 31)

/-- The channel's frames reach its bus: the transmitter of a shore channel is on (R313, R316, R325); loopback is internal. -/
def drives (s : State) (n : Nat) : Bool := decide (24 ≤ n) || cxMode s n == 5 || txOn s n

/-- TRANSMISSION_POINT: the selected slot is committed at SOF (R289). `delayErr` gives the bit error of a measured loop delay above
127 ticks (R280). -/
def doTransmissionPoint (n sof : Nat) (delayErr : Option CanErrEvent) (s : State) : State :=
  let x := s.cxs n
  let m := cxMode s n
  if !s.enabled (cxWin n) || x.busoff || x.integrating || !(m == 1 || m == 5) || !drives s n || (onBus s n).isSome then s
  else
    match bestSlot s n with
    | none => s
    | some b =>
      let s := modSlot n b (fun y => { y with committed := true, sof := sof }) s
      match delayErr with
      | none => s
      | some e =>
        if tdcOn s n (busFrame s n b.frame) then
          let e := if e.kind == .bit1 then e else { e with kind := .bit0 }
          doBusError n e (s.raise0 (cxWin n) 13)
        else s

/-- The SYNC frame of a round and its follow-up (R301). -/
def refFrame (s : State) (n id : Nat) (data : List Byte) : Frame :=
  let t := (Tag.fresh 0 n s.now).setLength data.length
  ⟨{ t with
      w7 := BitVec.ofNat 32 (b2n (s.flag (cxWin n) CX_REF 30) * 2 ^ 31 + id % 2 ^ 29)
      w8 := BitVec.ofNat 32 (data.length * 2 ^ 8) }, data⟩

/-- A reference trigger starts a round (R301). -/
def refTrigger (n : Nat) (s : State) : State :=
  let w := cxWin n
  if !s.enabled w || !s.flag w CX_REF 31 then s
  else
    let s := if (s.cxs n).refStep ≠ 0 then refMissed n s else s
    if cxMode s n ≠ 1 then (s.count w CX_REF_MISSED).raise0 w 11
    else
      let seq := ((s.cxs n).refSeq + 1) % 256
      let s := s.modCx n fun x => { x with refStep := 1, refSeq := seq }
      addSlot n (newSlot 64 .sync (refFrame s n (s.fld w CX_REF 28 0) [BitVec.ofNat 8 seq])) s

/-- REFERENCE_TRIGGER: a scheduled instant of TMS_REF (R380); a shore issues none while it is not aligned. -/
def doReferenceTrigger (n : Nat) (s : State) : State :=
  match refDue s n with
  | none => s
  | some i =>
    if s.enabled W.TMS && s.flag W.TMS (TMS_REF + 4 * n) 31 && (decide (24 ≤ n) || (s.shore (shoreOf n)).aligned) then
      refTrigger n ((s.countWrap W.TMS TMS_REF_TRIG 1).modTms fun t => { t with refAt := kvSet 0 t.refAt n (i + 1) })
    else s

/-- REF_MISSED: a reference frame is not valid within MAXDELAY_US (R301). -/
def doRefMissed (n : Nat) (s : State) : State := if (s.cxs n).refStep = 0 then s else refMissed n s

/-- A reference frame became valid: the follow-up starts, or the round is complete. -/
def refValid (n : Nat) (x : CxSlot) (s : State) : State :=
  let w := cxWin n
  if x.orphan then s
  else if x.src == .sync then
    let s := (s.setReg64 w CX_REF_SOF_LO x.sof).modCx n fun c => { c with refStep := 2 }
    addSlot n (newSlot 65 .followUp (refFrame s n (s.fld w CX_REF_FUPID 28 0) (beBytes 8 x.sof))) s
  else (s.count w CX_REF_SENT).modCx n fun c => { c with refStep := 0 }

/-- TX_VALID: the frame on the bus became valid, which it cannot with its transmitter off (R277, R292, R294); in loopback mode
the controller receives it (R284). -/
def doTxValid (n eof tec rec : Nat) (s : State) : State :=
  match onBus s n with
  | none => s
  | some x =>
    if !drives s n then s else
    let w := cxWin n
    let s := calm n tec rec s
    let bf := busFrame s n x.frame
    let s := (freeSlot n x s).count64 w CX_TX_LO
    let s :=
      if refSlot x then refValid n x s
      else if x.cancelled then slotOutcome n x 2 (eof - x.sof) (s.count w CX_TX_CANCEL_LATE)
      else slotOutcome n x 1 (eof - x.sof) s
    if cxMode s n = 5 ∧ s.enabled w then takeRx n bf x.sof eof s else s

/-- ARBITRATION_LOST: the frame waits to be sent again, unless it is cancelled, aged or its port is down (R291). -/
def doArbitrationLost (n : Nat) (s : State) : State :=
  match onBus s n with
  | none => s
  | some x =>
    attemptFailed n x ((s.count (cxWin n) CX_ARB_LOST).modCx n fun c => { c with rxActive := true })

/-- A forward step of the device time ages waiting frames at once (R290). -/
def ageAll (s : State) : State :=
  (List.range 32).foldl (fun s n =>
    ((s.cxs n).slots.filter fun x => !x.committed && (match x.src with | .cls c => agedClass s n c x.frame.tag | _ => false)).foldl
      (fun s x => slotOutcome n x 5 0 (ageOut n (freeSlot n x s))) s) s

/-! ### Cancel (R292, R293) -/

/-- A slot is selected by the cancel word. -/
def cancelSelects (s : State) (n data : Nat) (x : CxSlot) : Bool :=
  let w := cxWin n
  decide (x.idx < 64) && (match bits data 31 30 with
    | 1 => x.idx == bits data 5 0
    | 2 => ((x.frame.tag.w7.toNat ^^^ s.reg w CX_TXCANCEL_ID) &&& s.reg w CX_TXCANCEL_MASK &&& 0x9FFFFFFF) == 0
    | 3 => true
    | _ => false)

/-- CX_TXCANCEL: the latch of a cancel. -/
def doCancel (n data : Nat) (s : State) : State :=
  if bits data 31 30 = 0 then s
  else
    let w := cxWin n
    let sel := (s.cxs n).slots.filter (cancelSelects s n data)
    let early := sel.filter fun x => !x.committed
    let s := early.foldl (fun s x => slotOutcome n x 3 0 ((freeSlot n x s).count w CX_TX_CANCELLED)) s
    let late := fun (x : CxSlot) => if x.committed && cancelSelects s n data x then { x with cancelled := true } else x
    let s := s.modCx n fun c => { c with slots := c.slots.map late }
    s.setReg w CX_TXCANCEL_RES (b2n (sel.any (·.committed)) * 2 ^ 16 + early.length)

/-! ### Registers -/

/-- CX_TXEVT_INFO of the oldest event; 0 when the queue is empty (R295). -/
def txEvtInfo (s : State) (n : Nat) : Nat :=
  match (s.cxs n).events with
  | [] => 0
  | e :: _ => 2 ^ 31 + e.outcome % 16 * 2 ^ 27 + e.slot % 128 * 2 ^ 20 + e.cls % 8 * 2 ^ 16 + e.tag % 2 ^ 16

/-- A non-speculative read of CX_TXEVT_INFO removes the oldest event and latches its other words. -/
def doTxEvtPop (n : Nat) (s : State) : Nat × State :=
  let w := cxWin n
  let v := txEvtInfo s n
  match (s.cxs n).events with
  | [] => (v, s)
  | e :: rest =>
    let s := s.modCx n fun x => { x with events := rest }
    let s := s.setReg w CX_TXEVT_ID e.w7.toNat
    let s := (s.setReg64 w CX_TXEVT_SOF_LO e.sof).setReg w CX_TXEVT_EOFD e.eofd
    (v, s)

def doTxEvtClr (n data : Nat) (s : State) : State := if bit data 0 then s.modCx n fun x => { x with lost := 0 } else s

def txEvtStat (s : State) (n : Nat) : Nat := (s.cxs n).lost * 2 ^ 16 + (s.cxs n).events.length

def cxStat (s : State) (n : Nat) : Nat :=
  let x := s.cxs n
  cxMode s n * 2 ^ 16 + b2n (cxDown s n) * 256 + b2n x.busoff * 128 + b2n (cxPassive x) * 64 + b2n (cxWarn x) * 32
    + b2n x.abrLocked * 16 + b2n x.recovering * 8 + b2n x.integrating * 4 + b2n (onBus s n).isSome * 2 + b2n x.rxActive

/-- The sequences that a recovery has counted: while it runs a free value below 128 that never falls, since no command brings one
(R298). -/
def cxRecov (n : Nat) (s : State) : Nat × State :=
  let x := s.cxs n
  if !x.recovering then (x.recovSeq, s)
  else
    let d := s.drawWord
    let v := x.recovSeq + d.1 % (128 - x.recovSeq)
    (v, d.2.modCx n fun x => { x with recovSeq := v })

def cxErrReg (n : Nat) (s : State) : Nat × State :=
  let x := s.cxs n
  let r := cxRecov n s
  (r.1 * 2 ^ 24 + x.rxErr * 2 ^ 16 + x.txErr, r.2)

def cxLastErr (s : State) (n : Nat) : Nat := b2n (s.cxs n).lecData * 8 + (s.cxs n).lec
def cxSlotsReg (s : State) (n : Nat) : Nat := (s.cxs n).slots.countP fun x => decide (x.idx < 64)
def cxAbrStat (s : State) (n : Nat) : Nat :=
  let x := s.cxs n
  b2n x.abrLocked * 2 ^ 31 + b2n x.abrFailed * 2 ^ 30 + x.abrPasses * 2 ^ 16 + x.abrLockCand
def cxRefStat (s : State) (n : Nat) : Nat := (s.cxs n).refStep * 256 + (s.cxs n).refSeq

end Sys2Proof.Machine
end

