-- ==== Sys2Proof/Machine/Wake.lean ====
section
/-! DEFINITION. Springs, wake pins, transceivers, T1S lines, INH outputs and battery monitor of the shores
(12_shore_dies.md). -/
namespace Sys2Proof.Machine
open Reg

/-! ### INH outputs (R324, R398, R400) -/

/-- The level that output `k` of shore `d` is asked to have. -/
def inhWanted (s : State) (d k : Nat) : Bool :=
  let mode := s.fld (spsWin d) SPS_INH (8 * k + 1) (8 * k)
  let h := s.shore d
  if bit h.stbyOff k then false
  else mode == 2 || (mode == 1 && (s.spsEn d || h.releasing))

/-- Bring the outputs in line with what is asked; an output that falls starts its minimum off time. -/
def inhUpdate (d : Nat) (s : State) : State :=
  let h := s.shore d
  let on := fun k => inhWanted s d k && !bit h.inhHold k
  let fell := fun k => bit h.inhOn k && !inhWanted s d k
  s.modShore d fun h => { h with
    inhOn := b2n (on 0) + 2 * b2n (on 1)
    inhHold := h.inhHold ||| (b2n (fell 0) + 2 * b2n (fell 1)) }

/-- INH_MIN_OFF_END: 20 ms off have passed (R400). -/
def doInhMinOffEnd (d k : Nat) (s : State) : State :=
  inhUpdate d (s.modShore d fun h => { h with inhHold := putBit h.inhHold k false })

/-- INH_OC holds while an output is at its current limit (R324). -/
def noteInhOc (d : Nat) (s : State) : State :=
  s.level (spsWin d) 4 (locSelf (spsWin d)) ((s.shore d).inhOc != 0)
def doInhOc (d k : Nat) (on : Bool) (s : State) : State :=
  if 2 ≤ k then s else noteInhOc d (s.modShore d fun h => { h with inhOc := putBit h.inhOc k on })

/-- INH_RELEASE: 2 ms after the clear the FOLLOW outputs are released, unless EN has returned to 1 (R324). -/
def doInhRelease (d : Nat) (s : State) : State :=
  let s := s.modShore d fun h => { h with releasing := false }
  inhUpdate d s

/-! ### Springs (R320, R322) -/

/-- A spring of code `c` wakes: its bit is set in SWK_SPRING_EN; 0x08 and 0x0A always wake. -/
def springWakes (s : State) (d c : Nat) : Bool := c == 8 || c == 10 || s.flag (swkWin d) SWK_SPRING_EN c

/-- What a spring that wakes does (R322, R398). -/
def wakeShore (d c idx : Nat) (s : State) : State :=
  let s := s.setFlag (spsWin d) BLK_CTRL 0 true
  let s :=
    if (s.shore d).reason.isSome then s
    else (s.modShore d fun h => { h with reason := some (c, idx, s.shoreNow d) }).setReg64 (swkWin d) SWK_REASON_T_LO (s.shoreNow d)
  let s := relayWake d s
  let s := if c = 10 then s else s.modShore (1 - d) fun h => { h with partner := true }
  inhUpdate d (s.modShore d fun h => { h with releasing := false, mark := false, stbyOff := 0 })

/-- A spring: SEEN, SPRING, and the wake when its code is enabled (R322). -/
def spring (d c idx : Nat) (s : State) : State :=
  let s := s.modShore d fun h => { h with seen := h.seen ||| 2 ^ c, sprung := true }
  let s := s.raise0 (swkWin d) 2
  if springWakes s d c then wakeShore d c idx s else s

/-- The springs seen that wake: a pending wake (R399). -/
def pendingWake (s : State) (d : Nat) : Option Nat :=
  (List.range 32).find? fun c => bit (s.shore d).seen c && springWakes s d c

/-- WAKE_PIN: pin `k` holds a new level for its filter time (R321). -/
def doWakePin (d k : Nat) (lvl : Bool) (s : State) : State :=
  if 4 ≤ k then s
  else
    let old := bit (s.shore d).pins k
    let s := s.modShore d fun h => { h with pins := putBit h.pins k lvl }
    let cfg := s.reg (swkWin d) (SWK_PIN + 4 * k)
    let edge := bits cfg 29 28
    let hit := old != lvl && ((lvl && (edge == 1 || edge == 3)) || (!lvl && (edge == 2 || edge == 3)))
    if bit cfg 31 && hit then spring d (if bit cfg 30 then 6 else 4) k s else s

/-- SHORE_TIMER: the timer counts while SPS EN is 0 (R323). -/
def doShoreTimer (d : Nat) (s : State) : State :=
  if s.fld (swkWin d) SWK_TIMER 23 0 ≠ 0 ∧ !s.spsEn d then spring d 7 0 s else s

/-- SWK_CMD: CLR, then SOFT_WAKE. -/
def doSwkClr (d : Nat) (s : State) : State := s.modShore d fun h => { h with seen := 0, reason := none }
def doSwkCmd (d data : Nat) (s : State) : State :=
  let s := if bit data 1 then doSwkClr d s else s
  if bit data 0 then spring d 9 0 s else s

/-- PARTNER_WAKE: the partner's wake arrives over the shore-to-shore link (R322). -/
def doPartnerWake (d : Nat) (s : State) : State :=
  if (s.shore d).partner && s.s2s then spring d 10 0 (s.modShore d fun h => { h with partner := false }) else s

/-- SWK_WAKE_REASON. -/
def wakeReason (s : State) (d : Nat) : Nat :=
  match (s.shore d).reason with
  | none => 0
  | some (c, i, _) => 2 ^ 31 + c % 256 * 2 ^ 16 + i % 256

/-- The strobe check of SWK: EDGE of an enabled pin, reserved bits of SPRING_EN. -/
def swkCheck (s : State) (d : Nat) : Nat :=
  let sh := fun o => s.shadow (swkWin d) o
  if (List.range 4).any (fun k => bit (sh (SWK_PIN + 4 * k)) 31 && bits (sh (SWK_PIN + 4 * k)) 29 28 == 0)
      || sh SWK_SPRING_EN &&& 0xFFFFF801 != 0 then 1 else 0

/-! ### SPS (R324–R326, R399) -/

/-- A guarded clear of SPS BLK_CTRL.EN has completed: the relay goes to Off, and the release starts, unless a wake is pending,
which counts as a spring of that instant (R399). -/
def doInhReleaseCommand (d : Nat) (s : State) : State :=
  let s := s.setFlag (spsWin d) BLK_CTRL 0 false
  let s := relayPowerOff d (s.modShore d fun h => { h with sprung := false, releasing := true })
  match pendingWake s d with
  | some c => wakeShore d c 0 (s.modShore d fun h => { h with sprung := true })
  | none => inhUpdate d s

/-- SPS EN is written to 1: no FOLLOW output is released. -/
def spsEnabled (d : Nat) (s : State) : State := inhUpdate d (s.modShore d fun h => { h with releasing := false })

/-- A completed guarded write of SPS_INH; a reserved MODE leaves it unchanged (R326). -/
def doSpsInh (d data : Nat) (s : State) : State :=
  if bits data 1 0 = 3 ∨ bits data 9 8 = 3 then s
  else inhUpdate d (s.setReg (spsWin d) SPS_INH (data &&& 0x303))

/-- VBAT_UV and VBAT_OV are levels (R325). -/
def noteVbat (d : Nat) (s : State) : State :=
  let w := spsWin d
  (s.level w 2 (locSelf w) (s.shore d).uv).level w 3 (locSelf w) (s.shore d).ov

/-- VBAT_SAMPLE of `mv` (R325). -/
def doVbatSample (d mv : Nat) (s : State) : State :=
  let w := spsWin d
  let uvMv := s.fld w SPS_VBAT_CFG 15 0
  let ovMv := s.fld w SPS_VBAT_CFG 31 16
  let hy := s.fld w SPS_VBAT_CFG2 15 0
  let h := s.shore d
  noteVbat d <| s.modShore d fun x => { x with
    vbat := mv % 65536
    vmin := some (min (x.vmin.getD (mv % 65536)) (mv % 65536))
    uv := if h.uv then !decide (uvMv + hy < mv) else decide (mv < uvMv)
    ov := if h.ov then !decide (mv + hy < ovMv) else decide (ovMv < mv) }

/-- SPS_VBAT_CLR. -/
def doVbatClr (d data : Nat) (s : State) : State :=
  if bit data 0 then s.modShore d fun h => { h with vmin := some h.vbat } else s

def vbatReg (s : State) (d : Nat) : Nat := ((s.shore d).vmin.getD 0) * 65536 + (s.shore d).vbat
def inhStat (s : State) (d : Nat) : Nat := (s.shore d).inhOc * 256 + (s.shore d).inhOn

/-- The strobe check of SPS (R326). -/
def spsCheck (s : State) (d : Nat) : Nat :=
  let c := s.shadow (spsWin d) SPS_VBAT_CFG
  if bits c 31 16 ≤ bits c 15 0 + bits (s.shadow (spsWin d) SPS_VBAT_CFG2) 15 0 then 2 else 0

/-- VCC5 of a shore falls below or rises above its thresholds (R532). -/
def doVcc5 (d : Nat) (low : Bool) (s : State) : State := s.modShore d fun h => { h with vcc5Low := low }

/-! ### Transceivers (R313–R319) -/

/-- DEC_ERR returns to 0 when the transceiver leaves Standby (R319). -/
def trxEnter (st : Nat) (x : Trx) : Trx := { x with state := st, decErr := if st = 3 then x.decErr else 0, resume := none }

/-- TRX_STATE_CHANGE: the state follows R314. Toward Standby or Sleep the wake detector arms first; from there to Normal or
Listen-only the change takes time (R315). -/
def doTrxStateChange (n : Nat) (s : State) : State :=
  let c := trxChosen s n
  let x := s.tr n
  if 24 ≤ n ∨ c = x.state then (if 24 ≤ n then s else s.modTr n fun x => { x with resume := none })
  else if (c = 1 ∨ c = 2) ∧ (x.state = 3 ∨ x.state = 4) then s.modTr n fun x => { x with resume := some c }
  else if (c = 3 ∨ c = 4) ∧ (x.state = 1 ∨ x.state = 2) then s.modTr n fun x => { trxEnter c x with armed := true }
  else s.modTr n fun x => { trxEnter c x with armed := if c = 3 ∨ c = 4 then x.armed else false }

/-- TRX_RESUME_DONE: the change to Normal or Listen-only completes (R315). -/
def doTrxResumeDone (n : Nat) (s : State) : State :=
  match (s.tr n).resume with
  | none => s
  | some c => s.modTr n fun x => { trxEnter c x with armed := false }

/-- Wake detection runs in Standby and Sleep, and while ARMED (R315, R317). -/
def wakeArmed (x : Trx) : Bool := x.state == 3 || x.state == 4 || x.armed

/-- A spring of channel `n`, reported to its NM unit. -/
def chanSpring (n c idx : Nat) (s : State) : State := spring (shoreOf n) c idx (reportWake n s)

/-- WAKE_UP_PATTERN (R317). -/
def doWakeUpPattern (n : Nat) (s : State) : State :=
  let w := trxWin n
  if 24 ≤ n ∨ !s.flag w TRX_CFG 8 ∨ !wakeArmed (s.tr n) then s
  else
    let s := s.setFlag w TRX_WAKE 0 true
    let s := s.setFld w TRX_WAKECNT 15 0 (satAdd 16 (s.fld w TRX_WAKECNT 15 0) 1)
    chanSpring n 1 n s

/-- The transceiver decodes frames: SW_EN in Standby (R318). -/
def decodes (s : State) (n : Nat) : Bool := decide (n < 24) && s.flag (trxWin n) TRX_CFG 9 && (s.tr n).state == 3

/-- DECODE_ERROR (R319). -/
def doDecodeError (n : Nat) (s : State) : State :=
  let w := trxWin n
  let old := (s.tr n).decErr
  if !decodes s n ∨ 32 ≤ old then s
  else
    let s := s.modTr n fun x => { x with decErr := old + 1 }
    if old + 1 < 32 then s
    else
      let s := s.setFlag w TRX_WAKE 2 true
      if s.flag w TRX_CFG 10 then chanSpring n 3 n s else s.raise0 w 4

/-- FRAME_DECODED: DEC_ERR falls, unless it holds at 32 (R319). -/
def doFrameDecoded (n : Nat) (s : State) : State :=
  if decodes s n then s.modTr n fun x => { x with decErr := if x.decErr < 32 then x.decErr - 1 else x.decErr } else s

/-- A frame matches filter `k` (R318). -/
def wufMatches (s : State) (n k : Nat) (f : CanFrame) : Bool :=
  let v := fun j => s.reg (trxWin n) (TRX_WUF + 0x30 * k + 4 * j)
  let mask := (List.range 8).map fun b => bits (v (3 + b / 4)) (31 - 8 * (b % 4)) (24 - 8 * (b % 4))
  bit (v 0) 31 && !f.rtr && bit (v 0) 30 == f.ide
    && ((f.id ^^^ bits (v 0) 28 0) &&& bits (v 1) 28 0) == 0
    && (!bit (v 2) 31 || bits (v 2) 3 0 == f.dlc)
    && (!bit (v 2) 30 || (List.range 8).any fun b => (byteAt f.data b &&& (mask[b]?.getD 0)) != 0)

/-- WAKE_UP_FRAME: a frame decoded in Standby; a CAN FD frame is ignored or a decode error by FD_PASSIVE (R318). -/
def doWakeUpFrame (n : Nat) (f : CanFrame) (s : State) : State :=
  let w := trxWin n
  if !decodes s n then s
  else if f.fmt = 1 then (if s.flag w TRX_CFG 11 then s else doDecodeError n s)
  else if f.fmt ≠ 0 then doDecodeError n s
  else
    let s := doFrameDecoded n s
    match (List.range 4).find? fun k => wufMatches s n k f with
    | none => s
    | some k =>
      let s := (s.setFlag w TRX_WAKE 1 true).setFld w TRX_WAKE 5 4 k
      let s := s.setFld w TRX_WAKECNT 31 16 (satAdd 16 (s.fld w TRX_WAKECNT 31 16) 1)
      chanSpring n 2 (4 * n + k) s

/-- TXD_DOM: the transmitter is off until TXD goes recessive (R316). -/
def doTxdDom (n : Nat) (on : Bool) (s : State) : State :=
  if 24 ≤ n then s
  else (s.modTr n fun x => { x with txdDom := on }).level (trxWin n) 2 (locSelf (trxWin n)) on

/-- OVERTEMP: every transmitter of the shore is off while Tj is above the threshold (R316). -/
def doOvertemp (d : Nat) (on : Bool) (s : State) : State :=
  (List.range 12).foldl (fun s k => s.level (trxWin (12 * d + k)) 3 (locSelf (trxWin (12 * d + k))) on)
    (s.modShore d fun h => { h with hot := on })

def trxStat (s : State) (n : Nat) : Nat :=
  let x := s.tr n
  x.decErr * 2 ^ 16 + b2n (s.shore (shoreOf n)).hot * 2 ^ 10 + b2n x.txdDom * 2 ^ 9 + b2n x.armed * 2 ^ 8 + x.state

/-- The strobe check of a TRX. -/
def trxCheck (s : State) (n : Nat) : Nat :=
  let c := s.shadow (trxWin n) TRX_CFG
  if (bits c 6 4 != 3 && bits c 6 4 != 4) || decide (5 ≤ bits c 2 0) then 1
  else if bit c 9 && !bit c 8 then 2 else 0

/-! ### T1S lines (R337–R339) -/

/-- T1S_BUS_ACTIVITY of `us` microseconds on a sleeping segment (R338). -/
def doT1sActivity (k us : Nat) (s : State) : State :=
  let m := s.fld (t1lWin k) T1L_CTRL 15 8
  if k < 8 ∧ t1lState s k = 2 ∧ m ≠ 0 ∧ m ≤ us then spring (shoreOfSeg k) 5 k (reportWake (32 + k) s) else s

/-- PLCA_LOST and JABBER are levels (R339). -/
def noteLine (k : Nat) (s : State) : State :=
  let w := t1lWin k
  (s.level w 2 (locSelf w) (s.line k).lost).level w 3 (locSelf w) (s.line k).jabber

/-- PLCA is enabled on the segment. -/
def plcaOn (s : State) (k : Nat) : Bool := s.flag (t1lWin k) T1L_PLCA_CTRL 31

/-- PLCA_LOST: no BEACON for 4 cycles, whatever the line's state (R339). -/
def doPlcaLost (k : Nat) (s : State) : State :=
  if k < 8 ∧ plcaOn s k then noteLine k (s.modLine k fun x => { x with status := false, lost := true }) else s

/-- BEACON_SEEN: a BEACON is seen or sent, on a line in Normal (R339). -/
def doBeaconSeen (k : Nat) (s : State) : State :=
  if k < 8 ∧ plcaOn s k ∧ t1lState s k = 1 then noteLine k (s.modLine k fun x => { x with status := true, lost := false }) else s

/-- JABBER holds while a transmission is cut (R339). -/
def doJabber (k : Nat) (on : Bool) (s : State) : State :=
  if k < 8 then noteLine k (s.modLine k fun x => { x with jabber := on }) else s

/-- STATUS and PLCA_LOST end with PLCA. -/
def t1lApplied (k : Nat) (s : State) : State :=
  let s := if plcaOn s k then s else noteLine k (s.modLine k fun x => { x with status := false, lost := false })
  syncPort (32 + k) s

def t1lStat (s : State) (k : Nat) : Nat :=
  b2n (s.line k).jabber * 8 + b2n (s.line k).status * 4 + t1lState s k

/-- The strobe check of a T1L. -/
def t1lCheck (s : State) (k : Nat) : Nat :=
  let p := s.shadow (t1lWin k) T1L_PLCA_CTRL
  let cnt := bits p 7 0
  if bits (s.shadow (t1lWin k) T1L_CTRL) 1 0 == 3 then 1
  else if bit p 31 && (cnt == 0 || (bits p 15 8 == 0 && decide (cnt ≤ bits p 15 8))) then 2 else 0

end Sys2Proof.Machine
end

