-- ==== Sys2Proof/Machine/Nm.lean ====
section
/-! DEFINITION. The NM units: NM PDUs, the state table, descent, presence and partial networks (15_sleep_and_wake.md). -/
namespace Sys2Proof.Machine
open Reg

/-! ### Registers of a unit -/

/-- The offset of a unit's register. -/
def uoff (o u : Nat) : Nat := o + 0x40 * u
def State.ureg (s : State) (o u : Nat) : Nat := s.reg W.NMU (uoff o u)
def State.uflag (s : State) (o u i : Nat) : Bool := bit (s.ureg o u) i

/-- A field of a unit's counters takes one more, saturating or wrapping. -/
def uSat (o u hi lo : Nat) (s : State) : State :=
  s.setFld W.NMU (uoff o u) hi lo (satAdd (hi + 1 - lo) (s.fld W.NMU (uoff o u) hi lo) 1)
def uWrap (o u hi lo : Nat) (s : State) : State :=
  s.setFld W.NMU (uoff o u) hi lo (s.fld W.NMU (uoff o u) hi lo + 1)

/-- 48-bit PN vectors. -/
def pnMask (s : State) (u : Nat) : Nat := s.ureg NMU_PNMASK_LO u + 2 ^ 32 * s.ureg NMU_PNMASK_HI u
def pnTx (s : State) (u : Nat) : Nat := s.ureg NMU_PNTX_LO u + 2 ^ 32 * s.ureg NMU_PNTX_HI u

/-- Fields of NMU_UPOS. -/
def upLen (s : State) (u : Nat) : Nat := bits (s.ureg NMU_UPOS u) 31 28
def upNid (s : State) (u : Nat) : Nat := bits (s.ureg NMU_UPOS u) 26 24
def upCbv (s : State) (u : Nat) : Nat := bits (s.ureg NMU_UPOS u) 22 20
def upPn (s : State) (u : Nat) : Nat := bits (s.ureg NMU_UPOS u) 18 16
def upPnLen (s : State) (u : Nat) : Nat := bits (s.ureg NMU_UPOS u) 14 12
def upRmr (s : State) (u : Nat) : Nat := bits (s.ureg NMU_UPOS u) 10 8
def upAw (s : State) (u : Nat) : Nat := bits (s.ureg NMU_UPOS u) 6 4
def upPni (s : State) (u : Nat) : Nat := bits (s.ureg NMU_UPOS u) 2 0
def ownNode (s : State) (u : Nat) : Nat := bits (s.ureg NMU_UCFG u) 7 0
def pnEn (s : State) (u : Nat) : Bool := s.uflag NMU_UCFG u 28

/-- The unit works: its EN and the block's are 1 (R383). -/
def nmActive (s : State) (u : Nat) : Bool := decide (u < 40) && s.enabled W.NMU && s.uflag NMU_UCFG u 31

/-- The unit's request R. -/
def nmRequest (s : State) (u : Nat) : Bool :=
  (if u < 32 then s.flag W.NMU NMU_NETREQ_LO u else s.flag W.NMU NMU_NETREQ_HI (u - 32))
    || (s.uflag NMU_UCFG u 27 && ((s.unit u).pnrx &&& pnMask s u) != 0)

/-- The location of a report of unit `u` (R403). -/
def locNm (u : Nat) : Nat := locUnit W.NMU u

/-! ### Sending (R387, R389) -/

/-- The PDU bytes of a unit. -/
def pduBytes (s : State) (u : Nat) : List Byte :=
  let x := s.unit u
  let cbv := b2n x.rmr * 2 ^ upRmr s u ||| b2n x.aw * 2 ^ upAw s u ||| b2n (pnEn s u) * 2 ^ upPni s u
  let l := List.replicate (upLen s u) (0xFF : Byte)
  let l := splice l (upNid s u) [BitVec.ofNat 8 (ownNode s u)]
  let l := splice l (upCbv s u) [BitVec.ofNat 8 cbv]
  if pnEn s u then splice l (upPn s u) (leBytes (upPnLen s u) (pnTx s u)) else l

/-- Offer a PDU to admission toward port `u` (R387). -/
def nmSend (u : Nat) (s : State) : State :=
  let cls := bits (s.ureg NMU_UCFG u) 25 23
  let id := s.ureg NMU_UID u
  let p := pduBytes s u
  if u < 32 then
    let t := ((Tag.fresh 5 0xFF s.now).setDstPort u).setCls cls
    let t := { t with
      w7 := BitVec.ofNat 32 (b2n (bit id 31) * 2 ^ 31 + b2n (s.uflag NMU_UCFG u 26) * 2 ^ 29 + (bits id 28 0 ||| ownNode s u))
      w8 := BitVec.ofNat 32 u }
    offerTo 15 (onePort u) ⟨t, p⟩ (.nmPdu u) s
  else
    let et := s.fld W.NMU NMU_T1S_ETYPE 15 0
    let t := { ((Tag.fresh 3 0xFF s.now).setDstPort u).setCls cls with w7 := BitVec.ofNat 32 (et * 65536) }
    let sa := beBytes 2 (s.fld W.NMU NMU_T1S_SA_HI 15 0) ++ beBytes 3 (s.reg W.NMU NMU_T1S_SA_LO / 256)
      ++ [BitVec.ofNat 8 (ownNode s u)]
    offerTo 15 (onePort u) ⟨t, List.replicate 6 0xFF ++ sa ++ beBytes 2 et ++ p⟩ (.nmPdu u) s

/-! ### State changes (R388, R391, R393) -/

/-- A unit that enters Repeat-Message takes the package from Doze to Run while AUTO_NM is 1 (R397). -/
def autoRun (cfgBit : Nat) (s : State) : State :=
  if s.pwr.state == .doze && s.flag W.SYS SYS_PWR_CFG cfgBit then { s with pwr := { s.pwr with state := .run } } else s

/-- The unit enters a state. -/
def nmEnter (u st : Nat) (s : State) : State :=
  let s := if u < 32 then s.setFlag W.NMU NMU_CHG_LO u true else s.setFlag W.NMU NMU_CHG_HI (u - 32) true
  let s := s.raise W.NMU 2 (locNm u)
  let s := s.modUnit u fun x => { x with
    state := st, descent := if st = 2 then true else if st = 1 then x.descent else false
    pres := if st = 1 then [] else x.pres }
  if 32 ≤ u then syncPort u s else s

/-- Entry into Repeat-Message with a cause, and a PDU at once (R389). -/
def nmRepeat (u cause : Nat) (rmr aw : Bool) (s : State) : State :=
  let s := (nmEnter u 3 s).modUnit u fun x => { x with cause := cause, rmr := rmr, aw := aw }
  nmSend u (autoRun 1 s)

/-- The 36-byte payload of a descent abort (R472). -/
def abortPayload (u cause : Nat) : List Byte :=
  [2, BitVec.ofNat 8 cause, BitVec.ofNat 8 u, BitVec.ofNat 8 (if (12 ≤ u ∧ u < 24) ∨ 36 ≤ u then 1 else 0)]

/-- The descent is aborted (R391). -/
def nmAbort (u cause : Nat) (s : State) : State :=
  let s := (uSat NMU_UCNT2 u 7 0 s).raise W.NMU 5 (locNm u)
  let s := ledgerDescentAbort (ledgerEvent 5 (abortPayload u cause) s)
  nmRepeat u cause false false s

/-- The unit descends: Prepare-Bus-Sleep, or Bus-Sleep before the descent's end. -/
def nmDescends (x : NmUnit) : Bool := x.state == 2 || (x.state == 1 && x.descent)

/-- The request is judged (R388). -/
def nmEval (u : Nat) (s : State) : State :=
  let x := s.unit u
  let r := nmRequest s u
  if !nmActive s u then s
  else if nmDescends x then (if r then nmAbort u 1 s else s)
  else if x.state = 1 then (if r then nmRepeat u 1 false true s else s)
  else if x.state = 4 then (if r then s else nmEnter u 5 s)
  else if x.state = 5 then (if r then nmSend u (nmEnter u 4 s) else s)
  else s

/-- A wake event (R388). -/
def nmWake (u : Nat) (s : State) : State :=
  let x := s.unit u
  if !nmActive s u then s
  else if nmDescends x then nmAbort u 4 s
  else if x.state = 1 then
    (if s.uflag NMU_UCFG u 30 then nmRepeat u 4 false false s else s.raise W.NMU 6 (locNm u))
  else s

/-- NM_WAKE_EVENT: a shore's report reaches the NMU. -/
def doNmWakeEvent (u : Nat) (s : State) : State :=
  if s.nmReports.contains u then nmWake u { s with nmReports := s.nmReports.erase u } else s

/-- NMU_CMD RMR (R388). -/
def nmRmr (u : Nat) (s : State) : State :=
  let x := s.unit u
  if !nmActive s u then s
  else if nmDescends x then nmAbort u 5 s
  else if x.state = 4 ∨ x.state = 5 then nmRepeat u 5 true false s
  else s

/-- NMU_CMD CLR_PRES (R393). -/
def nmClrPres (u : Nat) (s : State) : State := if u < 40 then s.modUnit u fun x => { x with pres := [] } else s

def doNmuCmd (data : Nat) (s : State) : State :=
  let u := bits data 5 0
  match bits data 31 30 with
  | 1 => nmRmr u s
  | 2 => nmWake u s
  | 3 => nmClrPres u s
  | _ => s

/-- NETREQ is written: the units whose request changed are judged. -/
def nmEvalAll (s : State) : State := (List.range 40).foldl (fun s u => nmEval u s) s
def doNetreq (off data : Nat) (s : State) : State :=
  nmEvalAll (s.setReg W.NMU off (if off = NMU_NETREQ_HI then data % 256 else data))

/-! ### Timers (R388–R390) -/

def doNmTimeout (u : Nat) (s : State) : State :=
  let x := s.unit u
  if !nmActive s u then s
  else if x.state = 5 then nmEnter u 2 s
  else if x.state = 3 ∨ x.state = 4 then (uSat NMU_UCNT2 u 31 24 s).raise W.NMU 3 (locNm u)
  else s

def doRepeatMsgExpiry (u : Nat) (s : State) : State :=
  if nmActive s u && (s.unit u).state == 3 then nmEnter u (if nmRequest s u then 4 else 5) s else s

def doWaitBusSleep (u : Nat) (s : State) : State :=
  if nmActive s u && (s.unit u).state == 2 then nmEnter u 1 s else s

def doNmCycle (u : Nat) (s : State) : State :=
  if nmActive s u && ((s.unit u).state == 3 || (s.unit u).state == 4) then nmSend u s else s

/-- The bus interface of a unit is in its sleep state (R391). -/
def busAsleep (s : State) (u : Nat) : Bool :=
  if u < 24 then (s.tr u).state == s.fld (trxWin u) TRX_CFG 6 4
  else if u < 32 then cstb s u || !s.flag (cxWin u) CX_TRXCTL 1
  else t1lState s (u - 32) == 2

/-- DESCENT_END: the sleep state has held for 1 ms (R391). -/
def doDescentEnd (u : Nat) (s : State) : State :=
  if nmActive s u && (s.unit u).state == 1 && (s.unit u).descent && busAsleep s u then
    s.modUnit u fun x => { x with descent := false }
  else s

/-- PRESENCE_TIMEOUT and PNRX_TIMEOUT (R393, R394). -/
def doPresenceTimeout (u n : Nat) (s : State) : State := s.modUnit u fun x => { x with pres := kvSet false x.pres n false }
def doPnrxTimeout (u k : Nat) (s : State) : State :=
  nmEval u (s.modUnit u fun x => { x with pnrx := if k < 48 then putBit x.pnrx k false else x.pnrx })

/-! ### Enabling (R383, R392) -/

/-- A unit leaves or enters Off. -/
def nmRefresh (u : Nat) (s : State) : State :=
  let x := s.unit u
  if nmActive s u then
    if x.state ≠ 0 then s
    else if s.uflag NMU_UCFG u 29 then nmRepeat u 6 false false s
    else nmEval u (nmEnter u 1 s)
  else if x.state = 0 then s
  else (nmEnter u 0 s).modUnit u fun _ => NmUnit.off

/-- NMU was enabled, disabled, or applied a set. -/
def nmuChanged (s : State) : State := (List.range 40).foldl (fun s u => nmEval u (nmRefresh u s)) s

/-! ### Receiving (R384–R386, R393, R394) -/

/-- The PDU bytes of a frame that is an NM PDU of unit `u` (R384). -/
def nmPdu (s : State) (u : Nat) (f : Frame) : Option (List Byte) :=
  let t := f.tag
  let id := s.ureg NMU_UID u
  if t.srcPort ≠ u then none
  else if u < 32 then
    let ide := wf t.w7 31 31 == 1
    let m := if ide then 2 ^ 29 else 2 ^ 11
    if (t.kind = 0 ∨ t.kind = 1) ∧ ide = bit id 31 ∧ (wf t.w7 28 0 % m) / 256 = (bits id 28 0 % m) / 256 then some f.payload else none
  else if t.kind = 3 ∧ wf t.w7 31 16 = s.fld W.NMU NMU_T1S_ETYPE 15 0 then some (f.payload.drop (typeOff f.payload + 2))
  else none

/-- A well-formed PDU acts (R386, R388, R393, R394). -/
def nmReceive (u : Nat) (p : List Byte) (s : State) : State :=
  let cbv := byteAt p (upCbv s u)
  let pni := bit cbv (upPni s u)
  let pn := leNat (slice p (upPn s u) (upPnLen s u))
  let node := byteAt p (upNid s u)
  let s := s.modUnit u fun x => { x with pres := kvSet false x.pres node true }
  if pnEn s u && pni && (pn &&& pnMask s u) == 0 then s.count W.NMU (uoff NMU_UFILT u)
  else
    let s := uWrap NMU_UCNT1 u 31 16 s
    let s := if node = ownNode s u then uSat NMU_UNID u 15 0 s else s
    let s := if pnEn s u && pni then s.modUnit u fun x => { x with pnrx := (x.pnrx ||| pn) % 2 ^ 48 } else s
    let x := s.unit u
    let s :=
      if nmDescends x then nmAbort u 2 s
      else if x.state = 1 then
        (if s.uflag NMU_UCFG u 30 then nmRepeat u 2 false false s else s.raise W.NMU 6 (locNm u))
      else if (x.state = 4 ∨ x.state = 5) ∧ bit cbv (upRmr s u) then nmRepeat u 3 false false s
      else s
    nmEval u s

/-- The NMU examines a frame at the fabric input (R384, R385). -/
def nmExamine (f : Frame) (s : State) : Tag × State :=
  let u := f.tag.srcPort
  if 40 ≤ u ∨ !nmActive s u then (f.tag, s)
  else
    match nmPdu s u f with
    | none => (f.tag, s)
    | some p =>
      if p.length < upLen s u ∨ (u < 32 ∧ byteAt p (upNid s u) ≠ wf f.tag.w7 7 0) then
        let s := (uSat NMU_UCNT2 u 15 8 s).raise W.NMU 4 (locNm u)
        violate 0x21 false 0xFFFF (locNm u) f.tag s
      else (f.tag, nmReceive u (p.take (upLen s u)) s)

/-! ### Registers -/

/-- NMU_STATE[k]. -/
def nmStateReg (s : State) (k : Nat) : Nat :=
  (List.range 8).foldl (fun a j => a + (s.unit (8 * k + j)).state * 2 ^ (4 * j)) 0

def nodesOf (x : NmUnit) : Nat := (x.pres.filter fun e => e.2).length

def nmUstat (s : State) (u : Nat) : Nat :=
  let x := s.unit u
  x.state * 2 ^ 28 + x.cause * 2 ^ 24 + b2n x.descent * 2 ^ 9 + nodesOf x

/-- Word `k` of NMU_PRES of unit `u`. -/
def nmPresReg (s : State) (u k : Nat) : Nat :=
  (List.range 32).foldl (fun a j => a + b2n (kvGet false (s.unit u).pres (32 * k + j)) * 2 ^ j) 0

/-- The strobe check of NMU (R402). -/
def nmuCheck (s : State) : Nat :=
  let sh := fun o u => s.shadow W.NMU (uoff o u)
  let us := List.range 40
  let len := fun u => bits (sh NMU_UPOS u) 31 28
  let pnl := fun u => bits (sh NMU_UPOS u) 14 12
  let pos := fun u hi lo => bits (sh NMU_UPOS u) hi lo
  let en := fun u => bit (sh NMU_UCFG u) 31
  let base := fun u => bits (sh NMU_UID u) 28 0
  let used := fun u => [pos u 26 24, pos u 22 20] ++ (List.range (pnl u)).map (pos u 18 16 + ·)
  let r1 := fun u =>
    len u == 0 || decide (8 < len u) || decide (6 < pnl u)
      || bits (sh NMU_UTMR1 u) 31 16 == 0 || bits (sh NMU_UTMR1 u) 15 0 == 0
      || bits (sh NMU_UTMR2 u) 31 16 == 0 || bits (sh NMU_UTMR2 u) 15 0 == 0
      || (en u && decide (u < 32) && (base u % 256 != 0 || (!bit (sh NMU_UID u) 31 && decide (0x700 < base u))))
  let r2 := fun u =>
    (en u && (!decide (used u).Nodup || (used u).any fun i => decide (len u ≤ i)))
      || pos u 10 8 == pos u 6 4 || pos u 10 8 == pos u 2 0 || pos u 6 4 == pos u 2 0
      || decide (bits (sh NMU_UTMR1 u) 31 16 ≤ bits (sh NMU_UTMR2 u) 15 0)
      || (bit (sh NMU_UCFG u) 28 && pnl u == 0)
  if us.any r1 then 1 else if us.any r2 then 2 else 0

end Sys2Proof.Machine
end

