-- ==== Sys2Proof/Machine/Ethernet.lean ====
section
/-! DEFINITION. The Ethernet ports: reception, transmission, rewriting, shaping, gates, preemption, timestamps, wake patterns
(13_ethernet_ports.md). -/
namespace Sys2Proof.Machine
open Reg

/-! ### Speeds and groups (R342, R343) -/

/-- The group of EMC `k`: 0 T1S, 1 ETH, 2 XE. -/
def emcGroup (k : Nat) : Nat := if k < 8 then 0 else if k < 16 then 1 else 2

/-- A speed code in Mbit/s. -/
def speedMbps (c : Nat) : Nat :=
  match c with
  | 0 => 10 | 1 => 100 | 2 => 1000 | 3 => 2500 | 4 => 5000 | 5 => 10000 | _ => 0

/-- A speed code that the group supports. -/
def speedOk (k c : Nat) : Bool :=
  match emcGroup k with
  | 0 => c == 0
  | 1 => decide (c ≤ 2)
  | _ => decide (2 ≤ c) && decide (c ≤ 5)

/-- The speed code in EMC_LINK: the current line rate (R343). -/
def emcSpeed (s : State) (k : Nat) : Nat := if k < 8 then 0 else (s.mac k).speed

/-- Time on the wire of `n` bytes in ns. -/
def wireNs (s : State) (k n : Nat) : Nat := n * 8 * 1000 / max 1 (speedMbps (emcSpeed s k))

/-- LINK_LOSS: the port goes down; what is partly received is gone (R344). -/
def doLinkLoss (k : Nat) (s : State) : State :=
  if k < 8 ∨ 20 ≤ k ∨ !(s.mac k).up then s
  else
    let s := (countLinkDown k s).modMac k fun m => { m with up := false, anDone := false }
    syncPort (32 + k) (dropPartial (32 + k) s)

/-- LINK_UP: with AN_EN the partner's in-band status must be full duplex at a speed that the group supports, or the link stays
or goes down; without it SPEED holds (R343). -/
def doLinkUp (k speed : Nat) (full an : Bool) (s : State) : State :=
  let auto := s.flag (emcWin k) EMC_CFG 26
  if k < 8 ∨ 20 ≤ k then s
  else if auto && !(full && speedOk k speed) then doLinkLoss k s
  else
    let sp := if auto then speed else s.fld (emcWin k) EMC_CFG 29 27
    syncPort (32 + k) (s.modMac k fun m => { m with up := true, speed := sp, anDone := an && auto })

/-- PCS_ERROR (R367). -/
def doPcsError (k : Nat) (s : State) : State := s.raise0 (emcWin k) 6

/-! ### Reception (R346–R349) -/

/-- The MAC receives: BLK_CTRL.EN and RX_EN are 1 and the link is up (R344). -/
def emcReceives (s : State) (k : Nat) : Bool := s.enabled (emcWin k) && s.flag (emcWin k) EMC_CFG 31 && emcLink s k

/-- The ingress buffer in bytes (R349). -/
def emcBuffer (k : Nat) : Nat := match emcGroup k with | 0 => 16384 | 1 => 65536 | _ => 262144

/-- The bytes of a frame that its charged cells hold. -/
def bytesIn (n : Nat) : Nat := if n = 0 then 0 else 16 + 64 * (n - 1)

/-- Bytes held in the ingress buffer. -/
def emcHeld (s : State) (k : Nat) : Nat :=
  ((s.pond.arrivals.filter fun a => a.origin == .port (32 + k)).map fun a => a.payload.length).sum
    + ((s.pond.frames.filter fun f => f.origin == .port (32 + k)).map fun f => f.payload.length - bytesIn f.charges.length).sum
    + ((s.mac k).rx.map fun r => r.held.length).sum

/-- An overflow of the ingress buffer (R349). -/
def emcOverflow (k : Nat) (s : State) : State := (s.count (emcWin k) EMC_RX_OVF).raise0 (emcWin k) 2

/-- CLASS of a received frame (R347). -/
def emcClass (s : State) (k : Nat) (p : List Byte) : Nat :=
  let m := s.reg (emcWin k) EMC_CLASSMAP
  if vlanTags p = 0 then bits m 26 24 else let pcp := outerTci p / 8192; bits m (3 * pcp + 2) (3 * pcp)

/-- W7 and the ECN bits of W8, as the frame reads (R347, R346 step 7). -/
def emcWords (t : Tag) (p : List Byte) : Tag :=
  { t with
    w7 := BitVec.ofNat 32 (etherType p * 65536 + outerTci p)
    w8 := wput t.w8 29 28 (ecnOf p) }

/-- The tag of a received frame (R347). -/
def emcTag (s : State) (k time : Nat) (pre : Bool) (p : List Byte) : Tag :=
  let t := ((Tag.fresh 3 (32 + k) time).setCls (emcClass s k p)).setLength p.length
  let t := if s.flag (emcWin k) EMC_CFG 23 && etherType p == 0xF1C1 then t.setFrerSeq (u16 p (typeOff p + 4)) else t
  emcWords { t with w8 := BitVec.ofNat 32 (b2n (u16 p 12 == 0x88E5) * 2 ^ 31 + b2n pre * 2 ^ 30) } p

/-- The frame is presented to the fabric only once it has ended: MACsec validation, the wake patterns of Doze, and MAC control
frames (R345, R346, R363). -/
def holdsFrame (s : State) (k : Nat) (p : List Byte) : Bool :=
  let sec := s.enabled W.AUE && bit (s.secW 1 k 0) 31
  (sec && (u16 p 12 == 0x88E5 || bits (s.secW 1 k 0) 28 27 == 2)) || etherType p == 0x8808
    || (s.pwr.state == .doze && decide (8 ≤ k))

def setRx (k : Nat) (r : MacRx) (s : State) : State :=
  s.modMac k fun m => { m with rx := m.rx.filter (fun x => x.pre != r.pre) ++ [r] }
def dropRx (k : Nat) (pre : Bool) (s : State) : State := s.modMac k fun m => { m with rx := m.rx.filter fun x => x.pre != pre }

/-- RX_HEAD: 64 bytes, or a whole shorter frame, are held (R346). `time` is the instant at the ball. -/
def doRxHead (k time : Nat) (pre : Bool) (p : List Byte) (s : State) : State :=
  if 20 ≤ k ∨ !emcReceives s k ∨ (s.mac k).rx.any (·.pre == pre) then s
  else
    let t := time - s.fld (emcWin k) EMC_DLY 15 0
    if emcBuffer k < emcHeld s k + p.length then emcOverflow k (setRx k ⟨pre, none, [], t, true⟩ s)
    else if holdsFrame s k p then setRx k ⟨pre, none, p, t, false⟩ s
    else
      let fid := s.pond.nextFid
      setRx k ⟨pre, some fid, [], t, false⟩ (offerFrame (fpOf (32 + k)) ⟨emcTag s k t pre p, p⟩ false (.port (32 + k)) s)

/-- The payload that a frame has brought so far. -/
def payloadOf (s : State) (fid : Nat) : List Byte :=
  match s.pond.arrivals.find? (·.fid == fid) with
  | some a => a.payload
  | none =>
    match s.frame? fid with
    | some f => f.payload
    | none => []

/-- The frame has been presented and is cut through. -/
def rxThrough (s : State) (fid : Nat) : Bool := (s.frame? fid).any fun f => f.tag.ct

/-- A frame of the port turns out bad: dropped, but for the copies of a cut-through frame that do not leave at an Ethernet port,
which carry what `g` writes (R112). -/
def rxBad (fid : Nat) (g : Tag → Tag) (s : State) : State :=
  if rxThrough s fid then
    let p := payloadOf s fid
    feedFrame fid p true (fun t => (g t).setLength p.length) (endEthCopies fid s)
  else discardFrame fid s

/-- The ingress buffer has no space for the next bytes of a frame: it is discarded (R349). -/
def emcOverrun (fid k : Nat) (s : State) : State :=
  (rxBad fid (fun t => t.setErr true) (emcOverflow k s)).modMac k fun m => { m with
    rx := m.rx.map fun r => if r.fid == some fid then { r with dead := true } else r }

/-- The bytes of a frame in reception with `more`, cut at MAXLEN (R348). -/
def emcBytes (s : State) (fid k : Nat) (more : List Byte) : List Byte :=
  (payloadOf s fid ++ more).take (s.fld (emcWin k) EMC_CFG 13 0 - 4)

/-- The ingress buffer has space for `n` further bytes (R349). -/
def emcRoom (s : State) (k n : Nat) : Bool := decide (emcHeld s k + n ≤ emcBuffer k)

/-- INGRESS_CELL: bytes of a frame that an Ethernet port is receiving, or a cell of any other frame (R124, R349); then the ECC
errors that accesses to the frame's cells meet (R117). -/
def doCell (fid : Nat) (more : List Byte) (errs : List CellErr) (s : State) : State :=
  let k := (List.range 20).find? fun k => frameKnown s fid && (s.mac k).rx.any fun r => r.fid == some fid && !r.dead
  let s := match k with
    | some k =>
      let m := more.take 64
      if m.isEmpty then doIngressCell fid s
      else if !emcReceives s k then s
      else if !emcRoom s k m.length then emcOverrun fid k s
      else feedFrame fid (emcBytes s fid k m) false id s
    | none => doIngressCell fid s
  errs.foldl (pondEcc fid) s

/-! ### Wake patterns (R362, R363) -/

/-- The bytes that a pattern's mask names, ascending. -/
def wakeBytes (s : State) (k i : Nat) (p : List Byte) : List Byte :=
  (List.range 128).filterMap fun j =>
    if s.flag (emcWin k) (EMC_WAKE + 0x20 * i + 4 + 4 * (j / 32)) (j % 32) then some (p[j]?.getD 0) else none

/-- Pattern `i` matches a frame. -/
def wakeMatches (s : State) (k i : Nat) (p : List Byte) : Bool :=
  let w := s.reg (emcWin k) (EMC_WAKE + 0x20 * i)
  let sel := (List.range 128).filter fun j => s.flag (emcWin k) (EMC_WAKE + 0x20 * i + 4 + 4 * (j / 32)) (j % 32)
  bit w 31 && !sel.isEmpty && sel.all (fun j => decide (j < p.length)) && crc16 (wakeBytes s k i p) == bits w 15 0

/-- The lowest matching pattern. -/
def wakePattern (s : State) (k : Nat) (p : List Byte) : Option Nat := (List.range 16).find? fun i => wakeMatches s k i p

/-- The MAC records a match and may take the package to Run (R363, R397). -/
def noteWakeMatch (k i : Nat) (s : State) : State :=
  autoRun 0 ((s.modMac k fun m => { m with wake := some i }).raise0 (emcWin k) 5)

/-! ### Frame end (R348) -/

/-- The mark of a frame that is longer than MAXLEN (R348). -/
def oversized (trunc : Bool) (t : Tag) : Tag := if trunc then (t.codeViol 0x12).setTrunc true else t

/-- The tag that a frame in reception carries now. -/
def macTag (s : State) (k : Nat) (r : MacRx) (p : List Byte) : Tag :=
  match r.fid with
  | none => emcTag s k r.time r.pre p
  | some fid =>
    match s.pond.arrivals.find? (·.fid == fid), s.frame? fid with
    | some a, _ => a.tag
    | none, some f => f.tag
    | none, none => Tag.fresh 3 (32 + k) r.time

/-- A frame is longer than MAXLEN: counted, OVERSIZE, and marked where it is already presented (R348). -/
def rxOversize (k : Nat) (r : MacRx) (p : List Byte) (s : State) : State :=
  let w := emcWin k
  let s := (s.count w EMC_RX_TRUNC).raise w 7 (locSelf w)
  if r.fid.all (frameKnown s) then
    let s := (violate 0x12 false 0xFFFF (locSelf w) (macTag s k r p) s).2
    match r.fid with
    | none => s
    | some fid => (s.modPond fun x => { x with
        arrivals := updFirst (·.fid == fid) (fun a => { a with tag := oversized true a.tag }) x.arrivals }).modFrame fid fun f =>
          { f with tag := oversized true f.tag }
  else s

/-- A frame that was held is presented whole, after MACsec validation. -/
def presentHeld (k : Nat) (r : MacRx) (p : List Byte) (trunc doze : Bool) (bad : List BadEntry) (s : State) : State :=
  let (f, dropped, s) := macsecIn bad k ⟨oversized trunc (emcTag s k r.time r.pre p), p⟩ s
  if dropped then s
  else
    let f : Frame := ⟨(emcWords f.tag f.payload).setLength f.payload.length, f.payload⟩
    let fid := s.pond.nextFid
    let s := offerFrame (fpOf (32 + k)) f true (.port (32 + k)) s
    if doze then { s with wakeFids := s.wakeFids ++ [fid] } else s

/-- The last bytes of a presented frame arrive: the frame is whole, or finds no room (R349). A cut-through frame that is bad has
ended at its Ethernet ports; the copies that stay carry it whole (R112). -/
def rxLast (fid k : Nat) (rest : List Byte) (bad : Bool) (g : Tag → Tag) (s : State) : State :=
  let s := if bad then endEthCopies fid s else s
  if !frameKnown s fid then s
  else if !emcRoom s k rest.length then emcOverrun fid k s
  else
    let p := emcBytes s fid k rest
    feedFrame fid p true (fun t => (g t).setLength p.length) s

/-- A runt or a frame with a bad FCS is dropped with its code; the capture copy of a cut-through frame carries it (R112, R348). -/
def rxDrop (k : Nat) (r : MacRx) (rest : List Byte) (trunc : Bool) (code reg : Nat) (s : State) : State :=
  let loc := locSelf (emcWin k)
  let s := s.count (emcWin k) reg
  let s := (violate code true 0xFFFF loc (oversized trunc (macTag s k r r.held)) s).2
  match r.fid with
  | none => s
  | some fid =>
    learnFrameEnd fid false <|
      if rxThrough s fid then rxLast fid k rest true (fun t => t.codeViol code) s else discardFrame fid s

/-- The end of a good frame that was presented already: it is counted and whole; one that is longer than MAXLEN is bad where it
is cut through (R112, R348). -/
def rxGood (k fid : Nat) (rest : List Byte) (trunc : Bool) (s : State) : State :=
  let room := !frameKnown s fid || emcRoom s k rest.length
  learnFrameEnd fid (!trunc && room)
    (rxLast fid k rest (trunc && rxThrough s fid) id (if room then s.count64 (emcWin k) EMC_RX_LO else s))

/-- The end of a good frame that was held: MAC control frames go, wake patterns decide in Doze, MACsec validates (R345, R346,
R363). -/
def rxHeld (k : Nat) (r : MacRx) (rest : List Byte) (trunc : Bool) (bad : List BadEntry) (s : State) : State :=
  let w := emcWin k
  let p := (r.held ++ rest).take (s.fld w EMC_CFG 13 0 - 4)
  if !emcRoom s k p.length then emcOverflow k s
  else if etherType p = 0x8808 then s.count w EMC_RX_PAUSE
  else
    let s := s.count64 w EMC_RX_LO
    if s.pwr.state == .doze && decide (8 ≤ k) then
      match wakePattern s k (r.held ++ rest) with
      | none => s.count w EMC_RX_DOZE_DROP
      | some i => presentHeld k r p trunc true bad (noteWakeMatch k i s)
    else presentHeld k r p trunc false bad s

/-- RX_END: the frame ends; `rest` are its bytes after those presented, FCS left out, `len` its length with the FCS, `assy` a
reassembly or SMD error of the MAC merge sublayer (R348, R358). -/
def doRxEnd (k : Nat) (pre : Bool) (rest : List Byte) (len : Nat) (fcsOk assy : Bool) (bad : List BadEntry) (s : State) : State :=
  match (s.mac k).rx.find? (·.pre == pre) with
  | none => s
  | some r =>
    if !emcReceives s k then dropPartial (32 + k) s
    else
      let s := dropRx k pre s
      let w := emcWin k
      let trunc := decide (s.fld w EMC_CFG 13 0 < len)
      if r.dead then s
      else if assy then
        let s := s.count w EMC_PRE_ASSY
        match r.fid with
        | some fid => learnFrameEnd fid false (rxBad fid (fun t => t.setErr true) s)
        | none => s
      else if len < 64 then rxDrop k r rest false 0x11 EMC_RX_RUNT s
      else
        let s := if trunc then rxOversize k r r.held s else s
        if !fcsOk then rxDrop k r rest trunc 0x10 EMC_RX_FCS s
        else match r.fid with
          | some fid => rxGood k fid rest trunc s
          | none => rxHeld k r rest trunc bad s

/-! ### Rewriting (R132, R350, R352) -/

/-- The rewrite profile of a frame; a map word that is uncorrectable gives a profile that the spec leaves open. -/
def profileOf (k flow : Nat) (bad : List BadEntry) (s : State) : Nat × State :=
  if 4096 ≤ flow then (s.reg (emcWin k) EMC_RWPROF, s)
  else
    let (i, s) := if bad.contains (.flow (flow / 8)) then let (v, s) := s.drawWord; (v % 16, s) else (kvGet 0 s.flow flow, s)
    (s.reg (emcWin k) (EMC_RWPROF + 4 * i), s)

/-- VOP: remove, push or replace the outer tag. -/
def rewriteVlan (prof cls : Nat) (p : List Byte) : List Byte :=
  let vid := bits prof 11 0
  match bits prof 31 30 with
  | 1 => if vlanTags p = 0 then p else p.take 12 ++ p.drop 16
  | 2 =>
    let pcp := if bit prof 29 then cls else bits prof 28 26
    let tci := pcp * 8192 + b2n (bit prof 25) * 4096 + vid
    p.take 12 ++ beBytes 2 (if bit prof 22 then 0x88A8 else 0x8100) ++ beBytes 2 tci ++ p.drop 12
  | 3 => if vlanTags p = 0 then p else p.take 14 ++ beBytes 2 (u16 p 14 / 4096 * 4096 + vid) ++ p.drop 16
  | _ => p

/-- RTAG: insert an R-TAG when none is present, or remove it. -/
def rewriteRtag (prof seq : Nat) (p : List Byte) : List Byte :=
  let o := typeOff p
  match bits prof 24 23 with
  | 1 => if etherType p = 0xF1C1 then p else p.take o ++ [0xF1, 0xC1, 0, 0] ++ beBytes 2 seq ++ p.drop o
  | 2 => if etherType p = 0xF1C1 then p.take o ++ p.drop (o + 6) else p
  | _ => p

/-- One's complement sum of two 16-bit numbers. -/
def ones (a b : Nat) : Nat := let t := a + b; if 65536 ≤ t then t - 65535 else t

/-- The ECN rewrite of a marked copy: ECN 01 or 10 becomes 11, the IPv4 checksum incrementally (R132, RFC 1624). -/
def rewriteEcn (p : List Byte) : Option (List Byte) :=
  let o := typeOff p + 2
  let e := ecnOf p
  if e ≠ 1 ∧ e ≠ 2 then none
  else if etherType p = 0x0800 ∧ byteAt p o / 16 = 4 then
    let m := u16 p o
    let m' := m - e + 3
    let hc := u16 p (o + 10)
    let hc' := 65535 - ones (ones (65535 - hc) (65535 - m)) m'
    some (splice (splice p o (beBytes 2 m')) (o + 10) (beBytes 2 hc'))
  else if etherType p = 0x86DD ∧ byteAt p o / 16 = 6 then
    let b := byteAt p (o + 1)
    some (splice p (o + 1) [BitVec.ofNat 8 (b ||| 0x30)])
  else none

/-! ### Timestamps (R359–R361) -/

/-- Store a capture, or count it lost in the newest entry (R360). -/
def tsCapture (k : Nat) (e : TsEntry) (s : State) : State :=
  let q := (s.mac k).tsq
  if 64 ≤ q.length then
    (s.modMac k fun m => { m with
      tsq := m.tsq.take 63 ++ (m.tsq.drop 63).map fun x => { x with lost := satAdd 16 x.lost 1 } }).raise0 (emcWin k) 3
  else s.modMac k fun m => { m with tsq := m.tsq ++ [e] }

/-- The capture of a transmitted frame, when one is asked for. -/
def tsOffer (k time : Nat) (t : Tag) (p : List Byte) (s : State) : State :=
  let h := typeOff p + 2
  let ptp := etherType p == 0x88F7
  let mt := byteAt p h % 16
  if wf t.w11 31 31 = 1 ∨ (s.flag (emcWin k) EMC_CFG 24 ∧ ptp ∧ mt < 4) then
    tsCapture k ⟨ptp, if ptp then mt else 0, if ptp then byteAt p (h + 4) else 0, wf t.w11 15 0,
      if ptp then u16 p (h + 30) else 0, 0, time + s.fld (emcWin k) EMC_DLY 31 16⟩ s
  else s

def tsqInfo (s : State) (k : Nat) : Nat :=
  match (s.mac k).tsq with
  | [] => 0
  | e :: _ => 2 ^ 31 + b2n e.ptp * 2 ^ 30 + e.msgType % 16 * 2 ^ 26 + e.domain % 256 * 2 ^ 16 + e.tag % 65536

/-- TSQ_POP (R361). -/
def doTsqPop (k : Nat) (s : State) : Nat × State :=
  let v := tsqInfo s k
  match (s.mac k).tsq with
  | [] => (v, s)
  | e :: rest =>
    let s := (s.modMac k fun m => { m with tsq := rest }).setReg (emcWin k) EMC_TSQ_SEQ (e.lost * 65536 + e.seqId)
    (v, s.setReg64 (emcWin k) EMC_TSQ_TS_LO e.time)

def doWakeClr (k data : Nat) (s : State) : State := if bit data 0 then s.modMac k fun m => { m with wake := none } else s

/-! ### Gates (R355–R357) -/

/-- The schedule that the live registers describe. -/
def liveSchedule (s : State) (k : Nat) : Schedule :=
  let w := emcWin k
  let n := s.fld w EMC_GCL_CTRL 8 0
  ⟨(List.range n).map fun i => (s.reg w (EMC_GCL + 8 * i), s.reg w (EMC_GCL + 8 * i + 4)), s.reg w EMC_GCL_CYCLE,
   s.reg64 w EMC_GCL_BASE_LO⟩

/-- The schedule that governs now: a pending one does from its start on (R356). -/
def governing (s : State) (k : Nat) : Option Schedule :=
  match (s.mac k).pend with
  | some p => if (s.mac k).pendAt ≤ s.now then some p else (s.mac k).oper
  | none => (s.mac k).oper

/-- The number of the entry in which instant `t` falls; the last entry holds to the end of the cycle (R355). -/
def entryAt (sc : Schedule) (t : Nat) : Nat :=
  let ph := (((t : Int) - (sc.base : Int)) % (sc.cycle : Int)).toNat
  ((List.range sc.entries.length).find? fun i => decide (ph < ((sc.entries.take (i + 1)).map (·.2)).sum)).getD
    (sc.entries.length - 1)

/-- Word G0 of the entry of a schedule that governs at `t`. -/
def gateWord (sc : Schedule) (t : Nat) : Nat := ((sc.entries[entryAt sc t]?).getD (0, 0)).1

/-- The gate states now (R355); a T1S port has no gates. -/
def gateStates (s : State) (k : Nat) : Nat :=
  if k < 8 then 0xFF
  else match governing s k with
    | none => s.fld (emcWin k) EMC_GCL_INIT 7 0
    | some sc => bits (gateWord sc s.now) 7 0

/-- Start instants of the entries within a cycle, with their ends; the last one holds to the cycle's end. -/
def spans (sc : Schedule) : List (Nat × Nat × Nat) :=
  let n := sc.entries.length
  (List.range n).map fun i =>
    let st := ((sc.entries.take i).map (·.2)).sum
    let en := if i + 1 = n then sc.cycle else st + ((sc.entries[i]?).getD (0, 0)).2
    (((sc.entries[i]?).getD (0, 0)).1, st, en)

/-- The gate of class `c` is closed by the schedule at some instant of [a, b); the instants count from one cycle before the
phase of the base, so that none lies before the first cycle. -/
def closesIn (sc : Schedule) (c a b : Nat) : Bool :=
  if sc.cycle = 0 ∨ b ≤ a then false
  else
    let o := sc.base % sc.cycle
    let a' := a + sc.cycle
    let b' := b + sc.cycle
    let first := (a' - o) / sc.cycle
    (List.range ((b - a) / sc.cycle + 2)).any fun j =>
      (spans sc).any fun x =>
        let t := o + (first + j) * sc.cycle
        !bit x.1 c && decide (t + x.2.1 < b') && decide (a' < t + x.2.2)

/-- The first instant at which a schedule starts at or after `t` (R356). -/
def startAfter (sc : Schedule) (t : Nat) : Nat :=
  if t ≤ sc.base ∨ sc.cycle = 0 then sc.base else sc.base + ((t - sc.base) + sc.cycle - 1) / sc.cycle * sc.cycle

/-- The gate of class `c` stays open for `ns` from now: the governing schedule up to the start of a pending one, that one after
it (R357). -/
def staysOpen (s : State) (k c ns : Nat) : Bool :=
  let now := s.now
  let m := s.mac k
  let start := match m.pend with
    | some _ => max now m.pendAt
    | none => now + ns
  !((governing s k).any fun sc => closesIn sc c now (min start (now + ns)))
    && !(m.pend.any fun p => closesIn p c start (now + ns))

/-- Preemption is active (R358). -/
def preemptActive (s : State) (k : Nat) : Bool :=
  s.flag (emcWin k) EMC_PREEMPT 31 && (s.flag (emcWin k) EMC_PREEMPT 30 || (s.mac k).verify == 2)

/-- GATE_INTERVAL_END: the entry of this instant begins to govern; its OP holds or releases preemptable transmission while
preemption is active (R355, R357). The gate states follow the time. -/
def doGateIntervalEnd (k : Nat) (s : State) : State :=
  match governing s k with
  | none => s
  | some sc =>
    let op := bits (gateWord sc s.now) 31 30
    let act := preemptActive s k
    s.modMac k fun m => { m with hold := if act && op == 1 then true else if act && op == 2 then false else m.hold }

/-- SCHEDULE_OPERATIONAL: the pending schedule's start has come (R356). -/
def doScheduleOperational (k : Nat) (s : State) : State :=
  match (s.mac k).pend with
  | none => s
  | some p =>
    if s.now < (s.mac k).pendAt then s
    else doGateIntervalEnd k (s.modMac k fun m => { m with oper := some p, pend := none })

/-- EMC_GCL_STAT. -/
def gclStat (s : State) (k : Nat) : Nat :=
  let m := s.mac k
  b2n (m.pend.isSome && decide (s.now < m.pendAt)) * 2 ^ 31 + b2n (governing s k).isSome * 2 ^ 30 + gateStates s k * 256
    + ((governing s k).map fun sc => entryAt sc s.now).getD 0 % 256

/-! ### Shaping (R354) -/

/-- The idle slope of class `c` in kbit/s. -/
def idleKbps (s : State) (k c : Nat) : Nat := s.reg (emcWin k) (EMC_CBS + 4 * c)
def cbsOn (s : State) (k c : Nat) : Bool := s.flag (emcWin k) EMC_SEL c

/-- Frames wait in class `c` of port `k`. -/
def classWaits (s : State) (k c : Nat) : Bool := !(s.queueFids (8 * (32 + k) + c)).isEmpty

def setCredit (k c : Nat) (v : Int) (s : State) : State := s.modMac k fun m => { m with credit := kvSet 0 m.credit c v }
def creditOf (s : State) (k c : Nat) : Int := kvGet 0 (s.mac k).credit c

/-- Credits up to now: a negative credit recovers at the idle slope, an empty queue keeps no positive one, a closed gate leaves
the credit as it is. -/
def creditsNow (k : Nat) (s : State) : State :=
  let dt := s.now - (s.mac k).creditAt
  let gates := gateStates s k
  let s := (List.range 8).foldl (fun s c =>
    if !cbsOn s k c || !bit gates c then s
    else
      let v := creditOf s k c
      let v := if v < 0 then min 0 (v + ((idleKbps s k c * dt : Nat) : Int)) else v
      setCredit k c (if !classWaits s k c && decide (0 < v) then 0 else v) s) s
  s.modMac k fun m => { m with creditAt := max m.creditAt s.now }

/-- Class `x` transmits for `ns`: its credit falls at the line rate less the idle slope, those of waiting classes rise. -/
def creditsSend (k x ns : Nat) (s : State) : State :=
  let gates := gateStates s k
  let rate := speedMbps (emcSpeed s k) * 1000
  let s := (List.range 8).foldl (fun s c =>
    if !cbsOn s k c then s
    else
      let v := creditOf s k c
      if c = x then setCredit k c (v + (((idleKbps s k c : Nat) : Int) - ((rate : Nat) : Int)) * ((ns : Nat) : Int)) s
      else if !bit gates c then s
      else if classWaits s k c then setCredit k c (v + ((idleKbps s k c * ns : Nat) : Int)) s
      else setCredit k c (min 0 (v + ((idleKbps s k c * ns : Nat) : Int))) s) s
  s.modMac k fun m => { m with creditAt := s.now + ns }

/-! ### Transmission (R350, R351, R353) -/

/-- The head copy of queue (p, c) that a cut-through transmission may begin with: its first cell has been released. -/
def ctHead (s : State) (q : Nat) : Option (PFrame × Copy) :=
  match s.queueFids q with
  | [] => none
  | fid :: _ =>
    match s.frame? fid with
    | none => none
    | some f =>
      if !f.tag.ct then none
      else match f.copies.find? fun c => c.port == q / 8 && c.enq && !c.outlet && decide (1 ≤ c.rel) with
        | some c => some (f, c)
        | none => none

/-- The head of class `c` that could be sent. -/
def emcHead (s : State) (k c : Nat) : Option (PFrame × Copy) :=
  match s.headOf (8 * (32 + k) + c) with
  | some x => some x
  | none => ctHead s (8 * (32 + k) + c)

/-- Bytes on the wire that the guard takes for a head: the frame with preamble, FCS and MACsec growth; MAXLEN for a
cut-through frame (R357). -/
def wireLen (s : State) (k : Nat) (f : PFrame) : Nat :=
  let sec := s.enabled W.AUE && bit (s.secW 1 k 0) 31 && bit (s.secW 1 k 0) 30
  let grow := if sec then (if bit (s.secW 1 k 0) 21 then 32 else 24) else 0
  8 + (if f.tag.ct then s.fld (emcWin k) EMC_CFG 13 0 else max 64 (f.payload.length + grow + 4))

/-- Class `c` is eligible (R353, R357). -/
def eligible (s : State) (k c : Nat) : Bool :=
  match emcHead s k c with
  | none => false
  | some (f, _) =>
    let pre := preemptActive s k && s.flag (emcWin k) EMC_SEL (8 + c)
    bit (gateStates s k) c && (!cbsOn s k c || decide (0 ≤ creditOf s k c))
      && (if pre then !(s.mac k).hold
          else !s.flag (emcWin k) EMC_SEL 16 || staysOpen s k c (wireNs s k (wireLen s k f)))

/-- The class that sends: the highest eligible express class first while preemption is active. -/
def selectClass (s : State) (k : Nat) : Option Nat :=
  let cs := ([7, 6, 5, 4, 3, 2, 1, 0] : List Nat).filter (eligible s k)
  let express := fun c => !(preemptActive s k && s.flag (emcWin k) EMC_SEL (8 + c))
  match cs.find? express with
  | some c => some c
  | none => cs.head?

/-- The bytes of a frame as its rewrite profile leaves them (R350 step 2). -/
def rewritten (prof : Nat) (f : Frame) : List Byte := rewriteRtag prof f.tag.frerSeq (rewriteVlan prof f.tag.cls f.payload)

/-- Steps 2 to 6 of the egress path on a frame, by the profile and the MACsec treatment it began with; none: it is dropped, or
exceeds MAXLEN (R350, R351). -/
def egressBytes (k prof : Nat) (plan : SecPlan) (f : Frame) (s : State) : Option (List Byte) × State :=
  let maxLen := s.fld (emcWin k) EMC_CFG 13 0
  let p := rewritten prof f
  let (p, s) := match (if f.tag.cm then rewriteEcn p else none) with
    | some p => (p, s.count W.QMG QMG_ECN_REWRITES)
    | none => (p, s)
  match macsecOut plan k maxLen f.tag p s with
  | (none, s) => (none, s)
  | (some q, s) =>
    let q := q ++ zeros (60 - q.length)
    if maxLen < q.length + 4 then (none, s.count (emcWin k) EMC_TX_TOOLONG) else (some q, s)

/-- The profile and the MACsec treatment of a frame that begins now. -/
def egressPlan (k : Nat) (f : Frame) (bad : List BadEntry) (s : State) : Nat × SecPlan × State :=
  let r := profileOf k f.tag.flow bad s
  let t := secPlan bad k (rewritten r.1 f) r.2
  (r.1, t.1, t.2)

/-- A whole frame of class `c` leaves or is refused; `time` is the transmit instant at the ball, `frags` the extra fragments a
preemptable frame was cut into, `underrun` that the MAC runs out of data within it and ends it with a bad FCS (R33). -/
def sendFrame (k c time frags : Nat) (underrun : Bool) (f : PFrame) (cp : Copy) (bad : List BadEntry) (s : State) : State :=
  let w := emcWin k
  let fr := frameOf f cp
  let s := dropCopy f.fid (32 + k) s
  if f.tag.kind ≠ 3 then (s.count w EMC_TX_BADKIND).raise0 w 8
  else
    let (prof, plan, s) := egressPlan k fr bad s
    match egressBytes k prof plan fr s with
    | (none, s) => s
    | (some q, s) =>
      let s := tsOffer k time fr.tag fr.payload s
      let s := if underrun then s.count w EMC_TX_UNDERRUN else s.count64 w EMC_TX_LO
      let s := if preemptActive s k && s.flag w EMC_SEL (8 + c) then s.countBy w EMC_PRE_FRAG_TX frags else s
      creditsSend k c (wireNs s k (8 + q.length + 4)) s

/-- A cut-through transmission begins with the bytes in hand: its profile, its MACsec treatment with its packet number, and its
timestamp are those of now; a frame that MACsec refuses is dropped (R111, R262, R268). -/
def ctBegin (k time : Nat) (f : PFrame) (cp : Copy) (bad : List BadEntry) (s : State) : State :=
  let fr := frameOf f cp
  let (prof, plan, s) := egressPlan k fr bad s
  let go := fun (plan : SecPlan) (s : State) =>
    tsOffer k time fr.tag fr.payload ((holdCopy f.fid (32 + k) s).modMac k fun m => { m with sending := some ⟨f.fid, prof, plan⟩ })
  match plan with
  | .pass => go .pass s
  | .protect d0 sa pn sci iv key _ => go (.protect d0 sa pn sci iv key true) (takePn k sa pn s)
  | plan => dropCopy f.fid (32 + k) (egressBytes k prof plan fr s).2

/-- TX_SELECT: an idle egress selects the highest eligible class and transmits (R353). -/
def doTxSelect (k time frags : Nat) (underrun : Bool) (bad : List BadEntry) (s : State) : State :=
  if 20 ≤ k ∨ !s.enabled (emcWin k) ∨ emcDown s k ∨ (s.mac k).sending.isSome then s
  else
    let s := creditsNow k s
    match selectClass s k with
    | none => s
    | some c =>
      match s.headOf (8 * (32 + k) + c) with
      | some (f, cp) => sendFrame k c time frags underrun f cp bad s
      | none =>
        match ctHead s (8 * (32 + k) + c) with
        | none => s
        | some (f, cp) => ctBegin k time f cp bad s

/-- A cut-through transmission ends once its last cell is released, or with a bad FCS when what is released exceeds MAXLEN
(R111, R351). -/
def ctFinish (s : State) (k : Nat) : State :=
  match (s.mac k).sending with
  | none => s
  | some x =>
    let idle := fun (s : State) => s.modMac k fun m => { m with sending := none }
    match (s.frame? x.fid).bind fun f => (f.copies.find? (·.port == 32 + k)).map fun c => (f, c) with
    | none => idle s
    | some (f, c) =>
      let done := frameDone f && c.rel == cellsOf f.payload.length
      let fr := frameOf f c
      let q := egressBytes k x.prof x.plan (if done then fr else ⟨fr.tag, fr.payload.take (bytesIn c.rel)⟩) s
      match q.1 with
      | none => dropCopy f.fid (32 + k) (idle q.2)
      | some bytes =>
        if done then
          creditsSend k f.tag.cls (wireNs s k (8 + bytes.length + 4)) (dropCopy f.fid (32 + k) (idle (q.2.count64 (emcWin k) EMC_TX_LO)))
        else s

/-- Every port goes on with the cut-through frame it is sending. -/
def ctSweep (s : State) : State := (List.range 20).foldl ctFinish s

/-! ### Preemption (R358) -/

/-- VERIFY_FAIL holds after a failed verification. -/
def noteVerify (k : Nat) (s : State) : State := s.level (emcWin k) 4 (locSelf (emcWin k)) ((s.mac k).verify == 3)

/-- Verification starts or is off, as EN and VERIFY_DIS say. -/
def verifyStart (k : Nat) (s : State) : State :=
  let en := s.flag (emcWin k) EMC_PREEMPT 31 && !s.flag (emcWin k) EMC_PREEMPT 30
  noteVerify k (s.modMac k fun m => { m with verify := if en then 1 else 0, tries := 0 })

/-- VERIFY_SEND: another attempt, or the failure after three. -/
def doVerifySend (k : Nat) (s : State) : State :=
  if (s.mac k).verify ≠ 1 then s
  else if 3 ≤ (s.mac k).tries then noteVerify k (s.modMac k fun m => { m with verify := 3 })
  else s.modMac k fun m => { m with tries := m.tries + 1 }

/-- VERIFY_RESPONSE. -/
def doVerifyResponse (k : Nat) (s : State) : State :=
  if (s.mac k).verify = 1 then noteVerify k (s.modMac k fun m => { m with verify := 2 }) else s

def preemptStat (s : State) (k : Nat) : Nat := b2n (preemptActive s k) * 8 + (s.mac k).verify

/-! ### Applying a set (R354, R356, R366) -/

/-- An EMC applied a set; `o` is the state before. -/
def emcApplied (k : Nat) (o s : State) : State :=
  let w := emcWin k
  let was := o.flag w EMC_SEL 16
  let is := s.flag w EMC_SEL 16
  let s :=
    if !is then s.modMac k fun m => { m with oper := none, pend := none, hold := false }
    else if !was || liveSchedule o k != liveSchedule s k then
      let sc := liveSchedule s k
      s.modMac k fun m => { m with oper := governing s k, pend := some sc, pendAt := startAfter sc s.now }
    else s
  let s := (List.range 8).foldl (fun s c => if cbsOn s k c && !cbsOn o k c then setCredit k c 0 s else s) s
  let s := if o.reg w EMC_PREEMPT != s.reg w EMC_PREEMPT || (s.mac k).verify == 3 then verifyStart k s else s
  let s := if k < 8 ∨ s.flag w EMC_CFG 26 ∨ !(s.mac k).up then s
    else s.modMac k fun m => { m with speed := s.fld w EMC_CFG 29 27 }
  syncPort (32 + k) s

/-- The strobe check of an EMC (R366). -/
def emcCheck (s : State) (k : Nat) : Nat :=
  let sh := fun o => s.shadow (emcWin k) o
  let g := emcGroup k
  let cfg := sh EMC_CFG
  let maxl := bits cfg 13 0
  let sp := bits cfg 29 27
  let pre := sh EMC_PREEMPT
  let gate := bit (sh EMC_SEL) 16
  let n := bits (sh EMC_GCL_CTRL) 8 0
  let es := (List.range n).map fun i => (sh (EMC_GCL + 8 * i), sh (EMC_GCL + 8 * i + 4))
  let off := g == 0 && (bits (sh EMC_SEL) 16 0 != 0 || (List.range 8).any fun c => sh (EMC_CBS + 4 * c) != 0)
  let baser := bit cfg 25
  let idle := ((List.range 8).map fun c => if bit (sh EMC_SEL) c then sh (EMC_CBS + 4 * c) else 0).sum
  let top := match g with | 0 => 10000 | 1 => 1000000 | _ => 10000000
  if decide (maxl < 64) || !speedOk k sp || (bit pre 31 && (bits pre 23 16 == 0 || decide (128 < bits pre 23 16)))
      || (gate && (n == 0 || decide (256 < n) || sh EMC_GCL_CYCLE == 0 || es.any fun e => e.2 == 0 || bits e.1 31 30 == 3))
      || (List.range 16).any (fun i => bits (sh (EMC_RWPROF + 4 * i)) 24 23 == 3) || off || (baser && g != 2) then 1
  else if (gate && decide (sh EMC_GCL_CYCLE < (es.map (·.2)).sum)) || (bit pre 31 && bits (sh EMC_SEL) 15 8 == 0xFF)
      || decide (top < idle) || (baser && (sp != 5 || bit cfg 26)) then 2
  else 0

/-! ### FRER (R364) -/

def State.frerOf (s : State) (i : Nat) : Frer := kvGet Frer.zero s.frer i
def setFrer (i : Nat) (x : Frer) (s : State) : State := { s with frer := kvSet Frer.zero s.frer i x }
def Frer.bump (x : Frer) (c : Nat) : Frer := { x with cnt := kvSet 0 x.cnt c (satAdd 32 (kvGet 0 x.cnt c) 1) }

/-- The location of a FRER report (R367). -/
def locFrer (i : Nat) : Nat := locCode 0 W.EMC 0 (i / 64 % 8) (i % 64)

/-- Recovery on a frame with sequence number `seq`: the stream after it, passed, rogue. -/
def frerRecover (x : Frer) (tagged : Bool) (seq : Nat) : Frer × Bool × Bool :=
  let len := ((wf x.d0 27 22 : Nat) : Int)
  let d := toSigned 16 ((seq + 65536 - x.recov % 65536) % 65536)
  let passed := fun (y : Frer) => (y.bump 0, true, false)
  if !tagged then passed (x.bump 4)
  else if x.takeAny then passed { x with recov := seq, hist := 1, takeAny := false }
  else if wf x.d0 28 28 = 1 then
    if d = 0 then (x.bump 1, false, false) else passed { x with recov := seq }
  else if len ≤ d ∨ d ≤ -len then (x.bump 2, false, true)
  else if d ≤ 0 then
    if bit x.hist (-d).toNat then (x.bump 1, false, false)
    else passed ({ x with hist := x.hist ||| 2 ^ (-d).toNat }.bump 3)
  else
    let y := { x with hist := ((x.hist <<< d.toNat) ||| 1) % 2 ^ 32, recov := seq }
    passed (if d = 1 then y else y.bump 3)

/-- The FRER function on a frame: its tag after it, and whether it passes. A stream in `bad` is uncorrectable: what it then does
to the frame is open, and it is taken as a stream that is not in use. -/
def frerStep (t : Tag) (bad : List BadEntry) (s : State) : Tag × Bool × State :=
  let i := t.flow
  let x := s.frerOf i
  if t.kind ≠ 3 ∨ 512 ≤ i ∨ !s.enabled W.EMC ∨ wf x.d0 31 31 = 0 then (t, true, s)
  else if bad.contains (.frer i) then
    let (v, s) := s.drawWord
    (t, v % 2 == 0, s)
  else
    let tagged := wf t.w7 31 16 == 0xF1C1
    let (x, ok, rogue) := if wf x.d0 29 29 = 1 then frerRecover x tagged t.frerSeq else (x.bump 0, true, false)
    let x := if ok then { x with timer := some s.now } else x
    let s := if rogue then s.raise W.EMC 10 (locFrer i) else s
    if !ok then (t, false, setFrer i x s)
    else if wf x.d0 30 30 = 1 then (t.setFrerSeq x.gen, true, setFrer i { x with gen := (x.gen + 1) % 65536 } s)
    else (t, true, setFrer i x s)

/-- The reset timer of a stream has run out: RESET_MS of the device time since the last pass (R364). -/
def frerDue (s : State) (x : Frer) : Bool :=
  wf x.d0 31 31 == 1 && wf x.d0 29 29 == 1 && wf x.d0 15 0 != 0 && x.timer.any fun l => decide (l + wf x.d0 15 0 * 1000000 ≤ s.now)

/-- FRER_RESET (R364). -/
def doFrerReset (i : Nat) (s : State) : State :=
  let x := s.frerOf i
  if 512 ≤ i || !s.enabled W.EMC || !frerDue s x then s
  else (setFrer i ({ x with takeAny := true, timer := none }.bump 5) s).raise W.EMC 11 (locFrer i)

/-- EMC_CMD (R352, R364, R559). -/
def emcDone (st : Nat) (s : State) : State := s.setReg W.EMC EMC_CMD_STAT st
def doEmcCmd (data : Nat) (bad : List BadEntry) (s : State) : State :=
  let i := bits data 8 0
  let d := fun k => s.reg W.EMC (EMC_DATA + 4 * k)
  let put := fun (s : State) (l : List Nat) => l.zipIdx.foldl (fun s x => s.setReg W.EMC (EMC_DATA + 4 * x.2) x.1) s
  match bits data 17 16, bits data 15 14 with
  | 0, 1 =>
    emcDone 0 ((List.range 8).foldl (fun s n => { s with flow := kvSet 0 s.flow (8 * i + n) (bits (d 0) (4 * n + 3) (4 * n)) }) s)
  | 0, 2 =>
    if bad.contains (.flow i) then emcDone 5 s
    else emcDone 0 (put s [((List.range 8).map fun n => kvGet 0 s.flow (8 * i + n) * 2 ^ (4 * n)).sum])
  | 1, 1 =>
    let hl := bits (d 0) 27 22
    if bits (d 0) 21 16 != 0 || (bit (d 0) 31 && !bit (d 0) 28 && (hl == 0 || decide (32 < hl))) then emcDone 2 s
    else
      let x := s.frerOf i
      emcDone 0 (setFrer i { x with d0 := BitVec.ofNat 32 (d 0), gen := bits (d 1) 31 16, takeAny := true, timer := none } s)
  | 1, 2 =>
    if bad.contains (.frer i) then emcDone 5 s
    else
      let x := s.frerOf i
      emcDone 0 (put s [x.d0.toNat, x.gen * 65536 + x.recov, x.hist])
  | 2, 2 =>
    if bad.contains (.frer i) then emcDone 5 s
    else emcDone 0 (put s ((List.range 6).map fun c => kvGet 0 (s.frerOf i).cnt c))
  | 2, 3 => emcDone 0 (setFrer i { s.frerOf i with cnt := [] } s)
  | _, _ => emcDone 2 s

/-! ### Other registers -/

/-- EMC_MDIO.GO: the answer of an external PHY is not the device's (R366 text). -/
def doMdio (data : Nat) (s : State) : State :=
  if !bit data 31 then s
  else
    let op := bits data 29 28
    let read := if bit data 30 then decide (2 ≤ op) else op == 2
    if read then
      let (v, s) := s.drawWord
      s.modMac 0 fun m => { m with mdio := v % 65536 }
    else s

def emcLinkReg (s : State) (k : Nat) : Nat :=
  b2n (emcLink s k) * 2 ^ 31 + emcSpeed s k * 2 ^ 28 + b2n (s.mac k).anDone * 2 ^ 27
def emcWakeStat (s : State) (k : Nat) : Nat :=
  match (s.mac k).wake with
  | none => 0
  | some i => 2 ^ 31 + i

end Sys2Proof.Machine
end

