-- ==== Sys2Proof/Machine/Police.lean ====
section
/-! DEFINITION. Port filters, stream gates, cadence monitor and policers (08_policing_and_filtering.md). -/
namespace Sys2Proof.Machine
open Reg

/-- A verdict in progress: the tag so far, whether a check has dropped the frame, the state. -/
structure Check where
  tag : Tag
  dropped : Bool
  s : State

/-- A check that codes a violation and drops or marks (R192, R193). -/
def Check.answer (c : Check) (code : Nat) (drop : Bool) (index loc : Nat) : Check :=
  let r := violate code drop index loc c.tag c.s
  ⟨r.1, drop, r.2⟩

/-- A check of POL: a frame that it drops is counted in POL_DROPPED. -/
def Check.polAnswer (c : Check) (code : Nat) (drop : Bool) (index loc : Nat) : Check :=
  let c := c.answer code drop index loc
  if drop then { c with s := c.s.count W.POL POL_DROPPED } else c

/-- ECC_UNCORR of POL or CDM: the frame is dropped with 0x3F; STAGE and BIT carry the entry index (R209). -/
def entryLoc (w index : Nat) : Nat := locCode (dieOf w) w 0 (index / 64) (index % 64)

/-- The ECC rule of entry `index` that a check must read; `involved` is the policer, gate or cadence entry (R209, R212). -/
def Check.eccDrop (c : Check) (w index involved : Nat) : Check :=
  let c := { c with s := c.s.raise w 2 (entryLoc w index) }
  if w = W.POL then c.polAnswer 0x3F true involved (entryLoc w index) else c.answer 0x3F true involved (entryLoc w index)

/-! ### Port filters (R195, R196) -/

/-- The rule of a profile that decides a flow: its PERMIT and index; none where the default decides. -/
def filterRule (s : State) (flow first : Nat) : Nat → Nat → Option (Bool × Nat)
  | 0, _ => none
  | n + 1, k =>
    let r := s.reg W.POL (POL_FRULE + 8 * (first + k))
    if bits r 15 0 ≤ flow ∧ flow ≤ bits r 31 16 then some (s.flag W.POL (POL_FRULE + 8 * (first + k) + 4) 31, first + k)
    else filterRule s flow first n (k + 1)

/-- The port filter of the frame's source port. -/
def checkFilter (c : Check) : Check :=
  let pf := c.s.reg W.POL (POL_PORTFLT + 4 * c.tag.srcPort)
  if 64 ≤ c.tag.srcPort || !bit pf 4 then c
  else
    let prof := c.s.reg W.POL (POL_FPROF + 4 * bits pf 3 0)
    let r := filterRule c.s c.tag.flow (bits prof 7 0) (bits prof 16 8) 0
    let permit := match r with
      | some (p, _) => p
      | none => bit prof 31
    let index := match r with
      | some (_, k) => k
      | none => 0xFFFF
    if permit then c
    else Check.polAnswer { c with s := c.s.count W.POL POL_FLT_DENY } (if c.tag.kind ≤ 2 then 0x02 else 0x1B) (bit prof 30) index
      (locSelf W.POL)

/-! ### Stream gates (R197, R198) -/

def State.gate (s : State) (g : Nat) : Gate := kvGet Gate.zero s.pol.gates g
def State.setGate (s : State) (g : Nat) (x : Gate) : State :=
  s.modPol fun p => { p with gates := kvSet Gate.zero p.gates g x }

def GateCfgBase (c : GateCfg) : Nat := c.d2.toNat + 2 ^ 32 * c.d3.toNat
def GateCfgChange (c : GateCfg) : Nat := c.d4.toNat + 2 ^ 32 * c.d5.toNat

/-- The GCL entry that governs phase `ph`: the walk of R197 over `n` entries from `k`, with `acc` ns passed and the last
entry of non-zero interval so far. -/
def gclWalk (gcl : KV Word) (ph : Nat) : Nat → Nat → Nat → Option Word → Option Word
  | 0, _, _, last => last
  | n + 1, k, acc, last =>
    let e := kvGet 0 gcl k
    let iv := wf e 26 0
    if iv = 0 then gclWalk gcl ph n (k + 1) acc last
    else if ph < acc + iv then some e
    else gclWalk gcl ph n (k + 1) (acc + iv) (some e)

/-- The first bad entry that the walk reads, in the order of `gclWalk` (R209). -/
def gclBad (gcl : KV Word) (bad : List BadEntry) (ph : Nat) : Nat → Nat → Nat → Option Nat
  | 0, _, _ => none
  | n + 1, k, acc =>
    let iv := wf (kvGet 0 gcl k) 26 0
    if bad.contains (.gcl k) then some k
    else if ph < acc + iv then none
    else gclBad gcl bad ph n (k + 1) (acc + iv)

/-- The bad GCL entry that a judgement at time `t` meets. -/
def gateBadAt (gcl : KV Word) (c : GateCfg) (bad : List BadEntry) (t : Nat) : Option Nat :=
  if wf c.d0 31 31 = 0 ∨ t < GateCfgBase c then none
  else gclBad gcl bad ((t - GateCfgBase c) % max c.d1.toNat 1) (wf c.d0 6 0) (wf c.d0 23 12) 0

/-- The state of a gate at time `t`: open, and the IPV if it gives one (R197). -/
def gateAt (gcl : KV Word) (c : GateCfg) (t : Nat) : Bool × Option Nat :=
  if wf c.d0 31 31 = 0 then (true, none)
  else if t < GateCfgBase c then (wf c.d0 30 30 == 1, none)
  else
    match gclWalk gcl ((t - GateCfgBase c) % max c.d1.toNat 1) (wf c.d0 6 0) (wf c.d0 23 12) 0 none with
    | none => (wf c.d0 30 30 == 1, none)
    | some e => (wf e 31 31 == 1, if wf e 30 30 = 1 then some (wf e 29 27) else none)

/-- The stream gate that a policer entry names (R197, R198). -/
def checkGate (g : Nat) (bad : List BadEntry) (c : Check) : Check :=
  if bad.contains (.gate g) then c.eccDrop W.POL g g
  else
    let x := c.s.gate g
    match gateBadAt c.s.pol.gcl x.cfg bad c.tag.timestamp with
    | some k => c.eccDrop W.POL k g
    | none =>
      let r := gateAt c.s.pol.gcl x.cfg c.tag.timestamp
      if r.1 then
        match r.2 with
        | some v => { c with tag := c.tag.setCls v }
        | none => c
      else
        let s := (c.s.count W.POL POL_GATE_CLOSED).setGate g { x with closed := satAdd 32 x.closed 1 }
        Check.polAnswer { c with s := s } 0x19 (wf x.cfg.d0 29 29 == 1) g (locSelf W.POL)

/-! ### Cadence monitor (R201–R203) -/

def State.cadence (s : State) (k : Nat) : Cadence := kvGet Cadence.zero s.cdm k
def State.setCadence (s : State) (k : Nat) (x : Cadence) : State := { s with cdm := kvSet Cadence.zero s.cdm k x }

def cadPeriod (x : Cadence) : Nat := wf x.d0 23 0 * 1000
def cadEarly (x : Cadence) : Nat := wf x.d1 31 16 * 1000
def cadLate (x : Cadence) : Nat := wf x.d1 15 0 * 1000

/-- The frame is early in a Running entry (R201). -/
def isEarly (x : Cadence) (t : Nat) : Bool := x.state == .running && decide (t + cadEarly x < x.last + cadPeriod x)

/-- The cadence check of a frame (R201). -/
def checkCadence (k : Nat) (bad : List BadEntry) (c : Check) : Check :=
  if k = 0 ∨ !c.s.enabled W.CDM then c
  else if bad.contains (.cadence k) then c.eccDrop W.CDM k k
  else
    let x := c.s.cadence k
    if wf x.d0 31 31 = 0 then c
    else if isEarly x c.tag.timestamp then
      let drop := wf x.d0 30 30 == 1
      let s := (c.s.count W.CDM CDM_EARLY).setCadence k { x with early := satAdd 16 x.early 1 }
      let s := (if drop then s.count W.CDM CDM_EARLY_DROP else s).raise W.CDM 3 (locSelf W.CDM)
      Check.answer { c with s := s } 0x03 drop k (locSelf W.CDM)
    else
      { c with s := (c.s.count64 W.CDM CDM_ONTIME_LO).setCadence k { x with state := .running, last := c.tag.timestamp } }

/-- The sweep's judgement of one entry: a Running entry past its deadline becomes Missing and reports; a Missing one reports
again each period with MISS_REPEAT (R202). -/
def sweepEntry (bad : List BadEntry) (s : State) (k : Nat) : State :=
  let x := s.cadence k
  let due := x.last + cadPeriod x + cadLate x
  let report := fun (s : State) => noticeOffer 0x04 ansNoFrame none 0xFF k (locSelf W.CDM)
    ((s.count W.CDM CDM_MISSING).raise W.CDM 4 (locSelf W.CDM))
  if bad.contains (.cadence k) ∨ wf x.d0 31 31 = 0 then s
  else
    match x.state with
    | .unsynced => s
    | .running =>
      if due < s.now then
        report (s.setCadence k { x with state := .missing, miss := satAdd 16 x.miss 1, nextRep := due + cadPeriod x })
      else s
    | .missing =>
      if wf x.d0 29 29 = 1 ∧ x.nextRep ≤ s.now then
        report (s.setCadence k { x with miss := satAdd 16 x.miss 1, nextRep := x.nextRep + cadPeriod x })
      else s

/-- CADENCE_SWEEP: every listed entry is visited once (R202). -/
def doCadenceSweep (bad : List BadEntry) (s : State) : State :=
  if !s.enabled W.CDM then s else (s.cdm.map (·.1)).foldl (sweepEntry bad) s

/-! ### Policers (R204–R207) -/

def State.policer (s : State) (k : Nat) : Policer := kvGet Policer.zero s.pol.policers k
def State.setPolicer (s : State) (k : Nat) (x : Policer) : State :=
  s.modPol fun p => { p with policers := kvSet Policer.zero p.policers k x }

/-- The rate of a code in kbit/s (R204). -/
def rateOf (code : Nat) : Nat := bits code 15 4 * 2 ^ bits code 3 0

def polType (x : Policer) : Nat := wf x.d0 31 30

/-- A bucket refilled over `dt` ns at `rate` kbit/s and capped at `burst` bytes, in 1/65,536 byte (R204, R205). -/
def refillBytes (tok rate burst dt : Nat) : Nat :=
  if rate = 0 then 0 else min (tok + rate * 125 * 65536 * dt / 1000000000) (burst * 65536)

/-- A frame-count bucket: FRAMES per WINDOW_MS (R206). -/
def refillFrames (tok frames ms burst dt : Nat) : Nat :=
  if frames = 0 ∨ ms = 0 then 0 else min (tok + frames * 65536 * dt / (ms * 1000000)) (burst * 65536)

/-- Both buckets at vault time `now` (R205). -/
def refill (x : Policer) (now : Nat) : Policer :=
  let dt := now - x.last
  let tc := if polType x = 3 then refillFrames x.tc (wf x.d1 31 16) (wf x.d1 15 0) (wf x.d2 31 8) dt
    else refillBytes x.tc (rateOf (wf x.d1 31 16)) (wf x.d2 31 8) dt
  let tp := if polType x = 1 then refillBytes x.tp (rateOf (wf x.d1 15 0)) (wf x.d3 31 8) dt else x.tp
  { x with tc := tc, tp := tp, last := now }

/-- The metered size B in 1/65,536 units (R205). -/
def meteredSize (x : Policer) (len : Nat) : Nat :=
  if polType x = 3 then 65536
  else (max (((len : Nat) : Int) + toSigned 8 (wf x.d0 15 8)) 1).toNat * 65536

/-- The colour decision on refilled buckets (R206): 1 green, 2 yellow, 3 red, and the buckets after it. -/
def colour (x : Policer) (b dp : Nat) : Nat × Policer :=
  if polType x = 1 then
    let pre := if wf x.d0 29 29 = 1 then (if dp = 0 then 1 else if dp = 1 then 2 else 3) else 1
    if pre = 3 ∨ x.tp < b then (3, x)
    else if pre = 2 ∨ x.tc < b then (2, { x with tp := x.tp - b })
    else (1, { x with tp := x.tp - b, tc := x.tc - b })
  else if x.tc < b then (3, x) else (1, { x with tc := x.tc - b })

/-- Count a colour in the entry. -/
def countColour (x : Policer) (c : Nat) : Policer :=
  if c = 1 then { x with green := satAdd 32 x.green 1 } else if c = 2 then { x with yellow := satAdd 32 x.yellow 1 }
  else { x with red := satAdd 32 x.red 1 }

/-- The policer's decision on a frame (R206, R207). -/
def checkPolicer (k : Nat) (c : Check) : Check :=
  let x := c.s.policer k
  if polType x = 0 then c
  else
    let r := colour (refill x c.s.vault) (meteredSize x c.tag.length) c.tag.dropPrec
    let s := c.s.setPolicer k (countColour r.2 r.1)
    let t := c.tag.setColor r.1
    if r.1 = 3 then
      Check.polAnswer { c with tag := t, s := s.count W.POL POL_RED } 0x18 (wf x.d0 28 28 == 1) k (locSelf W.POL)
    else if r.1 = 2 ∧ wf x.d0 27 27 = 1 then { c with tag := t.setDropPrec (wf x.d0 26 25), s := s }
    else { c with tag := t, s := s }

/-- Go on to the next check unless the frame has been dropped (R191). -/
def Check.andThen (c : Check) (f : Check → Check) : Check := if c.dropped then c else f c

/-- The four checks in their order (R191); POL disabled passes the frame through filter, gate and policer, uncolored (R556). -/
def runChecks (policer cadence : Nat) (bad : List BadEntry) (c : Check) : Check :=
  if !c.s.enabled W.POL then Check.andThen { c with tag := c.tag.setColor 0 } (checkCadence cadence bad)
  else
    let c := checkFilter { c with s := c.s.count64 W.POL POL_DECISIONS_LO }
    let x := c.s.policer policer
    let usesPol := policer != 0
    let badPol := usesPol && bad.contains (.policer policer)
    let c := c.andThen fun c =>
      if badPol then c.eccDrop W.POL policer policer
      else if usesPol && wf x.d0 24 24 == 1 then checkGate (wf x.d0 23 16) bad c else c
    let c := c.andThen (checkCadence cadence bad)
    c.andThen fun c => if usesPol then checkPolicer policer c else c

/-! ### Commands (R199, R200, R208, R559) -/

/-- The full bursts of a policer, subject to R204. -/
def fillBuckets (x : Policer) : Policer :=
  { x with
    tc := if (if polType x = 3 then wf x.d1 31 16 else rateOf (wf x.d1 31 16)) = 0 then 0 else wf x.d2 31 8 * 65536
    tp := if polType x = 1 ∧ rateOf (wf x.d1 15 0) ≠ 0 then wf x.d3 31 8 * 65536 else 0 }

/-- The data words of POL_DATA. -/
def polData (s : State) (k : Nat) : Word := BitVec.ofNat 32 (s.reg W.POL (POL_DATA + 4 * k))

/-- Finish a POL command with a status. -/
def polStatus (st : Nat) (s : State) : State := s.setReg W.POL POL_CMD_STAT st

/-- A policer's words that a WRITE refuses (R208). -/
def policerBad (d0 d1 d2 d3 : Word) : Bool :=
  wf d0 7 0 != 0 || wf d2 7 0 != 0 || wf d3 7 0 != 0
    || (wf d0 31 30 == 1 && decide (rateOf (wf d1 15 0) < rateOf (wf d1 31 16))) || (wf d0 31 30 == 3 && wf d1 15 0 == 0)

/-- A gate configuration that a WRITE refuses (R208). -/
def gateBad (c : GateCfg) : Bool :=
  wf c.d0 28 24 != 0 || wf c.d0 11 7 != 0 ||
    (wf c.d0 31 31 == 1 && (wf c.d0 6 0 == 0 || decide (64 < wf c.d0 6 0)
      || decide (4096 < wf c.d0 23 12 + wf c.d0 6 0) || c.d1 == 0))

/-- A GCL index lies inside the operational or pending list of an enabled gate (R200). -/
def gclInUse (s : State) (i : Nat) : Bool :=
  let inList := fun (c : GateCfg) => wf c.d0 31 31 == 1 && decide (wf c.d0 23 12 ≤ i) && decide (i < wf c.d0 23 12 + wf c.d0 6 0)
  s.pol.gates.any fun e => inList e.2.cfg || (match e.2.pend with | some c => inList c | none => false)

/-- The index limit of an object. -/
def polMax (obj : Nat) : Nat := if obj = 0 then 8191 else if obj = 1 then 255 else 4095

/-- The instant at which a gate configuration written at `now` becomes operational: the first cycle start at or after CHANGE_TIME
and the write (R199). -/
def gateInstant (c : GateCfg) (now : Nat) : Nat :=
  let t := max (GateCfgChange c) now
  if t ≤ GateCfgBase c then GateCfgBase c
  else
    let cyc := max c.d1.toNat 1
    GateCfgBase c + (t - GateCfgBase c + cyc - 1) / cyc * cyc

/-- WRITE of a policer, gate or GCL entry. -/
def polWrite (obj index : Nat) (keep : Bool) (s : State) : State :=
  let d := polData s
  if obj = 0 then
    if policerBad (d 0) (d 1) (d 2) (d 3) then polStatus 2 s
    else
      let old := refill (s.policer index) s.vault
      let x : Policer := ⟨d 0, d 1, d 2, d 3, 0, 0, s.vault, 0, 0, 0⟩
      let full := fillBuckets x
      let x := if keep then { x with tc := min old.tc full.tc, tp := min old.tp full.tp } else full
      polStatus 0 (s.setPolicer index x)
  else if obj = 1 then
    let c : GateCfg := ⟨d 0, d 1, d 2, d 3, d 4, d 5⟩
    let g := s.gate index
    if g.pend.isSome ∧ wf c.d0 31 31 = 1 then polStatus 4 s
    else if gateBad c then polStatus 2 s
    else if wf c.d0 31 31 = 0 then polStatus 0 (s.setGate index { g with cfg := c, pend := none, pendAt := 0 })
    else polStatus 0 (s.setGate index { g with pend := some c, pendAt := gateInstant c s.now })
  else if gclInUse s index then polStatus 3 s
  else polStatus 0 (s.modPol fun p => { p with gcl := kvSet 0 p.gcl index (d 0) })

/-- Put a word into POL_DATA[k]. -/
def putPol (k : Nat) (v : Nat) (s : State) : State := s.setReg W.POL (POL_DATA + 4 * k) v

/-- READ of an entry with its counts. -/
def polRead (obj index : Nat) (s : State) : State :=
  if obj = 0 then
    let x := s.policer index
    let r := if polType x = 0 then x else refill x s.vault
    polStatus 0 <| putPol 7 ((r.tc / 65536) * 256) <| putPol 6 x.red <| putPol 5 x.yellow <| putPol 4 x.green <|
      putPol 3 x.d3.toNat <| putPol 2 x.d2.toNat <| putPol 1 x.d1.toNat <| putPol 0 x.d0.toNat s
  else if obj = 1 then
    let g := s.gate index
    let c := g.pend.getD g.cfg
    polStatus 0 <| putPol 7 (b2n g.pend.isSome) <| putPol 6 g.closed <| putPol 5 c.d5.toNat <| putPol 4 c.d4.toNat <|
      putPol 3 c.d3.toNat <| putPol 2 c.d2.toNat <| putPol 1 c.d1.toNat <| putPol 0 c.d0.toNat s
  else polStatus 0 (putPol 0 (kvGet 0 s.pol.gcl index).toNat s)

/-- CLEAR of an entry's counts. -/
def polClear (obj index : Nat) (s : State) : State :=
  if obj = 0 then polStatus 0 (s.setPolicer index { s.policer index with green := 0, yellow := 0, red := 0 })
  else if obj = 1 then polStatus 0 (s.setGate index { s.gate index with closed := 0 })
  else polStatus 2 s

/-- POL_CMD is written: the command acts between two decisions (R208, R209, R559). -/
def doPolCmd (data : Nat) (bad : List BadEntry) (s : State) : State :=
  let obj := bits data 17 16
  let op := bits data 14 13
  let index := bits data 12 0
  if obj = 3 ∨ op = 0 ∨ (op = 3 ∧ obj = 2) then polStatus 2 s
  else if polMax obj < index ∨ (obj = 0 ∧ index = 0 ∧ op = 1) then polStatus 1 s
  else if op ≠ 1 ∧ (bad.contains (.policer index) && obj == 0 || bad.contains (.gate index) && obj == 1
      || bad.contains (.gcl index) && obj == 2) then polStatus 5 (s.raise W.POL 2 (entryLoc W.POL index))
  else if op = 1 then polWrite obj index (bit data 15) s
  else if op = 2 then polRead obj index s
  else polClear obj index s

/-- A pending gate configuration becomes operational at its instant (R199). -/
def doGateChange (g : Nat) (s : State) : State :=
  match (s.gate g).pend with
  | none => s
  | some c => if s.now < (s.gate g).pendAt then s else s.setGate g { s.gate g with cfg := c, pend := none, pendAt := 0 }

/-- CDM_CMD is written (R203, R208, R559). -/
def doCdmCmd (data : Nat) (bad : List BadEntry) (s : State) : State :=
  let op := bits data 13 12
  let k := bits data 11 0
  let st := fun (v : Nat) (s : State) => s.setReg W.CDM CDM_CMD_STAT v
  let d := fun (i : Nat) => BitVec.ofNat 32 (s.reg W.CDM (CDM_DATA + 4 * i))
  if op = 0 then st 2 s
  else if op = 1 then
    if k = 0 then st 1 s
    else if wf (d 0) 28 24 ≠ 0 ∨ (wf (d 0) 31 31 = 1 ∧ wf (d 0) 23 0 = 0) ∨ wf (d 2) 29 0 ≠ 0 then st 2 s
    else st 0 (s.setCadence k ⟨d 0, d 1, .unsynced, 0, 0, 0, 0⟩)
  else if bad.contains (.cadence k) then st 5 (s.raise W.CDM 2 (entryLoc W.CDM k))
  else if op = 2 then
    let x := s.cadence k
    let code := match x.state with | .unsynced => 0 | .running => 1 | .missing => 2
    let put := fun (i v : Nat) (s : State) => s.setReg W.CDM (CDM_DATA + 4 * i) v
    st 0 <| put 3 (x.early * 65536 + x.miss) <| put 2 (code * 2 ^ 30) <| put 1 x.d1.toNat <| put 0 x.d0.toNat s
  else
    let x := s.cadence k
    st 0 (s.setCadence k { x with state := .unsynced, early := 0, miss := 0 })

/-- The strobe check of R213. -/
def polCheck (s : State) : Nat :=
  let sh := fun o hi lo => bits (s.shadow W.POL o) hi lo
  if (List.range 256).any (fun k => decide (sh (POL_FRULE + 8 * k) 31 16 < sh (POL_FRULE + 8 * k) 15 0))
      || (List.range 16).any (fun k => decide (256 < sh (POL_FPROF + 4 * k) 16 8)) then 1
  else if (List.range 64).any (fun p => sh (POL_PORTFLT + 4 * p) 4 4 == 1 &&
      let prof := POL_FPROF + 4 * sh (POL_PORTFLT + 4 * p) 3 0
      decide (256 < sh prof 7 0 + sh prof 16 8)) then 3
  else 0

end Sys2Proof.Machine
end

