-- ==== Sys2Proof/Machine/Icx.lean ====
section
/-! DEFINITION. Bus errors and their log in ICX (R5, R61), and the answer of the last access. -/
namespace Sys2Proof.Machine
open Reg

/-- Reason codes of a bus error (R61). -/
abbrev errUnmapped : Nat := 1
abbrev errAccess : Nat := 2
abbrev errSize : Nat := 3
abbrev errTimeout : Nat := 4
abbrev errGuard : Nat := 5
abbrev errPending : Nat := 6
abbrev errUncorr : Nat := 7

/-- The xSPI read window (R406). -/
abbrev xspiBase : Nat := 0x800000000
abbrev xspiEnd : Nat := 0x820000000

/-- The window of an address of the register region, none outside it (R6). -/
def windowOf (addr : Nat) : Option Nat :=
  if 0x40000000 ≤ addr ∧ addr < 0x44000000 then some ((addr - 0x40000000) / 0x10000) else none

/-- The shore whose controller an initiator is. -/
def shcOf : Initiator → Option Nat
  | .shcA => some 0
  | .shcB => some 1
  | _ => none

/-- The location of an access that reached no target (R61). -/
def noTarget : Nat := locCode 3 W.ICX 0x3F 0xFF 0x3F

/-- The location of what answered an access, or should have (R61). -/
def answerLoc (s : State) (addr : Nat) : Nat :=
  if xspiBase ≤ addr ∧ addr < xspiEnd then locBlock W.XSP
  else if s.inDram addr 1 then locBlock W.DMC
  else match windowOf addr with
    | some w => if (blkOf w).isSome then locSelf w else noTarget
    | none => noTarget

/-- A bus error enters the log, or LOST when the log is full, and raises ICX_ERROR (R61); one that reached no target is located
in no die (R5). -/
def logBusErr (e : BusErr) (s : State) : State :=
  let s := if s.icxLog.length < 16 then { s with icxLog := s.icxLog ++ [e] } else { s with icxLost := satAdd 8 s.icxLost 1 }
  s.raise W.ICX 2 (if e.loc = noTarget then noTarget else locSelf W.ICX)

/-- The access ended with read data 0 or its write discarded, for `reason`. -/
def busFail (i : Initiator) (addr reason : Nat) (spec write : Bool) (loc : Nat) (s : State) : State :=
  logBusErr ⟨addr, reason, i.code, spec, write, loc⟩ { s with bus := ⟨0, reason⟩ }

/-- The access ended well with data `v`. -/
def busDone (v : Nat) (s : State) : State := { s with bus := ⟨BitVec.ofNat 64 v, 0⟩ }

end Sys2Proof.Machine
end

