-- ==== Sys2Proof/Machine/Twin.lean ====
section
/-! DEFINITION. The twin pair: roles and fence, becoming Active and yielding, the messages of the twin link and the twin bridge
(19_twin_pair.md). -/
namespace Sys2Proof.Machine
open Reg

def State.modTwin (s : State) (f : Twin → Twin) : State := { s with twin := f s.twin }

/-- CRN_WDT.EN (R457). -/
def wdtOn (s : State) : Bool := s.flag W.CRN CRN_WDT 31

/-! ### Fence and levels (R481, R482, R497) -/

/-- The pattern on TWIN_FENCE_OUT: 0 DEAD, 1 STBY, 2 ALIVE. -/
def fenceOut (s : State) : Nat :=
  if s.enabled W.TWL && wdtOn s && (s.pwr.state == .run || s.pwr.state == .doze) && !s.pwr.held then
    (if s.twin.active then 2 else 1)
  else 0

/-- The level sources of TWL: LINK_DOWN, HB_LOST, FENCE_DEAD and SPLIT. -/
def twinLevels (s : State) : State :=
  let en := s.enabled W.TWL
  let on := fun k b s => s.level W.TWL k (locSelf W.TWL) (en && b)
  on 10 (s.twin.active && fenceOut s == 2 && s.twin.fence == 2) <|
    on 4 (s.twin.fence == 0) <|
      on 3 (decide (s.fld W.TWL TWL_CTRL 19 16 ≤ s.twin.misses)) <| on 2 (s.twin.lanes == 0) s

/-- TWL_STAT. -/
def twlStat (s : State) : Nat :=
  b2n (twinActive s) * 2 ^ 31 + b2n (twinUp s) * 2 ^ 30 + b2n (twinMate s) * 2 ^ 29 + b2n s.twin.yielded * 2 ^ 28
    + s.twin.fence * 2 ^ 26 + fenceOut s * 2 ^ 24 + b2n s.twin.peerActive * 2 ^ 23 + min s.twin.lanes 2 * 2 ^ 16
    + min s.twin.misses 255 * 2 ^ 8

/-- TWL sends the gate mask and the Active state to a shore over its control lane (R484). -/
def sendGate (d : Nat) (s : State) : State :=
  if (s.bridge d).up then
    s.modShore d fun h => { h with gate := s.reg W.TWL TWL_GATE_CAN % 2 ^ 24, mainStby := !twinActive s }
  else s

/-- To both shores: at every apply and at every change of state (R484). -/
def sendGates (s : State) : State := sendGate 1 (sendGate 0 s)

/-- The device becomes Active or enters Standby (R483, R487). -/
def setActive (b : Bool) (s : State) : State := twinLevels (sendGates (s.modTwin fun t => { t with active := b }))

/-- FENCE_EDGE: the half period in ns between the last two edges (R482). -/
def doFenceEdge (half : Nat) (s : State) : State :=
  let v := if 20000 ≤ half ∧ half ≤ 30000 then 2 else if 40000 ≤ half ∧ half ≤ 60000 then 1 else 0
  twinLevels (s.modTwin fun t => { t with fence := v })

/-- FENCE_DEAD_TIMEOUT: no edge for 110 µs (R482). -/
def doFenceTimeout (s : State) : State := twinLevels (s.modTwin fun t => { t with fence := 0 })

/-! ### Becoming Active and yielding (R485–R488) -/

/-- What R485 and R486 have in common, at the instant the 250 µs without ALIVE have passed. -/
def mayLead (s : State) : Bool :=
  s.enabled W.TWL && wdtOn s && !s.twin.yielded && !s.twin.active && s.twin.fence != 2

/-- LEAD_ACTIVE (R485). -/
def doLeadActive (s : State) : State := if mayLead s && !twinMate s then setActive true s else s

/-- The partner's NM requests become this device's (R492). -/
def adoptNm (s : State) : State :=
  if s.flag W.TWL TWL_CTRL 27 then
    doNetreq NMU_NETREQ_HI (s.reg W.TWL TWL_PEER_NETREQ_HI) (doNetreq NMU_NETREQ_LO (s.reg W.TWL TWL_PEER_NETREQ_LO) s)
  else s

/-- TAKEOVER (R486). -/
def doTakeover (s : State) : State :=
  if mayLead s && twinMate s && (decide (s.fld W.TWL TWL_CTRL 19 16 ≤ s.twin.misses) || s.twin.peerYielded) then
    setActive true (adoptNm (ledgerTakeover ((s.count W.TWL TWL_TAKEOVERS).raise0 W.TWL 5)))
  else s

/-- HEARTBEAT_MISS: a 1 ms interval without a heartbeat (R486). -/
def doHeartbeatMiss (s : State) : State :=
  if !s.enabled W.TWL then s
  else twinLevels ((s.count W.TWL TWL_HB_MISSED).modTwin fun t => { t with misses := satAdd 8 t.misses 1 })

/-- A completed guarded sequence to TWL_CMD (R487, R496); YIELD beside CLAIM leaves YIELDED open. -/
def doTwlCmd (data : Nat) (s : State) : State :=
  let both := bit data 0 && bit data 1
  let d := if both then s.drawWord else (0, s)
  let s := d.2
  let s := if bit data 0 then setActive false (s.modTwin fun t => { t with yielded := true }) else s
  if bit data 1 then s.modTwin fun t => { t with yielded := both && d.1 % 2 == 1 } else s

/-- YIELD_EVENT: an Active Mate has read ALIVE for 250 µs (R488). -/
def doYieldEvent (s : State) : State :=
  if s.enabled W.TWL && s.twin.active && twinMate s && s.twin.fence == 2 then
    setActive false ((s.modTwin fun t => { t with yielded := true }).raise0 W.TWL 6)
  else s

/-! ### The link (R489) -/

/-- TWIN_LINK_RETRAIN: the training of a down link leaves `lanes` in service and measures the delay. -/
def doTwinRetrain (lanes delay : Nat) (s : State) : State :=
  if !s.enabled W.TWL || s.twin.lanes != 0 || lanes == 0 then s
  else
    let s := s.setReg W.TWL TWL_LINKDLY delay
    twinLevels (syncPort 52 (s.modTwin fun t => { t with lanes := min lanes 2, txSeq := [], rxSeq := [] }))

/-- A bridge access ends without a response: bus error 0x04 (R495). -/
def bridgeEnd (r : BridgeReq) (s : State) : State :=
  busFail r.init (winAddr W.TWL (TWL_BR_DATA + 0x10 * r.init.code)) errTimeout false r.write (locSelf W.TWL)
    (s.modTwin fun t => { t with reqs := delFirst (· == r) t.reqs })

/-- The link goes down: every bridge access ends at once (R495). -/
def twinLinkOff (s : State) : State :=
  let s := s.twin.reqs.foldl (fun s r => bridgeEnd r s) s
  twinLevels (syncPort 52 (s.modTwin fun t => { t with lanes := 0 }))

/-- TWIN_LINK_DOWN: a lane fails; the link goes down with its last one. -/
def doTwinLinkDown (s : State) : State :=
  if s.twin.lanes ≤ 1 then (if s.twin.lanes = 0 then s else twinLinkOff s)
  else s.modTwin fun t => { t with lanes := t.lanes - 1 }

/-- TWIN_MESSAGE_RESEND. -/
def doTwinResend (s : State) : State := if twinUp s then s.count W.TWL TWL_RETRY else s

/-- TWIN_HEARTBEAT_SEND: every 1 ms while EN is 1 and the link is up. -/
def doTwinHeartbeatSend (s : State) : State :=
  if twinUp s then (twinSend 0 s).modTwin fun t => { t with sent := (t.sent + 1) % 65536 } else s

/-- A message that R490 discards. -/
def protoErr (s : State) : State :=
  noticeOffer 0x28 ansNoFrame none 52 0xFFFF (locSelf W.TWL) ((s.count W.TWL TWL_BAD).raise0 W.TWL 7)

/-- The virtual channel of a message type (R489). -/
def vcOf (t : Nat) : Option Nat :=
  match t with
  | 1 => some 0 | 2 => some 3 | 3 => some 3 | 4 => some 3 | 5 => some 1 | 6 => some 1 | 7 => some 2
  | _ => none

/-- The payload lengths of a message type. -/
def twinLenOk (t n : Nat) : Bool :=
  match t with
  | 1 => n == 16 | 2 => n == 20 | 3 => n == 28 | 4 => decide (48 ≤ n) | 5 => n == 16 | 6 => n == 20 | 7 => n == 8
  | _ => false

/-- A whole message whose CRC is right: header of 8 bytes and payload (R489). A message of another type than `t` is handled as
one that R490 discards. -/
def twinMessage (t : Nat) (msg : List Byte) (f : List Byte → State → State) (s : State) : State :=
  if !twinUp s then s
  else
    let p := msg.drop 8
    let vc := byteAt msg 1 / 64
    if byteAt msg 0 != t || vcOf t != some vc || beNat (slice msg 2 2) != p.length || !twinLenOk t p.length
        || decide (msg.length < 8) then protoErr s
    else f p (s.modTwin fun x => { x with rxSeq := kvSet 0 x.rxSeq vc (beNat (slice msg 4 2)) })

/-- HEARTBEAT (R486, R489). -/
def doHeartbeatRx (p : List Byte) (s : State) : State :=
  let b := byteAt p 0
  let s := (s.count W.TWL TWL_HB_RX).modTwin fun t =>
    { t with misses := 0, peerActive := bit b 1, peerYielded := bit b 2 }
  let off := beNat (slice p 4 8) + s.reg W.TWL TWL_LINKDLY + (2 ^ 64 - s.now)
  twinLevels (s.setReg64 W.TWL TWL_TOFFSET_LO (off % 2 ^ 64))

/-- The tag of a received FRAME (R491). -/
def twinTag (t : Tag) (now : Nat) : Tag :=
  let r := (((((Tag.fresh t.kind 52 now).setTagver t.tagver).setCls t.cls).setLength t.length))
  { r with w4 := t.w4, w7 := t.w7, w8 := t.w8, w9 := t.w9 }

/-- A tag from its 48 bytes. -/
def tagOf48 (l : List Byte) : Tag :=
  (List.range 12).foldl (fun t i => t.setWord i (BitVec.ofNat 32 (beNat (slice l (4 * i) 4)))) Tag.zero

/-- FRAME (R491). -/
def doTwinFrame (p : List Byte) (s : State) : State :=
  let t := tagOf48 (p.take 48)
  if t.tagver != 1 || decide (7 < t.kind) then protoErr s
  else offerFrame 9 ⟨twinTag t s.now, p.drop 48⟩ true .twin s

/-- LEARN_DELTA: the item enters the learning queue (R492); NTYPE 1 learn, 2 move, 3 age-out (R184). -/
def doLearnDelta (p : List Byte) (s : State) : State :=
  let kind : Option LearnKind := match byteAt p 0 with
    | 1 => some .learn | 2 => some .move | 3 => some .ageOut
    | _ => none
  match kind with
  | none => s
  | some k =>
    if 256 ≤ s.emt.queue.length then (s.count W.TWL TWL_DELTA_DROP).raise0 W.TWL 9
    else if !s.enabled W.EMT then s
    else queueLearn ⟨BitVec.ofNat 128 (beNat (slice p 4 16)), byteAt p 1, k, none, true⟩ s

/-- NM_DELTA (R492). -/
def doNmDelta (p : List Byte) (s : State) : State :=
  let req := beNat (p.take 5)
  let s := (s.setReg W.TWL TWL_PEER_NETREQ_LO req).setReg W.TWL TWL_PEER_NETREQ_HI (req >>> 32)
  foldRange (fun s k => s.setReg W.TWL (TWL_PEER_NM + 4 * k) (beNat (slice p (8 + 4 * k) 4))) s 0 5

/-! ### The bridge (R493–R495) -/

/-- The bridge port that an offset of TWL belongs to, with the offset in it. -/
def bridgePort (off : Nat) : Option (Nat × Nat) :=
  if 0x200 ≤ off ∧ off < 0x250 then some ((off - 0x200) / 16, off % 16) else none

/-- The remote address that a bridge port holds. -/
def bridgeAddr (s : State) (i : Nat) : Nat :=
  s.reg W.TWL (TWL_BR_ADDR_LO + 16 * i) + 2 ^ 32 * s.reg W.TWL (TWL_BR_ADDR_HI + 16 * i)

/-- The remote address lies in the register region or in the DRAM region of R406, whose size here is that of this device. -/
def bridgeAddrOk (s : State) (a : Nat) : Bool :=
  a % 4 == 0 && ((windowOf a).isSome || s.inDram a 4)

/-- A remote access leaves for the partner, or ends at once (R493, R495). -/
def doBridge (i : Initiator) (write : Bool) (data : Nat) (s : State) : State :=
  let a := bridgeAddr s i.code
  let here := winAddr W.TWL (TWL_BR_DATA + 16 * i.code)
  if !bridgeAddrOk s a then busFail i here errSize false write (locSelf W.TWL) s
  else if !twinUp s then busFail i here errTimeout false write (locSelf W.TWL) s
  else (twinSend 1 s).modTwin fun t => { t with reqs := t.reqs ++ [⟨i, write, a, data⟩] }

/-- BR_RESP: the oldest waiting access of initiator `i` completes with the remote reason and data (R495); a response to an
access that has ended (`late`) is discarded. -/
def doBrResp (i : Initiator) (late : Bool) (p : List Byte) (s : State) : State :=
  match if late then none else s.twin.reqs.find? (·.init == i) with
  | none => s
  | some r =>
    let s := s.modTwin fun t => { t with reqs := delFirst (· == r) t.reqs }
    let reason := byteAt p 0
    let s := s.setReg W.TWL (TWL_BR_STAT + 16 * i.code) reason
    if reason = 0 then
      let v := beNat (slice p 4 4)
      if r.write then busDone 0 s else busDone v (s.setReg W.TWL (TWL_BR_DATA + 16 * i.code) v)
    else busFail i (winAddr W.TWL (TWL_BR_DATA + 16 * i.code)) reason false r.write (locSelf W.TWL) s

/-- BR_TIMEOUT: 100 µs without a response (R495). -/
def doBrTimeout (i : Initiator) (s : State) : State :=
  match s.twin.reqs.find? (·.init == i) with
  | none => s
  | some r => bridgeEnd r ((s.count W.TWL TWL_BR_TIMEOUTS).raise0 W.TWL 8)

/-! ### Register effects -/

/-- A TWL apply: the gate state goes to the shores, and HB_MISS is judged anew (R484). -/
def twlApplied (s : State) : State := twinLevels (sendGates s)

/-- The strobe check of R496. -/
def twlCheck (s : State) : Nat :=
  let m := bits (s.shadow W.TWL TWL_CTRL) 19 16
  if m < 2 then 1 else 0

/-- BLK_CTRL.EN of TWL becomes 1 or 0: at enable the device is in Standby until R485 or R486 holds; while EN is 0 its strap
decides (R480, R487). -/
def twlEnabled (on : Bool) (s : State) : State :=
  let s := if on then s.modTwin fun t => { t with active := false, misses := 0 } else twinLinkOff s
  twinLevels (sendGates (syncPort 52 s))

/-- Frames owed to port 52 leave whole, as FRAME messages, while the link is up (R491). -/
def twinSweep (s : State) : State :=
  if !twinUp s then s
  else (List.range 8).foldl (fun s k =>
    let c := 7 - k
    (s.queueFids (8 * 52 + c)).foldl (fun s _ =>
      match s.headOf (8 * 52 + c) with
      | some (f, _) => dropCopy f.fid 52 (twinSend 3 s)
      | none => s) s) s

/-- A TWL reset (R41): the link goes down, nothing of the pair's state is kept, and the shores hear of the change (R484,
R495). -/
def twlReset (s : State) : State := syncPort 52 (sendGates { twinLinkOff s with twin := Twin.reset })

end Sys2Proof.Machine
end

