-- ==== Sys2Proof/Machine/Classify.lean ====
section
/-! DEFINITION. Classification of a frame at its fabric input: profile, key, lookups, action, learning, checks, and the
resolution of its destination (07_classification_tables.md; R89, R105, R111, R191). -/
namespace Sys2Proof.Machine
open Reg

/-- The CLS window that serves a fabric input (R160). -/
def clsOf (fp : Nat) : Nat := if fp < 8 then 0x01A else 0x01B

/-! ### Profile and key (R162, R163) -/

/-- The profile that CLS_PORTSEL selects for a frame; none where the selector is invalid. -/
def profileFor (s : State) (t : Tag) : Option Nat :=
  if 64 ≤ t.srcPort then none
  else
    let r := s.reg W.CLS (CLS_PORTSEL + 4 * t.srcPort)
    let lo := if t.kind ≤ 2 then 0 else if t.kind = 3 then 6 else if t.kind ≤ 5 then 12 else 18
    if bit r (lo + 5) then some (bits r (lo + 4) lo) else none

/-- The VLAN ID of R163: the outer tag's, or the port's PVID. -/
def vidOf (s : State) (t : Tag) (p : List Byte) : Nat :=
  let v := outerTci p % 4096
  if vlanTags p = 0 ∨ v = 0 then s.fld W.CLS (CLS_PORTLRN + 4 * t.srcPort) 11 0 else v

/-- The IPv4 fields: addresses, protocol and ports; zeros for a frame that is not IPv4. -/
def ip5Of (p : List Byte) : List Byte :=
  let o := typeOff p + 2
  if etherType p != 0x0800 || byteAt p o / 16 != 4 then zeros 13
  else
    let proto := byteAt p (o + 9)
    let l4 := o + byteAt p o % 16 * 4
    let ports := if (proto = 6 ∨ proto = 17) ∧ u16 p (o + 6) % 8192 = 0 then u16 p l4 * 65536 + u16 p (l4 + 2) else 0
    beBytes 4 (beNat (slice (p ++ zeros 64) (o + 12) 4)) ++ beBytes 4 (beNat (slice (p ++ zeros 64) (o + 16) 4))
      ++ beBytes 1 proto ++ beBytes 4 ports

/-- The key of a frame under profile `k` (R163). -/
def keyOf (s : State) (k : Nat) (t : Tag) (payload : List Byte) : BitVec 128 :=
  let p := payload.take 128
  let eth := t.kind == 3
  let prof := s.reg W.CLS (CLS_PROF + 4 * k)
  let can := if t.kind ≤ 2 then wf t.w7 31 31 * 2 ^ 31 + (wf t.w7 28 0 &&& s.fld W.CLS (CLS_PROF_IDMASK + 4 * k) 28 0) else 0
  let z := p ++ zeros 128
  let field := fun (i : Nat) => match i with
    | 0 => beBytes 1 t.srcPort
    | 1 => beBytes 4 can
    | 2 => beBytes 2 t.pdu
    | 3 => beBytes 2 (if eth then vidOf s t p else 0)
    | 4 => if eth then z.take 6 else zeros 6
    | 5 => if eth then slice z 6 6 else zeros 6
    | 6 => beBytes 2 (if eth then etherType p else 0)
    | _ => if eth then ip5Of p else zeros 13
  let body := ((List.range 8).filter (bit prof)).flatMap field
  BitVec.ofNat 128 (beNat ((beBytes 1 (bits prof 31 24) ++ body ++ zeros 16).take 16))

/-- Where the IPv4 fields of a frame end, as far as its first bytes tell it. -/
def ip5End (p : List Byte) : Nat :=
  let o := typeOff p + 2
  if p.length ≤ o then o + 1
  else if etherType p != 0x0800 || byteAt p o / 16 != 4 then o
  else if p.length < o + 10 then o + 10
  else if (byteAt p (o + 9) = 6 ∨ byteAt p (o + 9) = 17) ∧ u16 p (o + 6) % 8192 = 0 then max (o + 20) (o + byteAt p o % 16 * 4 + 4)
  else o + 20

/-- The leading bytes that the selected fields need, up to the first 128 (R161, R163). -/
def keyBytesNeeded (s : State) (t : Tag) (p : List Byte) : Nat :=
  if t.kind ≠ 3 then 0
  else match profileFor s t with
    | none => 0
    | some k =>
      let need := fun (i : Nat) => match i with
        | 3 => if vlanTags p = 0 then 14 else 16
        | 4 => 6
        | 5 => 12
        | 6 => typeOff p + 2
        | 7 => ip5End p
        | _ => 0
      min 128 (((List.range 8).filter (s.flag W.CLS (CLS_PROF + 4 * k))).foldl (fun n i => max n (need i)) 0)

/-! ### The action (R174–R177) -/

/-- Four action words. -/
structure Action where
  a0 : Word
  a1 : Word
  a2 : Word
  a3 : Word

def Action.words (a : Action) : List Word := [a.a0, a.a1, a.a2, a.a3]

/-- The WCT record applied on top of the EMT record. -/
def Action.overlay (e w : Action) : Action :=
  let keep := wf w.a0 27 27 = 1
  let a0 := e.a0.toNat ||| (w.a0.toNat &&& 0x040F0000)
  let a0 := if wf w.a0 25 25 = 1 then putBits a0 25 20 (wf w.a0 25 20) else a0
  let a0 := if keep then a0 else putBits a0 15 0 (wf w.a0 15 0)
  let a1 := if wf w.a1 18 6 = 0 then e.a1.toNat else putBits e.a1.toNat 18 6 (wf w.a1 18 6)
  let a1 := if keep then a1 else putBits (putBits a1 31 19 (wf w.a1 31 19)) 5 0 (wf w.a1 5 0)
  let a2 := if wf w.a2 31 20 = 0 then e.a2.toNat else putBits e.a2.toNat 31 20 (wf w.a2 31 20)
  let a2 := if wf w.a2 19 19 = 1 then putBits a2 19 6 (wf w.a2 19 6) else a2
  ⟨BitVec.ofNat 32 a0, BitVec.ofNat 32 a1, BitVec.ofNat 32 a2, if wf w.a3 31 31 = 1 then w.a3 else e.a3⟩

/-- The default action of a profile. -/
def defaultAction (s : State) (k : Nat) : Action :=
  let w := fun j => BitVec.ofNat 32 (s.reg W.CLS (CLS_DEFACT + 16 * k + 4 * j))
  ⟨w 0, w 1, w 2, w 3⟩

/-- The action writes the tag (R177). -/
def Action.write (a : Action) (t : Tag) : Tag :=
  let t := if wf a.a1 31 31 = 1 then (t.setDstPort 0xFF).setPortset (wf a.a1 30 19) else t.setDstPort (wf a.a1 26 19)
  let t := (t.setFlow (wf a.a0 15 0)).setQueue (wf a.a1 5 0)
  let t := if wf a.a0 25 25 = 1 then (t.setCls (wf a.a0 24 22)).setDropPrec (wf a.a0 21 20) else t
  let t := { t with w3 := t.w3 ||| BitVec.ofNat 32 (wf a.a0 19 16 * 2 ^ 20) }
  let t := if wf a.a2 19 19 = 1 then t.setPdu (wf a.a2 18 6) else t
  if wf a.a3 31 31 = 1 then (t.setFreshIdx (wf a.a3 29 16)).setKeyHandle (wf a.a3 9 0) else t

/-- What the lookups of a frame lead to: an action, a discard by a default action with VALID 0, or a discard for a bad record
with the tag it coded (R176, R177). -/
inductive Formed where
  | act (a : Action) | miss | bad (t : Tag)

/-- The action of a frame. -/
def formAction (cw k : Nat) (bad : List BadEntry) (key : BitVec 128) (t : Tag) (s : State) : Formed × State :=
  let s := s.count64 cw CLS_LOOKUPS_LO
  let r := if s.enabled W.EMT then emtLookup bad key s else (none, s)
  let s := r.2
  let emt := r.1.map s.emtAt
  let s := if emt.isSome then s.count cw CLS_EMT_HITS else s
  let ask := emt.all fun e => wf e.a0 27 27 == 1
  let r := if ask then
      let s := s.count64 cw CLS_LOOKUPS_LO
      if s.enabled W.WCT then wctLookup bad key s else (none, s)
    else (none, s)
  let s := r.2
  let wct := r.1
  let s := if wct.isSome then s.count cw CLS_WCT_HITS else s
  let isBad := emt.any (fun e => badAction e.act) || wct.any (fun w => badAction w.act)
  if isBad then
    let r := violate 0x3F true 0xFFFF (locSelf cw) t ((s.count cw CLS_BADACT).raise0 cw 2)
    (.bad r.1, r.2)
  else
    match emt, wct with
    | some e, none => (.act ⟨e.a0, e.a1, e.a2, e.a3⟩, s)
    | some e, some w => (.act (Action.overlay ⟨e.a0, e.a1, e.a2, e.a3⟩ ⟨w.a0, w.a1, w.a2, w.a3⟩), s)
    | none, some w => (.act ⟨w.a0, w.a1, w.a2, w.a3⟩, s)
    | none, none =>
      let d := defaultAction s k
      let s := s.count cw CLS_MISSES
      if wf d.a0 31 31 = 1 then (.act d, s) else (.miss, s.count cw CLS_MISS_DROP)

/-! ### Learning (R180) -/

/-- The port-set table entry `i`, none for an uncorrectable one (R179). -/
def portSet (i : Nat) (bad : List BadEntry) (s : State) : Option Nat × State :=
  if bad.contains (.pset i) then (none, s.raise W.CLS 3 (locCode 0 W.CLS 0 (i / 64 % 64) (i % 64)))
  else (some (kvGet 0 s.pset i).toNat, s)

/-- The learning lookup of a frame that classification has not discarded. -/
def learnFrom (cw : Nat) (a : Arrival) (t : Tag) (bad : List BadEntry) (s : State) : Tag × State :=
  let p := t.srcPort
  let r := s.reg W.CLS (CLS_PORTLRN + 4 * p)
  let sa := slice (a.payload ++ zeros 12) 6 6
  if t.kind ≠ 3 ∨ !isEthPort p ∨ !bit r 31 ∨ t.noLearn ∨ byteAt sa 0 % 2 = 1 ∨ !s.enabled W.EMT then (t, s)
  else
    let dom := s.fld W.CLS (CLS_PROF + 4 * bits r 20 16) 31 24
    let key := BitVec.ofNat 128 (beNat ((beBytes 1 dom ++ beBytes 2 (vidOf s t (a.payload.take 128)) ++ sa ++ zeros 7).take 16))
    let s := (s.count cw CLS_LRN_LOOKUPS).count64 cw CLS_LOOKUPS_LO
    let waits := if a.whole then none else some a.fid
    let put := fun (k : LearnKind) (s : State) =>
      if a.whole && (t.trunc || t.err) then s else queueLearn ⟨key, p, k, waits, false⟩ s
    let (hit, s) := emtLookup bad key s
    match hit with
    | none => (t, put .learn s)
    | some ad =>
      let e := s.emtAt ad
      if !e.static then (t, put (if !e.pset && e.dest % 256 == p then .refresh else .move) s)
      else
        let m := if e.pset then portSet e.dest bad s else (some (2 ^ (e.dest % 256)), s)
        if m.1.any (bit · p) then (t, m.2)
        else
          let s := m.2.count W.EMT EMT_STATIC_MOVE
          violate 0x1A false 0xFFFF (locSelf W.EMT) t (learnNotice 5 p (if e.pset then 0xFF else e.dest % 256) ad key s)

/-! ### PTP check (R377) -/

/-- The PTP check of a frame that arrives on an Ethernet port. -/
def ptpCheck (a : Arrival) (t : Tag) (s : State) : Tag × State :=
  let p := t.srcPort
  if t.kind ≠ 3 ∨ !isEthPort p ∨ !s.enabled W.TMS ∨ !s.flag W.TMS TMS_PTP_PORTS (p - 32) ∨ etherType a.payload ≠ 0x88F7 then (t, s)
  else
    let o := typeOff a.payload + 2
    let len := u16 a.payload (o + 2)
    let typ := byteAt a.payload o % 16
    let known := (List.range 2).any fun d => s.flag W.TMS (TMS_DOM + 4 * d) 31
      && s.fld W.TMS (TMS_DOM + 4 * d) 7 0 == byteAt a.payload (o + 4)
    if byteAt a.payload (o + 1) % 16 ≠ 2 ∨ len < 34 ∨ (a.whole ∧ a.payload.length - o < len) ∨ (4 ≤ typ ∧ typ ≤ 7) ∨ 14 ≤ typ ∨ !known then
      violate 0x20 false 0xFFFF (locSelf W.TMS) t ((s.count W.TMS TMS_PTP_BAD).raise0 W.TMS 5)
    else (t, s)

/-! ### Destination (R11, R89, R105, R111) -/

/-- The location of a report of a fabric input. -/
def locFp (fp : Nat) : Nat := locCode 0 W.FAB fp 0xFF 0x3F

/-- The resolved destination of a tag (R89): reserved ports removed, capture and mirror added; an uncorrectable port-set entry
resolves to the empty destination (R179). -/
def resolve (t : Tag) (bad : List BadEntry) (s : State) : Nat × State :=
  let r := if t.dstPort ≠ 0xFF then (some (if t.dstPort < 64 then 2 ^ t.dstPort else 0), s)
    else if 4096 ≤ t.portset then (some 0, s) else portSet t.portset bad s
  match r.1 with
  | none => (0, r.2)
  | some m =>
    let m := m &&& realMask
    let m := if 64 ≤ t.queue then putBit m 60 false else m
    let m := if t.capture then m ||| 2 ^ 58 else m
    (if t.mirror && twinUp r.2 then m ||| 2 ^ 52 else m, r.2)

/-- The frame is cut through (R111). -/
def cutsThrough (s : State) (t : Tag) (m : Nat) : Bool :=
  let ctPort := fun p => isEthPort p && s.flag W.FAB FAB_CT_EN (p - 32)
  let rate := fun p => speedMbps (emcSpeed s (p - 32))
  t.kind == 3 && ctPort t.srcPort && wf t.w8 31 31 == 0 && !t.engDone
    && (portsOf m).all fun p => p == 58 || (ctPort p && decide (rate t.srcPort ≤ rate p))

/-- Put the arrival's tag and destination in place, for its admission decision. -/
def settleArrival (fid : Nat) (t : Tag) (m : Nat) (s : State) : State :=
  s.modPond fun p => { p with
    arrivals := updFirst (·.fid == fid) (fun a => { a with tag := t, dest := some (BitVec.ofNat 64 m) }) p.arrivals }

/-- The frame is discarded at the fabric input; a violation drop may leave its capture copy, whose destination is port 58
alone (R192). -/
def dropAtInput (a : Arrival) (t : Tag) (s : State) : State :=
  if keepsCapture s t then settleArrival a.fid (t.setDstPort 58) (2 ^ 58) s else takeArrival a.fid s

/-- The destination is resolved, trimmed of engine ports past the pass limit, and cut-through is decided. -/
def routeArrival (a : Arrival) (t : Tag) (bad : List BadEntry) (s : State) : State :=
  let r := resolve t bad s
  let eng := 2 ^ 56 + 2 ^ 57
  if r.1 = 0 then
    let v := violate 0x30 true 0xFFFF (locFp a.fp) t r.2
    dropAtInput a v.1 v.2
  else if 2 ≤ t.passes ∧ r.1 &&& eng ≠ 0 then
    let s := (r.2.count W.FAB FAB_ENG_LIMIT).raise W.FAB 9 (locFp a.fp)
    let m := clearMask (r.1 / 2 ^ 32) (eng / 2 ^ 32) * 2 ^ 32 + r.1 % 2 ^ 32
    let v := violate 0x3F (m == 0) 0xFFFF (locFp a.fp) t s
    if m = 0 then dropAtInput a v.1 v.2
    else settleArrival a.fid (if cutsThrough v.2 v.1 m then v.1.setCt true else v.1) m v.2
  else settleArrival a.fid (if cutsThrough r.2 t r.1 then t.setCt true else t) r.1 r.2

/-! ### The whole pass (R161, R191) -/

/-- Checks, FRER and destination after the action has written the tag. -/
def afterAction (cw : Nat) (a : Arrival) (act : Action) (t : Tag) (bad : List BadEntry) (s : State) : State :=
  if wf act.a0 26 26 = 1 then takeArrival a.fid (s.count cw CLS_DROP)
  else
    let l := learnFrom cw a t bad s
    let c := runChecks (wf act.a1 18 6) (wf act.a2 31 20) bad ⟨l.1, false, l.2⟩
    if c.dropped then dropAtInput a c.tag c.s
    else
      let (t, pass, s) := frerStep c.tag bad c.s
      if pass then routeArrival a t bad s else takeArrival a.fid s

/-- Profile, key and lookups of a frame. -/
def classify (a : Arrival) (t : Tag) (bad : List BadEntry) (s : State) : State :=
  let cw := clsOf a.fp
  if !s.enabled cw || !s.enabled W.CLS then takeArrival a.fid s
  else
    match profileFor s t with
    | none => takeArrival a.fid (s.count cw CLS_NOPROF)
    | some k =>
      let r := formAction cw k bad (keyOf s k t a.payload) t s
      match r.1 with
      | .miss => takeArrival a.fid r.2
      | .bad t => dropAtInput a t r.2
      | .act x => afterAction cw a x (x.write t) bad r.2

/-- The frame arrived from a port, so that NMU and TMS examine it (R377, R384). -/
def fromPort (o : Origin) : Bool :=
  match o with
  | .port _ => true
  | _ => false

/-- The frame at input `fp` that is classified next. -/
def nextToClassify (s : State) (fp : Nat) : Option Arrival :=
  s.pond.arrivals.find? fun a => a.fp == fp && a.dest.isNone && (a.whole || decide (keyBytesNeeded s a.tag a.payload ≤ a.payload.length))

/-- FRAME_CLASSIFY. -/
def doClassify (fp : Nat) (bad : List BadEntry) (s : State) : State :=
  match nextToClassify s fp with
  | none => s
  | some a =>
    if a.tag.engDone then routeArrival a a.tag bad s
    else
      let r := if fromPort a.origin then nmExamine ⟨a.tag, a.payload⟩ s else (a.tag, s)
      let r := if fromPort a.origin then ptpCheck a r.1 r.2 else r
      classify a r.1 bad r.2

end Sys2Proof.Machine
end

