-- ==== Sys2Proof/Machine/Queues.lean ====
section
/-! DEFINITION. The core queues: Outlets toward the cores and Inlets from them (16_processors_and_core_queues.md). -/
namespace Sys2Proof.Machine
open Reg

def State.outlet (s : State) (q : Nat) : Outlet := kvGet Outlet.empty s.outlets q
def State.setOutlet (s : State) (q : Nat) (x : Outlet) : State := { s with outlets := kvSet Outlet.empty s.outlets q x }
def State.inlet (s : State) (q : Nat) : Inlet := kvGet Inlet.empty s.inlets q
def State.setInlet (s : State) (q : Nat) (x : Inlet) : State := { s with inlets := kvSet Inlet.empty s.inlets q x }

/-! ### Words and items (R423, R424) -/

/-- A 64-bit word from bytes, first byte in [63:56], zero-padded. -/
def rawWord (l : List Byte) : DWord := BitVec.ofNat 64 (beNat ((l ++ zeros 8).take 8))

/-- An item: kind, count and up to 7 bytes, first byte in [55:48]. -/
def itemWord (kind : Nat) (l : List Byte) : DWord :=
  BitVec.ofNat 64 (kind * 2 ^ 60 + (min l.length 7) * 2 ^ 56 + beNat ((l ++ zeros 7).take 7))

/-- The payload cut into pieces of `n` bytes; `k` bounds the number of pieces. -/
def pieces (n : Nat) : Nat → List Byte → List (List Byte)
  | 0, _ => []
  | k + 1, l => if l.isEmpty then [] else l.take n :: pieces n k (l.drop n)

/-- The words of a frame in raw mode (R423). -/
def rawWords (f : Frame) : List DWord :=
  (pieces 8 6 f.tag.bytesBE ++ pieces 8 f.payload.length f.payload).map rawWord

/-- The items of a frame in tagged mode (R424). -/
def taggedWords (f : Frame) : List DWord :=
  let body := pieces 7 f.payload.length f.payload
  (pieces 7 7 f.tag.bytesBE).map (itemWord 1)
    ++ (match body with
        | [] => [itemWord 3 []]
        | _ => (body.dropLast.map (itemWord 2)) ++ (body.drop (body.length - 1)).map (itemWord 3))

/-- The reads that a frame gives in a mode. -/
def frameWords (tagged : Bool) (f : Frame) : List DWord := if tagged then taggedWords f else rawWords f

/-- What a read of an empty Outlet returns. -/
def idleWord (tagged : Bool) : DWord := if tagged then 0xE000000000000000 else 0x0F00000000000000

/-! ### Outlets (R422–R426) -/

/-- The configuration word that governs Outlet `q`: a change takes effect at the next frame boundary. -/
def outCfg (s : State) (q : Nat) : Nat := if (s.outlet q).popped = 0 then s.reg W.CQ (CQ_OCFG + 4 * q) else (s.outlet q).cfg
def outNotice (s : State) (q : Nat) : Nat :=
  if (s.outlet q).popped = 0 then s.reg W.CQ (OUT_NOTICE + 0x20 * q) else (s.outlet q).notice
def outTagged (s : State) (q : Nat) : Bool := bit (outCfg s q) 31

/-- The copy of a frame that an Outlet holds. -/
def outletFrame (s : State) (fid : Nat) : Option Frame :=
  match s.frame? fid with
  | none => none
  | some f => (f.copies.find? (·.port == 60)).map (frameOf f)

/-- The words of the Outlet's oldest frame that remain. -/
def outLeft (s : State) (q : Nat) : List DWord :=
  match (s.outlet q).frames with
  | [] => []
  | fid :: _ =>
    match outletFrame s fid with
    | none => []
    | some f => (frameWords (outTagged s q) f).drop (s.outlet q).popped

/-- OUT_PEEK, and the peek value of OUT_POP (R62, R425). -/
def outPeek (s : State) (q : Nat) : DWord :=
  match outLeft s q with
  | [] => idleWord (outTagged s q)
  | w :: _ => if s.enabled W.CQ then w else idleWord (outTagged s q)

/-- OUT_WORDS: the reads that remain in the current mode. -/
def outWords (s : State) (q : Nat) : Nat :=
  match (s.outlet q).frames with
  | [] => 0
  | _ :: rest => (outLeft s q).length + (rest.map fun fid =>
      match outletFrame s fid with
      | some f => (frameWords (outTagged s q) f).length
      | none => 0).sum

/-- The oldest frame of Outlet `q` has waited longer than AGE × 10 µs since it entered (R426). -/
def outOld (s : State) (q : Nat) : Bool :=
  (s.outlet q).since.head?.any fun t => decide (t + bits (outNotice s q) 27 16 * 10000 < s.now)

/-- The notice level of Outlet `q` (R426). -/
def outLevel (s : State) (q : Nat) : Bool :=
  let n := outNotice s q
  let held := (s.outlet q).frames.length
  let count := bits n 15 0
  bit n 31 && (if count = 0 then decide (1 ≤ held)
    else decide (count ≤ held) || (decide (1 ≤ held) && bits n 27 16 != 0 && (s.outlet q).aged && outOld s q))

/-- The age condition is judged of the oldest frame that the Outlet now holds. -/
def outAge (q : Nat) (s : State) : State := s.setOutlet q { s.outlet q with aged := outOld s q }

/-- The oldest frame leaves the Outlet. -/
def outShift (q : Nat) (s : State) : State :=
  match (s.outlet q).frames with
  | [] => s
  | fid :: rest => dropCopy fid 60 (outAge q (s.setOutlet q { s.outlet q with
      frames := rest, since := (s.outlet q).since.drop 1, popped := 0, cfg := 0, notice := 0 }))

/-- OUTLET_MOVE: the oldest ready frame of the highest class moves into its Outlet (R422). -/
def doOutletMove (s : State) : State :=
  if !s.enabled W.CQ then s
  else match (List.range 8).findSome? fun k => s.headOf (8 * 60 + (7 - k)) with
    | none => s
    | some (f, _) =>
      let q := f.tag.queue % 64
      if bits (outCfg s q) 12 0 ≤ (s.outlet q).frames.length then
        dropCopy f.fid 60 ((s.count W.CQ CQ_OUT_OVF).raise0 W.CQ 2)
      else
        let s := holdCopy f.fid 60 s
        s.setOutlet q { s.outlet q with frames := (s.outlet q).frames ++ [f.fid], since := (s.outlet q).since ++ [s.now] }

/-- A non-speculative read of OUT_POP (R423, R424). -/
def doOutPop (q : Nat) (s : State) : DWord × State :=
  let v := outPeek s q
  if !s.enabled W.CQ then (v, s)
  else match outLeft s q with
    | [] => (v, s)
    | _ :: rest =>
      if rest.isEmpty then (v, outShift q s)
      else
        let x := s.outlet q
        (v, s.setOutlet q { x with popped := x.popped + 1, cfg := outCfg s q, notice := outNotice s q })

/-- OUT_DROP: the rest of the frame in progress, or the next whole frame (R425). -/
def doOutDrop (q data : Nat) (s : State) : State :=
  if !bit data 0 || !s.enabled W.CQ || (s.outlet q).frames.isEmpty then s else outShift q (s.count W.CQ CQ_OUT_DROPPED)

/-- OUTLET_AGE: the oldest frame of Outlet `q` has waited longer than AGE (R426). -/
def doOutletAge (q : Nat) (s : State) : State :=
  if outOld s q then outAge q s else s

/-! ### Inlets (R427–R430) -/

/-- The frame still waits for its admission decision. -/
def undecided (s : State) (fid : Nat) : Bool := s.pond.arrivals.any (·.fid == fid)

/-- Words that an Inlet stages: those of the tag in progress and of frames that wait for their decision. -/
def inStaged (s : State) (n : Nat) : Nat :=
  let x := s.inlet n
  x.words.length + ((x.staged.filter fun e => undecided s e.1).map (·.2)).sum

/-- IN_SPACE. -/
def inSpace (s : State) (n : Nat) : Nat := 512 - inStaged s n

/-- The rest of the frame in progress is discarded: its tag was bad, or it is known nowhere any more. -/
def inDead (s : State) (n : Nat) : Bool :=
  let x := s.inlet n
  x.dead || x.fid.any fun f => !frameKnown s f

/-- IN_STAT.PHASE. -/
def inPhase (s : State) (n : Nat) : Nat :=
  let x := s.inlet n
  if inDead s n then 3 else if x.fid.isSome then 2 else if x.words.isEmpty then 0 else 1

/-- The Inlet expects a new tag. -/
def inIdle (n : Nat) (s : State) : State :=
  let x := s.inlet n
  s.setInlet n { Inlet.empty with staged := x.staged.filter fun e => undecided s e.1 }

/-- The frame in progress is discarded and the Inlet expects a new tag. -/
def inAbort (n : Nat) (s : State) : State :=
  let s := match (s.inlet n).fid with
    | some f => discardFrame f s
    | none => s
  inIdle n s

/-- A bad frame (R429). -/
def inBad (n : Nat) (s : State) : State := inAbort n ((s.count W.CQ CQ_IN_BAD).raise0 W.CQ 4)

/-- An orphan word (R430). -/
def inOrphan (s : State) : State :=
  noticeOffer 0x2C ansNoFrame none 60 0xFFFF (locSelf W.CQ) ((s.count W.CQ CQ_IN_ORPHAN).raise0 W.CQ 3)

/-- TAGVER 0x1 and KIND 0x0 to 0x7 (R90). -/
def tagValid (w0 : Nat) : Bool := bits w0 31 28 == 1 && decide (bits w0 27 24 < 8)

/-- A tag from its 48 bytes. -/
def tagOfBytes (l : List Byte) : Tag :=
  (List.range 12).foldl (fun t i => t.setWord i (BitVec.ofNat 32 (beNat (slice l (4 * i) 4)))) Tag.zero

/-- What CQ forces in a tag at entry (R90). -/
def inletTag (t : Tag) : Tag :=
  (((((t.setSrcPort 60).setSeq 0).setCm false).setAuth 0).setCt false).setPasses 0

/-- The tag is complete: the frame reaches FP12 for its admission decision (R430). Its checks see this instant as TIMESTAMP until
the commit writes it (assumptions/23). -/
def inTagDone (n : Nat) (bytes : List Byte) (words : Nat) (s : State) : State :=
  let t := (inletTag (tagOfBytes bytes)).setTimestamp s.now
  let fid := s.pond.nextFid
  let s := offerFrame 12 ⟨t, []⟩ false (.inlet n) s
  let x := s.inlet n
  s.setInlet n { x with words := [], fid := some fid, need := t.length, data := [], staged := x.staged ++ [(fid, words)] }

/-- The last word of the frame: it commits and enters FP12 whole (R90, R430). -/
def inCommit (n : Nat) (s : State) : State :=
  let x := s.inlet n
  match x.fid with
  | none => inIdle n s
  | some f =>
    if inDead s n then inIdle n s
    else
      let now := s.now
      let s := feedFrame f x.data true (fun t => (t.setTimestamp now).setLength x.data.length) s
      inIdle n (s.countWrap W.CQ (IN_FRAMES + 0x20 * n) 1)

/-- One more data word of the frame in progress has brought `l`. -/
def inData (n : Nat) (l : List Byte) (s : State) : State :=
  let x := s.inlet n
  let s := s.setInlet n { x with
    data := x.data ++ l
    staged := x.staged.map fun e => if x.fid == some e.1 then (e.1, e.2 + 1) else e }
  match x.fid with
  | some f => if inDead s n then s else feedFrame f (x.data ++ l) false id s
  | none => s

/-- A raw word (R428). -/
def inRaw (n : Nat) (w : DWord) (s : State) : State :=
  let x := s.inlet n
  match x.fid with
  | some _ =>
    let s := inData n ((beBytes 8 w.toNat).take (x.need - x.data.length)) s
    if x.need ≤ (s.inlet n).data.length then inCommit n s else s
  | none =>
    if x.words.isEmpty && !tagValid (w.toNat / 2 ^ 32) then inOrphan s
    else
      let ws := x.words ++ [w]
      if ws.length < 6 then s.setInlet n { x with words := ws, tagged := false }
      else
        let s := inTagDone n (ws.flatMap fun v => beBytes 8 v.toNat) 6 s
        if (s.inlet n).need = 0 then inCommit n s else s

/-- A tagged item (R429, R430). -/
def inTagged (n : Nat) (w : DWord) (s : State) : State :=
  let x := s.inlet n
  let kind := bits w.toNat 63 60
  let cnt := bits w.toNat 59 56
  let l := ((beBytes 8 w.toNat).drop 1).take cnt
  if x.dead || (x.fid.isSome && inDead s n) then (if kind = 3 then inIdle n s else s)
  else
    match x.fid with
    | some _ =>
      if (kind ≠ 2 ∧ kind ≠ 3) ∨ (kind = 2 ∧ cnt ≠ 7) ∨ 7 < cnt ∨ 65535 < x.data.length + l.length then inBad n s
      else
        let s := inData n l s
        if kind = 3 then inCommit n s else s
    | none =>
      if x.words.isEmpty ∧ (kind = 2 ∨ kind = 3) then inOrphan s
      else if kind ≠ 1 ∨ cnt ≠ (if x.words.length = 6 then 6 else 7) then inBad n s
      else
        let ws := x.words ++ [w]
        if ws.length < 7 then s.setInlet n { x with words := ws, tagged := true }
        else
          let bytes := (ws.flatMap fun v => (beBytes 8 v.toNat).drop 1).take 48
          if tagValid (beNat (bytes.take 4)) then inTagDone n bytes 7 (s.setInlet n { x with tagged := true })
          else
            let s := (s.count W.CQ CQ_IN_BADTAG).raise0 W.CQ 4
            s.setInlet n { x with words := [], tagged := true, dead := true }

/-- A write to IN_PUSH of Inlet `n` (R427); the mode is that of the live set at the frame's first word. -/
def doInPush (n : Nat) (w : DWord) (s : State) : State :=
  if !s.enabled W.CQ then s
  else if inSpace s n = 0 then inAbort n ((s.count W.CQ CQ_IN_OVERRUN).raise0 W.CQ 5)
  else
    let x := s.inlet n
    let begun := !x.words.isEmpty || x.fid.isSome || x.dead
    let tagged := if begun then x.tagged else s.flag W.CQ (CQ_ICFG + 4 * n) 31
    if tagged then inTagged n w (s.setInlet n { x with tagged := true }) else inRaw n w (s.setInlet n { x with tagged := false })

/-- INLET_STALL: no word of the frame in progress has come for IN_STALL_US; the limit does not run while its admission decision
waits (R51, R137). -/
def doInletStall (n : Nat) (s : State) : State :=
  let x := s.inlet n
  match x.fid with
  | some f => if undecided s f || inDead s n then s else inIdle n (stallDrop f s)
  | none => if x.words.isEmpty then s else inIdle n ((s.count W.QMG QMG_IN_STALL_DROP).raise0 W.QMG 11)

/-- The strobe check of R431. -/
def cqCheck (s : State) : Nat :=
  let sh := fun o => s.shadow W.CQ o
  let lim := fun q => bits (sh (CQ_OCFG + 4 * q)) 12 0
  if (List.range 64).any fun q => decide (4096 < lim q) then 1
  else if (List.range 64).any fun q =>
    let n := sh (OUT_NOTICE + 0x20 * q)
    bit n 31 && decide (lim q < bits n 15 0) then 2
  else 0

/-- The frame waits in an Inlet. -/
def fromInlet (a : Arrival) : Bool := match a.origin with | .inlet _ => true | _ => false

/-- A CQ reset discards the frames in every Outlet, every partly written Inlet frame and those that wait in their Inlet for the
admission decision (R51, R557). -/
def cqReset (s : State) : State :=
  let s := s.outlets.foldl (fun s e => e.2.frames.foldl (fun s f => dropCopy f 60 s) s) s
  let s := (s.pond.arrivals.filter fromInlet).foldl (fun s a => takeArrival a.fid s) s
  let s := s.inlets.foldl (fun s e => match e.2.fid with
    | some f => discardFrame f s
    | none => s) s
  { s with outlets := [], inlets := [] }

end Sys2Proof.Machine
end

