-- ==== Sys2Proof/Machine/ShoreCtl.lean ====
section
/-! DEFINITION. The shore controller (R327–R330) and the main-side bridge of a shore (R303–R312). -/
namespace Sys2Proof.Machine
open Reg

/-! ### Shore controller -/

def State.ctl (s : State) (d : Nat) : ShoreCtl := (s.shore d).ctl
def State.modCtl (s : State) (d : Nat) (f : ShoreCtl → ShoreCtl) : State := s.modShore d fun h => { h with ctl := f h.ctl }

def sramWord (s : State) (d k : Nat) : Nat := (kvGet 0 (s.ctl d).sram k).toNat
def setSram (d k v : Nat) (s : State) : State :=
  s.modCtl d fun c => { c with sram := kvSet 0 c.sram k (BitVec.ofNat 32 v) }

/-- The bytes of the image: the words written since LOAD, from address 0. -/
def imageBytes (s : State) (d : Nat) : List Byte :=
  (List.range (s.ctl d).words).flatMap fun k => leBytes 4 (sramWord s d k)

/-- LOAD sets the load address to 0 and ends an ECC hold (R327, R330). -/
def doShcLoad (d : Nat) (s : State) : State :=
  (s.setReg (shcWin d) SHC_MEM_ADDR 0).modCtl d fun c => { c with words := 0, eccHold := false }

/-- RUN is written: 0 holds the core in reset; a change to 1 checks the image's CRC-32C (R327). -/
def doShcRun (d : Nat) (run : Bool) (s : State) : State :=
  let w := shcWin d
  let was := s.flag w SHC_CTRL 0
  let s := s.setFlag w SHC_CTRL 0 run
  if !run then s.modCtl d fun c => { c with running := false }
  else if was then s
  else if (s.ctl d).eccHold then s
  else if crc32c (imageBytes s d) = s.reg w SHC_IMG_CRC then s.modCtl d fun c => { c with running := true, crcFail := false }
  else (s.modCtl d fun c => { c with crcFail := true }).raise0 w 6

/-- SHC_CTRL: LOAD, then RUN. -/
def doShcCtrl (d data : Nat) (s : State) : State :=
  doShcRun d (bit data 0) (if bit data 1 then doShcLoad d s else s)

/-- The address advances by one word. -/
def shcAdvance (d : Nat) (s : State) : State :=
  s.setReg (shcWin d) SHC_MEM_ADDR ((s.reg (shcWin d) SHC_MEM_ADDR + 4) % 0x20000)

/-- A write to SHC_MEM_DATA; ignored while RUNNING (R327). -/
def doShcMemWrite (d data : Nat) (s : State) : State :=
  if (s.ctl d).running then s
  else
    let k := s.reg (shcWin d) SHC_MEM_ADDR / 4
    shcAdvance d ((setSram d k data s).modCtl d fun c => { c with words := max c.words (k + 1) })

/-- A non-speculative read of SHC_MEM_DATA. -/
def shcPeek (s : State) (d : Nat) : Nat := sramWord s d (s.reg (shcWin d) SHC_MEM_ADDR / 4)
def doShcMemRead (d : Nat) (s : State) : Nat × State := (shcPeek s d, shcAdvance d s)

/-- WDT_EXPIRED: the core restarts from the image in SRAM (R330). -/
def doWdtExpired (d : Nat) (s : State) : State :=
  let w := shcWin d
  if s.fld w SHC_WDT 15 0 = 0 ∨ !(s.ctl d).running then s
  else (s.modCtl d fun c => { c with wdtResets := (c.wdtResets + 1) % 256 }).raise0 w 2

/-- SHC_ECC_UNCORR: the core is held in reset until the next load (R330). -/
def doShcEcc (d : Nat) (s : State) : State :=
  (s.modCtl d fun c => { c with running := false, eccHold := true }).raise0 (shcWin d) 4

/-- The doorbells (R329). MBOX_OUT is a level. -/
def noteMbox (d : Nat) (s : State) : State :=
  s.level (shcWin d) 5 (locSelf (shcWin d)) (s.flag (shcWin d) SHC_MBOX_OUT_DB 0)
def doMboxIn (d data : Nat) (s : State) : State := s.setReg (shcWin d) SHC_MBOX_IN_DB (data % 2)
def doMboxOut (d data : Nat) (s : State) : State :=
  if bit data 0 then noteMbox d (s.setReg (shcWin d) SHC_MBOX_OUT_DB 1) else s
def doMboxClear (d data : Nat) (s : State) : State :=
  if bit data 0 then noteMbox d (s.setReg (shcWin d) SHC_MBOX_OUT_DB 0) else s

def shcStat (s : State) (d : Nat) : Nat :=
  let c := s.ctl d
  b2n c.running * 2 ^ 31 + b2n c.crcFail * 2 ^ 30 + c.wdtResets * 2 ^ 16 + c.busErr

/-- An INT request of a window: a FLT_STAT bit whose source's last effective reaction has INT (R76). -/
def intRequest (s : State) (w : Nat) : Bool :=
  (List.range 32).any fun k => s.flag w FLT_STAT k && bit (s.source w k).react 0

/-- SHC_IRQ_PEND (R328). -/
def shcPend (s : State) (d : Nat) : Nat :=
  let b := 0x200 + 0x100 * d
  let ws := (List.range 12).map (b + ·) ++ (List.range 12).map (b + 0x10 + ·) ++ (List.range 4).map (b + 0x20 + ·)
    ++ [b + 0x30, b + 0x31, b + 0x32, b + 0x33]
  let bits := ws.map (intRequest s)
  let v := bits.zipIdx.foldl (fun a x => a + b2n x.1 * 2 ^ x.2) 0
  if s.flag (shcWin d) SHC_MBOX_IN_DB 0 then putBit v 29 true else v

/-! ### The link of a shore (R304–R306) -/

/-- Location code of a link lane: DIE 0x3, the bridge's window, UNIT the lane (R305). -/
def locLane (d lane : Nat) : Nat := locCode 3 (shbWin d) lane 0xFF 0x3F

/-- The lanes in service carry the link: 5, 6, 7 and a frame lane of each direction (R305). -/
def lanesCarry (m : Nat) : Bool :=
  bit m 5 && bit m 6 && bit m 7 && (bit m 0 || bit m 1 || bit m 2) && (bit m 3 || bit m 4)

/-- LINK_DOWN holds while the link of shore `d` is down (R305). -/
def noteLinkDown (d : Nat) (s : State) : State := s.level (shbWin d) 2 (locSelf (shbWin d)) (!(s.bridge d).up)

/-- An access of the main die that has reached a window of shore `d`. -/
def atShore (d : Nat) (i : Initiator) (addr : Nat) : Bool :=
  (shcOf i).isNone && (windowOf addr).any fun w => (blkOf w).isSome && dieOf w == d + 1

/-- An access of the main die to a shore ends with its link (R305). -/
def shoreAbort (s : State) (acc : Access) : State :=
  busFail acc.init acc.addr errTimeout acc.spec acc.write (answerLoc s acc.addr) s

/-- Every access under way to the shore's windows ends with a bus error (R305). -/
def shoreAbortAll (d : Nat) (s : State) : State :=
  let reqs := ((s.bridge d).reqs.filter (!·.ended)).map (·.acc)
  let here := fun (x : Waiting) => x.sent && atShore d x.acc.init x.acc.addr
  let held := (s.deferred.filter here).map (·.acc)
  (reqs ++ held).foldl shoreAbort { s with deferred := s.deferred.filter (!here ·) }

/-- The link goes down, and with it what is under way on it (R305, R376). -/
def linkDown (d : Nat) (s : State) : State :=
  if !(s.bridge d).up then s
  else
    let down := fun (b : Bridge) => { b with up := false, bursts := [], reqs := [] }
    let s := ((shoreAbortAll d s).modBridge d down).modShore d fun h => { h with aligned := false }
    syncShore d (noteLinkDown d (s.count (shbWin d) SHB_LINKDOWNS))

/-- LANE_FAIL: lane `k` is removed (R305). -/
def doLaneFail (d k : Nat) (s : State) : State :=
  if 8 ≤ k ∨ !bit (s.bridge d).lanes k then s
  else
    let s := s.modBridge d fun b => { b with lanes := putBit b.lanes k false }
    let s := s.raise (shbWin d) 3 (locLane d k)
    if lanesCarry (s.bridge d).lanes then s else linkDown d s

/-- A locked fault configuration byte or WIN_ACCESS of a window returns to its reset value (R63, R68). -/
def unlockWindow (w : Nat) (s : State) : State :=
  let s := s.setReg w WIN_ACCESS 1
  (List.range 32).foldl (fun s b =>
    let o := FLT_CFG + 4 * (b / 4)
    let lo := 8 * (b % 4)
    if s.flag w o (lo + 7) then s.setFld w o (lo + 7) lo 0 else s) s

/-- The windows of a shore die. -/
def shoreWindows (d : Nat) : List Nat := allWindows.filter fun w => dieOf w == d + 1

/-- A chip-reset notice reaches the shore (R303). -/
def chipNotice (d : Nat) (s : State) : State := (shoreWindows d).foldl (fun s w => unlockWindow w s) s

/-- RESET_NOTICE: the main die enters reset; a limp condition (R304, R331). -/
def doResetNotice (d : Nat) (chip : Bool) (s : State) : State :=
  if !(s.bridge d).up then (if chip then s.modBridge d fun b => { b with noticeOwed := true } else s)
  else limpCondition d (if chip then chipNotice d s else s)

/-- SHORE_LINK_RETRAIN: the link trains with the lanes in `lanes`; every other lane fails (R305). A chip-reset notice that is
owed arrives with the training, a limp condition as any (R303, R331). -/
def doRetrain (d lanes : Nat) (s : State) : State :=
  if !s.enabled (shbWin d) || (s.bridge d).up || !(s.shore d).powered || !(s.shore d).clocked then s
  else
    let s := ((List.range 8).filter fun k => !bit lanes k).foldl (fun s k => s.raise (shbWin d) 3 (locLane d k)) s
    let up := lanesCarry lanes
    let s := s.modBridge d fun b => { b with up := up, lanes := lanes % 256 }
    let s := noteLinkDown d s
    if up then
      let s := s.modShore d fun h => { h with fresh := false }
      let s := if (s.bridge d).noticeOwed then
          limpCondition d ((chipNotice d s).modBridge d fun b => { b with noticeOwed := false })
        else s
      syncShore d s
    else s

/-- TIME_ALIGNMENT: the shore loads the device time and ADDEND; the first message after the link came up aligns it (R376). -/
def doTimeAlignment (d : Nat) (s : State) : State :=
  if !s.enabled W.TMS || !(s.bridge d).up then s
  else
    let first := !(s.shore d).aligned
    let t := s.shoreNow d
    let s := s.modShore d fun h => { h with time := s.tms.acc, addend := s.tms.addend, aligned := true }
    let s := if first ∨ s.shoreNow d + 40 < t ∨ t + 40 < s.shoreNow d then refMark d s else s
    if first then syncShore d (forgetSpacing d s) else s

/-- The shore controller's external interrupt: a pending source that SHC_IRQ_EN enables (R328). -/
def shcIrq (s : State) (d : Nat) : Bool := shcPend s d &&& s.reg (shcWin d) SHC_IRQ_EN != 0

/-- SHB_LINK. -/
def shbLink (s : State) (d : Nat) : Nat := b2n (s.bridge d).up * 2 ^ 31 + (s.bridge d).lanes * 2 ^ 8

/-- A local window index of a shore die is mapped (R8). -/
def localMapped (l : Nat) : Bool := (blkOf (0x200 + l)).isSome && decide (l < 0x100)

/-- The strobe check of SHB (R312). -/
def shbCheck (s : State) (d : Nat) : Nat :=
  let sh := fun o => s.shadow (shbWin d) o
  let iv := bits (sh SHB_POLL) 7 0
  let pf := bits (sh SHB_PF) 6 0
  let lo := fun k => sh (SHB_REGION + 8 * k)
  let hi := fun k => sh (SHB_REGION + 8 * k + 4)
  let en := fun k => bit (lo k) 31
  if decide (iv < 5) || decide (200 < iv) || pf == 0 || decide (64 < pf)
      || (List.range 8).any (fun k => en k && (bits (hi k) 15 0 % 4 != 0 || bits (hi k) 31 16 % 4 != 0)) then 1
  else if (List.range 8).any (fun k => en k && (decide (bits (hi k) 31 16 < bits (hi k) 15 0) || decide (0x1FFC < bits (hi k) 31 16)))
    then 2
  else if (List.range 8).any (fun k => en k && !localMapped (bits (lo k) 5 0)) then 3
  else 0

end Sys2Proof.Machine
end

