-- ==== Sys2Proof/Machine/Routers.lean ====
section
/-! DEFINITION. The interrupt routers: input levels, claims, NMI queues (R418–R421). -/
namespace Sys2Proof.Machine
open Reg

/-- Router 0 is IRT Movement, router 1 IRT Crown; an absent router answers as router 1. -/
def irtWin (r : Nat) : Nat := if r = 0 then W.IRTM else W.IRTC
def irtTargets (r : Nat) : Nat := if r = 0 then 4 else 1

def State.irt (s : State) (r : Nat) : Irt := kvGet Irt.reset s.irts r
def State.setIrt (s : State) (r : Nat) (x : Irt) : State := { s with irts := kvSet Irt.reset s.irts r x }

/-- The window that owns a global source number. -/
def winOfSource (g : Nat) : Option Nat := allWindows.find? fun w => decide (srcBase w ≤ g) && decide (g < srcBase w + nsrc w)

/-- The INT request of a source: its FLT_STAT bit, while INT is in its effective reaction (R76). -/
def sourceInt (s : State) (w src : Nat) : Bool := s.flag w FLT_STAT src && bit (s.source w src).react 0

/-- The level of a router input: fault sources of the main die, the bridges' mirrors of the shores', Outlet notices, software
interrupts (R311, R418, R419, R426). -/
def inputLevel (s : State) (g : Nat) : Bool :=
  if g < 768 then
    match winOfSource g with
    | some w => sourceInt s w (g - srcBase w)
    | none => false
  else if g < 1312 then kvGet false (s.bridge (if g < 1040 then 0 else 1)).mirror g
  else if g < 1376 then outLevel s (g - 1312)
  else if 1424 ≤ g ∧ g < 1440 then s.flag W.IRTM IRT_SWI (g - 1424)
  else false

/-- The priority of an input, and whether target `t` of router `r` enables it. -/
def irtPrio (s : State) (r g : Nat) : Nat := s.fld (irtWin r) (IRT_PRIO + 4 * (g / 8)) (4 * (g % 8) + 2) (4 * (g % 8))
def irtEnabled (s : State) (r t g : Nat) : Bool := s.flag (irtWin r) (0x800 + 0x100 * t + 4 * (g / 32)) (g % 32)

/-- The input that router `r` offers target `t` (R420). -/
def irtOffer (s : State) (r t : Nat) : Option Nat :=
  if !s.enabled (irtWin r) then none
  else
    let th := s.fld (irtWin r) (IRT_THRESH + 0x10 * t) 2 0
    let claimed := (s.irt r).claims.map (·.1)
    let can := (List.range 1536).filter fun g =>
      irtEnabled s r t g && decide (th < irtPrio s r g) && !claimed.contains g && inputLevel s g
    can.foldl (fun (b : Option Nat) g =>
      match b with
      | none => some g
      | some h => if irtPrio s r h < irtPrio s r g then some g else b) none

/-- The target's external interrupt is asserted. -/
def irtAsserted (s : State) (r t : Nat) : Bool := (irtOffer s r t).isSome

/-- IRT_CLAIM's peek value. -/
def irtClaimPeek (s : State) (r t : Nat) : Nat :=
  match irtOffer s r t with
  | some g => 2 ^ 31 + g
  | none => 0

/-- A non-speculative read of IRT_CLAIM[t] claims the offered input. -/
def doIrtClaim (r t : Nat) (s : State) : Nat × State :=
  match irtOffer s r t with
  | some g => (2 ^ 31 + g, s.setIrt r { s.irt r with claims := (s.irt r).claims ++ [(g, t)] })
  | none => (0, s)

/-- A write to IRT_COMPLETE[t] releases the claim that `t` holds on the input. -/
def doIrtComplete (r t data : Nat) (s : State) : State :=
  s.setIrt r { s.irt r with claims := (s.irt r).claims.filter fun c => !(c.1 == bits data 10 0 && c.2 == t) }

/-- An NMI entry reaches one target's queue (R421). -/
def nmiTo (g r : Nat) (s : State) (t : Nat) : State :=
  let x := s.irt r
  let q := kvGet [] x.nmi t
  if 8 ≤ q.length then
    (s.setIrt r { x with lost := kvSet 0 x.lost t (satAdd 8 (kvGet 0 x.lost t) 1) }).raise0 (irtWin r) 2
  else s.setIrt r { x with nmi := kvSet [] x.nmi t (q ++ [g]) }

/-- An NMI reaches the queues of every target of both routers; a disabled router queues nothing. -/
def deliverNmi (g : Nat) (s : State) : State :=
  [0, 1].foldl (fun s r => if s.enabled (irtWin r) then (List.range (irtTargets r)).foldl (nmiTo g r) s else s) s

/-- IRT_NMI_POP's value. -/
def nmiPeek (s : State) (r t : Nat) : Nat :=
  let x := s.irt r
  kvGet 0 x.lost t * 2 ^ 16 + match kvGet [] x.nmi t with
    | g :: _ => 2 ^ 31 + g
    | [] => 0

/-- A non-speculative read of IRT_NMI_POP[t]: the oldest entry leaves, LOST is reported and cleared. -/
def doNmiPop (r t : Nat) (s : State) : Nat × State :=
  let x := s.irt r
  (nmiPeek s r t, s.setIrt r { x with nmi := kvSet [] x.nmi t ((kvGet [] x.nmi t).drop 1), lost := kvSet 0 x.lost t 0 })

/-- IRT_PEND and IRT_CLAIMED words. -/
def irtPendWord (s : State) (k : Nat) : Nat := ((List.range 32).map fun j => b2n (inputLevel s (32 * k + j)) * 2 ^ j).sum
def irtClaimedWord (s : State) (r k : Nat) : Nat :=
  let c := (s.irt r).claims.map (·.1)
  ((List.range 32).map fun j => b2n (c.contains (32 * k + j)) * 2 ^ j).sum

/-! ### Interrupts of the shores (R311) -/

/-- The windows of shore `d`, and the bridge's mirror of their INT levels. -/
def mirrorWindow (d w : Nat) (s : State) : State :=
  (List.range (nsrc w)).foldl (fun s k =>
    s.modBridge d fun b => { b with mirror := kvSet false b.mirror (srcBase w + k) (sourceInt s w k) }) s

/-- INTERRUPT_POLL: the mirror takes the shore's INT levels, and the latched NMI entries are delivered. -/
def doInterruptPoll (d : Nat) (s : State) : State :=
  if !s.enabled (shbWin d) || !(s.bridge d).up then s
  else
    let s := (shoreWindows d).foldl (fun s w => mirrorWindow d w s) s
    let nmis := (s.bridge d).nmis
    nmis.foldl (fun s g => deliverNmi g s) (s.modBridge d fun b => { b with nmis := [] })

end Sys2Proof.Machine
end

