-- ==== Sys2Proof/Machine/Sge.lean ====
section
/-! DEFINITION. The signal engine's take, microcode, table commands and strobe (09_signal_engine.md). -/
namespace Sys2Proof.Machine
open Reg

/-! ### Taking a frame (R215–R218) -/

/-- The kinds that a TYPE accepts (R216); ENCAP takes KIND 0x2 too, which R244 discards with a count of its own. -/
def sgeAccepts (typ : Nat) (t : Tag) : Bool :=
  let ide := wf t.w7 31 31 == 1
  match typ with
  | 1 => decide (t.kind ≤ 4)
  | 2 | 6 => t.kind == 0 && ide
  | 3 => t.kind == 4
  | 4 => t.kind == 0 || t.kind == 1 || t.kind == 2 || t.kind == 4
  | 5 => t.kind == 3
  | _ => false

/-- Handle a taken frame under definition `d` (R216). The answer: its tag, and what becomes of the frame. -/
def sgeHandle (bad : List BadEntry) (d fid : Nat) (f : Frame) (s : State) : Tag × TakenEnd × State :=
  let pdu := f.payload.drop (bits (s.sgeW 0 d 0) 12 0)
  match bits (s.sgeW 0 d 0) 31 28 with
  | 1 => (f.tag, .over, sgeSignals bad d pdu s)
  | 2 =>
    let r := sgeJ1939Rx d f.tag pdu s
    (r.1, .over, r.2)
  | 3 => sgeJ1939Tx bad d fid f.tag pdu s
  | 4 =>
    let r := sgeEncap bad d f.tag pdu s
    (f.tag, r.1, r.2)
  | 5 =>
    let r := sgeDecap bad d f.tag pdu s
    (f.tag, r.1, r.2)
  | _ =>
    let r := sgeClaim d f.tag pdu s
    (r.1, .over, r.2)

/-- SGE_TAKE: the oldest frame of class `cls` toward port 56, under the gate of R130. Which class goes first is open. -/
def doSgeTake (cls : Nat) (bad : List BadEntry) (s : State) : State :=
  match s.headOf (8 * 56 + cls) with
  | none => s
  | some (pf, c) =>
    let f := frameOf pf c
    let e := min f.tag.passes 1
    if s.engFree e < s.engGate e then s
    else
      let s := sgeOps 1 (s.count W.SGE SGE_TAKEN)
      let d := f.tag.pdu
      let rd := if d < 8192 ∧ sgeRunning s then sgeRead bad 0 d s else (false, s)
      let typ := bits (s.sgeW 0 d 0) 31 28
      if !rd.1 ∨ !sgeAccepts typ f.tag then dropCopy pf.fid 56 (rd.2.count W.SGE SGE_DISCARD)
      else
        let r := sgeHandle bad d pf.fid f rd.2
        match r.2.1 with
        | .discarded => dropCopy pf.fid 56 r.2.2
        | .held => keepReturn (s.sgeW 0 d 0) r.1 f.payload (holdCopy pf.fid 56 r.2.2)
        | .over => keepReturn (s.sgeW 0 d 0) r.1 f.payload (dropCopy pf.fid 56 r.2.2)

/-! ### Microcode (R247) -/

/-- The engine begins to run: due ticks that began before are not emitted (R230). -/
def sgeBegins (s : State) : State := s.modSge fun g => { g with since := sgeTick s }

/-- SGE_UC_CTRL is written: LOAD clears the load address while EN is 0; RUN starts the engine when the image passes. -/
def doUcCtrl (data : Nat) (s : State) : State :=
  let n := s.fld W.SGE SGE_UC_STAT 14 0
  let s := if bit data 1 ∧ !s.flag W.SGE BLK_CTRL 0 then s.setFld W.SGE SGE_UC_STAT 14 0 0 else s
  let was := s.flag W.SGE SGE_UC_STAT 31
  let s := s.setReg W.SGE SGE_UC_CTRL (bits data 0 0)
  let n := if bit data 1 then s.fld W.SGE SGE_UC_STAT 14 0 else n
  if !bit data 0 then s.setFlag W.SGE SGE_UC_STAT 31 false
  else if was then s
  else
    let bytes := (List.range n).flatMap fun k => leBytes 4 (kvGet 0 s.sge.ucode k).toNat
    let crcOk := crc32c bytes == s.reg W.SGE SGE_UC_CRC
    if 1 ≤ n ∧ n ≤ 16384 ∧ crcOk then
      sgeBegins <| ((s.setFlag W.SGE SGE_UC_STAT 31 true).setFlag W.SGE SGE_UC_STAT 30 false).setReg W.SGE SGE_UC_VER
        (kvGet 0 s.sge.ucode 0).toNat
    else (s.setFlag W.SGE SGE_UC_STAT 30 (!crcOk)).raise0 W.SGE 2

/-- SGE_UC_DATA is written: the next image word; a word past the store is counted and lost. -/
def doUcData (data : Nat) (s : State) : State :=
  let n := s.fld W.SGE SGE_UC_STAT 14 0
  let s := if n < 16384 then s.modSge fun g => { g with ucode := kvSet 0 g.ucode n (BitVec.ofNat 32 data) } else s
  s.setFld W.SGE SGE_UC_STAT 14 0 (min (n + 1) 16385)

/-- Clearing EN closes every session and discards every open bundle; both are counted (R247). -/
def sgeDisabled (s : State) : State :=
  let nb := (s.sge.bundles.filter fun e => e.2.isSome).length
  let s := s.sge.sessions.foldl (fun s x => tpAborted (sessFree x s)) s
  (s.countBy W.SGE SGE_DISCARD nb).modSge fun g => { g with bundles := [] }

/-! ### Table commands (R249) -/

/-- The entries of an object. -/
def sgeCount (obj : Nat) : Nat :=
  match obj with
  | 0 => 8192 | 1 => 32768 | 2 => 4096 | 3 => 8192 | 7 => 8192 | _ => 256

/-- The words of an entry of a shadowed object. -/
def sgeWords (obj : Nat) : Nat :=
  match obj with
  | 0 => 4 | 1 => 8 | 2 => 5 | 4 => 8 | _ => 3

/-- The bits of word `k` that an entry holds; reserved bits stay 0. D1 and D2 of a definition follow its TYPE. -/
def sgeMask (obj k typ : Nat) : Nat :=
  match obj, k with
  | 0, 1 =>
    match typ with
    | 1 => 0xFFFFFF00 | 2 => 0xFFC0FFFF | 3 => 0xFFFFFFC0 | 4 | 5 => 0xFF | 6 => 0 | _ => 0xFFFFFFFF
  | 0, 2 =>
    match typ with
    | 1 => 0xFFFF8000 | 3 => 0xFF03FFFF | 2 | 4 | 5 | 6 => 0 | _ => 0xFFFFFFFF
  | 0, 3 => 0xFFFF8000
  | 1, 0 => 0xFFC7FFFF
  | 2, 0 => 0xFFFFF07F
  | 2, 4 => 0xFF000000
  | 4, 0 => 0xFFE0FFFF
  | 4, 1 => 0xFF8007FF
  | 4, 7 => 0xFFFF
  | 5, 0 => 0xE0000000
  | 6, 0 => 0x8000001F
  | _, _ => 0xFFFFFFFF

def sgeStatus (st : Nat) (s : State) : State := s.setReg W.SGE SGE_CMD_STAT st
def putSge (k v : Nat) (s : State) : State := s.setReg W.SGE (SGE_DATA + 4 * k) v

/-- WRITE of an entry. -/
def sgeWrite (obj idx : Nat) (s : State) : State :=
  let d := fun k => s.reg W.SGE (SGE_DATA + 4 * k)
  if obj = 3 then
    let x := s.sgeBuf (idx / 2)
    let bytes := (List.range 8).flatMap fun k => beBytes 4 (d k)
    sgeStatus 0 (s.setBuf (idx / 2) { x with data := splice x.data (32 * (idx % 2)) bytes })
  else
    sgeStatus 0 <| foldRange (fun s k => s.modSge fun g => { g with
      shad := kvSet 0 g.shad (sgeKey obj idx k) (BitVec.ofNat 32 (d k &&& sgeMask obj k (bits (d 0) 31 28))) }) s 0 (sgeWords obj)

/-- READ of an entry; the shadow or the live set by RDLIVE (R43). -/
def sgeReadEntry (obj idx : Nat) (s : State) : State :=
  let live := s.flag W.SGE BLK_CTRL 3
  if obj = 3 then
    let x := s.sgeBuf (idx / 2)
    sgeStatus 0 <| foldRange (fun s k => putSge k (beNat (slice x.data (32 * (idx % 2) + 4 * k) 4)) s) s 0 8
  else if obj = 7 then
    let n := s.claim (idx / 256) (idx % 256)
    let v := (n.getD 0).toNat
    sgeStatus 0 <| putSge 2 (v / 2 ^ 32) <| putSge 1 (v % 2 ^ 32) <| putSge 0 (b2n n.isSome * 2 ^ 31) s
  else
    let s := foldRange (fun s k => putSge k (if live then s.sgeW obj idx k else s.sgeS obj idx k) s) s 0 (sgeWords obj)
    let s := if obj = 0 then putSge 4 (b2n (s.sgeDef idx).out) s else s
    let s := if obj = 6 then
        (match bindingAddr s idx with
        | some a => putSge 3 (256 + a) s
        | none => putSge 3 0 s)
      else s
    sgeStatus 0 s

/-- SGE_CMD is written (R249, R559). -/
def doSgeCmd (data : Nat) (bad : List BadEntry) (s : State) : State :=
  let obj := bits data 19 17
  let op := bits data 16 15
  let idx := bits data 14 0
  if op = 0 ∨ (op = 3 ∧ obj ≠ 7) then sgeStatus 2 s
  else if sgeCount obj ≤ idx ∨ (obj = 7 ∧ 0xFD < idx % 256) then sgeStatus 1 s
  else if op = 1 then
    if obj = 7 then sgeStatus 6 s
    else if (s.win W.SGE).upd.pending then sgeStatus 3 s
    else sgeWrite obj idx s
  else if op = 2 then
    let rd := sgeRead bad obj idx s
    if rd.1 then sgeReadEntry obj idx rd.2 else sgeStatus 5 rd.2
  else sgeStatus 0 (s.setClaim (idx / 256) (idx % 256) none)

/-! ### Strobe and apply (R250) -/

/-- The indices of an object that the shadow lists. -/
def shadowIdx (s : State) (obj : Nat) : List Nat :=
  ((s.sge.shad.filter fun e => e.1 / 2 ^ 20 == obj).map fun e => e.1 % 2 ^ 20 / 8).eraseDups

/-- A definition in the shadow refers to a disabled stream or binding. -/
def defRefBad (s : State) (d : Nat) : Bool :=
  let d1 := s.sgeS 0 d 1
  match bits (s.sgeS 0 d 0) 31 28 with
  | 3 => bit d1 6 && !bit (s.sgeS 6 (bits (s.sgeS 0 d 2) 31 24) 0) 31
  | 4 => !bit (s.sgeS 4 (bits d1 7 0) 0) 31
  | 5 => !bit (s.sgeS 5 (bits d1 7 0) 0) 31
  | _ => false

/-- The strobe check of R250. -/
def sgeCheck (s : State) : Nat :=
  let routes := (shadowIdx s 1).filter fun r => bit (s.sgeS 1 r 0) 31
  let defs := shadowIdx s 0
  let bufs := (shadowIdx s 2).filter fun b => bits (s.sgeS 2 b 0) 31 30 != 0
  let streams := (shadowIdx s 4).filter fun i => bit (s.sgeS 4 i 0) 31
  let len := fun r => bits (s.sgeS 1 r 0) 28 22
  let dlen := fun r => bits (s.sgeS 1 r 1) 29 23
  let inv := fun r => bits (s.sgeS 1 r 1) 20 19
  let dbuf := fun r => bits (s.sgeS 1 r 2) 11 0
  let mode := fun b => bits (s.sgeS 2 b 0) 31 30
  let blen := fun b => bits (s.sgeS 2 b 0) 6 0
  let sh := fun o hi lo => bits (s.shadow W.SGE o) hi lo
  let gap := sh SGE_TP_CFG 15 8
  if routes.any (fun r => len r == 0 || decide (64 < len r) || dlen r == 0 || decide (64 < dlen r) || inv r == 3
        || (inv r == 2 && decide (len r < 2)))
      || defs.any (fun d => decide (7 ≤ bits (s.sgeS 0 d 0) 31 28)
        || (bits (s.sgeS 0 d 0) 31 28 == 1 && decide (256 < bits (s.sgeS 0 d 1) 16 8)))
      || bufs.any (fun b => blen b == 0 || decide (64 < blen b)
        || (decide (2 ≤ mode b) && (bits (s.sgeS 2 b 3) 31 16 == 0 || decide (bits (s.sgeS 2 b 3) 31 16 ≤ bits (s.sgeS 2 b 3) 15 0))))
      || streams.any (fun i =>
        let lim := bits (s.sgeS 4 i 1) 10 0
        let port := bits (s.sgeS 4 i 1) 31 24
        decide (lim < avtpHeaderLen (s.sgeS 4 i 0) + 80) || decide (1500 < lim) || decide (port < 32) || decide (51 < port))
      || sh SGE_TP_T12 31 16 == 0 || sh SGE_TP_T12 15 0 == 0 || sh SGE_TP_T34 31 16 == 0 || sh SGE_TP_T34 15 0 == 0
      || decide (gap < 10) || decide (200 < gap) || sh SGE_TP_CFG 7 0 == 0 then 1
  else if routes.any (fun r =>
        (bits (s.sgeS 1 r 1) 22 21 != 0 && decide (signed32 (s.sgeS 1 r 6) < signed32 (s.sgeS 1 r 5)))
        || (mode (dbuf r) != 0 && (decide (8 * blen (dbuf r) < bits (s.sgeS 1 r 1) 18 0 + dlen r)
          || (bit (s.sgeS 1 r 2) 12 && decide (8 * blen (dbuf r) ≤ bits (s.sgeS 1 r 2) 31 13))))
        || decide (524288 < bits (s.sgeS 1 r 0) 18 0 + len r)) then 2
  else if defs.any (fun d => bits (s.sgeS 0 d 0) 31 28 == 1
        && decide (32768 < bits (s.sgeS 0 d 1) 31 17 + bits (s.sgeS 0 d 1) 16 8))
      || routes.any (fun r => mode (dbuf r) == 0) || defs.any (defRefBad s) then 3
  else 0

/-- Entries of an object whose live and shadow words differ. -/
def changedIdx (s : State) (obj : Nat) : List Nat :=
  ((((s.sge.live ++ s.sge.shad).filter fun e => e.1 / 2 ^ 20 == obj).map fun e => e.1 % 2 ^ 20 / 8).eraseDups).filter fun i =>
    (List.range 8).any fun k => s.sgeW obj i k != s.sgeS obj i k

/-- The shadow tables apply: a changed buffer is filled with INIT_BYTE and forgets its history (R228), a changed definition of
type SIGNALS starts its timer (R227), the sequence numbers of changed streams start at 0 (R243). -/
def sgeApplied (s : State) : State :=
  let bufs := changedIdx s 2
  let defs := changedIdx s 0
  let outs := changedIdx s 4
  let ins := changedIdx s 5
  let s := s.modSge fun g => { g with live := g.shad }
  let s := bufs.foldl (fun s b =>
    s.setBuf b ⟨List.replicate 64 (BitVec.ofNat 8 (bits (s.sgeW 2 b 4) 31 24)), none, [], none, sgeTick s⟩) s
  let s := defs.foldl (fun s d =>
    s.setDef d (if bits (s.sgeW 0 d 0) 31 28 = 1 then ⟨some s.vault, false⟩ else DefRun.idle)) s
  s.modSge fun g => { g with
    seqOut := kvFilter (fun i => !outs.contains i) g.seqOut, seqIn := kvFilter (fun i => !ins.contains i) g.seqIn }

end Sys2Proof.Machine
end

