-- ==== Sys2Proof/Machine/Vault.lean ====
section
/-! DEFINITION. The records vault VLT: records, blocks, counters, opening (R471–R478). -/
namespace Sys2Proof.Machine
open Reg

def State.modVlt (s : State) (f : Vault → Vault) : State := { s with vlt := f s.vlt }

/-! ### Status and counters -/

def vltStatus (st : Nat) (s : State) : State := s.setFld W.VLT VLT_STAT 23 16 st
def vltOpened (s : State) : Bool := s.flag W.VLT VLT_STAT 30

/-- Counter `k` (R476). -/
def vltCtr (s : State) (k : Nat) : Nat := s.reg64 W.VLT (VLT_CTR + 8 * k)
def setVltCtr (k v : Nat) (s : State) : State := s.setReg64 W.VLT (VLT_CTR + 8 * k) v

/-- The records of the open block. -/
def openRecords (s : State) : List (List Byte) := s.vlt.records.getD []

/-- VLT_STAT with BUSY and COUNT of the open block. -/
def vltStat (s : State) : Nat :=
  b2n s.vlt.writing.isSome * 2 ^ 31 + s.fld W.VLT VLT_STAT 30 29 * 2 ^ 29 + s.fld W.VLT VLT_STAT 23 16 * 2 ^ 16
    + (openRecords s).length % 64

/-! ### Records (R471, R472) -/

/-- A record of 64 bytes. -/
def recordBytes (typ flags seq vtime : Nat) (payload : List Byte) : List Byte :=
  let b := beBytes 2 typ ++ beBytes 2 flags ++ beBytes 8 seq ++ beBytes 8 vtime ++ (payload ++ zeros 36).take 36 ++ zeros 4
  b ++ beBytes 4 (crc32 b)

/-- Place a record in the open block; it takes the next SEQ and the vault time. -/
def putRecord (typ flags : Nat) (payload : List Byte) (s : State) : State :=
  let seq := s.reg64 W.VLT VLT_NEXT_SEQ_LO
  let r := recordBytes typ flags seq s.vault payload
  (s.setReg64 W.VLT VLT_NEXT_SEQ_LO (seq + 1)).modVlt fun v => { v with records := some (v.records.getD [] ++ [r]) }

/-- The snapshot record of four counters from `k`. -/
def putSnapshot (k : Nat) (s : State) : State :=
  putRecord 0x000B 0 (beBytes 4 k ++ (List.range 4).flatMap fun i => beBytes 8 (vltCtr s (k + i))) s

/-- Open the next block at the first record after a seal (R473, R474). -/
def openBlock (s : State) : State :=
  match s.vlt.records with
  | some _ => s
  | none => putSnapshot 4 (putSnapshot 0 s)

/-! ### Sealing (R473–R475) -/

/-- The blocks of the region. -/
def vltBlocks (s : State) : Nat := s.reg W.VLT VLT_SIZE / 4096

/-- The flash offset of block `n`. -/
def blockAddr (s : State) (n : Nat) : Nat := s.reg W.VLT VLT_BASE + n % vltBlocks s * 4096

/-- Seal the open block: the signed bytes wait to be written and read back. -/
def vltSeal (s : State) : State :=
  match s.vlt.records with
  | none => s
  | some rs =>
    let hdr := beBytes 4 0x4F4E564C ++ beBytes 2 1 ++ beBytes 2 rs.length ++ beBytes 8 (s.reg64 W.VLT VLT_BLOCK_LO)
      ++ beBytes 8 s.vault ++ zeros 8 ++ s.vlt.prevHash
    let body := (rs.flatMap id ++ zeros 3968).take 3968
    let r := signWith (slotOf [] s hVault) (sha256 (hdr ++ body)) s
    r.2.modVlt fun v => { v with writing := some (hdr ++ (r.1 ++ zeros 64).take 64 ++ body) }

/-- BLOCK_WRITE_DONE: the block has been written and read back, or the flash failed (R474, R475, R479). -/
def doBlockWriteDone (ok : Bool) (s : State) : State :=
  match s.vlt.writing with
  | none => s
  | some b =>
    let s := s.modVlt fun v => { v with writing := none }
    if !ok then (vltStatus 3 s).raise0 W.VLT 2
    else
      let no := s.reg64 W.VLT VLT_BLOCK_LO
      let n := vltBlocks s
      let a := blockAddr s no
      let s := if no % 16 = 0 then s.norErase a 65536 else s
      let s := if no % 16 = 0 ∧ n ≤ no then (s.setReg64 W.VLT VLT_OLDEST_LO (no + 16 - n)).raise0 W.VLT 4 else s
      let s := s.norSet a b
      let s := (s.setReg64 W.VLT VLT_BLOCK_LO (no + 1)).modVlt fun v => { v with records := none, prevHash := sha256 b }
      let s := if lifecycle s = 2 ∨ lifecycle s = 3 then { s with fuses := { s.fuses with vaultInit := true } } else s
      vltStatus 0 (s.setFlag W.VLT VLT_STAT 29 false)

/-! ### Opening (R477) -/

/-- Block `i` of the region. -/
def blockBytes (s : State) (i : Nat) : List Byte := s.norBytes (s.reg W.VLT VLT_BASE + i * 4096) 4096

def blockMagic (b : List Byte) : Bool := beNat (b.take 4) == 0x4F4E564C
def blockNo (b : List Byte) : Nat := beNat (slice b 8 8)
def blockCount (b : List Byte) : Nat := beNat (slice b 6 2)
def blockRecord (b : List Byte) (i : Nat) : List Byte := slice b (0x80 + 64 * i) 64

/-- MAGIC, the signature and every record CRC check (R477). -/
def blockValid (s : State) (b : List Byte) : Bool :=
  blockMagic b
    && ecdsaVerify (publicOf (slotOf [] s hVault)) (sha256 (b.take 0x40 ++ b.drop 0x80)) (slice b 0x40 64)
    && (List.range (min (blockCount b) 62)).all fun i =>
      crc32 ((blockRecord b i).take 60) == beNat ((blockRecord b i).drop 60)

/-- Take the counters from a record: a snapshot of four, or a raise. -/
def takeCounters (r : List Byte) (s : State) : State :=
  let typ := beNat (r.take 2)
  let p := slice r 20 36
  if typ = 0x000B then
    let k := beNat (p.take 4)
    foldRange (fun s i => setVltCtr ((k + i) % 8) (beNat (slice p (4 + 8 * i) 8)) s) s 0 4
  else if typ = 0x000A then setVltCtr (byteAt p 0 % 8) (beNat (slice p 12 8)) s
  else s

/-- OPEN: the newest valid block gives the counters, NEXT_SEQ and the next BLOCK_NO (R477). -/
def vltOpen (s : State) : State :=
  let blocks := (List.range (vltBlocks s)).map (blockBytes s)
  let written := blocks.filter blockMagic
  let valid := written.filter (blockValid s)
  let newest := valid.foldl (fun (b : Option (List Byte)) x =>
    match b with
    | none => some x
    | some y => if blockNo y < blockNo x then some x else b) none
  let oldest := valid.foldl (fun n x => min n (blockNo x)) ((newest.map blockNo).getD 0)
  let s := s.modVlt fun _ => Vault.reset
  let s := foldRange (fun s k => setVltCtr k 0 s) s 0 8
  match newest with
  | none =>
    let s := (s.setReg64 W.VLT VLT_NEXT_SEQ_LO 0).setReg64 W.VLT VLT_BLOCK_LO 0
    let s := vltStatus 0 (s.setFld W.VLT VLT_STAT 30 29 3)
    let s := if written.isEmpty then s else s.raise0 W.VLT 5
    if s.fuses.vaultInit then s.raise0 W.VLT 3 else s
  | some b =>
    let s := foldRange (fun s i => takeCounters (blockRecord b i) s) s 0 (min (blockCount b) 62)
    let lastSeq := beNat (slice (blockRecord b (blockCount b - 1)) 4 8)
    let s := (s.setReg64 W.VLT VLT_NEXT_SEQ_LO (lastSeq + 1)).setReg64 W.VLT VLT_BLOCK_LO (blockNo b + 1)
    let s := (s.setReg64 W.VLT VLT_OLDEST_LO oldest).modVlt fun v => { v with prevHash := sha256 b }
    let s := vltStatus 0 (s.setFld W.VLT VLT_STAT 30 29 2)
    if written.any fun x => decide (blockNo b < blockNo x) then s.raise0 W.VLT 5 else s

/-! ### Commands (R474, R476) -/

/-- Types that APPEND refuses (R472). -/
def typeRefused (t : Nat) : Bool := t == 0 || t == 0x000A || t == 0x000B || (decide (0x000D ≤ t) && decide (t ≤ 0x7FFF))

/-- The open block holds 62 records. -/
def blockFull (s : State) : Bool := decide (62 ≤ (openRecords s).length)

/-- Seal when the block is full. A full block is still open only where its write failed (R479); a command that would place a
record seals it again and answers BUSY. -/
def sealIfFull (s : State) : State := if blockFull s then vltSeal s else s

/-- APPEND. -/
def vltAppend (s : State) : State :=
  let typ := s.fld W.VLT VLT_REC 31 16
  if typeRefused typ then vltStatus 2 s
  else
    let payload := (List.range 9).flatMap fun k => beBytes 4 (s.reg W.VLT (VLT_REC + 4 * (k + 1)))
    if blockFull s then vltStatus 5 (vltSeal s)
    else vltStatus 0 (sealIfFull (putRecord typ (s.fld W.VLT VLT_REC 15 0) payload (openBlock s)))

/-- RAISE of counter `k`. -/
def vltRaise (k : Nat) (s : State) : State :=
  let v := s.reg64 W.VLT VLT_CTR_SET_LO
  let old := vltCtr s k
  if v ≤ old then vltStatus 4 s
  else if blockFull s then vltStatus 5 (vltSeal s)
  else
    let s := openBlock s
    let s := setVltCtr k v s
    vltStatus 0 (vltSeal (putRecord 0x000A 0 ([BitVec.ofNat 8 k, 0, 0, 0] ++ beBytes 8 old ++ beBytes 8 v) s))

/-- VLT_CMD is written. A reserved OP returns BAD_VALUE; SEAL with no open block has nothing to seal. -/
def doVltCmd (data : Nat) (s : State) : State :=
  let op := bits data 3 0
  if s.vlt.writing.isSome then vltStatus 5 s
  else if op = 0 ∨ 4 < op then vltStatus 2 s
  else if op = 1 then vltOpen s
  else if !vltOpened s then vltStatus 1 s
  else if op = 2 then vltAppend s
  else if op = 3 then vltStatus 0 (vltSeal s)
  else vltRaise (bits data 10 8) s

/-- SEAL_MS ms have passed since the block's first record after its snapshots; the record carries the vault time (R471, R474). -/
def timeSealDue (s : State) : Bool :=
  let ms := s.fld W.VLT VLT_SEAL_CFG 15 0
  ms != 0 && s.vlt.writing.isNone
    && ((openRecords s)[2]?).any fun r => decide (beNat (slice r 12 8) + ms * 1000000 ≤ s.vault)

/-- TIME_SEAL (R474). -/
def doTimeSeal (s : State) : State := if timeSealDue s then vltSeal s else s

/-- The strobe check of R478. -/
def vltCheck (s : State) : Nat :=
  let b := s.shadow W.VLT VLT_BASE
  let n := s.shadow W.VLT VLT_SIZE
  if b % 65536 ≠ 0 ∨ n % 65536 ≠ 0 ∨ n < 65536 ∨ 67108864 < n then 1
  else if vltOpened s ∧ (b ≠ s.reg W.VLT VLT_BASE ∨ n ≠ s.reg W.VLT VLT_SIZE) then 2
  else 0

end Sys2Proof.Machine
end

