-- ==== Sys2Proof/Machine/BlockReset.lean ====
section
/-! DEFINITION. Block resets: registers, what each block keeps and loses, and the conditions it judges afresh at the end
(R41, R49, R77, R555, R557, R558). -/
namespace Sys2Proof.Machine
open Reg

/-! ### Registers (R41, R555) -/

/-- The SYS registers that a block reset of SYS keeps (R555). -/
def sysKept : List Nat :=
  [SYS_RST_REASON, SYS_STRAPS, SYS_BOOT_STAT, SYS_RST_FLT, SYS_RST_FLT_LOC, SYS_FLT_BRST, SYS_FLT_BRST_LOC]

/-- The QMG registers that a block reset keeps: a retired bank returns at chip reset only (R141, R143). -/
def qmgKept : List Nat :=
  [QMG_RETIRED, QMG_SPARE_STAT, QMG_RETIRE_LO, QMG_RETIRE_HI] ++ (List.range 32).map (QMG_BANKMAP + 4 * ·)

/-- The registers that a block reset of a block keeps beside those of every block. -/
def keptRegs : Blk → List Nat
  | .SYS => sysKept
  | .QMG => qmgKept
  | _ => []

/-- The locked bytes of a FLT_CFG word; the others return to 0 (R68). -/
def lockedBytes (v : Nat) : Nat :=
  ((List.range 4).map fun b => if bit v (8 * b + 7) then bits v (8 * b + 7) (8 * b) * 2 ^ (8 * b) else 0).sum

/-- The registers of a window return to their reset values, but for WIN_ACCESS, locked bytes and those in `kept`. -/
def resetRegs (w : Nat) (kept : List Nat) (s : State) : State :=
  let cfgs := (List.range 8).map fun k => (FLT_CFG + 4 * k, lockedBytes (s.reg w (FLT_CFG + 4 * k)))
  let saved := (WIN_ACCESS :: kept).map fun o => (o, s.reg w o)
  let mine := fun k => decide (k / 0x2000 = w)
  let s := { s with
    regs := kvFilter (fun k => !mine k) s.regs
    shad := kvFilter (fun k => !mine k) s.shad
    sources := kvFilter (fun k => decide (k / 32 ≠ w)) s.sources }
  (saved ++ cfgs).foldl (fun s p => s.setReg w p.1 p.2) s

/-! ### The shared update (R49) -/

/-- Every selected block has applied, or its update was discarded: the shared update ends with its admission hold, which
may have run out before (R51). One that selects no block ends at once (assumptions/96). -/
def sharedFinish (s : State) : State :=
  let s := pauseExpired s
  let h := s.shared
  if !h.pending || !h.waiting.isEmpty then s
  else
    { s with shared := match h.discarded with
        | none => { h with pending := false, applied := true, hold := false }
        | some w => { h with pending := false, applied := false, rejected := false, firstReject := w, reason := 5, hold := false } }

/-- The window no longer takes part: its update was discarded. -/
def sharedDrop (w : Nat) (s : State) : State :=
  if !s.shared.waiting.contains w then s
  else
    let h := s.shared
    sharedFinish { s with shared := { h with
      waiting := h.waiting.filter (· != w), discarded := some (match h.discarded with | none => w | some v => min v w) } }

/-! ### What each block loses (R557, R558) -/

/-- Frames that port `p` holds in its ingress buffer are gone (R557). -/
def dropIngress (p : Nat) (s : State) : State :=
  (s.pond.arrivals.filter fun a => a.origin == .port p).foldl (fun s a => takeArrival a.fid s) s

/-- The whole Pond is discarded (R398, R557): its frames, queues and counts; frames that wait at fabric inputs stay. -/
def pondReset (s : State) : State :=
  { s.modPond (fun p => { Pond.empty with nextFid := p.nextFid, arrivals := p.arrivals }) with outlets := [] }

/-- SGE closes every session and bundle without sending anything; the frames it holds are discarded. -/
def sgeReset (s : State) : State :=
  let s := s.sge.sessions.foldl (fun s x => match x.fid with
    | some f => if x.tx then dropCopy f 56 s else discardFrame f s
    | none => s) s
  { s with sge := Sge.reset }

/-- Every cadence entry returns to Unsynced (R558). -/
def cadencesUnsynced (s : State) : State :=
  { s with cdm := s.cdm.foldl (fun m e => kvSet Cadence.zero m e.1 { e.2 with state := .unsynced }) s.cdm }

/-- Every FRER stream takes any sequence (R558). -/
def frersTakeAny (s : State) : State :=
  { s with frer := s.frer.foldl (fun m e => kvSet Frer.zero m e.1 { e.2 with takeAny := true, timer := none }) s.frer }

/-- The EMT keeps its entries; reservation, learning queue, flush and scrubber are gone (R558). -/
def emtReset (s : State) : State :=
  s.modEmt fun m => { m with rr := [], resv := none, queue := [], flush := none, flushWait := [], scrubPos := 0, scrubStart := 0 }

/-- A shore bridge is reset: its link goes down, and with it the accesses under way (R305). -/
def bridgeReset (d : Nat) (s : State) : State :=
  let s := (shoreAbortAll d s).modBridge d fun b => { Bridge.reset with noticeOwed := b.noticeOwed }
  syncShore d (s.modShore d fun h => { h with aligned := false })

/-- The internal state of block `b` in window `w`; for LDG the counts go with it (assumptions/96). -/
def resetState (b : Blk) (w : Nat) (s : State) : State :=
  let i := instOf w
  match b with
  | .ICX => { s with icxLog := [], icxLost := 0 }
  | .BAL => { s with bal := Bal.reset }
  | .LDG => { s with ldg := ⟨[], [], 0, []⟩ }
  | .IRT => { s with irts := kvSet Irt.reset s.irts i Irt.reset }
  | .TMS => tmsReset s
  | .QMG => pondReset s
  | .DIA => { s with dials := kvSet Dial.idle s.dials i Dial.idle }
  | .EMT => emtReset s
  | .POL => s.modPol fun p => { p with vnLast := [], vnSupp := [] }
  | .CDM => cadencesUnsynced s
  | .SGE => sgeReset s
  | .JWL => s.modJwl fun j => { j with rootClass := none, fuseReq := none }
  | .TRN => { s with trnReqs := 0 }
  | .VLT => s.modVlt fun _ => Vault.reset
  | .CX => syncPort i (dropIngress i (s.setCx i Cx.reset))
  | .EMC =>
    let s := dropIngress (32 + i) (s.modMac i fun _ => Emc.reset)
    syncPort (32 + i) (if i = 0 then frersTakeAny s else s)
  | .CQ => cqReset s
  | .CAP => { s with rings := [] }
  | .TWL => twlReset s
  | .SHB => bridgeReset i s
  | .DMC => { s with dmc := ⟨false, false⟩ }
  | .XSP => { s with xsp := ⟨0, []⟩, deferred := s.deferred ++ s.xsp.waiting.map fun x => ⟨x, Aux.plain, true⟩ }
  | .CRN => { s with crn := { s.crn with wdtTicks := 0, warn := false, starts := [] } }
  | .NMU => { s with nm := [], nmReports := [] }
  | .TRX => s.setTr i Trx.reset
  | .T1L => syncPort (32 + i) (s.modLine i fun _ => T1l.reset)
  | .SWK => s.modShore i fun h => { h with seen := 0, reason := none, partner := false }
  | .SHC => s.modShore i fun h => { h with ctl := ShoreCtl.reset }
  | .SRL => forgetSpacing i (s.modRelay i fun r => { Relay.reset with entries := r.entries })
  | .SPS => inhUpdate i (relayPowerOff i s |>.modShore i fun h =>
      { h with inhOc := 0, releasing := false, vbat := 0, vmin := none, uv := false, ov := false })
  | .SYS | .FAB | .CLS | .WCT | .AUE | .SVP | .GPIO => s

/-! ### The begin and the end of a reset (R41, R77) -/

/-- The levels that a block judges afresh. -/
def rejudge (b : Blk) (w : Nat) (s : State) : State :=
  let i := instOf w
  match b with
  | .LDG => noteLdgPending s
  | .FAB => if w = W.FAB then noteAutoFrozen s else s
  | .QMG => (List.range 53).foldl (fun s p => syncPort p s) (noteDesc s)
  | .TMS => noteHold s
  | .EMT => noteStash s
  | .CX => cxEnabled i (s.enabled w) s
  | .EMC => syncPort (32 + i) s
  | .TWL => twinLevels s
  | .SHB => noteLinkDown i s
  | .SRL => noteS2s (noteLimp i s)
  | .SPS => noteVbat i (noteInhOc i s)
  | .SHC => noteMbox i s
  | .T1L => noteLine i (syncPort (32 + i) s)
  | .TRX => doOvertemp (shoreOf i) (s.shore (shoreOf i)).hot s
  | .TRN => s.level w 2 (locSelf w) (trnFailed s)
  | _ => s

/-- A block reset begins: every reset value takes effect at once, and the block is as one that is disabled until the reset ends
(R41). A train that is the last in service stays in service, and is judged afresh at once (R77, R107). -/
def resetBlock (w : Nat) (s : State) : State :=
  match blkOf w with
  | none => s
  | some b =>
    let s0 := s
    let s := resetRegs w (keptRegs b) s
    let s := s.setWin w { Win.idle with resetting := true }
    let s := sharedDrop w (resetState b w s)
    if b == .FAB then
      let r := trainReset (instOf w) s0 s
      if r.flag w BLK_CTRL 0 then rejudge b w (r.setWin w Win.idle) else r
    else s

/-- The reset of window `w` has ended; the accesses that waited for it are the bus's. -/
def resetEnd (w : Nat) (s : State) : State :=
  match blkOf w with
  | none => s
  | some b => if (s.win w).resetting then rejudge b w (s.setWin w { s.win w with resetting := false }) else s

end Sys2Proof.Machine
end

