-- ==== Sys2Proof/Machine/Start.lean ====
section
/-! DEFINITION. Resets of the main die and the starts that follow: what each start keeps, the boot ROM's steps, images, the
install record and commits (17_start_and_update.md). -/
namespace Sys2Proof.Machine
open Reg

/-- The start types of R432; a wake is from Standby or after Sleep. -/
inductive StartKind where | cold | warm | standby | sleep
deriving DecidableEq, Repr

/-- What stays powered through the reset (R395, R405, R433). -/
def StartKind.keeps (k : StartKind) : Bool := k == .warm || k == .standby

/-- SYS_RST_REASON.START. -/
def StartKind.code : StartKind → Nat
  | .cold => 1 | .warm => 2 | .standby => 3 | .sleep => 3

/-! ### What a chip reset keeps (R303, R433) -/

/-- A window of the main die. -/
def mainWin (w : Nat) : Bool := dieOf w == 0

/-- A memory byte that keeps its contents: DRAM, and the top 64 KiB of Crown SRAM (R405). -/
def retainedByte (a : Nat) : Bool := decide (dramBase ≤ a) || (decide (0x10070000 ≤ a) && decide (a < 0x10080000))

/-- The SHB links go down with the main die; the shores reset WIN_ACCESS and locked bytes when the notice arrives, which is owed
where the link is down (R303, R304, R331). -/
def noticeShore (d : Nat) (s : State) : State :=
  if (s.bridge d).up then limpCondition d (chipNotice d s) else s.modBridge d fun b => { b with noticeOwed := true }

/-- The tables that Standby keeps (R395), as a block reset does (R558). -/
def keepTables (o : State) (s : State) : State :=
  frersTakeAny (cadencesUnsynced { s with
    emt := { s.emt with entries := o.emt.entries, foreign := o.emt.foreign }, wct := o.wct, pset := o.pset
    pol := { s.pol with policers := o.pol.policers, gates := o.pol.gates, gcl := o.pol.gcl }
    cdm := o.cdm, aue := o.aue, frer := o.frer, flow := o.flow })

/-- The main die is reset: every register and all its state at reset values, but for what the kind of start keeps; the shore
dies go on. -/
def mainReset (k : StartKind) (o : State) : State :=
  let o := noticeShore 1 (noticeShore 0 o)
  let shoreKey := fun x => !mainWin (x / 0x2000)
  let s := { State.reset with
    pending := o.pending
    regs := kvFilter shoreKey o.regs
    shad := kvFilter shoreKey o.shad
    wins := kvFilter (fun w => !mainWin w) o.wins
    bus := o.bus
    sources := kvFilter (fun x => !mainWin (x / 32)) o.sources
    posts := o.posts.filter fun p => !mainWin p.win
    errPin := o.errPin
    shores := o.shores
    mem := if k.keeps then kvFilter retainedByte o.mem else []
    deferred := o.deferred.filter fun x => (shcOf x.acc.init).isSome
    nor := o.nor
    fuses := o.fuses
    jwl := if k == StartKind.standby then { o.jwl with fuseReq := none } else { State.reset.jwl with rootClass := if k == StartKind.warm then o.jwl.rootClass else none }
    trx := o.trx
    t1l := o.t1l
    cx := kvFilter (fun n => decide (n < 24)) o.cx
    nmReports := o.nmReports
    s2s := o.s2s
    bridges := o.bridges.map fun (b : Nat × Bridge) => (b.1, { Bridge.reset with noticeOwed := b.2.noticeOwed })
    straps := o.straps
    free := o.free }
  let s := { s with bridges := s.bridges.filter fun (b : Nat × Bridge) => b.2 != Bridge.reset }
  let s := s.modShore 0 fun h => { h with aligned := false }
  let s := s.modShore 1 fun h => { h with aligned := false }
  let s := if k.keeps then s.modCrn fun c => { c with digests := o.crn.digests } else s
  let s := if k == .warm then
      (s.setReg W.SYS SYS_RST_FLT (o.reg W.SYS SYS_RST_FLT)).setReg W.SYS SYS_RST_FLT_LOC (o.reg W.SYS SYS_RST_FLT_LOC)
    else s
  let s := if k.keeps && o.flag W.DMC DMC_STAT 2 then
      (s.setFlag W.DMC DMC_STAT 2 true).setFlag W.DMC DMC_STAT 3 (o.flag W.DMC DMC_STAT 0)
    else s
  if k == .standby then keepTables o s else s

/-! ### Flash layout (R443, R444) -/

/-- The directory: its first copy whose MAGIC and CRC match, and whose regions do not overlap; the offset of the copy. -/
def dirGood (s : State) (a : Nat) : Bool :=
  let b := s.norBytes a 4096
  beNat (b.take 4) == 0x4F4E4449 && crc32c (b.take 0xFFC) == beNat (b.drop 0xFFC)

/-- The largest LENGTH of a type's image (R441). -/
def maxLength (t : Nat) : Nat :=
  match t with
  | 1 => 458752 | 2 => 64 * 2 ^ 20 | 3 => 65536 | 4 => 131072 | _ => 32 * 2 ^ 20

def norWord (s : State) (a : Nat) : Nat := beNat (s.norBytes a 4)

/-- Region `r` (0 active, 1 fallback, 2 staging) of type `t`, and the size of each. -/
def regionOf (s : State) (dir t r : Nat) : Nat := norWord s (dir + 0x10 + 0x20 * (t - 1) + 4 * r)
def slotSize (s : State) (dir t : Nat) : Nat := norWord s (dir + 0x10 + 0x20 * (t - 1) + 12)

/-- Every region of the directory as (offset, size). -/
def regions (s : State) (dir : Nat) : List (Nat × Nat) :=
  ([1, 2, 3, 4, 5].flatMap fun t => [0, 1, 2].map fun r => (regionOf s dir t r, slotSize s dir t))
    ++ [(norWord s (dir + 0xB0), norWord s (dir + 0xB4)), (norWord s (dir + 0xB8), norWord s (dir + 0xBC)),
        (norWord s (dir + 0xC0), 0x2000)]

/-- No two regions of a list overlap. -/
def disjoint : List (Nat × Nat) → Bool
  | [] => true
  | x :: t => (t.all fun y => decide (x.1 + x.2 ≤ y.1) || decide (y.1 + y.2 ≤ x.1)) && disjoint t

/-- A copy of the directory that is valid (R443). -/
def dirValid (s : State) (a : Nat) : Bool :=
  dirGood s a && ([1, 2, 3, 4, 5].all fun t => decide (512 + maxLength t ≤ slotSize s a t)) && disjoint (regions s a)

/-- The directory in use. -/
def directory (s : State) : Option Nat :=
  match [0, 0x10000].find? (dirGood s) with
  | some a => if dirValid s a then some a else none
  | none => none

/-- A type's entry in the install record. -/
structure InstRec where
  state : Nat
  tries : Nat
  next : Nat
  digest : List Byte
deriving DecidableEq, Repr

/-- A copy of the install record: sequence number, then 64 bytes a type from 0x10 (STATE, TRIES, two reserved bytes, NEXT,
DIGEST), CRC-32C in the last word. The places are the model's. -/
def recordGood (s : State) (a : Nat) : Bool :=
  let b := s.norBytes a 4096
  crc32c (b.take 0xFFC) == beNat (b.drop 0xFFC)

/-- The offset of the copy in use, and of the one that the next write goes to. -/
def recordCopies (s : State) (dir : Nat) : Option Nat × Nat :=
  let a := norWord s (dir + 0xC0)
  let b := a + 0x1000
  match recordGood s a, recordGood s b with
  | true, true => if norWord s a < norWord s b then (some b, a) else (some a, b)
  | true, false => (some a, b)
  | false, true => (some b, a)
  | false, false => (none, a)

/-- The entry of type `t`; idle where no copy is valid. -/
def readRec (s : State) (dir t : Nat) : InstRec :=
  match (recordCopies s dir).1 with
  | none => ⟨0, 0, 0, zeros 48⟩
  | some a =>
    let b := s.norBytes (a + 0x10 + 64 * (t - 1)) 64
    ⟨byteAt b 0, byteAt b 1, beNat (slice b 4 4), slice b 8 48⟩

/-- Write the entry of type `t`: the whole record goes to the older copy with the next sequence number (R444). -/
def writeRec (dir t : Nat) (r : InstRec) (s : State) : State :=
  let c := recordCopies s dir
  let old := match c.1 with
    | some a => s.norBytes a 0xFFC
    | none => zeros 0xFFC
  let seq := (match c.1 with | some a => norWord s a | none => 0) + 1
  let ent := beBytes 1 r.state ++ beBytes 1 r.tries ++ [0, 0] ++ beBytes 4 r.next ++ (r.digest ++ zeros 48).take 48 ++ zeros 8
  let body := splice (splice old 0 (beBytes 4 seq)) (0x10 + 64 * (t - 1)) ent
  (s.norErase c.2 0x1000).norSet c.2 (body ++ beBytes 4 (crc32c body))

/-! ### Images (R440, R441, R447) -/

/-- The anti-rollback class of a type. -/
def classOf (t : Nat) : Nat :=
  match t with
  | 1 => 0 | 2 => 1 | 3 => 2 | 4 => 2 | _ => 3

def hdrType (h : List Byte) : Nat := beNat (slice h 6 2)
def hdrEpoch (h : List Byte) : Nat := beNat (slice h 8 2)
def hdrVersion (h : List Byte) : Nat := beNat (slice h 0xC 4)
def hdrLength (h : List Byte) : Nat := beNat (slice h 0x10 4)
def hdrLoad (h : List Byte) : Nat := beNat (slice h 0x18 8)
def hdrDigest (h : List Byte) : List Byte := slice h 0x20 48
def hdrSigner (h : List Byte) : Nat := byteAt h 0x50

/-- The table of R441. -/
def typeFits (s : State) (h : List Byte) : Bool :=
  let n := hdrLength h
  let a := hdrLoad h
  match hdrType h with
  | 1 => hdrSigner h == 0 && decide (1 ≤ n) && decide (n ≤ 458752) && a == 0x10000000
  | 2 => hdrSigner h == 1 && decide (1 ≤ n) && decide (n ≤ 64 * 2 ^ 20) && a % 8 == 0
      && ((decide (0x20000000 ≤ a) && decide (a + n ≤ 0x20400000)) || s.inDram a n)
  | 3 => hdrSigner h == 0 && decide (4 ≤ n) && decide (n ≤ 65536) && n % 4 == 0 && a == 0
  | 4 => hdrSigner h == 1 && decide (4 ≤ n) && decide (n ≤ 131072) && n % 4 == 0 && a == 0
  | 5 => hdrSigner h == 1 && decide (16 ≤ n) && decide (n ≤ 32 * 2 ^ 20) && a == 0
  | _ => false

/-- The header is valid (R441). -/
def headerValid (s : State) (h : List Byte) : Bool :=
  let root := if hdrSigner h = 0 then s.fuses.vroot else s.fuses.croot
  let reserved := slice h 0xA 2 ++ slice h 0x14 4 ++ slice h 0x51 15 ++ slice h 0xC0 224
  h.length == 512 && beNat (h.take 4) == 0x4F4E494D && beNat (slice h 4 2) == 1 && reserved.all (· == 0)
    && decide (hdrEpoch h ≤ 64) && decide (hdrSigner h ≤ 1) && (hdrSigner h == 0 || crootSet s)
    && sha384 (slice h 0x60 96) == root
    && ecdsaVerify (slice h 0x60 96) (sha384 (h.take 0x1A0)) (slice h 0x1A0 96)
    && typeFits s h

/-- The image of type `t` at a flash offset is valid (R441). -/
def imageValid (s : State) (t a : Nat) : Bool :=
  let h := s.norBytes a 512
  headerValid s h && hdrType h == t && sha384 (s.norBytes (a + 512) (hdrLength h)) == hdrDigest h

/-- Neither EPOCH nor VERSION is below what R447 allows. -/
def notRolledBack (s : State) (h : List Byte) : Bool :=
  decide (fuseEpoch s (classOf (hdrType h)) ≤ hdrEpoch h) && decide (vltCtr s (hdrType h - 1) ≤ hdrVersion h)

/-- The image may be loaded. -/
def imageLoads (s : State) (t a : Nat) : Bool := imageValid s t a && notRolledBack s (s.norBytes a 512)

/-- Copy the image at `a` to `b`, sector by sector (R445). -/
def copyImage (a b : Nat) (s : State) : State :=
  let n := 512 + hdrLength (s.norBytes a 512)
  let img := s.norBytes a n
  (s.norErase b ((n + 65535) / 65536 * 65536)).norSet b img

/-- The ledger's entry of an install (0x0006), a commit (0x0007) or a restore (0x0008) (R446, R472). -/
def imageEvent (typ : Nat) (h : List Byte) (s : State) : State :=
  ledgerEvent typ (beBytes 2 (hdrType h) ++ beBytes 2 (hdrEpoch h) ++ beBytes 4 (hdrVersion h) ++ (hdrDigest h).take 28) s

/-! ### Commit (R448) -/

/-- Steps 2 to 4: the counter, the fuse epoch, STATE 0x0 and the commit entry. -/
def commitSteps (dir t : Nat) (s : State) : State :=
  let h := s.norBytes (regionOf s dir t 0) 512
  let s := if vltCtr s (t - 1) < hdrVersion h then
      doBlockWriteDone true (vltRaise (t - 1) (s.setReg64 W.VLT VLT_CTR_SET_LO (hdrVersion h)))
    else s
  let c := classOf t
  let f := s.fuses
  let s := if fuseEpoch s c < hdrEpoch h then
      { s with fuses := { f with epoch := kvSet 0 f.epoch c (addEpoch (kvGet 0 f.epoch c) (hdrEpoch h - fuseEpoch s c)) } }
    else s
  imageEvent 7 h (writeRec dir t { readRec s dir t with state := 0, next := 0 } s)

/-! ### Installing (R445, R446) -/

/-- The answer of the install work: whether the flash failed, whether anything was installed, restored or committed. -/
structure Work where
  s : State
  failed : Bool
  done : Bool

/-- One state's work for type `t`; `k` bounds the number of states passed. -/
def installType (dir t : Nat) (norOk : Bool) : Nat → Work → Work
  | 0, w => w
  | k + 1, w =>
    let s := w.s
    let r := readRec s dir t
    let act := regionOf s dir t 0
    let fb := regionOf s dir t 1
    let stg := regionOf s dir t 2
    let put := fun (r : InstRec) (s : State) => writeRec dir t r s
    let next := fun (s : State) (done : Bool) => installType dir t norOk k ⟨s, false, w.done || done⟩
    if w.failed then w
    else if r.state = 0 ∨ 6 < r.state then w
    else if !norOk then { w with failed := true }
    else match r.state with
      | 1 => next (put { r with state := if imageLoads s t stg then 2 else 0, next := 0 } s) false
      | 2 =>
        let keep := imageValid s t act && decide (hdrVersion (s.norBytes act 512) ≤ vltCtr s (t - 1))
        next (put { r with state := 3, next := 0 } (if keep then copyImage act fb s else s)) false
      | 3 =>
        let s := copyImage stg act s
        if imageValid s t act then next (imageEvent 6 (s.norBytes act 512) (put { r with state := 4, tries := 0, next := 0 } s)) true
        else next (put { r with state := 6, next := 0 } s) false
      | 4 =>
        let tries := satAdd 8 r.tries 1
        let most := bits (norWord s (dir + 8)) 11 8
        if most ≠ 0 ∧ most < tries then next (put { r with state := 6, tries := tries } s) false
        else ⟨put { r with tries := tries } s, false, w.done⟩
      | 5 => ⟨commitSteps dir t s, false, true⟩
      | _ =>
        let s := copyImage fb act s
        ⟨imageEvent 8 (s.norBytes act 512) (put { r with state := 0, next := 0 } s), false, true⟩

/-- The install record's work for the five types, CROWN_FW first. -/
def installAll (dir : Nat) (norOk : Bool) (s : State) : Work :=
  (List.range 5).foldl (fun w i => installType dir (i + 1) norOk 8 w) ⟨s, false, false⟩

/-! ### The boot ROM (R434–R438) -/

/-- Recovery, or a halt without SVC_EN (R365, R435). -/
def romRecover (s : State) : State := if bit s.straps 3 then s.setFlag W.SYS SYS_BOOT_STAT 21 true else romHalt s

/-- Without a valid Crown firmware: by BOOT_SRC (R435). -/
def romNoFirmware (s : State) : State := if bits s.straps 1 0 = 0 then romHalt s else romRecover s

/-- The global source numbers of the sources called ECC_UNCORR (R436). -/
def eccUncorrSources : List Nat :=
  [srcBase W.QMG + 4, srcBase W.EMT + 3, srcBase W.WCT + 2, srcBase W.POL + 2, srcBase W.CDM + 2, srcBase W.SGE + 4,
   srcBase W.AUE + 3, srcBase 0x231 + 4, srcBase 0x331 + 4, srcBase 0x232 + 5, srcBase 0x332 + 5, srcBase W.DMC + 3,
   srcBase W.JWL + 3]

/-- The BIST of Pond and tables runs (R436). -/
def bistRuns (k : StartKind) (reason : Nat) (s : State) : Bool :=
  match k with
  | .cold => true
  | .warm => reason == 7 && s.flag W.SYS SYS_RST_FLT 31 && eccUncorrSources.contains (s.fld W.SYS SYS_RST_FLT 10 0)
  | _ => match directory s with
    | some d => norWord s (d + 8) % 2 == 1
    | none => false

/-- Name failed banks in QMG_RETIRE_LO and HI. -/
def nameBanks (banks : List Nat) (s : State) : State :=
  banks.foldl (fun s b =>
    if b < 32 then s.setFlag W.QMG QMG_RETIRE_LO b true else if b < 34 then s.setFlag W.QMG QMG_RETIRE_HI (b - 32) true else s) s

/-- The Crown firmware of the image at `a` is copied to Crown SRAM and its digest kept (R436 step 6, R437). -/
def loadCrown (a : Nat) (s : State) : State :=
  let h := s.norBytes a 512
  let s := s.memWrite 0x10000000 (s.norBytes (a + 512) (hdrLength h))
  s.modCrn fun c => { c with digests := kvSet [] c.digests 1 (hdrDigest h) }

/-- The active image of the Crown firmware, the fallback, or none (R436, R446). -/
def romVerify (k : StartKind) (dir : Nat) (s : State) : State :=
  let act := regionOf s dir 1 0
  let fb := regionOf s dir 1 1
  let warmOk := k == .warm && kvGet [] s.crn.digests 1 != []
    && sha384 (s.norBytes (act + 512) (hdrLength (s.norBytes act 512))) == kvGet [] s.crn.digests 1
  if warmOk || imageLoads s 1 act then loadCrown act s
  else if imageLoads s 1 fb then loadCrown fb ((bootError 3 s).setFlag W.SYS SYS_BOOT_STAT 23 true)
  else romNoFirmware (bootError 4 s)

/-- The other images where they are loaded from NOR: a fallback serves for an invalid active image, and the start reports ERROR
0x07 (R438, R446). -/
def romOthers (k : StartKind) (dir : Nat) (s : State) : State :=
  if k.keeps then s
  else [2, 3, 4, 5].foldl (fun s t =>
    if imageLoads s t (regionOf s dir t 0) then s
    else if imageLoads s t (regionOf s dir t 1) then (bootError 7 s).setFlag W.SYS SYS_BOOT_STAT 23 true
    else bootError 7 s) s

/-- BOOT_FALLBACK (R458). -/
def noteFallback (s : State) : State :=
  let e := s.fld W.SYS SYS_BOOT_STAT 7 0
  if s.flag W.SYS SYS_BOOT_STAT 23 || e == 3 || e == 7 || e == 9 then s.raise0 W.SYS 2 else s

/-- The TABLE_IMAGE that this start applies: of the active region, else of the fallback (R436, R446). -/
def tableImage (dir : Nat) (s : State) : Option TableRun :=
  match [regionOf s dir 5 0, regionOf s dir 5 1].find? (imageLoads s 5) with
  | some a => some ⟨a + 512, hdrLength (s.norBytes a 512), 0, 0, none⟩
  | none => none

/-- Count one in the ledger image where the Crown feeds it. -/
def crownCount (off : Nat) (s : State) : State :=
  { s with unnov := { s.unnov with fed := kvSet 0 s.unnov.fed off (kvGet 0 s.unnov.fed off + 1) } }

/-- The Crown firmware begins: it counts the start by reason and by type and, but for a warm or commanded one, the wakes that the
shores have latched (R322, R506), and takes up the TABLE_IMAGE (R436). -/
def crownBegins (k : StartKind) (reason dir : Nat) (s : State) : State :=
  if s.crn.halted || s.flag W.SYS SYS_BOOT_STAT 21 then s
  else
    let s := crownCount (0x200 + 8 * k.code) (crownCount (0x1C0 + 4 * reason) s)
    let wake := fun (d : Nat) (s : State) =>
      match (s.shore d).reason with
      | some (c, _, _) => if (s.bridge d).up then crownCount (0x220 + 4 * c) s else s
      | none => s
    let s := if reason = 1 ∨ reason = 8 ∨ reason = 9 then wake 1 (wake 0 s) else s
    s.modCrn fun c => { c with table := tableImage dir s }

/-- Step 5: the directory, the vault, the install work, the Crown firmware. -/
def romImages (k : StartKind) (reason : Nat) (x : StartInput) (s : State) : State :=
  match directory s with
  | none => romNoFirmware (bootError 5 s)
  | some dir =>
    let s := vltOpen ((s.setReg W.VLT VLT_BASE (norWord s (dir + 0xB0))).setReg W.VLT VLT_SIZE (norWord s (dir + 0xB4)))
    let w := installAll dir x.norOk s
    let s := if w.failed then bootError 9 w.s else w.s
    let s := if w.done then (s.setFlag W.SYS SYS_BOOT_STAT 22 true).raise0 W.CRN 4 else s
    crownBegins k reason dir (noteFallback (romOthers k dir (romVerify k dir s)))

/-- The lanes of both shore links train. -/
def romLinks (x : StartInput) (s : State) : State := doRetrain 1 x.linkB (doRetrain 0 x.linkA s)

/-- ROM_START (R436): the boot ROM's steps after a reset of kind `k`. -/
def romStart (k : StartKind) (reason : Nat) (x : StartInput) (s : State) : State :=
  let s := s.setReg W.SYS SYS_RST_REASON (k.code * 256 + reason)
  let s := if reason = 1 then
      let s := { s with straps := x.pins % 32 }
      s.modShore 0 fun h => { h with mate := bit x.pins 2 }
    else s
  let senses := k == .cold || k == .standby || k == .sleep || x.parity
  let s := if k == .cold && x.margin2 then s.raise0 W.SYS 3 else s
  if senses && x.fuseFail then romHalt (bootError 1 s)
  else
    let s := romLinks x s
    let bist := bistRuns k reason s
    let banks := if bist then x.banks else []
    let s := if bist then nameBanks banks (s.setFlag W.SYS SYS_BOOT_STAT 20 true) else s
    if 2 < banks.eraseDups.length then romHalt (bootError 2 s)
    else
      let s := if k == .warm then s else deriveRoot s
      match bits s.straps 1 0 with
      | 2 => romRecover s
      | 3 => romHalt (bootError 8 s)
      | _ => romImages k reason x s

/-- A reset of the main die and the start that follows it (R432). -/
def doReset (k : StartKind) (reason : Nat) (x : StartInput) (s : State) : State := romStart k reason x (mainReset k s)

/-! ### Reset sources (R432, R434, R457, R539) -/

/-- The main die works: it is supplied and not held in reset. -/
def mainRuns (s : State) : Bool := (s.pwr.state == .run || s.pwr.state == .doze) && !s.pwr.held

/-- WRST_N, the lockstep and other resets of a running main die: a warm start. -/
def doWarm (reason : Nat) (x : StartInput) (s : State) : State := if mainRuns s then doReset .warm reason x s else s

/-- A completed guarded sequence to SYS_RST_CMD (R457). -/
def doRstCmd (data : Nat) (x : StartInput) (s : State) : State :=
  match data % 4 with
  | 1 => doReset .warm 3 x s
  | 2 => doReset .cold 4 x s
  | _ => s

/-- The main die is held in reset: PORST_N low, or VCORE or VSER low (R539). Its links go down. -/
def holdMain (s : State) : State :=
  if s.pwr.held then s
  else
    let s := linkDown 1 (linkDown 0 s)
    { s with pwr := { s.pwr with held := true } }

/-- PORST_N_RELEASE: a cold start when a shore reports its power-on reset or a link does not train, else a wake (R434). What
the main die held has been lost with its supplies. -/
def doPorstRelease (x : StartInput) (s : State) : State :=
  if s.pwr.state == .off then s
  else
    let trains := fun d m => (s.shore d).powered && (s.shore d).clocked && lanesCarry m
    let cold := (s.shore 0).fresh || (s.shore 1).fresh || !trains 0 x.linkA || !trains 1 x.linkB
    let s := { s with bridges := s.bridges.map fun (b : Nat × Bridge) => (b.1, { b.2 with up := false }) }
    if cold then doReset .cold 1 x s
    else if s.pwr.state == .standby then doReset .standby 8 x s
    else doReset .sleep 9 x s

/-- UNDERVOLTAGE_RELEASE: a wake start when the package was in Standby, else a warm start with reason 0x0A. -/
def doUvRelease (x : StartInput) (s : State) : State :=
  if s.pwr.state == .standby then doReset .standby 8 x s
  else if s.pwr.held && (s.pwr.state == .run || s.pwr.state == .doze) then doReset .warm 10 x s
  else s

/-! ### Crown watchdog and Movement (R457) -/

/-- The timeout in ticks of 2 ns. -/
def wdtLimit (s : State) : Nat := s.fld W.CRN CRN_WDT 15 0 * 500000

/-- CRN_WDT_STAT. -/
def wdtStat (s : State) : Nat :=
  b2n s.crn.warn * 2 ^ 31 + (if wdtOn s then min ((wdtLimit s - s.crn.wdtTicks + 499999) / 500000) 65535 else 0)

/-- WDT_WARN follows CRN_WDT_STAT.WARN. -/
def noteWarn (s : State) : State := s.level W.CRN 2 (locSelf W.CRN) s.crn.warn

/-- A write to CRN_WDT: EN is only ever set, and not with TIMEOUT_MS 0. -/
def doCrnWdt (data : Nat) (s : State) : State :=
  if bit data 31 ∧ data % 65536 = 0 then s
  else
    let en := bit data 31 || wdtOn s
    let fresh := bit data 31 && !wdtOn s
    let s := s.setReg W.CRN CRN_WDT (b2n en * 2 ^ 31 + data % 65536)
    twinLevels (if fresh then noteWarn (s.modCrn fun c => { c with wdtTicks := 0, warn := false }) else s)

/-- CRN_WDT_KICK. -/
def doWdtKick (data : Nat) (s : State) : State :=
  if bit data 0 then noteWarn (s.modCrn fun c => { c with wdtTicks := 0, warn := false }) else s

/-- The watchdog counts `n` ticks of the Regulator's time base. -/
def wdtCount (n : Nat) (s : State) : State := if wdtOn s then s.modCrn fun c => { c with wdtTicks := c.wdtTicks + n } else s

/-- WDT_WARN: half the timeout has passed without a kick. -/
def doWdtWarn (s : State) : State :=
  if wdtOn s && decide (wdtLimit s ≤ 2 * s.crn.wdtTicks) then noteWarn (s.modCrn fun c => { c with warn := true }) else s

/-- WATCHDOG_EXPIRY: TIMEOUT_MS have passed without a kick; a warm reset with reason 0x05. -/
def doCrownExpiry (x : StartInput) (s : State) : State :=
  if wdtOn s && decide (wdtLimit s ≤ s.crn.wdtTicks) then doWarm 5 x s else s

/-- A write to CRN_MOV_RUN: a core whose bit rises starts at the entry address. -/
def doMovRun (data : Nat) (s : State) : State :=
  let old := s.reg W.CRN CRN_MOV_RUN
  let entry := s.reg W.CRN CRN_MOV_ENTRY_LO + 2 ^ 32 * s.reg W.CRN CRN_MOV_ENTRY_HI
  let s := (List.range 4).foldl (fun s k =>
    if bit data k && !bit old k then s.modCrn fun c => { c with starts := kvSet 0 c.starts k entry } else s) s
  s.setReg W.CRN CRN_MOV_RUN (data % 16)

end Sys2Proof.Machine
end

