-- ==== Sys2Proof/Machine/Power.lean ====
section
/-! DEFINITION. Package power states (R395–R400), power-on resets of the shores (R303, R531, R536) and what they lose. -/
namespace Sys2Proof.Machine
open Reg

/-- SYS_PWR_STAT. -/
def pwrStat (s : State) : Nat :=
  let p := s.pwr
  let st := if p.entering.isSome then 2 else match p.state with
    | .run => 0 | .doze => 1 | .standby => 2 | .sleep | .off => 0
  b2n p.refused * 2 ^ 31 + b2n (p.entering.isSome || s.dmc.entering) * 2 ^ 30 + p.refuser % 4 * 2 ^ 16 + st

/-! ### Commands (R396–R399) -/

/-- PWR_RUN: Doze ends, and the memory leaves self-refresh (R397, R411). -/
def doPwrRun (s : State) : State :=
  if s.pwr.state == .doze then leaveSelfRefresh { s with pwr := { s.pwr with state := .run } } else s

/-- PWR_DOZE: Doze admission applies at once; self-refresh follows once the DRAM Dial is idle (R397). -/
def doPwrDoze (s : State) : State :=
  if s.pwr.state == .run then { s with pwr := { s.pwr with state := .doze }, dmc := { s.dmc with entering := true } } else s

/-- PWR_STANDBY: refused while a shore holds a pending wake (R399); else both shores are marked, the Pond is discarded and the
memory goes to self-refresh (R398). -/
def doPwrStandby (s : State) : State :=
  let who := b2n (pendingWake s 0).isSome + 2 * b2n (pendingWake s 1).isSome
  if who ≠ 0 then { s with pwr := { s.pwr with refused := true, refuser := who } }
  else
    let s := pondReset { s with pwr := { s.pwr with entering := some 2 }, dmc := { s.dmc with entering := true } }
    (s.modShore 0 fun h => { h with mark := true }).modShore 1 fun h => { h with mark := true }

/-- A write of SYS_PWR_CMD: REFUSED clears; a TARGET equal to the state, and TARGET 0x3, have no effect (R397). -/
def doPwrCmd (data : Nat) (s : State) : State :=
  let s := { s with pwr := { s.pwr with refused := false, refuser := 0 } }
  if s.pwr.entering.isSome then s
  else match data % 4 with
    | 0 => doPwrRun s
    | 1 => doPwrDoze s
    | 2 => doPwrStandby s
    | _ => s

/-- STBY_OFF of shore `d`: bits INH_x1, INH_x0. -/
def stbyOffOf (s : State) (d : Nat) : Nat := s.fld W.SYS SYS_PWR_CFG (9 + 2 * d) (8 + 2 * d)

/-- A shore that still holds its Standby mark releases the outputs that STBY_OFF names. -/
def shoreStandby (d off : Nat) (s : State) : State :=
  if !(s.shore d).mark then s else inhUpdate d (s.modShore d fun h => { h with stbyOff := off })

/-- STANDBY_READY: the main die reports ready over the control lane (R398 step 4); the links end with VCORE. The chip-reset
notice is owed until they train again (R303). -/
def doStandbyReady (s : State) : State :=
  if s.pwr.entering.isNone then s
  else
    let a := stbyOffOf s 0
    let b := stbyOffOf s 1
    let s := shoreStandby 1 b (shoreStandby 0 a s)
    let s := linkDown 1 (linkDown 0 (doSelfRefresh s))
    let s := (s.modBridge 0 fun b => { b with noticeOwed := true }).modBridge 1 fun b => { b with noticeOwed := true }
    { s with pwr := { s.pwr with state := .standby, entering := none } }

/-- Every output that supplies the main die has been released: Sleep (R324, R397). -/
def enterSleep (s : State) : State :=
  let s := mainReset .sleep (linkDown 1 (linkDown 0 s))
  { s with pwr := { s.pwr with state := .sleep } }

/-- INH_RELEASE: the release of shore `d`; `mainOff` says that no output supplies the main die any more, which is the
integrator's wiring. -/
def doInhReleaseRow (d : Nat) (mainOff : Bool) (s : State) : State :=
  let was := (s.shore d).releasing
  let s := doInhRelease d s
  if was && mainOff && !s.spsEn d && (s.pwr.state == .run || s.pwr.state == .doze || s.pwr.state == .standby) then enterSleep s
  else s

/-! ### Power-on resets of the shores (R303, R531) -/

/-- Everything on shore `d` returns to its reset value; its windows stay in the list of a shared update (assumptions/96). -/
def clearShore (d : Nat) (s : State) : State :=
  let mine := fun w => dieOf w == d + 1
  let other := fun n => shoreOf n != d || decide (24 ≤ n)
  let pins := (s.shore d).pins
  let s := ((List.range 12).map (12 * d + ·)).foldl (fun s n => dropIngress n s) s
  let s := { s with
    regs := kvFilter (fun k => !mine (k / 0x2000)) s.regs
    shad := kvFilter (fun k => !mine (k / 0x2000)) s.shad
    wins := kvFilter (fun w => !mine w) s.wins
    sources := kvFilter (fun k => !mine (k / 32)) s.sources
    posts := s.posts.filter fun p => !mine p.win
    trx := kvFilter other s.trx
    cx := kvFilter other s.cx
    t1l := kvFilter (fun k => shoreOfSeg k != d) s.t1l
    errPin := if d = 0 then { s.errPin with shoreA := false } else { s.errPin with shoreB := false } }
  s.modShore d fun _ => { Shore.reset with pins := pins }

/-- The shore enters power-on reset: both links with it go down. -/
def shorePor (d : Nat) (s : State) : State :=
  let s := doS2sDown false (linkDown d s)
  syncShore d (clearShore d s)

/-- POWER_OFF: all but the fuses and the NOR flash is lost (R395). -/
def doPowerOff (s : State) : State :=
  { State.reset with
    pending := s.pending
    nor := s.nor
    fuses := s.fuses
    free := s.free
    pwr := { State.reset.pwr with state := .off }
    shores := kvSet Shore.reset (kvSet Shore.reset [] 0 { Shore.reset with powered := false }) 1 { Shore.reset with powered := false } }

/-- SHORE_POWER_ON_RESET: VBAT of shore `d` falls below the threshold; with both shores below it the package is off. -/
def doShorePor (d : Nat) (s : State) : State :=
  if !(s.shore d).powered then s
  else
    let s := (shorePor d s).modShore d fun h => { h with powered := false }
    if (s.shore 0).powered || (s.shore 1).powered then s else doPowerOff s

/-- The shore leaves its power-on reset and records spring 0x08; the main die, if it was off, is then asleep. -/
def shoreUp (d : Nat) (s : State) : State :=
  let s := if s.pwr.state == .off then { s with pwr := { s.pwr with state := .sleep } } else s
  inhUpdate d (spring d 8 0 (noteS2s s))

/-- SHORE_POWER_ON: VBAT of shore `d` rises above the threshold; Shore B waits for its clock (R531). -/
def doShorePowerOn (d : Nat) (s : State) : State :=
  if (s.shore d).powered then s
  else
    let s := s.modShore d fun h => { h with powered := true }
    if (s.shore d).clocked then shoreUp d s else s

/-- CLOCK_LOSS: Shore B holds itself in power-on reset. -/
def doClockLoss (s : State) : State :=
  if !(s.shore 1).clocked then s
  else
    let on := (s.shore 1).powered
    (shorePor 1 s).modShore 1 fun h => { h with clocked := false, powered := on }

/-- CLOCK_RETURN: Shore B leaves that reset. -/
def doClockReturn (s : State) : State :=
  if (s.shore 1).clocked then s
  else
    let s := s.modShore 1 fun h => { h with clocked := true }
    if (s.shore 1).powered then shoreUp 1 s else s

/-- S2S_LINK_UP: both shores run; Shore A passes TWIN_ROLE to Shore B (R307, R484). -/
def doS2sUp (s : State) : State :=
  let ok := fun d => (s.shore d).powered && (s.shore d).clocked
  if s.s2s || !ok 0 || !ok 1 then s
  else
    let m := (s.shore 0).mate
    noteS2s ({ s with s2s := true }.modShore 1 fun h => { h with mate := m })

end Sys2Proof.Machine
end

