-- ==== Sys2Proof/Machine/Unnov.lean ====
section
/-! DEFINITION. The Unnov protocol of the service port: sessions, staging, commit, restart, readout (R449–R456, R509, R510).
The answer sent stands in `unnov.sent`. -/
namespace Sys2Proof.Machine
open Reg

def State.modUnnov (s : State) (f : Unnov → Unnov) : State := { s with unnov := f s.unnov }

/-! ### Messages (R451, R453, R456) -/

/-- STATUS codes (R456). -/
abbrev unOk : Nat := 0
abbrev unBadMessage : Nat := 1
abbrev unBadSequence : Nat := 2
abbrev unAuthFailed : Nat := 3
abbrev unNoSession : Nat := 4
abbrev unBadHeader : Nat := 5
abbrev unRollback : Nat := 6
abbrev unBadType : Nat := 7
abbrev unTooLarge : Nat := 8
abbrev unDigest : Nat := 9
abbrev unNotStaged : Nat := 10
abbrev unNothing : Nat := 11
abbrev unEpoch : Nat := 12
abbrev unBusy : Nat := 13
abbrev unNotPermitted : Nat := 14
abbrev unFlash : Nat := 15

def unType (m : List Byte) : Nat := byteAt m 3
def unSession (m : List Byte) : Nat := beNat (slice m 4 4)
def unSeq (m : List Byte) : Nat := beNat (slice m 8 4)
def unLength (m : List Byte) : Nat := beNat (slice m 12 2)
def unBody (m : List Byte) : List Byte := slice m 16 (unLength m)

/-- The header is in order, and the message has its body and, where it is due, its TAG. -/
def unFormed (m : List Byte) (tag : Bool) : Bool :=
  beNat (m.take 2) == 0x554E && byteAt m 2 == 1 && beNat (slice m 14 2) == 0
    && m.length == 16 + unLength m + (if tag then 16 else 0)

/-- The TAG of a header and body (R451). -/
def unTag (key l : List Byte) : List Byte := (hmacSha256 key l).take 16

/-- UNNOV_ERROR (R456). -/
def unError (s : State) : State := (noticeOffer 0x29 ansNoFrame none 0xFF 0xFFFF (locSelf W.SVP) s).raise0 W.CRN 3

/-- A message discarded without an answer (R453). -/
def unDiscard (s : State) : State := unError (s.modUnnov fun u => { u with sent := [] })

/-- The bytes of an answer: header, STATUS, three reserved bytes, the rest, and the TAG where a session key is given. -/
def unAnswer (typ sess seq st : Nat) (body key : List Byte) : List Byte :=
  let b := beBytes 1 st ++ [0, 0, 0] ++ body
  let l := beBytes 2 0x554E ++ [1] ++ beBytes 1 (typ ||| 0x80) ++ beBytes 4 sess ++ beBytes 4 seq ++ beBytes 2 b.length ++ [0, 0] ++ b
  if key.isEmpty then l else l ++ unTag key l

/-- Send an answer that is not kept for a repetition. -/
def unSend (a : List Byte) (st : Nat) (s : State) : State :=
  let s := s.modUnnov fun u => { u with sent := a }
  if st = unOk then s else unError s

/-- Answer a request of the open session and keep the answer (R453). -/
def unReply (m : List Byte) (st : Nat) (body : List Byte) (s : State) : State :=
  let a := unAnswer (unType m) (unSession m) (unSeq m) st body s.unnov.key
  unSend a st (s.modUnnov fun u => { u with seq := unSeq m, last := a })

/-- Only STATUS, staging, RESTART and BYE are accepted in recovery (R435). -/
def recovery (s : State) : Bool := s.flag W.SYS SYS_BOOT_STAT 21

/-- What a session leaves behind when it ends. -/
def unEnd (s : State) : State :=
  s.modUnnov fun u => { Unnov.idle with stage := u.stage, restart := u.restart, sent := u.sent, image := u.image, fed := u.fed }

/-! ### Opening (R452) -/

/-- "UNNOV SESSION" in ASCII. -/
def labelSession : List Byte := beBytes 13 0x554E4E4F562053455353494F4E

/-- A new HELLO: nonce, key exchange, the device's signature and certificate. -/
def unHelloNew (host : Nat) (m : List Byte) (s : State) : State :=
  let body := unBody m
  let nc := body.take 32
  let ec := slice body 32 96
  let s := unEnd s
  let r := trnDraw 88 s
  let s := r.2
  let priv := ecPrivate 48 (r.1.drop 32)
  let nd := r.1.take 32
  let cert := s.fuses.cert
  let part := [0, 0, 0, 0] ++ nd ++ ecdsaPublic priv ++ beBytes 2 cert.length ++ cert
  let sig := signWith (slotOf [] s hAttest) (sha384 (body ++ part)) s
  let reply := part ++ sig.1
  let a := unAnswer 1 0 1 unOk (reply.drop 4) []
  let z := match ecdh priv ec with
    | some x => (x, sig.2)
    | none => sig.2.drawBytes 48
  let s := z.2.modUnnov fun u => { u with
    host := some host, opened := false, hello := body, reply := reply, seq := 1, last := a, session := 0
    leaf := ((Config.x509Chain (body.drop 128)).map (·.1)).getD []
    key := kdf z.1 (labelSession ++ [0] ++ nc ++ nd) 32 }
  unSend a unOk s

/-- HELLO: BUSY for another host while a session is open; a repeated HELLO receives the stored answer (R453). -/
def doHello (host : Nat) (m : List Byte) (s : State) : State :=
  let u := s.unnov
  if unType m ≠ 1 ∨ !unFormed m false ∨ unLength m < 128 then unSend (unAnswer 1 0 (unSeq m) unBadMessage [] []) unBadMessage s
  else if u.opened ∧ u.host ≠ some host then unSend (unAnswer 1 0 (unSeq m) unBusy [] []) unBusy s
  else if unSession m ≠ 0 then unDiscard s
  else if unSeq m ≠ 1 then unSend (unAnswer 1 0 (unSeq m) unBadSequence [] []) unBadSequence s
  else if u.host = some host ∧ u.seq = 1 ∧ u.hello = unBody m then s.modUnnov fun u => { u with sent := u.last }
  else unHelloNew host m s

/-- The chain of the HELLO ends in a root that the fuses accept (R452). -/
def rootAccepted (s : State) : Bool :=
  match Config.x509Chain (s.unnov.hello.drop 128) with
  | none => false
  | some (_, root) =>
    let h := sha384 root
    (crootSet s && h == s.fuses.croot) || (lifecycle s == 4 && h == s.fuses.vroot)

/-- PROVE: the client's signature over the HELLO body and the 0x81 body opens the session (R452). -/
def doProve (host : Nat) (m : List Byte) (s : State) : State :=
  let u := s.unnov
  let plain := fun (st : Nat) (s : State) => unSend (unAnswer 2 0 (unSeq m) st [] []) st s
  if unType m ≠ 2 ∨ !unFormed m false ∨ unLength m ≠ 96 then plain unBadMessage s
  else if u.host.isNone then plain unNoSession s
  else if u.host ≠ some host ∨ unSession m ≠ 0 then unDiscard s
  else if unSeq m = u.seq ∧ u.seq = 2 then s.modUnnov fun u => { u with sent := u.last }
  else if unSeq m ≠ u.seq + 1 ∨ u.opened then plain unBadSequence s
  else if rootAccepted s && ecdsaVerify u.leaf (sha384 (u.hello ++ u.reply)) (unBody m) then
    let r := trnDraw 4 s
    let a := unAnswer 2 0 (unSeq m) unOk r.1 u.key
    unSend a unOk (r.2.modUnnov fun u => { u with opened := true, session := beNat r.1, seq := unSeq m, last := a })
  else
    let a := unAnswer 2 0 (unSeq m) unAuthFailed [] u.key
    unSend a unAuthFailed (s.modUnnov fun u => { u with seq := unSeq m, last := a })

/-! ### Requests of an open session (R453) -/

/-- Judge a request of type `typ`: session, TAG, SESSION, SEQ; execute `f` once. -/
def unRequest (typ : Nat) (inRecovery : Bool) (host : Nat) (m : List Byte) (f : List Byte → State → State) (s : State) : State :=
  let u := s.unnov
  if !u.opened then unSend (unAnswer typ 0 (unSeq m) unNoSession [] []) unNoSession s
  else if u.host ≠ some host ∨ unSession m ≠ u.session ∨ m.length < 32
      ∨ m.drop (m.length - 16) ≠ unTag u.key (m.take (m.length - 16)) then unDiscard s
  else if unSeq m = u.seq then s.modUnnov fun u => { u with sent := u.last }
  else if unSeq m ≠ u.seq + 1 then
    unSend (unAnswer (unType m) u.session (unSeq m) unBadSequence [] u.key) unBadSequence s
  else if unType m ≠ typ ∨ !unFormed m true then unReply m unBadMessage [] s
  else if recovery s && !inRecovery then unReply m unNotPermitted [] s
  else f (unBody m) s

/-- The directory, without which the flash holds no images. -/
def withDir (m : List Byte) (s : State) (f : Nat → State) : State :=
  match directory s with
  | none => unReply m unFlash [] s
  | some d => f d

/-- STATUS: 16 bytes a type (R454). -/
def unStatusOf (s : State) (t : Nat) : List Byte :=
  match directory s with
  | none => beBytes 2 t ++ zeros 14
  | some d =>
    let r := readRec s d t
    let h := s.norBytes (regionOf s d t 0) 512
    beBytes 2 t ++ beBytes 1 r.state ++ beBytes 1 r.tries ++ beBytes 4 (hdrVersion h) ++ beBytes 2 (hdrEpoch h)
      ++ beBytes 1 (fuseEpoch s (classOf t)) ++ [0] ++ beBytes 4 (vltCtr s (t - 1))

def doUnStatus (host : Nat) (m : List Byte) (s : State) : State :=
  unRequest 0x10 true host m (fun b s =>
    if b.length ≠ 0 then unReply m unBadMessage [] s
    else unReply m unOk ((List.range 5).flatMap fun i => unStatusOf s (i + 1)) s) s

/-! ### Staging (R455) -/

/-- The blocks of an image body. -/
def blockCountOf (n : Nat) : Nat := (n + 1023) / 1024

def doStageBegin (host : Nat) (m : List Byte) (s : State) : State :=
  unRequest 0x11 true host m (fun h s =>
    let t := hdrType h
    if h.length ≠ 512 then unReply m unBadMessage [] s
    else if t = 0 ∨ 5 < t then unReply m unBadType [] s
    else if maxLength t < hdrLength h then unReply m unTooLarge [] s
    else if !headerValid s h then unReply m unBadHeader [] s
    else if !notRolledBack s h then unReply m unRollback [] s
    else withDir m s fun d =>
      let r := readRec s d t
      if 2 ≤ r.state ∧ r.state ≤ 6 then unReply m unNotPermitted [] s
      else
        let a := regionOf s d t 2
        let s := writeRec d t { r with state := 0, next := 0 } s
        let s := (s.norErase a (slotSize s d t)).norSet a h
        unReply m unOk (beBytes 4 (blockCountOf (hdrLength h))) (s.modUnnov fun u => { u with stage := some (t, 0) })) s

def doStageBlock (host : Nat) (m : List Byte) (s : State) : State :=
  unRequest 0x12 true host m (fun b s =>
    let i := beNat (b.take 4)
    let data := b.drop 4
    if b.length < 5 ∨ 1028 < b.length then unReply m unBadMessage [] s
    else match s.unnov.stage with
      | none => unReply m unNotStaged [] s
      | some (t, next) => withDir m s fun d =>
        let a := regionOf s d t 2
        let n := hdrLength (s.norBytes a 512)
        if i + 1 = next then unReply m unOk (beBytes 4 i) s
        else if i ≠ next ∨ blockCountOf n ≤ i then unReply m unBadSequence [] s
        else if data.length ≠ min 1024 (n - 1024 * i) then unReply m unBadMessage [] s
        else
          let s := s.norSet (a + 512 + 1024 * i) data
          unReply m unOk (beBytes 4 i) (s.modUnnov fun u => { u with stage := some (t, next + 1) })) s

def doStageEnd (host : Nat) (m : List Byte) (s : State) : State :=
  unRequest 0x13 true host m (fun b s =>
    let t := beNat b
    if b.length ≠ 2 then unReply m unBadMessage [] s
    else if t = 0 ∨ 5 < t then unReply m unBadType [] s
    else withDir m s fun d =>
      let a := regionOf s d t 2
      let h := s.norBytes a 512
      match s.unnov.stage with
      | none => unReply m unNotStaged [] s
      | some (t', next) =>
        if t' ≠ t ∨ next < blockCountOf (hdrLength h) then unReply m unNotStaged [] s
        else if sha384 (s.norBytes (a + 512) (hdrLength h)) ≠ hdrDigest h then unReply m unDigest [] s
        else
          let s := writeRec d t { readRec s d t with state := 1, next := 0 } s
          unReply m unOk [] (s.modUnnov fun u => { u with stage := none })) s

/-! ### Commit, rollback, restart (R448, R449, R455) -/

/-- The commit of type `t` would raise the class-2 epoch above the EPOCH of the other class-2 type's active image. -/
def epochConflict (s : State) (d t : Nat) : Bool :=
  let mine := hdrEpoch (s.norBytes (regionOf s d t 0) 512)
  classOf t == 2 && decide (fuseEpoch s 2 < mine) && decide (hdrEpoch (s.norBytes (regionOf s d (7 - t) 0) 512) < mine)

def doCommit (host : Nat) (m : List Byte) (s : State) : State :=
  unRequest 0x14 false host m (fun b s =>
    let t := beNat b
    if b.length ≠ 2 then unReply m unBadMessage [] s
    else if t = 0 ∨ 5 < t then unReply m unBadType [] s
    else withDir m s fun d =>
      let r := readRec s d t
      if r.state ≠ 4 then unReply m unNothing [] s
      else if epochConflict s d t then unReply m unEpoch [] s
      else
        let s := if s.vlt.writing.isSome then doBlockWriteDone true s else s
        unReply m unOk [] (commitSteps d t (writeRec d t { r with state := 5 } s))) s

def doRollback (host : Nat) (m : List Byte) (s : State) : State :=
  unRequest 0x15 false host m (fun b s =>
    let t := beNat b
    if b.length ≠ 2 then unReply m unBadMessage [] s
    else if t = 0 ∨ 5 < t then unReply m unBadType [] s
    else withDir m s fun d =>
      let r := readRec s d t
      if r.state = 4 then unReply m unOk [] (writeRec d t { r with state := 6, next := 0 } s)
      else unReply m unNothing [] s) s

/-! ### The ledger image (R506, R509, R510) -/

/-- The bytes of the ledger image. -/
def ledgerSize : Nat := 21504

/-- A copy is valid: MAGIC, and the CRC-32C over every other byte. -/
def ledgerCopy (s : State) (a : Nat) : Option (List Byte) :=
  let b := s.norBytes a ledgerSize
  if beNat (b.take 4) = 0x4F4E4C47 ∧ crc32c (b.take 60 ++ b.drop 64) = beNat (slice b 60 4) then some b else none

def ledgerGen (b : List Byte) : Nat := beNat (slice b 8 8)

/-- The Crown's image: as it holds it, or the valid copy with the higher GENERATION, or zeros. -/
def crownImage (s : State) : List Byte :=
  if !s.unnov.image.isEmpty then s.unnov.image
  else match directory s with
    | none => zeros ledgerSize
    | some d =>
      let a := norWord s (d + 0xB8)
      match ledgerCopy s a, ledgerCopy s (a + norWord s (d + 0xBC) / 2) with
      | some x, some y => if ledgerGen x < ledgerGen y then y else x
      | some x, none => x
      | none, some y => y
      | none, none => zeros ledgerSize

/-- Add a snapshot to an image: 32-bit counts saturate, 64-bit counts wrap, the retired-bank mask is ORed (R506, R507). -/
def mergeSnap (snap : KV Nat) (img : List Byte) : List Byte :=
  snap.foldl (fun l e =>
    if e.1 = 0x390 then splice l e.1 (beBytes 8 (beNat (slice l e.1 8) ||| e.2))
    else if ledgerWide e.1 then splice l e.1 (beBytes 8 ((beNat (slice l e.1 8) + e.2) % 2 ^ 64))
    else splice l e.1 (beBytes 4 (satAdd 32 (beNat (slice l e.1 4)) e.2))) img

/-- BAL_HIST as counts of the image: the pace windows (R25, R506). -/
def paceCounts (s : State) : KV Nat :=
  (List.range 16).filterMap fun k =>
    let v := s.reg W.BAL (BAL_HIST + 4 * k)
    if v = 0 then none else some (0x140 + 8 * k, v)

/-- The Crown snaps and merges, with the counts that it feeds itself; BAL_HIST is cleared as it is taken over (R25, R510). -/
def snapMerge (s : State) : State :=
  let img := crownImage s
  let s := doSnap s
  let img := mergeSnap s.unnov.fed (mergeSnap (paceCounts s) (mergeSnap s.ldg.snap img))
  doHistClr 1 (s.modUnnov fun u => { u with image := img, fed := [] })

/-- The Crown persists the ledger: GENERATION rises and the older copy is written (R509). -/
def persistLedger (s : State) : State :=
  let s := snapMerge s
  match directory s with
  | none => s
  | some d =>
    let a := norWord s (d + 0xB8)
    let b := a + norWord s (d + 0xBC) / 2
    let img := s.unnov.image
    let hdr := beBytes 4 0x4F4E4C47 ++ beBytes 2 1 ++ [0, 0] ++ beBytes 8 (ledgerGen img + 1) ++ beBytes 8 s.vault
    let l := splice img 0 hdr
    let l := splice l 60 (beBytes 4 (crc32c (l.take 60 ++ l.drop 64)))
    let older := match ledgerCopy s a, ledgerCopy s b with
      | some x, some y => if ledgerGen x < ledgerGen y then a else b
      | some _, none => b
      | none, _ => a
    ((s.norErase older ((ledgerSize + 65535) / 65536 * 65536)).norSet older l).modUnnov fun u => { u with image := l }

def doRestart (host : Nat) (m : List Byte) (s : State) : State :=
  unRequest 0x16 true host m (fun b s =>
    if b.length ≠ 1 ∨ (beNat b ≠ 1 ∧ beNat b ≠ 2) then unReply m unBadMessage [] s
    else
      let s := if recovery s then s else persistLedger s
      unReply m unOk [] (s.modUnnov fun u => { u with restart := some (beNat b) })) s

/-- RESTART_RESET: 100 ms after the answer the reset follows. -/
def doRestartReset (x : StartInput) (s : State) : State :=
  match s.unnov.restart with
  | some 1 => doReset .warm 3 x s
  | some 2 => doReset .cold 4 x s
  | _ => s

/-! ### Readout (R454, R510) -/

def doLedgerRead (host : Nat) (m : List Byte) (s : State) : State :=
  unRequest 0x20 false host m (fun b s =>
    let off := beNat (b.take 4)
    let n := beNat (slice b 4 2)
    if b.length ≠ 6 ∨ 1024 < n ∨ ledgerSize ≤ off then unReply m unBadMessage [] s
    else
      let s := if off = 0 then snapMerge s else s
      unReply m unOk (slice (crownImage s) off n) s) s

/-- A vault block: one of the blocks that the region still holds. -/
def doVaultExport (host : Nat) (m : List Byte) (s : State) : State :=
  unRequest 0x21 false host m (fun b s =>
    let no := beNat (b.take 8)
    let part := byteAt b 8
    let blk := s.norBytes (blockAddr s no) 4096
    if b.length ≠ 9 ∨ 3 < part ∨ vltBlocks s = 0 ∨ !blockMagic blk ∨ blockNo blk ≠ no then unReply m unBadMessage [] s
    else unReply m unOk (slice blk (1024 * part) 1024) s) s

def doUnAttest (host : Nat) (m : List Byte) (s : State) : State :=
  unRequest 0x22 false host m (fun b s =>
    let h := beNat (b.take 2)
    if b.length ≠ 34 ∨ attrType (slotOf [] s h).attr = 0 then unReply m unBadMessage [] s
    else if trnFailed s then unReply m unBusy [] s
    else
      let r := attestStatement h (b.drop 2) s
      unReply m unOk r.1 r.2) s

/-- BYE ends the session. -/
def doBye (host : Nat) (m : List Byte) (s : State) : State :=
  unRequest 0x7F true host m (fun b s =>
    if b.length ≠ 0 then unReply m unBadMessage [] s else unEnd (unReply m unOk [] s)) s

/-- SESSION_TIMEOUT: 30 s without a valid request (R453). -/
def doSessionTimeout (s : State) : State := unEnd (s.modUnnov fun u => { u with sent := [] })

end Sys2Proof.Machine
end

