-- ==== Sys2Proof/Machine/SafePoint.lean ====
section
/-! DEFINITION. Safe points (R37, R45 and the chapters), service mode, and what follows when a block begins or ceases to be
enabled. -/
namespace Sys2Proof.Machine
open Reg

/-! ### Safe points -/

/-- A CAN channel is between two frames on its bus, in bus-off, or in mode 0x0 (R275). -/
def cxBetween (s : State) (n : Nat) : Bool :=
  let x := s.cxs n
  cxMode s n == 0 || x.busoff || (!x.rxActive && !x.slots.any (·.committed))

/-- An Ethernet port is between two frames in both directions (R45). -/
def emcBetween (s : State) (k : Nat) : Bool := (s.mac k).rx.isEmpty && (s.mac k).sending.isNone

/-- Window `w` stands at its safe point, as far as the state tells it; for a block whose every command ends before the next one
begins, that is between any two commands (assumptions/7). -/
def safePoint (s : State) (w : Nat) : Bool :=
  let i := instOf w
  match blkOf w with
  | some .BAL => !s.flag W.BAL BAL_VSTAT 1
  | some .DIA => (s.dial i).slot == 0 && !dialFrozen s i
  | some .CX => cxBetween s i
  | some .TRX => (s.tr i).state != 1 || cxBetween s i
  | some .EMC => emcBetween s i
  | some .T1L => t1lState s i != 1 || emcBetween s i
  | some .EMT => s.emt.flush.isNone
  | some .XSP => !xspBusy s
  | some .VLT => s.vlt.writing.isNone
  | some .SGE => !insideTick s
  | some .CAP => (List.range 8).all fun r => (s.ring r).writing.isNone
  | some .SPS => !(s.shore i).releasing
  | _ => true

/-- Windows whose update applies with the strobe that passes: SHC, and a TRX or T1L that is not in Normal (R340 and the TRX
register map). -/
def appliesAtOnce (s : State) (w : Nat) : Bool :=
  match blkOf w with
  | some .SHC => true
  | some .TRX => (s.tr (instOf w)).state != 1
  | some .T1L => t1lState s (instOf w) != 1
  | _ => false

/-! ### Enabled and not (R39, R556) -/

/-- What follows when a block begins or ceases to be enabled. -/
def enHook (b : Blk) (w : Nat) (on : Bool) (s : State) : State :=
  let i := instOf w
  match b with
  | .QMG => if on then retireAtEnable s else s
  | .CX => cxEnabled i on s
  | .EMC => syncPort (32 + i) (if on then s else dropPartial (32 + i) s)
  | .T1L => noteLine i (syncPort (32 + i) s)
  | .TWL => twlEnabled on s
  | .SGE => if on then sgeBegins s else sgeDisabled s
  | .TMS => refGovern (holdGone s)
  | .NMU => nmuChanged s
  | .SVP => if on then doSvpTx (s.reg W.SVP SVP_TXPTR) s else s
  | .SHB => if on then s else linkDown i s
  | _ => s

/-- Run `enHook` where window `w` was enabled before `f` and is not after it, or the other way round. -/
def aroundEnable (w : Nat) (f : State → State) (s : State) : State :=
  let t := f s
  match blkOf w with
  | none => t
  | some b => if t.enabled w == s.enabled w then t else enHook b w (t.enabled w) t

/-! ### Service mode (R37) -/

/-- The service mode of a window changes. -/
def State.setSvc (s : State) (w : Nat) (v : Service) : State := s.setWin w { s.win w with svc := v }

/-- SVC_MODE as an accepted BLK_CTRL write leaves it: asked for until the safe point, off at once. -/
def askService (w : Nat) (on : Bool) (s : State) : State :=
  if !on then s.setSvc w .off else if (s.win w).svc = .on then s else s.setSvc w .asked

/-- Window `w` leaves traffic when it stands at its safe point and service mode is asked for. -/
def enterService (w : Nat) (s : State) : State :=
  if (s.win w).svc = .asked ∧ safePoint s w then aroundEnable w (fun s => s.setSvc w .on) s else s

/-- The windows that wait for their safe point to enter service mode. -/
def sweepService (s : State) : State :=
  ((s.wins.filter fun e => e.2.svc == .asked).map (·.1)).foldl (fun s w => enterService w s) s

end Sys2Proof.Machine
end

