-- ==== Sys2Proof/Machine/Flags.lean ====
section
/-! DEFINITION. The flags that conditions drive: the state table of a fault source, what recording a fault does, reactions,
ERROR_N (R66–R81), and the settling of a command's effects that every meaning ends with. -/
namespace Sys2Proof.Machine
open Reg

/-! ### Configuration of a source (R67–R74) -/

/-- The configuration byte of local source `src`. -/
def fltByte (s : State) (w src : Nat) : Nat := s.fld w (FLT_CFG + 4 * (src / 4)) (8 * (src % 4) + 7) (8 * (src % 4))

/-- FLT_RECOV of a source. -/
def recovReg (src : Nat) : Nat := FLT_RECOV + 4 * (src / 2)
def recovCount (s : State) (w src : Nat) : Nat := s.fld w (recovReg src) (16 * (src % 2) + 15) (16 * (src % 2))
def setRecov (w src v : Nat) (s : State) : State := s.setFld w (recovReg src) (16 * (src % 2) + 15) (16 * (src % 2)) v

/-- Escalated: LIMIT is not 0 and FLT_RECOV has reached it (R74). -/
def escalated (s : State) (w src : Nat) : Bool :=
  let l := s.fld w FLT_ESCAL 7 0
  l != 0 && decide (l ≤ recovCount s w src)

/-- The effective severity at an entry into Faulted (R70). -/
def effSev (s : State) (w src : Nat) : Nat :=
  let v := fltByte s w src % 4
  if escalated s w src then min 3 (v + 1) else v

/-- The effective reaction [4:0] = PIN, CRST, BRST, NMI, INT (R69, R70). -/
def effReact (s : State) (w src : Nat) : Nat :=
  let v := effSev s w src
  bits (fltByte s w src) 6 2 ||| s.fld W.SYS SYS_FLT_FLOOR (5 * v + 4) (5 * v)

/-- BRST has no effect in SYS, ICX and CRN (R71). -/
def brstAllowed (w : Nat) : Bool := w != W.SYS && w != W.ICX && w != W.CRN

/-! ### The state table (R72) -/

/-- A fault that a source records: local number, severity, reaction, location, injected. -/
structure FltEntry where
  src : Nat
  sev : Nat
  react : Nat
  loc : Nat
  inj : Bool
deriving DecidableEq, Repr

/-- The condition of a source arises: what it records, if anything, and the source in Faulted. The way back from
Recovering keeps severity and reaction (assumptions/96). -/
def fltArises (s : State) (p : Post) (x : Source) : Option FltEntry × Source :=
  match x.state with
  | .faulted => (none, x)
  | .recovering => (some ⟨p.src, x.sev, x.react, p.loc, p.inj⟩, { x with state := .faulted })
  | .normal =>
    let v := effSev s p.win p.src
    let r := effReact s p.win p.src
    (some ⟨p.src, v, r, p.loc, p.inj⟩, { x with state := .faulted, sev := v, react := r })

/-- The condition of a source ends: nothing holds it any more. -/
def fltEnds (x : Source) : Source :=
  if !x.live && !x.held && x.state == .faulted then { x with state := .recovering } else x

/-- One posted condition meets the state table. -/
def fltPost (s : State) (p : Post) : Option FltEntry × Source :=
  let x := s.source p.win p.src
  match p.cond with
  | .event =>
    let r := fltArises s p x
    (r.1, fltEnds r.2)
  | .levelOn =>
    let r := fltArises s p x
    (r.1, if p.inj then { r.2 with held := true } else { r.2 with live := true })
  | .levelOff => (none, fltEnds (if p.inj then { x with held := false } else { x with live := false }))

/-- Record one fault (R73). -/
def fltRecord (w : Nat) (e : FltEntry) (s : State) : State :=
  let s := (s.setFlag w FLT_STAT e.src true).count w (FLT_CNT + 4 * e.sev)
  capFault (srcBase w + e.src) (autoFreeze w e.src (ledgerFault w e.sev s))

/-- Of two faults of one instant, the one that FLT_LOC and FLT_INFO take (R73). -/
def fltWorse (a b : FltEntry) : FltEntry :=
  if a.sev < b.sev ∨ (a.sev = b.sev ∧ b.src < a.src) then b else a

/-- FLT_LOC and FLT_INFO. -/
def fltInform (w : Nat) (es : List FltEntry) (s : State) : State :=
  match es with
  | [] => s
  | e :: t =>
    let x := t.foldl fltWorse e
    (s.setReg w FLT_LOC x.loc).setReg w FLT_INFO (2 ^ 31 + b2n x.inj * 2 ^ 30 + x.sev % 4 * 2 ^ 6 + x.src % 32)

/-! ### Reactions (R75–R78) -/

/-- NMI: to the routers, or latched on the shore until the next poll (R76, R311). -/
def fltNmi (w : Nat) (e : FltEntry) (s : State) : State :=
  if !bit e.react 1 then s
  else if dieOf w = 0 then deliverNmi (srcBase w + e.src) s
  else s.modBridge (dieOf w - 1) fun b => { b with nmis := b.nmis ++ [srcBase w + e.src] }

/-- The first of the worst faults whose reaction has bit `k`. -/
def fltWith (k : Nat) (es : List FltEntry) : Option FltEntry :=
  match es.filter fun e => bit e.react k with
  | [] => none
  | e :: t => some (t.foldl fltWorse e)

/-- SYS_RST_FLT and SYS_RST_FLT_LOC, then the chip reset with reason 0x07 (R78). -/
def crstReset (g loc : Nat) (x : StartInput) (s : State) : State :=
  let s := (s.setReg W.SYS SYS_RST_FLT (2 ^ 31 + g)).setReg W.SYS SYS_RST_FLT_LOC loc
  if mainRuns s then doReset .warm 7 x s else s

/-- SYS_FLT_BRST and SYS_FLT_BRST_LOC (R77). -/
def brstReport (g loc : Nat) (s : State) : State :=
  (s.setReg W.SYS SYS_FLT_BRST (2 ^ 31 + g)).setReg W.SYS SYS_FLT_BRST_LOC loc

/-- What a start draws when a fault reaction brings it. -/
def drawStart (s : State) : StartInput × State := (Config.startInput s.free, { s with free := s.free + 1 })

/-- BRST: the block is reset, unless CRST is part of the reaction or the window takes none (R71, R75, R77). -/
def fltBrst (w : Nat) (es : List FltEntry) (s : State) : State :=
  match fltWith 3 es, fltWith 2 es with
  | none, some e =>
    if !brstAllowed w then s
    else resetBlock w (if dieOf w = 0 then brstReport (srcBase w + e.src) (s.reg w FLT_LOC) s else s)
  | _, _ => s

/-- CRST: the first window of the main die that asks for it resets the package; a shore asks with CRST_REQUEST (R78, R304). -/
def fltCrst (ws : List (Nat × List FltEntry)) (s : State) : State :=
  match ws.findSome? fun x => if dieOf x.1 = 0 then (fltWith 3 x.2).map fun e => (x.1, e) else none with
  | none => s
  | some (w, e) =>
    let r := drawStart s
    crstReset (srcBase w + e.src) e.loc r.1 r.2

/-! ### ERROR_N (R79, R80) -/

/-- A source of the main die holds the pin: PIN in its effective reaction, and not Normal. -/
def pinHeld (s : State) : Bool :=
  s.sources.any fun e => mainWin (e.1 / 32) && e.2.state != .normal && bit e.2.react 4

/-- A cause drives ERROR_N low: FORCE, a source, a shore, a halted ROM (R79, R304, R435). -/
def pinCause (s : State) : Bool :=
  s.flag W.SYS SYS_ERRPIN 8 || pinHeld s || s.errPin.shoreA || s.errPin.shoreB || s.crn.halted

/-- The level follows its causes and the minimum hold. -/
def pinUpdate (s : State) : State :=
  if mainRuns s || s.pwr.held then
    if pinCause s then { s with errPin := { s.errPin with low := true, hold := s.errPin.hold || !s.errPin.low } }
    else { s with errPin := { s.errPin with low := s.errPin.hold } }
  else { s with errPin := { s.errPin with low := false, hold := false } }

/-! ### Settling -/

/-- The conditions posted for one window meet the state table; records, then NMI (R73, R75). -/
def settleWin (ps : List Post) (w : Nat) (s : State) : List FltEntry × State :=
  let step := fun (acc : List FltEntry × State) (p : Post) =>
    let r := fltPost acc.2 p
    (acc.1 ++ r.1.toList, acc.2.setSource w p.src r.2)
  let r := (ps.filter fun p => p.win == w).foldl step ([], s)
  let es := r.1
  (es, es.foldl (fun s e => fltNmi w e s) (fltInform w es (es.foldl (fun s e => fltRecord w e s) r.2)))

/-- The windows of a list of posts, ascending. -/
def postWins (ps : List Post) : List Nat := allWindows.filter fun w => ps.any fun p => p.win == w

/-- One round: every condition posted so far; the reactions in the order of R75. -/
def settleRound (s : State) : State :=
  let ps := s.posts
  let r := (postWins ps).foldl (fun (acc : List (Nat × List FltEntry) × State) w =>
    let x := settleWin ps w acc.2
    (acc.1 ++ [(w, x.1)], x.2)) ([], { s with posts := [] })
  fltCrst r.1 (r.1.foldl (fun s x => fltBrst x.1 x.2 s) (pinUpdate r.2))

/-- Rounds until no condition is left, at most 64 (assumptions/5). -/
def settle : Nat → State → State
  | 0, s => { s with posts := [] }
  | n + 1, s => if s.posts.isEmpty then s else settle n (settleRound s)

/-- Channels whose live MODE has changed, by an apply or by the pair's gates (R275, R483). -/
def sweepModes (s0 s : State) : State :=
  foldRange (fun s n => cxModeChanged n (cxMode s0 n) s) s 0 32

/-- Ports follow what their blocks report (R133, R277, R344). -/
def sweepPorts (s : State) : State := foldRange (fun s p => syncPort p s) s 0 53

/-- Frames queued at an Ethernet port that has just been gated are flushed (R483). -/
def sweepGates (s0 s : State) : State :=
  foldRange (fun s p => if ethGated s p && !ethGated s0 p then flushPort p s else s) s 32 20

/-- Changes of NETREQ or of an NM state are sent to the partner (R492). -/
def sweepNm (s0 s : State) : State :=
  let st := fun (s : State) => s.nm.map fun e => (e.1, e.2.state)
  if st s0 == st s && s0.reg W.NMU NMU_NETREQ_LO == s.reg W.NMU NMU_NETREQ_LO
      && s0.reg W.NMU NMU_NETREQ_HI == s.reg W.NMU NMU_NETREQ_HI then s
  else twinDelta 28 s

/-- LINK_DOWN and S2S_DOWN hold while a link is down, from the first command after a reset on (R305, R307). -/
def sweepLinks (s : State) : State :=
  noteS2s (if mainRuns s then noteLinkDown 1 (noteLinkDown 0 s) else s)

/-- What follows a command's own effect: what goes on by itself, levels and ports that depend on what it changed, conditions it
raised, ERROR_N. -/
def finish (s0 s : State) : State :=
  let s := sweepService (if s0.pwr.state == .doze && s.pwr.state == .run then leaveSelfRefresh s else s)
  let s := sweepLearn (sweepCores (sweepPoison (ctSweep s)))
  let s := sweepModes s0 s
  let s := sweepPorts s
  let s := sweepGates s0 s
  let s := sweepNm s0 s
  let s := sweepLinks (noteShed (twinSweep (sgeSweep s)))
  pinUpdate (settle 64 s)

end Sys2Proof.Machine
end

