-- ==== Sys2Proof/Machine/Update.lean ====
section
/-! DEFINITION. Shadowed configuration: strobe, revert, apply, and the shared update of SYS (R42–R51). -/
namespace Sys2Proof.Machine
open Reg

/-! ### Shadow and live set (R42, R43) -/

/-- The SH bits of a register. -/
def shMask (w off : Nat) : Nat := match rowAt w off with | some r => r.sh | none => 0

/-- A 32-bit value whose bits in `m` come from `b` and the others from `a`. -/
def mixBits (m a b : Nat) : Nat := clearMask a m ||| (b &&& m)

/-- The offsets of a window at which the live set or the shadow holds a value that is not its reset value. -/
def touchedOffs (s : State) (w : Nat) : List Nat :=
  (((s.regs ++ s.shad).filter fun e => e.1 / 0x2000 == w).map fun e => e.1 % 0x2000).eraseDups

/-- The offsets whose SH fields differ between shadow and live set. -/
def dirtyOffs (s : State) (w : Nat) : List Nat :=
  (touchedOffs s w).filter fun o => (s.reg w o ^^^ s.shadow w o) &&& shMask w o != 0

/-- BLK_UPDSTAT.DIRTY: the shadow differs from the live set; the tables of SGE are part of its set (R249). -/
def dirty (s : State) (w : Nat) : Bool := !(dirtyOffs s w).isEmpty || (w == W.SGE && s.sge.live != s.sge.shad)

/-- BLK_UPDSTAT. -/
def updStat (s : State) (w : Nat) : Nat :=
  let u := (s.win w).upd
  u.reason * 2 ^ 24 + u.count % 256 * 2 ^ 16 + b2n (dirty s w) * 8 + b2n u.rejected * 4 + b2n u.applied * 2 + b2n u.pending

/-- Copy the live set into the shadow. -/
def revertWin (w : Nat) (s : State) : State :=
  let s := (dirtyOffs s w).foldl (fun s o => s.setShadow w o (mixBits (shMask w o) (s.shadow w o) (s.reg w o))) s
  if w = W.SGE then s.modSge fun g => { g with shad := g.live } else s

/-- Copy the shadow into the live set. -/
def applyRegs (w : Nat) (s : State) : State :=
  (dirtyOffs s w).foldl (fun s o => s.setReg w o (mixBits (shMask w o) (s.reg w o) (s.shadow w o))) s

/-! ### The check at the strobe (R44, R47) -/

/-- The check of a block's own chapter: 0, or the reject reason. -/
def blockCheck (s : State) (w : Nat) : Nat :=
  let i := instOf w
  match blkOf w with
  | none => 0
  | some b =>
    match b with
    | .BAL => balCheck s | .FAB => fabCheck w s | .QMG => qmgCheck s | .DIA => diaCheck i s | .TMS => tmsCheck s
    | .POL => polCheck s | .CLS => if w = 0x01A then clsCheck s else 0 | .EMT => emtCheck s | .SGE => sgeCheck s
    | .AUE => aueCheck s | .JWL => jwlCheck s | .TRN => trnCheck s | .VLT => vltCheck s | .CX => cxCheck s i
    | .SRL => srlCheck s i | .SWK => swkCheck s i | .SPS => spsCheck s i | .TRX => trxCheck s i | .T1L => t1lCheck s i
    | .SHB => shbCheck s i | .NMU => nmuCheck s | .EMC => emcCheck s i | .CQ => cqCheck s | .DMC => dmcCheck s
    | .XSP => xspCheck s | .CAP => capCheck s | .TWL => twlCheck s
    | .SVP => if bits (s.shadow W.SVP SVP_CFG) 1 0 = 3 then 1 else 0
    | .SYS | .ICX | .LDG | .IRT | .WCT | .CDM | .GPIO | .CRN | .SHC => 0

/-- The verdict on the whole shadow: service mode and block reset reject; a shadow equal to the live set passes. -/
def strobeCheck (s : State) (w : Nat) : Nat :=
  if (s.win w).svc = .on || (s.win w).resetting then 5
  else if !dirty s w then 0
  else blockCheck s w

def State.setUpd (s : State) (w : Nat) (f : Upd → Upd) : State := s.setWin w { s.win w with upd := f (s.win w).upd }

/-- The update is accepted and waits for the safe point. -/
def accept (w : Nat) (s : State) : State :=
  s.setUpd w fun u => { u with pending := true, applied := false, rejected := false, reason := 0 }

/-- The update is rejected with a reason of its own: UPD_REJECT. -/
def reject (w reason : Nat) (s : State) : State :=
  (s.setUpd w fun u => { u with applied := false, rejected := true, reason := reason }).raise0 w 0

/-! ### Applying (R44, R45) -/

/-- What a block does when its set has become live; `o` is the state before, `alert` PMB_ALERT_N low (R29). -/
def applyHook (b : Blk) (w : Nat) (alert : Bool) (o s : State) : State :=
  let i := instOf w
  match b with
  | .BAL => balanceApplied alert s
  | .FAB => if w = W.FAB then fabApplied o s else s
  | .QMG => noteEccRising s
  | .DIA => dialApplied i o s
  | .EMT => noteStash s
  | .SGE => sgeApplied s
  | .TMS => refGovern (holdGone s)
  | .EMC => emcApplied i o s
  | .T1L => t1lApplied i s
  | .NMU => nmuChanged s
  | .CAP => capApplied s
  | .TWL => twlApplied s
  | _ => s

/-- UPDATE_APPLY: the block stands at its safe point with an update pending; the shadow is applied whole. -/
def applyWin (w : Nat) (alert : Bool) (s : State) : State :=
  match blkOf w with
  | none => s
  | some b =>
    if !(s.win w).upd.pending || !safePoint s w then s
    else
      let r := applyHook b w alert s (applyRegs w s)
      let r := r.setUpd w fun u => { u with pending := false, applied := true, count := (u.count + 1) % 256 }
      if r.shared.waiting.contains w then
        let h := r.shared
        sharedFinish { r with shared := { h with waiting := h.waiting.filter (· != w) } }
      else r

/-- An accepted update of a window whose safe point is the strobe itself applies with it (R340). -/
def applyAtOnce (w : Nat) (s : State) : State := if appliesAtOnce s w then applyWin w false s else s

/-- STROBE: the whole shadow is checked before the write is acknowledged (R44). -/
def doStrobe (w : Nat) (s : State) : State :=
  let r := strobeCheck s w
  if r = 0 then applyAtOnce w (accept w s) else reject w r s

/-- A write to BLK_UPDATE; nothing happens while an update is pending (R44, R46). -/
def doBlkUpdate (w data : Nat) (s : State) : State :=
  if (s.win w).upd.pending then s
  else
    let s := if bit data 1 then revertWin w s else s
    if bit data 0 then doStrobe w s else s

/-! ### The shared update (R49–R51) -/

/-- The windows that a write to SYS_UPDATE selects: GROUP bit set, SOLO 0, on every die that can report a verdict. -/
def selected (s : State) (groups : Nat) : List Nat :=
  allWindows.filter fun w =>
    let g := s.reg w BLK_UPDGROUP
    !bit g 4 && bit groups (bits g 3 0) && (dieOf w == 0 || ((s.bridge (dieOf w - 1)).up && shoreRuns s (dieOf w - 1)))

/-- Phase 1: the verdict of one selected block. -/
def sharedVerdict (s : State) (w : Nat) : Nat := if (s.win w).upd.pending then 6 else strobeCheck s w

/-- A failed phase 1: own reasons and UPD_REJECT, 0x07 for the others; a block whose own update is pending keeps its status. -/
def sharedReject (vs : List (Nat × Nat)) (s : State) : State :=
  let s := vs.foldl (fun s v =>
    if v.2 = 6 then s.raise0 v.1 0
    else if v.2 = 0 then s.setUpd v.1 fun u => { u with applied := false, rejected := true, reason := 7 }
    else reject v.1 v.2 s) s
  match vs.find? fun v => v.2 != 0 with
  | none => s
  | some v => { s with shared :=
      { s.shared with pending := false, rejected := true, pauseExpired := false, applied := false, firstReject := v.1, reason := v.2,
                      waiting := [], discarded := none, hold := false, rounds := 0 } }

/-- A passed phase 1: every block waits for its safe point; PAUSE holds admission while a train is in service (R51). -/
def sharedAccept (ws : List Nat) (pause : Bool) (s : State) : State :=
  let s := ws.foldl (fun s w => accept w s) s
  let n := s.fld W.SYS SYS_UPD_PAUSE 15 0
  let hold := pause && n != 0 && (lowestTrain s).isSome
  let s := { s with shared := ⟨true, false, false, false, 0, 0, ws, none, hold, if hold then n else 0⟩ }
  ws.foldl (fun s w => applyAtOnce w s) (sharedFinish s)

/-- SHARED_UPDATE, while none is pending. -/
def doSharedUpdate (data : Nat) (s : State) : State :=
  if bits data 15 0 = 0 then s
  else
    let ws := selected s (bits data 15 0)
    let vs := ws.map fun w => (w, sharedVerdict s w)
    if vs.any fun v => v.2 != 0 then sharedReject vs s else sharedAccept ws (bit data 31) s

/-- SYS_UPDSTAT. -/
def sysUpdStat (s : State) : Nat :=
  let h := s.shared
  b2n h.pending * 2 ^ 31 + b2n h.rejected * 2 ^ 30 + b2n h.pauseExpired * 2 ^ 29 + b2n h.applied * 2 ^ 28
    + h.firstReject % 1024 * 2 ^ 16 + h.reason

end Sys2Proof.Machine
end

