-- ==== Sys2Proof/Machine/Peek.lean ====
section
/-! DEFINITION. What a register reads as, without side effect: registers of the file, and those that show internal state (LV and
counts kept elsewhere). -/
namespace Sys2Proof.Machine
open Reg

/-- The index of a register of an array. -/
def arrIdx (off base stride : Nat) : Nat := (off - base) / stride

/-- An offset inside an array of `n` registers. -/
def inArr (off base stride n : Nat) : Bool := decide (base ≤ off) && decide (off < base + stride * n)

/-- Low or high half of a 64-bit value, by the offset of the LO register. -/
def half (v off lo : Nat) : Nat := if off = lo then v % 2 ^ 32 else v / 2 ^ 32 % 2 ^ 32

/-! ### Header and fault section (R37, R66) -/

/-- FLT_LIVE: the condition holds now, be it an injected one (R81). -/
def fltLive (s : State) (w : Nat) : Nat :=
  ((List.range (nsrc w)).map fun k => b2n ((s.source w k).live || (s.source w k).held) * 2 ^ k).sum

def fltCode : FltState → Nat
  | .normal => 0 | .faulted => 1 | .recovering => 2

/-- FLT_STATE word `h`: sources 16h to 16h + 15. -/
def fltStates (s : State) (w h : Nat) : Nat :=
  ((List.range 16).map fun k => if 16 * h + k < nsrc w then fltCode (s.source w (16 * h + k)).state * 4 ^ k else 0).sum

/-- FLT_ESCSTAT. -/
def fltEscstat (s : State) (w : Nat) : Nat := ((List.range (nsrc w)).map fun k => b2n (escalated s w k) * 2 ^ k).sum

/-- A register of the common header. -/
def peekHdr (s : State) (w off : Nat) : Nat :=
  if off = BLK_UPDSTAT then updStat s w
  else if off = FLT_LIVE then fltLive s w
  else if off = FLT_STATE_LO then fltStates s w 0
  else if off = FLT_STATE_HI then fltStates s w 1
  else if off = FLT_ESCSTAT then fltEscstat s w
  else s.reg w off

/-! ### Blocks -/

/-- ICX_ERR_*: the oldest entry (R61). -/
def peekIcx (s : State) (off : Nat) : Nat :=
  if off = ICX_LOG_STAT then s.icxLost * 2 ^ 8 + s.icxLog.length
  else match s.icxLog with
    | [] => 0
    | e :: _ =>
      if off = ICX_ERR_ADDR_LO then e.addr % 2 ^ 32
      else if off = ICX_ERR_ADDR_HI then e.addr / 2 ^ 32 % 256
      else if off = ICX_ERR_INFO then e.reason * 2 ^ 20 + e.init * 2 ^ 16 + b2n e.spec * 2 + b2n e.write
      else if off = ICX_ERR_LOC then e.loc
      else 0

def peekSys (s : State) (off : Nat) : Nat :=
  if off = SYS_UPDSTAT then sysUpdStat s
  else if off = SYS_PWR_STAT then pwrStat s
  else if off = SYS_STRAPS then s.straps % 32
  else s.reg W.SYS off

def peekLdg (s : State) (off : Nat) : Nat :=
  if off = LDG_RD_DATA then snapWord s (s.reg W.LDG LDG_RD_OFF)
  else if off = LDG_EVT_INFO then ldgEvtInfo s
  else s.reg W.LDG off

def peekIrt (s : State) (w off : Nat) : Nat :=
  let r := instOf w
  if off < 0x140 then
    let t := (off - 0x100) / 0x10
    if (off - 0x100) % 0x10 = 0 then irtClaimPeek s r t
    else if (off - 0x100) % 0x10 = 0xC then nmiPeek s r t
    else s.reg w off
  else if inArr off IRT_PEND 4 48 then irtPendWord s (arrIdx off IRT_PEND 4)
  else if inArr off IRT_CLAIMED 4 48 then irtClaimedWord s r (arrIdx off IRT_CLAIMED 4)
  else s.reg w off

def peekTms (s : State) (off : Nat) : Nat :=
  if off = TMS_NOW_LO ∨ off = TMS_NOW_HI then half s.now off TMS_NOW_LO
  else if off = TMS_VAULT_LO ∨ off = TMS_VAULT_HI then half s.vault off TMS_VAULT_LO
  else if off = TMS_VOFFSET_LO ∨ off = TMS_VOFFSET_HI then half s.tms.voffset off TMS_VOFFSET_LO
  else if off = TMS_SLEW_REM then slewRemReg s
  else if off = TMS_STAT then tmsStat s
  else if off = TMS_HOLD_ELAPSED then holdElapsed s
  else if off = TMS_HOLD_EST then holdEst s
  else if off = TMS_HOLD_LAST_ERR then ofSigned 32 s.tms.lastErr
  else s.reg W.TMS off

def peekFab (s : State) (w off : Nat) : Nat :=
  let t := instOf w
  if off = FAB_TSTAT then fabTstat s t
  else if off = FAB_INFLIGHT then min (s.train t).flight.length 65535
  else if inArr off FAB_PTR 4 16 then fabPtr s t (arrIdx off FAB_PTR 4)
  else if off = FAB_SVC then fabSvc s
  else if inArr off FAB_RSQ_OCC 4 16 then fabOcc s (arrIdx off FAB_RSQ_OCC 4)
  else s.reg w off

def peekQmg (s : State) (off : Nat) : Nat :=
  let q := s.fld W.QMG QMG_QSEL 8 0
  if inArr off QMG_PORTSTAT 4 64 then portStat s (arrIdx off QMG_PORTSTAT 4)
  else if off = QMG_QOCC then s.occ q
  else if off = QMG_QPEAK then kvGet 0 s.pond.peak q
  else if off = QMG_QDROP then kvGet 0 s.pond.qdrop q
  else if off = QMG_QDROP_DOWN then kvGet 0 s.pond.qdropDown q
  else if off = QMG_QFLUSH then kvGet 0 s.pond.qflush q
  else if off = QMG_SHARED_FREE then s.sharedFree
  else if off = QMG_CELLS_FREE then cellsFree s
  else if off = QMG_DESC_FREE then s.descFree
  else if inArr off QMG_CLASS_USE 4 8 then s.charged (srcClass (arrIdx off QMG_CLASS_USE 4))
  else if inArr off QMG_ENG_USE 4 4 then s.charged (arrIdx off QMG_ENG_USE 4)
  else s.reg W.QMG off

def peekDia (s : State) (w off : Nat) : Nat :=
  let d := instOf w
  if off = DIAL_DRAINED then dialDrainedReg s d
  else if off = DIAL_BANK then dialBankReg s d
  else if inArr off DIAL_RANKNOW 4 4 then
    let k := arrIdx off DIAL_RANKNOW 4
    ((List.range 8).map fun j => if 8 * k + j < dialReqs d then rankOf s d (8 * k + j) % 16 * 16 ^ j else 0).sum
  else s.reg w off

def peekEmt (s : State) (off : Nat) : Nat :=
  if off = EMT_CMD_STAT then emtStat s
  else if off = EMT_COUNT then emtCount s
  else if off = EMT_LEARNED then emtLearnedCount s
  else if off = EMT_STASH_USE then stashUse s
  else s.reg W.EMT off

def peekSge (s : State) (off : Nat) : Nat := if off = SGE_SESS then s.sge.sessions.length else s.reg W.SGE off

def peekJwl (s : State) (off : Nat) : Nat :=
  if off = JWL_LIFECYCLE then lifecycle s
  else if off = JWL_FUSE_STAT then fuseStat s
  else if off = JWL_SLOTS_USED then slotsUsed s
  else if inArr off JWL_VROOT_HASH 4 12 || inArr off JWL_CROOT_HASH 4 12 || inArr off JWL_EPOCH 4 8 || inArr off JWL_CERT 4 512 then
    fuseWord s off
  else s.reg W.JWL off

/-- TRN_OUT: what a read would take is drawn afresh at each read. -/
def peekTrn (s : State) (off : Nat) : Nat := if off = TRN_OUT then (doTrnOut s).1 else s.reg W.TRN off

def peekCx (s : State) (w off : Nat) : Nat :=
  let n := instOf w
  if off = CX_STAT then cxStat s n
  else if off = CX_ERR then (cxErrReg n s).1
  else if off = CX_LASTERR then cxLastErr s n
  else if off = CX_SLOTS then cxSlotsReg s n
  else if off = CX_ABR_STAT then cxAbrStat s n
  else if off = CX_REF_STAT then cxRefStat s n
  else if off = CX_TXEVT_INFO then txEvtInfo s n
  else if off = CX_TXEVT_STAT then txEvtStat s n
  else s.reg w off

def peekEmc (s : State) (w off : Nat) : Nat :=
  let k := instOf w
  if off = EMC_LINK then emcLinkReg s k
  else if off = EMC_PREEMPT_STAT then preemptStat s k
  else if off = EMC_GCL_STAT then gclStat s k
  else if off = EMC_TSQ_INFO then tsqInfo s k
  else if off = EMC_TSQ_STAT then (s.mac k).tsq.length
  else if off = EMC_WAKE_STAT then emcWakeStat s k
  else if off = EMC_MDIO_STAT then (s.mac 0).mdio
  else s.reg w off

def peekCq (s : State) (off : Nat) : Nat :=
  if inArr off OUT_POP 0x20 64 then
    let q := arrIdx off OUT_POP 0x20
    let o := (off - OUT_POP) % 0x20
    if o = 0x14 then outWords s q else if o = 0x18 then (s.outlet q).frames.length else s.reg W.CQ off
  else if inArr off IN_PUSH 0x20 64 then
    let n := arrIdx off IN_PUSH 0x20
    let o := (off - IN_PUSH) % 0x20
    if o = 8 then inSpace s n else if o = 0xC then inPhase s n else s.reg W.CQ off
  else s.reg W.CQ off

def peekCap (s : State) (off : Nat) : Nat :=
  if off < 0x200 then s.reg W.CAP off
  else
    let r := arrIdx off 0x200 0x80
    let o := (off - 0x200) % 0x80
    if o = 0x14 then ringStat s r
    else if o = 0x18 then (s.ring r).next
    else if o = 0x1C then ringOldest (s.ring r)
    else if o = 0x20 then (s.ring r).trigOff
    else if 0x40 ≤ o ∧ o < 0x60 then ringDigest s r ((o - 0x40) / 4)
    else s.reg W.CAP off

def peekNmu (s : State) (off : Nat) : Nat :=
  if inArr off NMU_STATE 4 5 then nmStateReg s (arrIdx off NMU_STATE 4)
  else if inArr off NMU_PRES 4 320 then nmPresReg s (arrIdx off NMU_PRES 0x20) ((off - NMU_PRES) % 0x20 / 4)
  else if inArr off NMU_UCFG 0x40 40 then
    let u := arrIdx off NMU_UCFG 0x40
    let o := NMU_UCFG + (off - NMU_UCFG) % 0x40
    if o = NMU_PNRX_LO then (s.unit u).pnrx % 2 ^ 32
    else if o = NMU_PNRX_HI then (s.unit u).pnrx / 2 ^ 32
    else if o = NMU_USTAT then nmUstat s u
    else s.reg W.NMU off
  else s.reg W.NMU off

def peekShc (s : State) (w off : Nat) : Nat :=
  let d := instOf w
  if off = SHC_MEM_DATA then shcPeek s d
  else if off = SHC_STAT then shcStat s d
  else if off = SHC_IRQ_PEND then shcPend s d
  else s.reg w off

def peekSwk (s : State) (w off : Nat) : Nat :=
  let h := s.shore (instOf w)
  if off = SWK_PINSTAT then h.pins % 16
  else if off = SWK_WAKE_REASON then wakeReason s (instOf w)
  else if off = SWK_SEEN then h.seen
  else if off = SWK_REASON_T_LO ∨ off = SWK_REASON_T_HI then
    half (match h.reason with | some r => r.2.2 | none => 0) off SWK_REASON_T_LO
  else s.reg w off

def peekSrl (s : State) (w off : Nat) : Nat :=
  let d := instOf w
  if off = SRL_STATE then srlState s d
  else if off = SRL_NOW_LO ∨ off = SRL_NOW_HI then half (s.shoreNow d) off SRL_NOW_LO
  else if off = SRL_LIMP_AT_LO ∨ off = SRL_LIMP_AT_HI then half (s.shore d).relay.limpAt off SRL_LIMP_AT_LO
  else s.reg w off

def peekSps (s : State) (w off : Nat) : Nat :=
  if off = SPS_INHSTAT then inhStat s (instOf w) else if off = SPS_VBAT then vbatReg s (instOf w) else s.reg w off

/-- What a 32-bit register reads as (the peek value of R62 for one with a read side effect). -/
def peek (s : State) (w off : Nat) : Nat :=
  match blkOf w with
  | none => 0
  | some b =>
    if off < 0x100 then peekHdr s w off
    else match b with
      | .SYS => peekSys s off
      | .ICX => peekIcx s off
      | .BAL => if off = BAL_REG_STAT then balRegStat s else if off = BAL_VSTAT then (balVstat s).1 else s.reg w off
      | .LDG => peekLdg s off
      | .IRT => peekIrt s w off
      | .TMS => peekTms s off
      | .FAB => peekFab s w off
      | .QMG => peekQmg s off
      | .DIA => peekDia s w off
      | .EMT => peekEmt s off
      | .SGE => peekSge s off
      | .AUE => if off = AUE_STAT then aueStat s else s.reg w off
      | .JWL => peekJwl s off
      | .TRN => peekTrn s off
      | .VLT => if off = VLT_STAT then vltStat s else s.reg w off
      | .CX => peekCx s w off
      | .EMC => peekEmc s w off
      | .CQ => peekCq s off
      | .CAP => peekCap s off
      | .TWL => if off = TWL_STAT then twlStat s else s.reg w off
      | .SHB => if off = SHB_LINK then shbLink s (instOf w) else s.reg w off
      | .DMC => if off = DMC_SIZE then dmcSizeReg s else s.reg w off
      | .GPIO => if off = GPIO_IN then (gpioIn s).1 else s.reg w off
      | .CRN => if off = CRN_WDT_STAT then wdtStat s else s.reg w off
      | .NMU => peekNmu s off
      | .TRX => if off = TRX_STAT then trxStat s (instOf w) else s.reg w off
      | .T1L => if off = T1L_STAT then t1lStat s (instOf w) else s.reg w off
      | .SHC => peekShc s w off
      | .SWK => peekSwk s w off
      | .SRL => peekSrl s w off
      | .SPS => peekSps s w off
      | .CLS | .WCT | .POL | .CDM | .SVP | .XSP => s.reg w off

/-- A read of a register with SH fields: the shadow, or with RDLIVE the live set (R43). -/
def readView (s : State) (w : Nat) (r : RegRow) (off : Nat) : Nat :=
  if r.sh = 0 ∨ s.flag w BLK_CTRL 3 then peek s w off else mixBits r.sh (peek s w off) (s.shadow w off)

end Sys2Proof.Machine
end

