-- ==== Sys2Proof/Machine/Hooks.lean ====
section
/-! DEFINITION. What an accepted write does to a register and to its block, and what a non-speculative read does (R14, R39–R41,
R66–R81 and the register maps of the chapters). -/
namespace Sys2Proof.Machine
open Reg

/-- The start inputs that a command brings, or free ones. -/
def withStart (a : Aux) (f : StartInput → State → State) (s : State) : State :=
  match a.start with
  | some x => f x s
  | none => let r := drawStart s; f r.1 r.2

/-! ### The register file (R14, R42) -/

/-- Store the bits of `data` that a row lets a write change: RW in the live set, RW SH in the shadow, W1C clears. -/
def storeRow (w off data : Nat) (r : RegRow) (s : State) : State :=
  let old := s.reg w off
  let s := if r.rw = 0 ∧ r.w1c = 0 then s
    else s.setReg w off (clearMask (mixBits r.rw old data) (data &&& r.w1c))
  if r.sh = 0 then s else s.setShadow w off (mixBits r.sh (s.shadow w off) data)

/-! ### Escalation (R74) -/

/-- The fault-escalation entries for the sources that are escalated now and were not in `o` (R74, R472). -/
def escalate (w : Nat) (o s : State) : State :=
  foldRange (fun s k =>
    if escalated s w k && !escalated o w k then
      let sev := min 3 (fltByte s w k % 4 + 1)
      ledgerEvent 3 (beBytes 2 (srcBase w + k) ++ beBytes 1 sev ++ [0] ++ beBytes 4 (s.reg w FLT_LOC) ++ beBytes 2 (recovCount s w k)) s
    else s) s 0 (nsrc w)

/-! ### Fault section (R66–R81) -/

/-- FLT_STAT is written: a bit whose condition holds sets again at once (R67); a shore answers with its new INT levels (R311). -/
def writeFltStat (w data : Nat) (s : State) : State :=
  let held := ((List.range (nsrc w)).map fun k =>
    b2n ((s.source w k).live || (s.source w k).held) * (b2n (bit data k && s.flag w FLT_STAT k) * 2 ^ k)).sum
  let s := s.setReg w FLT_STAT (clearMask (s.reg w FLT_STAT) data ||| held)
  if dieOf w ≠ 0 && (s.bridge (dieOf w - 1)).up then mirrorWindow (dieOf w - 1) w s else s

/-- FLT_RELEASE is written: a Recovering source returns to Normal, and no recovery is counted (R72). -/
def writeFltRelease (w data : Nat) (s : State) : State :=
  foldRange (fun s k =>
    let x := s.source w k
    if bit data k && x.state == .recovering then s.setSource w k { x with state := .normal } else s) s 0 (nsrc w)

/-- FLT_RECOV_CLR is written. -/
def writeFltRecovClr (w data : Nat) (s : State) : State :=
  foldRange (fun s k => if bit data k then setRecov w k 0 s else s) s 0 (nsrc w)

/-- A completed guarded sequence to FLT_CFG[k]: each unlocked byte of a source that exists (R68). -/
def writeFltCfg (w off data : Nat) (s : State) : State :=
  let base := 4 * arrIdx off FLT_CFG 4
  foldRange (fun s b =>
    if base + b < nsrc w ∧ !s.flag w off (8 * b + 7) then s.setFld w off (8 * b + 7) (8 * b) (bits data (8 * b + 7) (8 * b)) else s) s 0 4

/-- FLT_INJECT is written (R81). -/
def writeFltInject (w data : Nat) (s : State) : State :=
  let k := bits data 4 0
  if (lifecycle s != 0 && lifecycle s != 4) || !bit s.straps 4 || !bit data 5 || decide (nsrc w ≤ k) then s
  else
    let c := if bit data 7 then Cond.levelOn else if (s.source w k).held then Cond.levelOff else Cond.event
    s.post ⟨w, k, c, locBlock w, true⟩

/-! ### BLK_CTRL (R39–R41, R556) -/


/-- EN as a write asks for it: SYS, ICX and CRN ignore a 0 (R39), SVP a 1 while the SVC_EN strap is low (R365). -/
def enAsked (w data : Nat) (s : State) : Bool :=
  if enSticky w then true
  else if w = W.SVP ∧ !svpMayRun s then bit data 0 && s.flag w BLK_CTRL 0
  else bit data 0

/-- An accepted write to BLK_CTRL. -/
def writeCtrl (w data : Nat) (s : State) : State :=
  match blkOf w with
  | none => s
  | some b =>
    let en0 := s.flag w BLK_CTRL 0
    let en := enAsked w data s
    let s := aroundEnable w (fun s =>
      let s := askService w (bit data 2) (s.setReg w BLK_CTRL (b2n en0 + bits data 3 2 * 4))
      match b with
      | .FAB => if en then doTrainEnable (instOf w) s else doTrainDisable (instOf w) s
      | .SPS =>
        if en && !en0 then spsEnabled (instOf w) (s.setFlag w BLK_CTRL 0 true)
        else if !en && en0 then doInhReleaseCommand (instOf w) s else s
      | _ => s.setFlag w BLK_CTRL 0 en) s
    if bit data 1 then resetBlock w s else s

/-! ### Blocks -/

/-- A write to SYS_UPDATE; one that finds a shared update pending starts nothing (R50). -/
def writeSysUpdate (i : Initiator) (data : Nat) (s : State) : State :=
  if s.shared.pending then busFail i (winAddr W.SYS SYS_UPDATE) errPending false true (locSelf W.SYS) s
  else doSharedUpdate data s

/-- TMS_CMD: STEP, then KICK. -/
def doTmsCmd (data : Nat) (s : State) : State :=
  let s := if bit data 0 then doStep s else s
  if bit data 1 then doKick s else s

/-- A write to a bridge port's TWL_BR_DATA, or to its address registers, by their own initiator (R493). -/
def writeTwl (w off data : Nat) (i : Initiator) (r : RegRow) (s : State) : State :=
  match bridgePort off with
  | some (_, 8) => doBridge i true data s
  | some _ | none => storeRow w off data r s

/-- XSP registers; CMD, OPCODE, ADDR and BUF do not change while a transaction runs. -/
def writeXsp (off data : Nat) (a : Aux) (r : RegRow) (s : State) : State :=
  if xspBusy s && (off == XSP_CMD || off == XSP_OPCODE || off == XSP_ADDR || decide (XSP_BUF ≤ off)) then s
  else if off = XSP_CMD then
    match a.answer with
    | some l => doXspCmd data l a.changes s
    | none => let d := s.drawBytes 256; doXspCmd data d.1 a.changes d.2
  else storeRow W.XSP off data r s

/-- A Dial's table word (R154). -/
def writeDialTable (w off data : Nat) (r : RegRow) (s : State) : State :=
  let d := instOf w
  if dialTableIgnored d (if off < DIAL_TBL1 then 0 else 1) s then dialActiveWrite d s
  else storeRow w off (data &&& dialTableMask d) r s

/-- Registers of the shore blocks. -/
def writeShore (b : Blk) (w off data : Nat) (i : Initiator) (a : Aux) (r : RegRow) (s : State) : State :=
  let d := instOf w
  match b with
  | .SWK => if off = SWK_CMD then doSwkCmd d data s else storeRow w off data r s
  | .SHC =>
    if off = SHC_CTRL then doShcCtrl d data s
    else if off = SHC_MEM_DATA then doShcMemWrite d data s
    else if off = SHC_WDT_KICK then s
    else if off = SHC_MBOX_IN_DB then doMboxIn d data s
    else if off = SHC_MBOX_OUT_DB then (if i == .shcA || i == .shcB then doMboxOut d data s else doMboxClear d data s)
    else storeRow w off data r s
  | .SRL =>
    if off = SRL_CMD then doSrlCmd d data s
    else if off = SRL_ECMD then doSrlEcmd d data a.bad s
    else storeRow w off data r s
  | .SPS => if off = SPS_VBAT_CLR then doVbatClr d data s else storeRow w off data r s
  | _ => storeRow w off data r s

/-- Registers of the ports. -/
def writePort (b : Blk) (w off data : Nat) (a : Aux) (r : RegRow) (s : State) : State :=
  let n := instOf w
  match b with
  | .CX =>
    if off = CX_CMD then (if bit data 0 then doRecover n s else s)
    else if off = CX_TXCANCEL then doCancel n data s
    else if off = CX_TXEVT_CLR then doTxEvtClr n data s
    else storeRow w off data r s
  | .EMC =>
    if off = EMC_WAKE_CLR then doWakeClr n data s
    else if off = EMC_CMD then doEmcCmd data a.bad s
    else if off = EMC_MDIO then doMdio data s
    else storeRow w off data r s
  | .SVP => if off = SVP_TXPTR then doSvpTx data s else storeRow w off data r s
  | _ => storeRow w off data r s

/-- Registers of the engines, the tables and the key store. -/
def writeEngine (b : Blk) (w off data : Nat) (a : Aux) (r : RegRow) (s : State) : State :=
  match b with
  | .EMT => if off = EMT_CMD then doEmtCmd data a.bad s else storeRow w off data r s
  | .WCT => if off = WCT_CMD then doWctCmd data s else storeRow w off data r s
  | .CLS => if off = CLS_PSET_CMD then doPsetCmd data s else storeRow w off data r s
  | .POL => if off = POL_CMD then doPolCmd data a.bad s else storeRow w off data r s
  | .CDM => if off = CDM_CMD then doCdmCmd data a.bad s else storeRow w off data r s
  | .SGE =>
    if off = SGE_CMD then doSgeCmd data a.bad s
    else if off = SGE_UC_CTRL then doUcCtrl data s
    else if off = SGE_UC_DATA then doUcData data s
    else storeRow w off data r s
  | .AUE => if off = AUE_CMD then doAueCmd data a.bad s else storeRow w off data r s
  | .JWL => if off = JWL_CMD then doJwlCmd data a.bad s else storeRow w off data r s
  | .VLT => if off = VLT_CMD then doVltCmd data s else storeRow w off data r s
  | _ => storeRow w off data r s

/-- Registers of the fabric, the Pond, the Dials and the memories. -/
def writeFlow (b : Blk) (w off data : Nat) (a : Aux) (r : RegRow) (s : State) : State :=
  let n := instOf w
  match b with
  | .FAB =>
    if off = FAB_TCTRL then doTctrl n data s
    else if off = FAB_BIST then doBistStart n data s
    else storeRow w off data r s
  | .QMG =>
    if off = QMG_QSEL then doQsel data s
    else if off = QMG_MIGRATE then doMigrateStart data s
    else if inArr off QMG_PORTCTL 4 64 then
      portForced (arrIdx off QMG_PORTCTL 4) (s.flag w off 0) (storeRow w off data r s)
    else storeRow w off data r s
  | .DIA =>
    if off = DIAL_FREEZE then doDialFreeze n data s
    else if off = DIAL_WAITCLR then doWaitClr n data s
    else if DIAL_TBL0 ≤ off then writeDialTable w off data r s
    else storeRow w off data r s
  | .CQ => if inArr off OUT_POP 0x20 64 && (off - OUT_POP) % 0x20 == 0x10 then doOutDrop (arrIdx off OUT_POP 0x20) data s
    else storeRow w off data r s
  | .DMC =>
    if off = DMC_TRAIN then doDmcTrain data s
    else if off = DMC_SR then doDmcSr data s
    else if off = DMC_MR then doMrAccess data a.ecc s
    else storeRow w off data r s
  | .XSP => writeXsp off data a r s
  | _ => storeRow w off data r s

/-- Registers of the system blocks. -/
def writeSystem (b : Blk) (w off data : Nat) (i : Initiator) (r : RegRow) (s : State) : State :=
  match b with
  | .SYS => if off = SYS_UPDATE then writeSysUpdate i data s else storeRow w off data r s
  | .ICX => if off = ICX_LOG_POP ∧ bit data 0 then { s with icxLog := s.icxLog.drop 1 } else s
  | .BAL =>
    if off = BAL_VSET then doVsetWrite data s
    else if off = BAL_HIST_CLR then doHistClr data s
    else storeRow w off data r s
  | .LDG => if off = LDG_CMD then (if bit data 0 then doSnap s else s) else storeRow w off data r s
  | .IRT =>
    if off < 0x140 ∧ (off - 0x100) % 0x10 = 4 then doIrtComplete (instOf w) (arrIdx off 0x100 0x10) data s
    else storeRow w off data r s
  | .TMS =>
    if off = TMS_ADDEND_HI then doAddendWrite data s
    else if off = TMS_SLEW then doSlew data s
    else if off = TMS_CMD then doTmsCmd data s
    else storeRow w off data r s
  | .CAP => if off = CAP_CMD then doCapCmd data s else storeRow w off data r s
  | .CRN =>
    if off = CRN_WDT then doCrnWdt data s
    else if off = CRN_WDT_KICK then doWdtKick data s
    else if off = CRN_MOV_RUN then doMovRun data s
    else storeRow w off data r s
  | .NMU =>
    if off = NMU_NETREQ_LO ∨ off = NMU_NETREQ_HI then doNetreq off data s
    else if off = NMU_CMD then doNmuCmd data s
    else storeRow w off data r s
  | .TWL => writeTwl w off data i r s
  | _ => storeRow w off data r s

/-- Registers of the common header. -/
def writeHdr (w off data : Nat) (r : RegRow) (s : State) : State :=
  if off = BLK_CTRL then writeCtrl w data s
  else if off = BLK_UPDATE then doBlkUpdate w data s
  else if off = FLT_STAT then writeFltStat w data s
  else if off = FLT_RELEASE then writeFltRelease w data s
  else if off = FLT_RECOV_CLR then writeFltRecovClr w data s
  else if off = FLT_ESCAL then escalate w s (storeRow w off data r s)
  else if off = FLT_INJECT then writeFltInject w data s
  else storeRow w off data r s

/-- An accepted 32-bit write to a register that is not guarded. -/
def writeReg (w off data : Nat) (i : Initiator) (a : Aux) (r : RegRow) (s : State) : State :=
  match blkOf w with
  | none => s
  | some b =>
    if off < 0x100 then writeHdr w off data r s
    else match b with
      | .SYS | .ICX | .BAL | .LDG | .IRT | .TMS | .CAP | .CRN | .NMU | .TWL => writeSystem b w off data i r s
      | .FAB | .QMG | .DIA | .CQ | .DMC | .XSP => writeFlow b w off data a r s
      | .CLS | .EMT | .WCT | .POL | .CDM | .SGE | .AUE | .JWL | .TRN | .VLT => writeEngine b w off data a r s
      | .CX | .EMC | .SVP => writePort b w off data a r s
      | .SWK | .SHC | .SRL | .SPS | .TRX | .T1L => writeShore b w off data i a r s
      | .SHB | .GPIO => storeRow w off data r s

/-- A completed guarded sequence (R52, R63, R68 and the blocks' chapters). -/
def writeGuarded (w off data : Nat) (a : Aux) (r : RegRow) (s : State) : State :=
  let plain := s.setReg w off (data &&& r.gd)
  if off = BLK_CTRL then writeCtrl w data s
  else if off = WIN_ACCESS then
    (if s.flag w WIN_ACCESS 31 then s else s.setReg w off (if dieOf w = 0 then clearMask (data &&& r.gd) 0x10 else data &&& r.gd))
  else if off < 0x100 then writeFltCfg w off data s
  else match blkOf w with
    | some .SYS =>
      if off = SYS_PWR_CMD then doPwrCmd data plain
      else if off = SYS_RST_CMD then withStart a (fun x s => doRstCmd data x s) plain
      else plain
    | some .QMG => if (off = QMG_RETIRE_LO ∨ off = QMG_RETIRE_HI) ∧ s.flag w BLK_CTRL 0 then s else plain
    | some .TMS => if off = TMS_VBASE_HI then doVbase data s else plain
    | some .JWL => doFuseProg data s
    | some .TWL => doTwlCmd data s
    | some .SPS => doSpsInh (instOf w) data s
    | _ => plain

/-! ### Reads (R56–R58, R62) -/

/-- What a non-speculative 32-bit read of a register with a side effect returns and does. -/
def readEffect (w off : Nat) (s : State) : Nat × State :=
  match blkOf w with
  | some .LDG => if off = LDG_RD_DATA then doLdgRdData s else doLdgEvtPop s
  | some .IRT =>
    let t := arrIdx off 0x100 0x10
    if (off - 0x100) % 0x10 = 0 then doIrtClaim (instOf w) t s else doNmiPop (instOf w) t s
  | some .TRN => doTrnOut s
  | some .CX => doTxEvtPop (instOf w) s
  | some .EMC => doTsqPop (instOf w) s
  | some .SHC => doShcMemRead (instOf w) s
  | _ => (peek s w off, s)

/-- A LO register is read: the high half goes to the window's latch (R58); TMS_NOW_LO latches the fraction too (R370). -/
def readLo (w off : Nat) (s : State) : Nat × State :=
  let v := peek s w off
  let s := s.setWin w { s.win w with hiLatch := some (off, BitVec.ofNat 32 (peek s w (off + 4))) }
  (v, if w = W.TMS ∧ off = TMS_NOW_LO then latchFrac s else s)

/-- What the window's latch holds for the counter whose HI register is at `off`. -/
def latched (s : State) (w off : Nat) : Option Nat :=
  match (s.win w).hiLatch with
  | some (o, v) => if o + 4 = off then some v.toNat else none
  | none => none

/-- A HI register is read: the latched half, which empties the latch, or the live one. -/
def readHi (w off : Nat) (s : State) : Nat × State :=
  match latched s w off with
  | some v => (v, s.setWin w { s.win w with hiLatch := none })
  | none => (peek s w off, s)

/-- The state after a read that shows what no command brings: GPIO_IN, BAL_VSTAT.ALERT and CX_ERR.RECOV_SEQ take free values. -/
def readDraws (w off : Nat) (s : State) : State :=
  match blkOf w with
  | some .GPIO => if off = GPIO_IN then (gpioIn s).2 else s
  | some .BAL => if off = BAL_VSTAT then (balVstat s).2 else s
  | some .CX => if off = CX_ERR then (cxErrReg (instOf w) s).2 else s
  | _ => s

/-- A read of a register without side effects. -/
def readPlain (w off : Nat) (r : RegRow) (s : State) : Nat × State := (readView s w r off, readDraws w off s)

/-- A 32-bit read of a register: non-speculative, or speculative, which has no side effect and counts in SPEC_READS where the
register has one (R62). -/
def readReg (w off : Nat) (r : RegRow) (spec : Bool) (s : State) : Nat × State :=
  match r.kind with
  | .lo => if spec then (peek s w off, s.count w SPEC_READS) else readLo w off s
  | .hi => if spec then ((latched s w off).getD (peek s w off), s) else readHi w off s
  | .rs => if spec then (peek s w off, s.count w SPEC_READS) else readEffect w off s
  | .plain | .w64 => readPlain w off r s

/-- A 64-bit read of a LO/HI pair takes both halves from one sample (R57). -/
def readPair (w off : Nat) (spec : Bool) (s : State) : Nat × State :=
  (peek s w off + 2 ^ 32 * peek s w (off + 4), if spec then s.count w SPEC_READS else s)

end Sys2Proof.Machine
end

