-- ==== Sys2Proof/Machine/Bus.lean ====
section
/-! DEFINITION. One access of one initiator: windows with their views, guarded sequences, aliases, WIN_ACCESS and bus errors
(R34–R36, R52–R63), the shore bridges with their prefetch (R308–R310), the shore controllers' own map (R327) and the memories
(R406, R413, R416). -/
namespace Sys2Proof.Machine
open Reg

/-! ### Bus errors -/

/-- An access ends with a bus error. A shore controller's is logged while its link is up and counted in BUSERR while it is
down; either way BUSERR is raised (R327). -/
def busErr (acc : Access) (reason loc : Nat) (s : State) : State :=
  match shcOf acc.init with
  | none => busFail acc.init acc.addr reason acc.spec acc.write loc s
  | some d =>
    let s := s.raise0 (shcWin d) 7
    if (s.bridge d).up && mainRuns s then busFail acc.init acc.addr reason acc.spec acc.write loc s
    else { s.modCtl d fun c => { c with busErr := satAdd 16 c.busErr 1 } with bus := ⟨0, reason⟩ }

/-! ### Windows -/

/-- The view of a window offset (R34): 0 base, 1 complement twins, 2 SET, 4 CLEAR, 6 TOGGLE; the others are unimplemented. -/
def viewOf (off : Nat) : Nat := off / 0x2000 % 8

/-- The row that an access in a view acts on. -/
def rowIn (w off : Nat) : Option RegRow :=
  match viewOf off with
  | 0 | 1 | 2 | 4 | 6 => rowAt w (off % 0x2000)
  | _ => none

/-- The size and alignment of an access fit (R35, R427). -/
def sizeOk (w off size : Nat) : Bool :=
  let k := if viewOf off = 1 then none else (rowIn w off).map (·.kind)
  let up := if viewOf off = 1 ∨ off % 8 ≠ 4 then none else (rowIn w (off - 4)).map (·.kind)
  if size = 32 then off % 4 == 0 && k != some .w64 && up != some .w64
  else if size = 64 then off % 8 == 0 && (k == some .lo || k == some .w64)
  else false

/-- WIN_ACCESS admits the access (R63). -/
def admitted (s : State) (i : Initiator) (w off : Nat) (write : Bool) : Bool :=
  let own := off % 0x2000 == WIN_ACCESS && (rowIn w off).isSome
  if write && own then i == .crown
  else (i == .crown && !write) || (accessBit i w).any fun k => s.flag w WIN_ACCESS k

/-- A bridge port of TWL belongs to its initiator; the Crown may read the others (R493). -/
def portForbidden (i : Initiator) (w off : Nat) (write : Bool) : Bool :=
  w == W.TWL && (rowIn w off).isSome && (bridgePort (off % 0x2000)).any fun p => p.1 != i.code && (write || i != .crown)

/-- The time that the 1 ms of a guarded sequence is measured in: the die's own. -/
def dieNow (s : State) (w : Nat) : Nat := if dieOf w = 0 then s.now else s.shoreNow (dieOf w - 1)

/-- GUARD_MISMATCH (R53). -/
def mismatch (w : Nat) (s : State) : State := s.raise0 w 1

/-- The window forgets its armed value. -/
def disarm (w : Nat) (s : State) : State := s.setWin w { s.win w with armed := none }

/-- A write outside the twin view while a value is armed is a departure, and then takes effect under its own rules (R53). -/
def departs (w : Nat) (s : State) : State := if (s.win w).armed.isSome then mismatch w (disarm w s) else s

/-- A write of SH fields meets a pending update (R46). -/
def shBlocked (s : State) (w : Nat) (r : RegRow) : Bool := r.sh != 0 && (s.win w).upd.pending

/-- A twin write (R52, R53); the write of another initiator than the one that armed is the model's choice (assumptions/96). -/
def twinWrite (acc : Access) (w off : Nat) (a : Aux) (s : State) : State :=
  let base := off % 0x2000
  let bad := fun s => busErr acc errGuard (locSelf w) (mismatch w s)
  match (s.win w).armed, rowAt w base with
  | none, none => busDone 0 s
  | none, some r => if r.gd = 0 then busDone 0 s else bad s
  | some _, none => bad (disarm w s)
  | some g, some r =>
    let s := disarm w s
    if r.gd = 0 ∨ g.off ≠ base ∨ g.init ≠ acc.init ∨ acc.data.toNat % 2 ^ 32 ≠ 0xFFFFFFFF - g.value.toNat
        ∨ 1000000 < dieNow s w - g.since then bad s
    else if shBlocked s w r then busErr acc errPending (locSelf w) s
    else writeGuarded w base g.value.toNat a r (busDone 0 s)

/-- A base-view write (R52 step 1, R46). -/
def baseWrite (acc : Access) (w off : Nat) (a : Aux) (s : State) : State :=
  let d := acc.data.toNat
  match rowAt w off with
  | none => busDone 0 s
  | some r =>
    if r.gd ≠ 0 then
      busDone 0 (s.setWin w { s.win w with armed := some ⟨BitVec.ofNat 32 d, off, acc.init, dieNow s w⟩ })
    else if shBlocked s w r then busErr acc errPending (locSelf w) s
    else match r.kind with
      | .w64 => if IN_PUSH ≤ off then doInPush (arrIdx off IN_PUSH 0x20) acc.data (busDone 0 s) else busDone 0 s
      | .lo => if acc.size = 64 then busDone 0 s else writeReg w off (d % 2 ^ 32) acc.init a r (busDone 0 s)
      | _ => writeReg w off (d % 2 ^ 32) acc.init a r (busDone 0 s)

/-- The value an alias write gives the RW bits `m` of a register that holds `old`. -/
def aliasValue (view old data m : Nat) : Nat :=
  match view with
  | 2 => old ||| (data &&& m)
  | 4 => clearMask old (data &&& m)
  | _ => old ^^^ (data &&& m)

/-- An alias write (R55). -/
def aliasWrite (acc : Access) (w off view : Nat) (a : Aux) (s : State) : State :=
  match rowAt w off with
  | none => busDone 0 s
  | some r =>
    let m := r.rw ||| r.sh
    if r.gd ≠ 0 then busErr acc errGuard (locSelf w) (mismatch w s)
    else if m = 0 ∨ r.kind ≠ .plain then busDone 0 s
    else if shBlocked s w r then busErr acc errPending (locSelf w) s
    else
      let old := (s.reg w off &&& r.rw) ||| (s.shadow w off &&& r.sh)
      writeReg w off (aliasValue view old (acc.data.toNat % 2 ^ 32) m) acc.init a r (busDone 0 s)

/-- A write to a window that admits it. -/
def winWrite (acc : Access) (w off : Nat) (a : Aux) (s : State) : State :=
  match viewOf off with
  | 1 => twinWrite acc w off a s
  | 0 => baseWrite acc w off a (departs w s)
  | 2 | 4 | 6 => aliasWrite acc w (off % 0x2000) (viewOf off) a (departs w s)
  | _ => busDone 0 (departs w s)

/-- A read of a bridge port's data register (R493); none for any other register. -/
def bridgeRead (acc : Access) (w off : Nat) (s : State) : Option State :=
  if w ≠ W.TWL then none
  else match bridgePort off with
    | some (p, 8) =>
      if p ≠ acc.init.code then some (busDone (s.reg w off) s)
      else if acc.spec then some (busDone 0 (s.count w SPEC_READS))
      else some (doBridge acc.init false 0 s)
    | some _ | none => none

/-- A base-view read. -/
def baseRead (acc : Access) (w off : Nat) (s : State) : State :=
  match rowAt w off with
  | none => busDone 0 s
  | some r =>
    match bridgeRead acc w off s with
    | some s => s
    | none =>
      match r.kind with
      | .w64 =>
        if IN_PUSH ≤ off then busDone 0 s
        else
          let q := arrIdx off OUT_POP 0x20
          if (off - OUT_POP) % 0x20 = 8 then busDone (outPeek s q).toNat s
          else if acc.spec then busDone (outPeek s q).toNat (s.count w SPEC_READS)
          else let v := doOutPop q s; busDone v.1.toNat v.2
      | .lo =>
        if acc.size = 64 then let v := readPair w off acc.spec s; busDone v.1 v.2
        else let v := readReg w off r acc.spec s; busDone v.1 v.2
      | _ => let v := readReg w off r acc.spec s; busDone v.1 v.2

/-- A read through an alias view: what a speculative read of the base offset returns, and no effect (R56). -/
def aliasRead (acc : Access) (w off : Nat) (s : State) : State :=
  match rowAt w off with
  | none => busDone 0 s
  | some _ => busDone (baseRead { acc with spec := true } w off s).bus.data.toNat s

/-- A read of a twin: the complement of the guarded register's value (R54). -/
def twinRead (w off : Nat) (s : State) : State :=
  match rowAt w (off % 0x2000) with
  | none => busDone 0 s
  | some r => if r.gd = 0 then busDone 0 s else busDone (0xFFFFFFFF - readView s w r (off % 0x2000)) s

/-- A read of a window that admits it. -/
def winRead (acc : Access) (w off : Nat) (s : State) : State :=
  match viewOf off with
  | 0 => baseRead acc w off s
  | 1 => twinRead w off s
  | 2 | 4 | 6 => aliasRead acc w (off % 0x2000) s
  | _ => busDone 0 s

/-- An access waits. -/
def State.defer (s : State) (acc : Access) (a : Aux) (sent : Bool) : State := { s with deferred := s.deferred ++ [⟨acc, a, sent⟩] }

/-- An access that has reached a mapped window: size, block reset, access mask, then the register (R35, R41, R63).
One that ends in a bus error leaves an armed twin window armed (assumptions/96). -/
def winAccess (acc : Access) (w off : Nat) (a : Aux) (s : State) : State :=
  if !sizeOk w off acc.size then busErr acc errSize (locSelf w) s
  else if (s.win w).resetting then s.defer acc a true
  else if !admitted s acc.init w off acc.write || portForbidden acc.init w off acc.write then busErr acc errAccess (locSelf w) s
  else if acc.write then winWrite acc w off a s
  else winRead acc w off s

/-! ### The shore bridges (R308–R310) -/

/-- The enabled region of shore `d` that holds a word: its last offset. -/
def prefetchRegion (s : State) (d w off : Nat) : Option Nat :=
  (List.range 8).findSome? fun k =>
    let lo := s.reg (shbWin d) (SHB_REGION + 8 * k)
    let hi := s.reg (shbWin d) (SHB_REGION + 8 * k + 4)
    if bit lo 31 && w % 0x100 == bits lo 5 0 && decide (bits hi 15 0 ≤ off) && decide (off ≤ bits hi 31 16) then some (bits hi 31 16)
    else none

/-- The words of a burst, read speculatively. -/
def burstWords (w : Nat) : Nat → Nat → State → List Word × State
  | 0, _, s => ([], s)
  | n + 1, off, s =>
    let v := match rowAt w off with
      | some r => readReg w off r true s
      | none => (0, s)
    let rest := burstWords w n (off + 4) v.2
    (BitVec.ofNat 32 v.1 :: rest.1, rest.2)

/-- The word of a kept burst that answers a read at `addr` (R310). -/
def burstHit (s : State) (d : Nat) (i : Initiator) (addr : Nat) : Option Word :=
  match (s.bridge d).bursts.find? (·.init == i) with
  | none => none
  | some b =>
    if addr < b.addr ∨ 10000 < s.now - b.at_ then none
    else if (addr - b.addr) % 4 = 0 then b.words[(addr - b.addr) / 4]? else none

/-- The burst of an initiator is discarded. -/
def dropBurst (d : Nat) (i : Initiator) (s : State) : State :=
  s.modBridge d fun b => { b with bursts := b.bursts.filter (·.init != i) }

/-- A 32-bit read that has crossed the bridge: a new burst, or by itself (R310). -/
def shoreFetch (d : Nat) (acc : Access) (w off : Nat) (s : State) : State :=
  match prefetchRegion s d w off with
  | none => winAccess acc w off Aux.plain s
  | some last =>
    if !sizeOk w off acc.size || (s.win w).resetting || !admitted s acc.init w off false then winAccess acc w off Aux.plain s
    else
      let n := min (s.fld (shbWin d) SHB_PF 6 0) (min ((0x100 - off % 0x100) / 4) ((last - off) / 4 + 1))
      let r := burstWords w n off s
      let s := r.2.modBridge d fun b => { b with bursts := b.bursts ++ [⟨acc.init, acc.addr, r.1, s.now⟩] }
      busDone ((r.1.head?.getD 0).toNat) s

/-- A request passes the bridge and is counted, a 64-bit read as two (R308): a write ends every burst kept, a read its
initiator's (R310). -/
def shoreCross (d : Nat) (acc : Access) (s : State) : State :=
  if acc.write then (s.countWrap (shbWin d) SHB_WR 1).modBridge d fun b => { b with bursts := [] }
  else (dropBurst d acc.init s).countWrap (shbWin d) SHB_RD (acc.size / 32)

/-- A 32-bit read at a bridge: from the burst kept, or forwarded, unless it has been (`sent`). -/
def shoreRead (d : Nat) (acc : Access) (w off : Nat) (sent : Bool) (s : State) : State :=
  if sent then shoreFetch d acc w off s
  else match burstHit s d acc.init acc.addr with
    | some v => busDone v.toNat (s.count (shbWin d) SHB_PF_HITS)
    | none => shoreFetch d acc w off (shoreCross d acc s)

/-- A 64-bit read of a shore window: two 32-bit reads, LO first (R58, R308). One whose window is in block reset has been
forwarded and waits as a whole, unless the burst answers both halves. -/
def shoreRead64 (d : Nat) (acc : Access) (w off : Nat) (sent : Bool) (s : State) : State :=
  let lo := { acc with size := 32 }
  let hi := { acc with size := 32, addr := acc.addr + 4 }
  let hit := fun (x : Access) => !sent && (burstHit s d acc.init x.addr).isSome
  if !sizeOk w off 64 then busErr acc errSize (locSelf w) s
  else if (s.win w).resetting && !(hit lo && hit hi) then
    (if sent then s else shoreCross d acc s).defer acc Aux.plain true
  else
    let s := shoreRead d lo w off sent s
    if s.bus.err ≠ 0 then s
    else
      let v := s.bus.data.toNat
      let s := shoreRead d hi w (off + 4) sent s
      if s.bus.err ≠ 0 then s else busDone (v + 2 ^ 32 * s.bus.data.toNat) s

/-- An access of the main die to a window of shore `d`, whose link carries it; `sent` when it has crossed the link before. -/
def shoreAccess (d : Nat) (acc : Access) (w off : Nat) (a : Aux) (sent : Bool) (s : State) : State :=
  if !(s.bridge d).up || !shoreRuns s d then busErr acc errTimeout (locSelf w) s
  else if acc.write then winAccess acc w off a (if sent then s else shoreCross d acc s)
  else if acc.size = 64 then shoreRead64 d acc w off sent s
  else shoreRead d acc w off sent s

/-! ### Memories (R406, R413, R416) -/

/-- The memories that are plain bytes. -/
inductive Region where | rom | crownSram | movSram | dram | flash
deriving DecidableEq, Repr

/-- The region that holds `n` bytes at an address. -/
def regionAt (s : State) (addr n : Nat) : Option Region :=
  let inside := fun b len => decide (b ≤ addr) && decide (addr + n ≤ b + len)
  if inside 0 0x40000 then some .rom
  else if inside 0x10000000 0x80000 then some .crownSram
  else if inside 0x20000000 0x400000 then some .movSram
  else if s.inDram addr n then some .dram
  else if inside xspiBase (min (xspCs0 s + xspCs1 s) 0x20000000) then some .flash
  else if inside xspiBase 0x20000000 then none
  else none

/-- Movement core. -/
def isMov : Initiator → Bool
  | .mov0 | .mov1 | .mov2 | .mov3 => true
  | _ => false

/-- A region admits an initiator (R406, R494); the debug module as the Crown, the capture unit in DRAM only
(notes/assumptions/6). -/
def regionAdmits (s : State) (r : Region) (i : Initiator) (write : Bool) : Bool :=
  match r with
  | .rom => i == .crown && !write
  | .crownSram => i == .crown || i == .debug
  | .movSram => i == .crown || i == .debug || isMov i
  | .dram => i == .crown || i == .debug || isMov i || i == .capture || (i == .twin && s.flag W.TWL TWL_CTRL 26)
  | .flash => !write && (i == .crown || i == .debug || isMov i)

/-- A read or a write of plain bytes, least significant byte first (notes/assumptions/6). -/
def bytesAccess (acc : Access) (s : State) : State :=
  if acc.write then busDone 0 (s.memWrite acc.addr (leBytes (acc.size / 8) acc.data.toNat))
  else busDone (leNat (s.memBytes acc.addr (acc.size / 8))) s

/-- An access to the DRAM reads a word, and a write of fewer than 8 bytes reads it too: a corrected error is counted, an
uncorrectable one ends the access with reason 0x07 (R412). -/
def dramAccess (acc : Access) (e : Ecc) (s : State) : State :=
  if e = .ok ∨ (acc.write ∧ acc.size = 64) then bytesAccess acc s
  else
    let r := dramReport e acc.addr s
    if e = .corrected then bytesAccess acc r.2 else busErr acc errUncorr r.1 r.2

/-- A read of the flash through the window; it waits while its chip select is polled (R416). -/
def flashRead (acc : Access) (s : State) : State :=
  let o := acc.addr - xspiBase
  if s.flag W.XSP XSP_STAT 29 && s.xsp.cs == xspCsOf s o then { s with xsp := { s.xsp with waiting := s.xsp.waiting ++ [acc] } }
  else busDone (leNat (s.norBytes o (acc.size / 8))) s

/-- An access to an address that no window holds. -/
def memAccess (acc : Access) (a : Aux) (s : State) : State :=
  match regionAt s acc.addr (acc.size / 8) with
  | none => busErr acc errUnmapped (answerLoc s acc.addr) s
  | some r =>
    if !regionAdmits s r acc.init acc.write then
      busErr acc errAccess (if r = .flash ∧ acc.write then locBlock W.XSP else noTarget) s
    else match r with
      | .rom => let d := s.drawBytes (acc.size / 8); busDone (leNat d.1) d.2
      | .flash => flashRead acc s
      | .dram => if dramReady s then dramAccess acc a.ecc s else s.defer acc a true
      | .crownSram | .movSram => bytesAccess acc s

/-! ### One access -/

/-- An access of a main-die initiator; `sent` when it has reached its target before. -/
def mainAccess (acc : Access) (a : Aux) (sent : Bool) (s : State) : State :=
  match windowOf acc.addr with
  | none => memAccess acc a s
  | some w =>
    let off := acc.addr % 0x10000
    if (blkOf w).isNone then busErr acc errUnmapped noTarget s
    else if dieOf w = 0 then winAccess acc w off a s
    else shoreAccess (dieOf w - 1) acc w off a sent s

/-- An SRAM access of a shore controller; a load that meets a corrected error raises ECC_CORR, one that meets an uncorrectable
error ends with reason 0x07 and holds the core in reset (R330). -/
def sramAccess (d : Nat) (acc : Access) (e : Ecc) (s : State) : State :=
  let s := if e = .corrected ∧ !acc.write then s.raise0 (shcWin d) 3 else s
  let n := acc.size / 8
  let k := acc.addr / 4
  let o := acc.addr % 4
  let old := leBytes 8 (sramWord s d k + 2 ^ 32 * sramWord s d (k + 1))
  if acc.write then
    let v := leNat (splice old o (leBytes n acc.data.toNat))
    let s := setSram d k (v % 2 ^ 32) s
    busDone 0 (if o + n ≤ 4 then s else setSram d (k + 1) (v / 2 ^ 32) s)
  else if e = .uncorrectable then busErr acc errUncorr (locSelf (shcWin d)) (doShcEcc d s)
  else busDone (leNat (slice old o n)) s

/-- An access of shore controller `d` in its own map (R327). -/
def shcAccess (d : Nat) (acc : Access) (a : Aux) (s : State) : State :=
  if acc.addr + acc.size / 8 ≤ 0x20000 then sramAccess d acc a.ecc s
  else match windowOf acc.addr with
    | none => busErr acc errUnmapped noTarget s
    | some l =>
      if localMapped l then winAccess acc (0x200 + 0x100 * d + l) (acc.addr % 0x10000) a s
      else busErr acc errUnmapped noTarget s

/-- The initiator's part of the device works. -/
def initRuns (s : State) (i : Initiator) : Bool :=
  match shcOf i with
  | none => mainRuns s
  | some d => shoreRuns s d

/-- One access, at its target: `sent` when it has reached it before. -/
def reach (acc : Access) (a : Aux) (sent : Bool) (s : State) : State :=
  match shcOf acc.init with
  | none => mainAccess acc a sent s
  | some d => shcAccess d acc a s

/-- Initiator `i` has a write outstanding: one that waits, or one without its response at a bridge (R59). -/
def holdsWrite (s : State) (i : Initiator) : Bool :=
  s.deferred.any (fun x => x.acc.init == i && x.acc.write)
    || (List.range 2).any fun d => (s.bridge d).reqs.any fun r => r.acc.init == i && r.acc.write && !r.ended

/-- One access; it waits behind a write of the same initiator that is outstanding (R59). -/
def access (acc : Access) (a : Aux) (s : State) : State :=
  if !initRuns s acc.init then s
  else if holdsWrite s acc.init then s.defer acc a false
  else reach acc a false s

/-- The address by which an initiator reaches offset `off` of window `w`; a shore controller reaches windows of its own die
only, and for another one the address lies outside its map. -/
def addrFor (i : Initiator) (w off : Nat) : Nat :=
  match shcOf i with
  | none => winAddr w off
  | some d => if dieOf w = d + 1 then winAddr (w % 0x100) off else winAddr (0x400 + w) off

/-- A 32-bit register write by a command that names its register. -/
def regWrite (i : Initiator) (w off data : Nat) (a : Aux) (s : State) : State :=
  access ⟨i, addrFor i w off, 32, true, false, BitVec.ofNat 64 data⟩ a s

/-- The completing write of a guarded sequence: to the twin, with the complement of the value. -/
def guardWrite (i : Initiator) (w off value : Nat) (a : Aux) (s : State) : State :=
  regWrite i w (off + 0x2000) (0xFFFFFFFF - value % 2 ^ 32) a s

/-- A 32-bit non-speculative register read by a command that names its register. -/
def regRead (i : Initiator) (w off : Nat) (s : State) : State :=
  access ⟨i, addrFor i w off, 32, false, false, 0⟩ Aux.plain s

end Sys2Proof.Machine
end

