-- ==== Sys2Proof/Machine/TableImage.lean ====
section
/-! DEFINITION. The TABLE_IMAGE that the Crown applies at a start, record by record (R436, R442). -/
namespace Sys2Proof.Machine
open Reg

/-- A record (R442): what is left of its data decides what the Crown does next. -/
structure TableRec where
  kind : Nat
  len : Nat
  addr : Nat
deriving DecidableEq, Repr

/-- The record at offset `off` of the body; none where the body has ended. -/
def tableRec (s : State) (t : TableRun) : Option TableRec :=
  if t.len < t.off + 16 then none
  else
    let h := s.norBytes (t.base + t.off) 16
    some ⟨byteAt h 0, beNat (slice h 4 4), beNat (slice h 8 8)⟩

/-- Data bytes [o, o + n) of the record that has been reached. -/
def tableData (s : State) (t : TableRun) (o n : Nat) : List Byte := s.norBytes (t.base + t.off + 16 + o) n

/-- The run goes on with the next record, behind the padding to a multiple of 8 bytes. -/
def TableRun.next (t : TableRun) (len : Nat) : TableRun := { t with off := t.off + 16 + (len + 7) / 8 * 8, pos := 0, since := none }

def State.setTable (s : State) (t : Option TableRun) : State := { s with crn := { s.crn with table := t } }

/-- The blocks whose tables a TABLE_IMAGE fills (notes/assumptions/86). -/
def tableBlocks : List Nat := [W.CLS, W.CLS + 1, W.EMT, W.WCT, W.POL, W.CDM, W.SGE, W.AUE]

/-- The image fails: every table block is left with BLK_CTRL.EN 0, and BOOT_FALLBACK is raised. -/
def tableFails (s : State) : State :=
  (tableBlocks.foldl (fun s w => writeCtrl w (clearMask (s.reg w BLK_CTRL) 3) s) (s.setTable none)).raise0 W.SYS 2

/-- The Crown reaches step 6 of R436: the memory is trained, and the microcode runs where the start has one. -/
def tableReady (s : State) : Bool :=
  dmcInit s && (s.flag W.SGE SGE_UC_STAT 31 || match directory s with
    | some d => !imageLoads s 3 (regionOf s d 3 0) && !imageLoads s 3 (regionOf s d 3 1)
    | none => true)

/-- A 32-bit access of the Crown. -/
def crownAccess (write : Bool) (addr v : Nat) : Access := ⟨.crown, addr, 32, write, false, BitVec.ofNat 64 v⟩

/-- What the Crown does next: the state, and whether it can go on at once. -/
def tableStep (t : TableRun) (s : State) : State × Bool :=
  match tableRec s t with
  | none => (tableFails s, false)
  | some r =>
    match r.kind with
    | 1 =>
      if r.len < t.pos + 4 then (s.setTable (some (t.next r.len)), true)
      else if t.len < t.off + 16 + t.pos + 4 then (tableFails s, false)
      else
        let s' := access (crownAccess true (r.addr + t.pos) (beNat (tableData s t t.pos 4))) Aux.plain s
        if holdsWrite s' .crown then (s, false)
        else if s'.bus.err ≠ 0 then (tableFails s', false)
        else (s'.setTable (some { t with pos := t.pos + 4 }), true)
    | 2 =>
      if t.len < t.off + 16 + r.len ∨ !s.inDram r.addr r.len then (tableFails s, false)
      else ((s.memWrite r.addr (tableData s t 0 r.len)).setTable (some (t.next r.len)), true)
    | 3 =>
      let d := fun k => beNat (tableData s t (4 * k) 4)
      let s' := access (crownAccess false r.addr 0) Aux.plain s
      let start := t.since.getD s.now
      if s'.deferred.length ≠ s.deferred.length then (s, false)
      else if s'.bus.err = 0 ∧ s'.bus.data.toNat &&& d 0 = d 1 then (s'.setTable (some (t.next r.len)), true)
      else if start + d 2 * 1000 < s.now then (tableFails s', false)
      else (s'.setTable (some { t with since := some start }), false)
    | 0xFF => (s.setTable none, false)
    | _ => (tableFails s, false)

/-- The Crown applies records while it can; a poll that does not match yet waits for the commands that follow. -/
def tableRun : Nat → State → State
  | 0, s => s
  | n + 1, s =>
    match s.crn.table with
    | none => s
    | some t => let r := tableStep t s; if r.2 then tableRun n r.1 else r.1

/-- The Crown applies the TABLE_IMAGE as far as it can; what the last access of a command answered stays. -/
def sweepTable (s : State) : State :=
  match s.crn.table with
  | none => s
  | some t => if mainRuns s && !holdsWrite s .crown && tableReady s then { tableRun (t.len + 1) s with bus := s.bus } else s

end Sys2Proof.Machine
end

