-- ==== Sys2Proof/Machine/Complete.lean ====
section
/-! DEFINITION. What every meaning ends with: the settling of `finish`, accesses that waited, the Crown's TABLE_IMAGE; and the
scopes in which a command acts. -/
namespace Sys2Proof.Machine
open Reg

/-! ### Accesses that waited -/

/-- What a waiting access waited for has come: the reset of its window has ended, the memory works, and, for one that has not
been issued, no write of its initiator is outstanding. -/
def accessReady (s : State) (x : Waiting) : Bool :=
  (x.sent || !holdsWrite s x.acc.init) &&
    match (match shcOf x.acc.init with
        | none => windowOf x.acc.addr
        | some d => (windowOf x.acc.addr).map (0x200 + 0x100 * d + ·)) with
    | some w => !(s.win w).resetting || !x.sent
    | none => !s.inDram x.acc.addr (x.acc.size / 8) || dramReady s || !x.sent

/-- Waiting accesses whose time has come complete in order; the others go on waiting. -/
def runDeferred (s : State) : State :=
  s.deferred.foldl (fun s x =>
    if !initRuns s x.acc.init then s
    else if accessReady s x then reach x.acc x.aux x.sent s
    else { s with deferred := s.deferred ++ [x] }) { s with deferred := [] }

/-- Everything that follows a command's own effect: `finish`, then the accesses that waited and the TABLE_IMAGE, and `finish`
after each. No effect reaches the queue of commands. -/
def complete (s0 s : State) : State :=
  let s := finish s0 s
  let s := if s.deferred.isEmpty then s else finish s (runDeferred s)
  let s := if s.crn.table.isNone then s else finish s (sweepTable s)
  { s with pending := s0.pending }

/-- A command of the main die: it acts only while the main die runs. -/
def onMain (f : State → State) (s : State) : State := complete s (if mainRuns s then f s else s)

/-- A command of shore `d`: it acts only while the shore is powered and clocked. -/
def onShore (d : Nat) (f : State → State) (s : State) : State := complete s (if d < 2 && shoreRuns s d then f s else s)

/-- A command of CAN channel `n`: of its shore below 24, of the main die above. -/
def onChan (n : Nat) (f : State → State) (s : State) : State :=
  if n < 24 then onShore (shoreOf n) f s else if n < 32 then onMain f s else complete s s

/-- A command that meets the package in any power state. -/
def onPackage (f : State → State) (s : State) : State := complete s (f s)

end Sys2Proof.Machine
end

