-- ==== Sys2Proof/Machine/RowOps.lean ====
section
/-! DEFINITION. What the rows' meanings share: an access that a command names by its register, commands of a window or of one of
a fixed number of instances, and the small effects of the shore links, the twin link and the flash that no block file holds. -/
namespace Sys2Proof.Machine
open Reg

/-! ### Accesses of a command that names its register -/

/-- A register write. -/
def cmdWrite (i : Initiator) (w off data : Nat) (s : State) : State := onPackage (regWrite i w off data Aux.plain) s

/-- A register write that meets bad table entries. -/
def cmdBad (i : Initiator) (w off data : Nat) (bad : List BadEntry) (s : State) : State :=
  onPackage (regWrite i w off data { Aux.plain with bad := bad }) s

/-- The twin write that completes a guarded sequence armed with `v`. -/
def cmdGuard (i : Initiator) (w off v : Nat) (s : State) : State := onPackage (guardWrite i w off v Aux.plain) s

/-- The same for a write that brings a start. -/
def cmdStart (i : Initiator) (w off v : Nat) (x : StartInput) (s : State) : State :=
  onPackage (guardWrite i w off v { Aux.plain with start := some x }) s

/-- A non-speculative 32-bit read. -/
def cmdRead (i : Initiator) (w off : Nat) (s : State) : State := onPackage (regRead i w off) s

/-- A write to BLK_CTRL, guarded in some blocks (R39). -/
def cmdCtrl (i : Initiator) (w v : Nat) (s : State) : State :=
  if ctrlGuarded w then cmdGuard i w BLK_CTRL v s else cmdWrite i w BLK_CTRL v s

/-- BLK_CTRL without its RST bit. -/
def ctrlNow (s : State) (w : Nat) : Nat := s.reg w BLK_CTRL &&& 0xD

/-! ### Scopes -/

/-- A command of window `w`, in the die that holds it; a window that does not exist has none. -/
def onWin (w : Nat) (f : State → State) (s : State) : State :=
  if (blkOf w).isNone then complete s s
  else if dieOf w = 0 then onMain f s
  else onShore (dieOf w - 1) f s

/-- A command of the main die about one of `n` things. -/
def onOne (n k : Nat) (f : State → State) (s : State) : State := onMain (fun s => if k < n then f s else s) s

/-- A command of a transceiver's or relay-side channel below 24. -/
def onTrx (n : Nat) (f : State → State) (s : State) : State := if n < 24 then onShore (shoreOf n) f s else complete s s

/-- A command of T1S segment `k`, on the shore that holds it. -/
def onSeg (k : Nat) (f : State → State) (s : State) : State := if k < 8 then onShore (shoreOfSeg k) f s else complete s s

/-- A command of a shore about one of `n` things. -/
def onShoreOne (d n k : Nat) (f : State → State) (s : State) : State := onShore d (fun s => if k < n then f s else s) s

/-- A command that meets shore `d` in any power state. -/
def onShorePackage (d : Nat) (f : State → State) (s : State) : State := onPackage (fun s => if d < 2 then f s else s) s

/-! ### Fault sources (R72) -/

/-- A condition of local source `src` is posted. -/
def postCondition (w src loc : Nat) (c : Cond) (s : State) : State := if src < nsrc w then s.post ⟨w, src, c, loc, false⟩ else s

/-- The quiet timer of a Recovering source reaches FLT_QUIET.MS, which is not 0: it is Normal, and a recovery counts (R72–R74). -/
def quietExpire (w src : Nat) (s : State) : State :=
  let x := s.source w src
  if src < nsrc w ∧ x.state = .recovering ∧ s.reg w FLT_QUIET ≠ 0 then
    let o := s
    let s := setRecov w src (satAdd 16 (recovCount s w src) 1) (s.setSource w src { x with state := .normal })
    escalate w o (ledgerRecovery w s)
  else s

/-! ### Time -/

/-- A step that waits applies, and waiting CAN frames are aged (R290, R372). -/
def stepNow (s : State) : State := if s.tms.step.isSome then ageAll (doStepApply s) else s

/-- Ticks pass, on the shores too; a step that waits applies at the first one. The Crown's watchdog counts while the main die's
time runs (R368, R372, R376, R457). -/
def passTicks (n : Nat) (s : State) : State :=
  let t := if s.tms.step.isSome && mainTimeRuns s && n != 0 then doTicks (n - 1) (stepNow (doTicks 1 s)) else doTicks n s
  if mainTimeRuns s then wdtCount n t else t

/-! ### Shore links (R304–R309) -/

/-- The request belongs to an access of the main die to a window of a shore: shore, window. -/
def shoreTarget (acc : Access) : Option (Nat × Nat) :=
  if (shcOf acc.init).isSome then none
  else match windowOf acc.addr with
    | none => none
    | some w => if (blkOf w).isSome && dieOf w != 0 then some (dieOf w - 1, w) else none

/-- A request of the list at a bridge that belongs to an initiator and has, or has not, ended. -/
def reqOf (i : Initiator) (ended : Bool) (r : ShoreReq) : Bool := r.acc.init == i && r.ended == ended

/-- The reads that an initiator has outstanding at a bridge. -/
def readsOut (s : State) (d : Nat) (i : Initiator) : Nat :=
  ((s.bridge d).reqs.filter fun r => reqOf i false r && !r.acc.write).length

/-- A request cannot be issued before a write of the same initiator has completed (R59): a write behind any, a read behind one
that waits at another place than this bridge, where the answers keep their order. -/
def requestWaits (s : State) (d : Nat) (acc : Access) : Bool :=
  holdsWrite s acc.init && (acc.write || !(s.bridge d).reqs.any fun r => reqOf acc.init false r && r.acc.write)

/-- REGISTER_REQUEST: a read answered from the kept burst ends at once; any other request is forwarded and waits for its
response; a write before it may hold it back, and an initiator has at most 8 reads outstanding (R308–R310). -/
def shoreRequest (acc : Access) (s : State) : State :=
  match shoreTarget acc with
  | none => access acc Aux.plain s
  | some (d, w) =>
    if !mainRuns s then s
    else if requestWaits s d acc then s.defer acc Aux.plain false
    else if !(s.bridge d).up then busErr acc errTimeout (locSelf w) s
    else if !acc.write && acc.size == 32 && (burstHit s d acc.init acc.addr).isSome then reach acc Aux.plain false s
    else if !acc.write && decide (8 ≤ readsOut s d acc.init) then s
    else (shoreCross d acc s).modBridge d fun b => { b with reqs := b.reqs ++ [⟨acc, false⟩] }

/-- SHORE_RESPONSE: the oldest outstanding request of an initiator completes; a `late` response belongs to the oldest one that
has ended, and is discarded (R309). -/
def shoreResponse (d : Nat) (i : Initiator) (late : Bool) (s : State) : State :=
  match (s.bridge d).reqs.find? (reqOf i late) with
  | none => s
  | some r =>
    if !(s.bridge d).up then s
    else
      let s := s.modBridge d fun b => { b with reqs := delFirst (reqOf i late) b.reqs }
      if late then (s.count (shbWin d) SHB_LATE).raise0 (shbWin d) 5 else reach r.acc Aux.plain true s

/-- SHB_TIMEOUT: the oldest request of an initiator that has not ended ends with a bus error (R309). -/
def shoreTimeout (d : Nat) (i : Initiator) (s : State) : State :=
  match (s.bridge d).reqs.find? (reqOf i false) with
  | none => s
  | some r =>
    let s := s.modBridge d fun b => { b with reqs := updFirst (reqOf i false) (fun r => { r with ended := true }) b.reqs }
    let s := (s.count (shbWin d) SHB_TIMEOUTS).raise0 (shbWin d) 4
    match windowOf r.acc.addr with
    | some w => busErr r.acc errTimeout (locSelf w) s
    | none => busErr r.acc errTimeout noTarget s

/-- A control message arrives while the link is up (R304). -/
def shoreMessage (d : Nat) (f : State → State) (s : State) : State := if (s.bridge d).up then f s else s

/-- PIN assert or release of a shore. -/
def shorePin (d : Nat) (on : Bool) (s : State) : State :=
  { s with errPin := if d = 0 then { s.errPin with shoreA := on } else { s.errPin with shoreB := on } }

/-! ### Flash window (R413–R417) -/

/-- Window reads that waited for the poll are answered. -/
def pollDone (s : State) : State :=
  if !s.flag W.XSP XSP_STAT 29 then s
  else
    let q := s.xsp.waiting
    let s := { (s.setReg W.XSP XSP_STAT (s.reg W.XSP XSP_STAT &&& 0x40000000)) with xsp := { s.xsp with waiting := [] } }
    q.foldl (fun s acc => reach acc Aux.plain true s) s

/-- The poll times out: waiting window reads end with bus errors, which XSP_RD_ERR counts. -/
def pollTimeout (s : State) : State :=
  if !s.flag W.XSP XSP_STAT 29 then s
  else
    let q := s.xsp.waiting
    let loc := locUnit W.XSP s.xsp.cs
    let s := { (s.setReg W.XSP XSP_STAT 0x40000000) with xsp := { s.xsp with waiting := [] } }
    let s := q.foldl (fun s acc => busErr acc errTimeout loc (s.count W.XSP XSP_RD_ERR)) s
    s.raise W.XSP 2 loc

/-- A window read that the flash does not answer (R417). -/
def flashSilent (acc : Access) (s : State) : State :=
  if regionAt s acc.addr (acc.size / 8) = some .flash then
    let loc := locUnit W.XSP (xspCsOf s (acc.addr - xspiBase))
    busErr acc errTimeout loc ((s.count W.XSP XSP_RD_ERR).raise W.XSP 2 loc)
  else s

/-! ### Twin target engine (R494) -/

/-- A remote request is served as initiator 0x5 and answered, unless it comes after its deadline. -/
def serveRemote (write late : Bool) (e : Ecc) (p : List Byte) (s : State) : State :=
  if late then s
  else twinSend 2 <| access ⟨.twin, beNat (slice p 8 8), 32, write, false, BitVec.ofNat 64 (beNat (slice p 16 4))⟩
    { Aux.plain with ecc := e } s

/-! ### Unnov (R450–R455) -/

/-- A message reaches Unnov while the Crown's code runs. -/
def onUnnov (f : State → State) (s : State) : State := onMain (fun s => if s.crn.halted then s else f s) s

end Sys2Proof.Machine
end

