-- ==== Sys2Proof/Machine/RowsBus.lean ====
section
/-! DEFINITION. The meanings of the rows of accesses, aliases, guarded sequences, updates, block control (chapter 02). -/
namespace Sys2Proof.Machine
open Reg

/-- REGISTER_WRITE (R59): A non-posted write to a register that has no row of its own completes when its target acknowledges it; SH fields land in the shadow. -/
def execRegisterWrite (init : Initiator) (addr : Nat) (size : Nat) (data : DWord) (ecc : Ecc) (s : State) : Host.Outcome State Fault Refusal :=
  .next (onPackage (access ⟨init, addr, size, true, false, data⟩ { Aux.plain with ecc := ecc }) s)

/-- SPECULATIVE_READ (R62): A speculative read of an RS register returns its peek value without side effect and increments SPEC_READS. -/
def execSpeculativeRead (init : Initiator) (addr : Nat) (size : Nat) (ecc : Ecc) (s : State) : Host.Outcome State Fault Refusal :=
  .next (onPackage (access ⟨init, addr, size, false, true, 0⟩ { Aux.plain with ecc := ecc }) s)

/-- COUNTER_LO_READ (R58): A non-speculative read of a LO counter returns the low half and latches the high half in the window's HI latch. -/
def execCounterLoRead (init : Initiator) (addr : Nat) (size : Nat) (ecc : Ecc) (s : State) : Host.Outcome State Fault Refusal :=
  .next (onPackage (access ⟨init, addr, size, false, false, 0⟩ { Aux.plain with ecc := ecc }) s)

/-- COUNTER_HI_READ (R58): A read of a HI counter half returns the latched value and empties the latch, or returns the live half. -/
def execCounterHiRead (init : Initiator) (addr : Nat) (s : State) : Host.Outcome State Fault Refusal :=
  .next (onPackage (access ⟨init, addr, 32, false, false, 0⟩ Aux.plain) s)

/-- ICX_LOG_POP (R61): A write to ICX_LOG_POP removes the oldest bus-error log entry. -/
def execIcxLogPop (init : Initiator) (s : State) : Host.Outcome State Fault Refusal :=
  .next (cmdWrite init W.ICX ICX_LOG_POP 1 s)

/-- STROBE (R44): BLK_UPDATE.STROBE checks the whole shadow and either marks the update pending or rejects it. -/
def execStrobe (init : Initiator) (win : Nat) (revert : Bool) (s : State) : Host.Outcome State Fault Refusal :=
  .next (cmdWrite init win BLK_UPDATE (1 + 2 * b2n revert) s)

/-- REVERT (R44): BLK_UPDATE.REVERT copies the live set into the shadow. -/
def execRevert (init : Initiator) (win : Nat) (s : State) : Host.Outcome State Fault Refusal :=
  .next (cmdWrite init win BLK_UPDATE 2 s)

/-- UPDATE_APPLY (R44): At the block's next safe point a pending shadow is applied whole, setting APPLIED and incrementing APPLY_CNT. -/
def execUpdateApply (win : Nat) (alert : Bool) (s : State) : Host.Outcome State Fault Refusal :=
  .next (onWin win (applyWin win alert) s)

/-- SHARED_UPDATE (R49): A write to SYS_UPDATE checks the shadows of every selected block and lets all apply or none. -/
def execSharedUpdate (init : Initiator) (data : Word) (s : State) : Host.Outcome State Fault Refusal :=
  .next (cmdWrite init W.SYS SYS_UPDATE data.toNat s)

/-- UPD_PAUSE_EXPIRED (R51): The admission hold's ROUNDS count runs out before all blocks applied; admission resumes and PAUSE_EXPIRED is set. -/
def execUpdPauseExpired (s : State) : Host.Outcome State Fault Refusal :=
  .next (onMain pauseExpired s)

/-- BLOCK_RESET (R41): BLK_CTRL.RST takes the block's registers and state to reset values, discarding held frames. -/
def execBlockReset (init : Initiator) (win : Nat) (s : State) : Host.Outcome State Fault Refusal :=
  .next (cmdCtrl init win (ctrlNow s win ||| 2) s)

/-- BLOCK_RESET_END (R41): A block reset ends and the block resumes from its reset values. -/
def execBlockResetEnd (win : Nat) (s : State) : Host.Outcome State Fault Refusal :=
  .next (onWin win (resetEnd win) s)

/-- BLOCK_ENABLE (R556): BLK_CTRL.EN becomes 1 and the block begins to carry traffic. -/
def execBlockEnable (init : Initiator) (win : Nat) (s : State) : Host.Outcome State Fault Refusal :=
  .next (cmdCtrl init win (ctrlNow s win ||| 1) s)

/-- BLOCK_DISABLE (R556): BLK_CTRL.EN becomes 0 and the block acts on traffic as its disabled behaviour states. -/
def execBlockDisable (init : Initiator) (win : Nat) (s : State) : Host.Outcome State Fault Refusal :=
  .next (cmdCtrl init win (clearMask (ctrlNow s win) 1) s)

/-- GUARD_ARM (R52): A value write to a guarded register arms the window with the value, offset and initiator. -/
def execGuardArm (init : Initiator) (win : Nat) (off : Nat) (value : Word) (s : State) : Host.Outcome State Fault Refusal :=
  .next (cmdWrite init win (off % 0x2000) value.toNat s)

/-- TWIN_WRITE (R52): A write to a twin offset completes a guarded sequence when it carries ~V in time, and applies V. -/
def execTwinWrite (init : Initiator) (win : Nat) (off : Nat) (data : Word) (s : State) : Host.Outcome State Fault Refusal :=
  .next (cmdWrite init win (0x2000 + off % 0x2000) data.toNat s)

/-- ALIAS_SET (R55): A write through the SET alias ORs the data into each RW field as one indivisible read-modify-write. -/
def execAliasSet (init : Initiator) (win : Nat) (off : Nat) (data : Word) (s : State) : Host.Outcome State Fault Refusal :=
  .next (cmdWrite init win (0x4000 + off % 0x2000) data.toNat s)

/-- ALIAS_CLEAR (R55): A write through the CLEAR alias clears the data bits in each RW field. -/
def execAliasClear (init : Initiator) (win : Nat) (off : Nat) (data : Word) (s : State) : Host.Outcome State Fault Refusal :=
  .next (cmdWrite init win (0x8000 + off % 0x2000) data.toNat s)

/-- ALIAS_TOGGLE (R55): A write through the TOGGLE alias inverts the data bits in each RW field. -/
def execAliasToggle (init : Initiator) (win : Nat) (off : Nat) (data : Word) (s : State) : Host.Outcome State Fault Refusal :=
  .next (cmdWrite init win (0xC000 + off % 0x2000) data.toNat s)

end Sys2Proof.Machine
end

