-- ==== Sys2Proof/Machine/RowsCan.lean ====
section
/-! DEFINITION. The meanings of the rows of the CAN controllers (chapter 11). -/
namespace Sys2Proof.Machine
open Reg

/-- INTEGRATION_DONE (R275): A CX sees 11 recessive bits and joins the bus. -/
def execIntegrationDone (chan : Nat) (s : State) : Host.Outcome State Fault Refusal :=
  .next (onChan chan (doIntegrationDone chan) s)

/-- RX_CLAIM (R285): A CAN frame's length field is received and it claims ingress buffer cells. -/
def execRxClaim (chan : Nat) (len : Nat) (sof : Nat) (s : State) : Host.Outcome State Fault Refusal :=
  .next (onChan chan (doRxClaim chan len sof) s)

/-- CX_RX_FRAME (R284): A CAN frame is received without error and enters the fabric with its tag. -/
def execCxRxFrame (chan : Nat) (frm : CanFrame) (sof : Nat) (eof : Nat) (txc : Nat) (rxc : Nat) (bad : List BadEntry) (s : State) : Host.Outcome State Fault Refusal :=
  .next (onChan chan (doCxRx chan frm sof eof txc rxc bad) s)

/-- CX_BUS_ERROR (R296): A CX detects a bus error and updates its error counters and state. -/
def execCxBusError (chan : Nat) (err : CanErrEvent) (s : State) : Host.Outcome State Fault Refusal :=
  .next (onChan chan (doBusError chan err) s)

/-- ABR_DWELL (R282): DWELL_MS passes without lock and the next candidate is tried. -/
def execAbrDwell (chan : Nat) (s : State) : Host.Outcome State Fault Refusal :=
  .next (onChan chan (doAbrDwell chan) s)

/-- SLOT_LOAD (R288): A free transmit slot is filled from the highest class with room. -/
def execSlotLoad (chan : Nat) (slot : Nat) (s : State) : Host.Outcome State Fault Refusal :=
  .next (onChan chan (doSlotLoad chan slot) s)

/-- TRANSMISSION_POINT (R289): The controller selects the winning ready slot and commits it at SOF. -/
def execTransmissionPoint (chan : Nat) (sof : Nat) (delayErr : Option CanErrEvent) (s : State) : Host.Outcome State Fault Refusal :=
  .next (onChan chan (doTransmissionPoint chan sof delayErr) s)

/-- TX_VALID (R294): A transmitted frame becomes valid; the slot frees and an outcome is posted. -/
def execTxValid (chan : Nat) (eof : Nat) (txc : Nat) (rxc : Nat) (s : State) : Host.Outcome State Fault Refusal :=
  .next (onChan chan (doTxValid chan eof txc rxc) s)

/-- ARBITRATION_LOST (R291): A frame loses arbitration and waits to retry, cancelled or aged. -/
def execArbitrationLost (chan : Nat) (s : State) : Host.Outcome State Fault Refusal :=
  .next (onChan chan (doArbitrationLost chan) s)

/-- CANCEL_SLOT (R292): CX_TXCANCEL with BY 0x1 cancels one slot. -/
def execCancelSlot (init : Initiator) (chan : Nat) (slot : Nat) (s : State) : Host.Outcome State Fault Refusal :=
  .next (cmdWrite init (cxWin chan) CX_TXCANCEL (2 ^ 30 + slot % 64) s)

/-- CANCEL_MATCH (R292): CX_TXCANCEL with BY 0x2 cancels slots whose W7 matches. -/
def execCancelMatch (init : Initiator) (chan : Nat) (s : State) : Host.Outcome State Fault Refusal :=
  .next (cmdWrite init (cxWin chan) CX_TXCANCEL (2 ^ 31) s)

/-- CANCEL_ALL (R292): CX_TXCANCEL with BY 0x3 cancels every slot. -/
def execCancelAll (init : Initiator) (chan : Nat) (s : State) : Host.Outcome State Fault Refusal :=
  .next (cmdWrite init (cxWin chan) CX_TXCANCEL (3 * 2 ^ 30) s)

/-- TXEVT_POP (R295): A read of CX_TXEVT_INFO returns and removes the oldest transmit event. -/
def execTxevtPop (init : Initiator) (chan : Nat) (s : State) : Host.Outcome State Fault Refusal :=
  .next (cmdRead init (cxWin chan) CX_TXEVT_INFO s)

/-- TXEVT_CLR (R295): CX_TXEVT_CLR clears the LOST count. -/
def execTxevtClr (init : Initiator) (chan : Nat) (s : State) : Host.Outcome State Fault Refusal :=
  .next (cmdWrite init (cxWin chan) CX_TXEVT_CLR 1 s)

/-- RECOVER (R298): CX_CMD.RECOVER starts bus-off recovery. -/
def execRecover (init : Initiator) (chan : Nat) (s : State) : Host.Outcome State Fault Refusal :=
  .next (cmdWrite init (cxWin chan) CX_CMD 1 s)

/-- RECOVERY_DONE (R298): The 128th recessive sequence ends bus-off. -/
def execRecoveryDone (chan : Nat) (s : State) : Host.Outcome State Fault Refusal :=
  .next (onChan chan (doRecoveryDone chan) s)

/-- REF_MISSED (R301): A reference frame is not valid within MAXDELAY_US and the round ends as missed. -/
def execRefMissed (chan : Nat) (s : State) : Host.Outcome State Fault Refusal :=
  .next (onChan chan (doRefMissed chan) s)

end Sys2Proof.Machine
end

