-- ==== Sys2Proof/Machine/RowsCapture.lean ====
section
/-! DEFINITION. The meanings of the rows of capture and the ledger (chapter 20). -/
namespace Sys2Proof.Machine
open Reg

/-- CAP_TAKE (R498): CAP takes a frame and writes its record into a ring. -/
def execCapTake (s : State) : Host.Outcome State Fault Refusal :=
  .next (onMain doCapTake s)

/-- RECORD_DONE (R500): DRAM acknowledges a record's last byte and NEXT_OFF advances. -/
def execRecordDone (ring : Nat) (s : State) : Host.Outcome State Fault Refusal :=
  .next (onOne 8 ring (doRecordDone ring) s)

/-- CAP_TRIGGER (R501): CAP_CMD TRIGGER triggers a Running ring. -/
def execCapTrigger (init : Initiator) (ring : Nat) (s : State) : Host.Outcome State Fault Refusal :=
  .next (cmdWrite init W.CAP CAP_CMD (2 ^ 30 + ring % 8) s)

/-- CAP_RELEASE (R503): CAP_CMD RELEASE returns a Frozen ring to Running. -/
def execCapRelease (init : Initiator) (ring : Nat) (s : State) : Host.Outcome State Fault Refusal :=
  .next (cmdWrite init W.CAP CAP_CMD (2 ^ 31 + ring % 8) s)

/-- CAP_FREEZE (R502): CAP_CMD FREEZE freezes a ring at once. -/
def execCapFreeze (init : Initiator) (ring : Nat) (s : State) : Host.Outcome State Fault Refusal :=
  .next (cmdWrite init W.CAP CAP_CMD (3 * 2 ^ 30 + ring % 8) s)

/-- DIGEST_DONE (R504): The SHA-256 of a frozen ring completes. -/
def execDigestDone (ring : Nat) (ok : Bool) (s : State) : Host.Outcome State Fault Refusal :=
  .next (onOne 8 ring (doDigestDone ring ok) s)

/-- SNAP (R507): LDG_CMD SNAP copies live counts into the snapshot and zeroes them. -/
def execSnap (init : Initiator) (s : State) : Host.Outcome State Fault Refusal :=
  .next (cmdWrite init W.LDG LDG_CMD 1 s)

/-- LDG_RD_DATA_READ (R507): A read of LDG_RD_DATA returns a snapshot word and advances the offset. -/
def execLdgRdDataRead (init : Initiator) (s : State) : Host.Outcome State Fault Refusal :=
  .next (cmdRead init W.LDG LDG_RD_DATA s)

/-- LDG_EVT_POP (R508): A read of LDG_EVT_INFO returns and removes the oldest ledger event. -/
def execLdgEvtPop (init : Initiator) (s : State) : Host.Outcome State Fault Refusal :=
  .next (cmdRead init W.LDG LDG_EVT_INFO s)

/-- LEDGER_SECOND (R506): Each second LDG adds to the Tj, VCORE and state histograms. -/
def execLedgerSecond (tj : Int) (s : State) : Host.Outcome State Fault Refusal :=
  .next (onMain (doLedgerSecond tj) s)

end Sys2Proof.Machine
end

