-- ==== Sys2Proof/Machine/RowsDial.lean ====
section
/-! DEFINITION. The meanings of the rows of the Dials (chapter 06). -/
namespace Sys2Proof.Machine
open Reg

/-- DIAL_ROUND (R150): A Dial grants one round by slot ownership and background ranking. -/
def execDialRound (dial : Nat) (newReqs : List (Nat×Nat)) (ecc : Ecc) (s : State) : Host.Outcome State Fault Refusal :=
  .next (onOne 5 dial (doDialRound dial newReqs ecc) s)

/-- DIAL_FREEZE (R155): A write to DIAL_FREEZE stops or resumes grant computation. -/
def execDialFreeze (init : Initiator) (dial : Nat) (data : Word) (s : State) : Host.Outcome State Fault Refusal :=
  .next (cmdWrite init (diaWin dial) Reg.DIAL_FREEZE data.toNat s)

/-- DIAL_DRAINED (R155): The last access of a frozen Dial completes and DRAINED becomes 1. -/
def execDialDrained (dial : Nat) (s : State) : Host.Outcome State Fault Refusal :=
  .next (onOne 5 dial (doDialDrained dial) s)

/-- DIAL_DRAIN_STALL (R155): A frozen Dial has not drained within 10 µs. -/
def execDialDrainStall (dial : Nat) (s : State) : Host.Outcome State Fault Refusal :=
  .next (onOne 5 dial (doDialStall dial) s)

/-- DIAL_WAITCLR (R157): A write to DIAL_WAITCLR clears selected DIAL_WAITMAX entries. -/
def execDialWaitclr (init : Initiator) (dial : Nat) (data : Word) (s : State) : Host.Outcome State Fault Refusal :=
  .next (cmdWrite init (diaWin dial) Reg.DIAL_WAITCLR data.toNat s)

end Sys2Proof.Machine
end

