-- ==== Sys2Proof/Machine/RowsEthernet.lean ====
section
/-! DEFINITION. The meanings of the rows of Ethernet and the service port (chapter 13). -/
namespace Sys2Proof.Machine
open Reg

/-- RX_HEAD (R346): An EMC holds 64 bytes of a frame and parses, stamps and tags it. -/
def execRxHead (k : Nat) (time : Nat) (pre : Bool) (bytes : List Byte) (s : State) : Host.Outcome State Fault Refusal :=
  .next (onOne 20 k (doRxHead k time pre bytes) s)

/-- RX_END (R348): An Ethernet frame ends and the MAC judges FCS and length. -/
def execRxEnd (k : Nat) (pre : Bool) (rest : List Byte) (len : Nat) (fcsOk : Bool) (assy : Bool) (bad : List BadEntry) (s : State) : Host.Outcome State Fault Refusal :=
  .next (onOne 20 k (doRxEnd k pre rest len fcsOk assy bad) s)

/-- LINK_UP (R343): An Ethernet link comes up with its speed. -/
def execLinkUp (k : Nat) (speed : Nat) (full : Bool) (an : Bool) (s : State) : Host.Outcome State Fault Refusal :=
  .next (onOne 20 k (doLinkUp k speed full an) s)

/-- LINK_LOSS (R344): An Ethernet link goes down. -/
def execLinkLoss (k : Nat) (s : State) : Host.Outcome State Fault Refusal :=
  .next (onOne 20 k (doLinkLoss k) s)

/-- TX_SELECT (R353): An idle Ethernet egress selects the highest eligible class and transmits. -/
def execTxSelect (k : Nat) (time : Nat) (frags : Nat) (underrun : Bool) (bad : List BadEntry) (s : State) : Host.Outcome State Fault Refusal :=
  .next (onOne 20 k (doTxSelect k time frags underrun bad) s)

/-- GATE_INTERVAL_END (R355): A GCL interval ends and the next entry's gate states govern. -/
def execGateIntervalEnd (k : Nat) (s : State) : Host.Outcome State Fault Refusal :=
  .next (onOne 20 k (doGateIntervalEnd k) s)

/-- SCHEDULE_OPERATIONAL (R356): A pending gate schedule becomes operational at a cycle start. -/
def execScheduleOperational (k : Nat) (s : State) : Host.Outcome State Fault Refusal :=
  .next (onOne 20 k (doScheduleOperational k) s)

/-- VERIFY_SEND (R358): Every VERIFY_MS a verify mPacket is sent, failing after 3 attempts. -/
def execVerifySend (k : Nat) (s : State) : Host.Outcome State Fault Refusal :=
  .next (onOne 20 k (doVerifySend k) s)

/-- VERIFY_RESPONSE (R358): A respond mPacket makes verification succeed. -/
def execVerifyResponse (k : Nat) (s : State) : Host.Outcome State Fault Refusal :=
  .next (onOne 20 k (doVerifyResponse k) s)

/-- TSQ_POP (R361): A read of EMC_TSQ_INFO returns and removes the oldest timestamp entry. -/
def execTsqPop (init : Initiator) (k : Nat) (s : State) : Host.Outcome State Fault Refusal :=
  .next (cmdRead init (emcWin k) EMC_TSQ_INFO s)

/-- WAKE_CLR (R363): EMC_WAKE_CLR clears MATCHED. -/
def execWakeClr (init : Initiator) (k : Nat) (s : State) : Host.Outcome State Fault Refusal :=
  .next (cmdWrite init (emcWin k) EMC_WAKE_CLR 1 s)

/-- FRER_RESET (R364): RESET_MS passes without a pass and the stream takes any sequence. -/
def execFrerReset (stream : Nat) (s : State) : Host.Outcome State Fault Refusal :=
  .next (onMain (doFrerReset stream) s)

/-- EMC_WRITE (R352): EMC command that writes a flow map word or a FRER stream. -/
def execEmcWrite (init : Initiator) (data : Word) (bad : List BadEntry) (s : State) : Host.Outcome State Fault Refusal :=
  .next (cmdBad init W.EMC EMC_CMD (putBits data.toNat 15 14 1) bad s)

/-- EMC_READ (R364): EMC command that reads a map word, stream or stream counts. -/
def execEmcRead (init : Initiator) (data : Word) (bad : List BadEntry) (s : State) : Host.Outcome State Fault Refusal :=
  .next (cmdBad init W.EMC EMC_CMD (putBits data.toNat 15 14 2) bad s)

/-- EMC_CLEAR (R364): EMC command that zeroes stream counts. -/
def execEmcClear (init : Initiator) (data : Word) (bad : List BadEntry) (s : State) : Host.Outcome State Fault Refusal :=
  .next (cmdBad init W.EMC EMC_CMD (putBits data.toNat 15 14 3) bad s)

/-- SVP_RX_FRAME (R365): The service MAC receives a frame into its receive ring. -/
def execSvpRxFrame (bytes : List Byte) (fcsOk : Bool) (s : State) : Host.Outcome State Fault Refusal :=
  .next (onMain (doSvpRx bytes fcsOk) s)

/-- SVP_TX_POST (R365): The Crown advances the transmit HEAD and SVP sends the frames. -/
def execSvpTxPost (init : Initiator) (data : Word) (s : State) : Host.Outcome State Fault Refusal :=
  .next (cmdWrite init W.SVP SVP_TXPTR data.toNat s)

/-- PCS_ERROR (R367): The PCS of an Ethernet port detects a code or block error and raises PCS_ERROR. -/
def execPcsError (k : Nat) (s : State) : Host.Outcome State Fault Refusal :=
  .next (onOne 20 k (doPcsError k) s)

end Sys2Proof.Machine
end

