-- ==== Sys2Proof/Machine/RowsFabric.lean ====
section
/-! DEFINITION. The meanings of the rows of the fabric trains (chapter 04). -/
namespace Sys2Proof.Machine
open Reg

/-- FABRIC_ROUND (R96): A train completes a round: three iterations of request, grant and accept, then a crossbar transfer. -/
def execFabricRound (train : Nat) (stale : List (Nat × Nat × Nat)) (s : State) : Host.Outcome State Fault Refusal :=
  .next (onOne 3 train (doFabricRound train stale) s)

/-- CELL_ARRIVAL (R101): A cell arrives at an output resequencer and is held, released or discarded. -/
def execCellArrival (train : Nat) (out : Nat) (chkOk : Bool) (parityOk : Bool) (s : State) : Host.Outcome State Fault Refusal :=
  .next (onOne 3 train (doCellArrival train out chkOk parityOk) s)

/-- RESEQ_TIMEOUT (R103): A pair's timer reaches the resequencer timeout and the broken frame is discarded. -/
def execReseqTimeout (inp : Nat) (out : Nat) (s : State) : Host.Outcome State Fault Refusal :=
  .next (onOne 16 inp (fun s => if out < 16 then doReseqTimeout inp out s else s) s)

/-- TRAIN_FREEZE (R106): A write to FAB_TCTRL.FREEZE freezes a train or is refused when it is the last in service. -/
def execTrainFreeze (init : Initiator) (train : Nat) (data : Word) (s : State) : Host.Outcome State Fault Refusal :=
  .next (cmdWrite init (fabWin train) FAB_TCTRL data.toNat s)

/-- TRAIN_DRAINED (R106): The last committed cell of a frozen train arrives and DRAINED becomes 1. -/
def execTrainDrained (train : Nat) (s : State) : Host.Outcome State Fault Refusal :=
  .next (onOne 3 train (doTrainDrained train) s)

/-- TRAIN_DISABLE (R107): A guarded write of EN 0 freezes a train and removes it from service once drained. -/
def execTrainDisable (init : Initiator) (train : Nat) (s : State) : Host.Outcome State Fault Refusal :=
  .next (cmdGuard init (fabWin train) BLK_CTRL (clearMask (ctrlNow s (fabWin train)) 1) s)

/-- TRAIN_ENABLE (R109): A guarded write of EN 1 resets the pointers and returns the train to service. -/
def execTrainEnable (init : Initiator) (train : Nat) (s : State) : Host.Outcome State Fault Refusal :=
  .next (cmdGuard init (fabWin train) BLK_CTRL (ctrlNow s (fabWin train) ||| 1) s)

/-- TRN_DRAIN_STALL (R107): A frozen train has not drained within the resequencer timeout. -/
def execTrnDrainStall (train : Nat) (s : State) : Host.Outcome State Fault Refusal :=
  .next (onOne 3 train (doDrainStall train) s)

/-- BIST_START (R108): FAB_BIST.START begins the train BIST when it is out of service and drained. -/
def execBistStart (init : Initiator) (train : Nat) (s : State) : Host.Outcome State Fault Refusal :=
  .next (cmdWrite init (fabWin train) FAB_BIST 1 s)

/-- BIST_COMPLETE (R108): The train BIST ends with BIST_PASS or BIST_FAIL. -/
def execBistComplete (train : Nat) (pass : Bool) (loc : Word) (s : State) : Host.Outcome State Fault Refusal :=
  .next (onOne 3 train (doBistComplete train pass loc.toNat) s)

end Sys2Proof.Machine
end

