-- ==== Sys2Proof/Machine/RowsFault.lean ====
section
/-! DEFINITION. The meanings of the rows of fault sources (chapter 03). -/
namespace Sys2Proof.Machine
open Reg

/-- CONDITION_ARISES (R72): A fault source's condition arises and the source enters Faulted with its effective reaction. -/
def execConditionArises (win : Nat) (src : Nat) (loc : Nat) (level : Bool) (s : State) : Host.Outcome State Fault Refusal :=
  .next (onWin win (postCondition win src loc (if level then .levelOn else .event)) s)

/-- CONDITION_ENDS (R72): A Faulted source's condition ends; it enters Recovering and its quiet timer starts. -/
def execConditionEnds (win : Nat) (src : Nat) (s : State) : Host.Outcome State Fault Refusal :=
  .next (onWin win (postCondition win src 0 .levelOff) s)

/-- QUIET_TIMER_EXPIRY (R72): The quiet timer reaches FLT_QUIET.MS and the source returns to Normal, counting a recovery. -/
def execQuietTimerExpiry (win : Nat) (src : Nat) (s : State) : Host.Outcome State Fault Refusal :=
  .next (onWin win (quietExpire win src) s)

/-- FLT_RELEASE (R72): A write to FLT_RELEASE returns a Recovering source to Normal without counting a recovery. -/
def execFltRelease (init : Initiator) (win : Nat) (data : Word) (s : State) : Host.Outcome State Fault Refusal :=
  .next (cmdWrite init win Reg.FLT_RELEASE data.toNat s)

/-- FLT_STAT_CLEAR (R67): A W1C write clears FLT_STAT bits, which set again if the condition still holds. -/
def execFltStatClear (init : Initiator) (win : Nat) (data : Word) (s : State) : Host.Outcome State Fault Refusal :=
  .next (cmdWrite init win FLT_STAT data.toNat s)

/-- FLT_RECOV_CLR (R74): A write to FLT_RECOV_CLR clears the recovery count of a source. -/
def execFltRecovClr (init : Initiator) (win : Nat) (data : Word) (s : State) : Host.Outcome State Fault Refusal :=
  .next (cmdWrite init win Reg.FLT_RECOV_CLR data.toNat s)

/-- FLT_INJECT (R81): A write with GO injects a single or held condition, or ends a held one, when injection is permitted. -/
def execFltInject (init : Initiator) (win : Nat) (data : Word) (s : State) : Host.Outcome State Fault Refusal :=
  .next (cmdWrite init win Reg.FLT_INJECT data.toNat s)

/-- ERROR_N_HOLD_END (R79): The minimum hold of ERROR_N passes and the pin is released unless a cause holds. -/
def execErrorNHoldEnd (s : State) : Host.Outcome State Fault Refusal :=
  .next (onPackage (fun s => if mainRuns s || s.pwr.held then { s with errPin := { s.errPin with hold := false } } else s) s)

end Sys2Proof.Machine
end

