-- ==== Sys2Proof/Machine/RowsKeys.lean ====
section
/-! DEFINITION. The meanings of the rows of fuses, the key store, random numbers and the vault (chapter 18). -/
namespace Sys2Proof.Machine
open Reg

/-- FUSE_PROG_CROOT (R461): A guarded fuse program request writes CROOT_HASH once. -/
def execFuseProgCroot (init : Initiator) (data : Word) (s : State) : Host.Outcome State Fault Refusal :=
  .next (cmdGuard init W.JWL JWL_FUSE_PROG (putBits data.toNat 31 28 1) s)

/-- FUSE_PROG_EPOCH (R461): A guarded fuse program request adds COUNT bits to an epoch. -/
def execFuseProgEpoch (init : Initiator) (data : Word) (s : State) : Host.Outcome State Fault Refusal :=
  .next (cmdGuard init W.JWL JWL_FUSE_PROG (putBits data.toNat 31 28 2) s)

/-- LIFECYCLE_ADVANCE (R461): A guarded fuse program request sets a lifecycle bit. -/
def execLifecycleAdvance (init : Initiator) (data : Word) (s : State) : Host.Outcome State Fault Refusal :=
  .next (cmdGuard init W.JWL JWL_FUSE_PROG (putBits data.toNat 31 28 3) s)

/-- FUSE_PROG_DONE (R461): Fuse programming completes; a lifecycle advance resets the package. -/
def execFuseProgDone (ok : Bool) (x : StartInput) (s : State) : Host.Outcome State Fault Refusal :=
  .next (onMain (fun s => let r := doFuseProgDone ok s; if r.1 then doReset .cold 4 x r.2 else r.2) s)

/-- GENERATE (R465): JWL command that generates a key in a slot from the DRBG. -/
def execGenerate (init : Initiator) (data : Word) (bad : List BadEntry) (s : State) : Host.Outcome State Fault Refusal :=
  .next (cmdBad init W.JWL JWL_CMD (putBits data.toNat 31 28 1) bad s)

/-- IMPORT (R465): JWL command that unwraps a key into a slot. -/
def execImportKey (init : Initiator) (data : Word) (bad : List BadEntry) (s : State) : Host.Outcome State Fault Refusal :=
  .next (cmdBad init W.JWL JWL_CMD (putBits data.toNat 31 28 2) bad s)

/-- DERIVE (R465): JWL command that derives a key from a parent. -/
def execDerive (init : Initiator) (data : Word) (bad : List BadEntry) (s : State) : Host.Outcome State Fault Refusal :=
  .next (cmdBad init W.JWL JWL_CMD (putBits data.toNat 31 28 3) bad s)

/-- DELETE (R467): JWL command that empties a slot. -/
def execDeleteKey (init : Initiator) (data : Word) (bad : List BadEntry) (s : State) : Host.Outcome State Fault Refusal :=
  .next (cmdBad init W.JWL JWL_CMD (putBits data.toNat 31 28 4) bad s)

/-- INFO (R465): JWL command that returns a slot's attributes and public key. -/
def execInfo (init : Initiator) (data : Word) (bad : List BadEntry) (s : State) : Host.Outcome State Fault Refusal :=
  .next (cmdBad init W.JWL JWL_CMD (putBits data.toNat 31 28 5) bad s)

/-- SAVE (R465): JWL command that returns a blob of a slot. -/
def execSave (init : Initiator) (data : Word) (bad : List BadEntry) (s : State) : Host.Outcome State Fault Refusal :=
  .next (cmdBad init W.JWL JWL_CMD (putBits data.toNat 31 28 6) bad s)

/-- RESTORE (R467): JWL command that restores a slot from a blob. -/
def execRestore (init : Initiator) (data : Word) (bad : List BadEntry) (s : State) : Host.Outcome State Fault Refusal :=
  .next (cmdBad init W.JWL JWL_CMD (putBits data.toNat 31 28 7) bad s)

/-- ATTEST (R470): JWL command that signs an attestation statement for a handle. -/
def execAttest (init : Initiator) (data : Word) (bad : List BadEntry) (s : State) : Host.Outcome State Fault Refusal :=
  .next (cmdBad init W.JWL JWL_CMD (putBits data.toNat 31 28 8) bad s)

/-- SIGN (R465): JWL command that signs a digest with an ECDSA key. -/
def execSign (init : Initiator) (data : Word) (bad : List BadEntry) (s : State) : Host.Outcome State Fault Refusal :=
  .next (cmdBad init W.JWL JWL_CMD (putBits data.toNat 31 28 9) bad s)

/-- HMAC (R465): JWL command that computes an HMAC of a message. -/
def execHmac (init : Initiator) (data : Word) (bad : List BadEntry) (s : State) : Host.Outcome State Fault Refusal :=
  .next (cmdBad init W.JWL JWL_CMD (putBits data.toNat 31 28 10) bad s)

/-- REMASK (R468): A scheduled re-mask replaces one stored key's mask. -/
def execRemask (handle : Nat) (s : State) : Host.Outcome State Fault Refusal :=
  .next (onMain (doRemask handle) s)

/-- TRN_OUT_READ (R469): A non-speculative read of TRN_OUT returns 32 random bits. -/
def execTrnOutRead (init : Initiator) (s : State) : Host.Outcome State Fault Refusal :=
  .next (cmdRead init W.TRN TRN_OUT s)

/-- HEALTH_TEST_FAIL (R469): An entropy health test fails and ENTROPY_FAIL holds. -/
def execHealthTestFail (rct : Bool) (apt : Bool) (s : State) : Host.Outcome State Fault Refusal :=
  .next (onMain (doHealthFail rct apt) s)

/-- START_UP_TEST (R469): Every 10 ms while FAIL is 1 the DRBG runs a start-up test. -/
def execStartUpTest (pass : Bool) (s : State) : Host.Outcome State Fault Refusal :=
  .next (onMain (doStartUpTest pass) s)

/-- OPEN (R477): VLT command that finds the newest valid block and restores counters. -/
def execOpenVault (init : Initiator) (data : Word) (s : State) : Host.Outcome State Fault Refusal :=
  .next (cmdWrite init W.VLT VLT_CMD (putBits data.toNat 3 0 1) s)

/-- APPEND (R474): VLT command that places a record in the open block. -/
def execAppend (init : Initiator) (data : Word) (s : State) : Host.Outcome State Fault Refusal :=
  .next (cmdWrite init W.VLT VLT_CMD (putBits data.toNat 3 0 2) s)

/-- SEAL (R474): VLT command that seals the open block and writes it to NOR. -/
def execSeal (init : Initiator) (data : Word) (s : State) : Host.Outcome State Fault Refusal :=
  .next (cmdWrite init W.VLT VLT_CMD (putBits data.toNat 3 0 3) s)

/-- RAISE (R476): VLT command that raises a monotonic counter and seals at once. -/
def execRaise (init : Initiator) (data : Word) (s : State) : Host.Outcome State Fault Refusal :=
  .next (cmdWrite init W.VLT VLT_CMD (putBits data.toNat 3 0 4) s)

/-- TIME_SEAL (R474): SEAL_MS passes since the block's first record and the block is sealed. -/
def execTimeSeal (s : State) : Host.Outcome State Fault Refusal :=
  .next (onMain doTimeSeal s)

/-- BLOCK_WRITE_DONE (R474): A sealed block has been written and read back and BUSY clears. -/
def execBlockWriteDone (ok : Bool) (s : State) : Host.Outcome State Fault Refusal :=
  .next (onMain (doBlockWriteDone ok) s)

end Sys2Proof.Machine
end

