-- ==== Sys2Proof/Machine/RowsNm.lean ====
section
/-! DEFINITION. The meanings of the rows of network management and package power (chapter 15). -/
namespace Sys2Proof.Machine
open Reg

/-- NM_TIMEOUT (R388): NM_TIMEOUT expires in a unit. -/
def execNmTimeout (unit : Nat) (s : State) : Host.Outcome State Fault Refusal :=
  .next (onOne 40 unit (doNmTimeout unit) s)

/-- REPEAT_MSG_EXPIRY (R388): REPEAT_MSG expires and the unit goes to Normal-Operation or Ready-Sleep. -/
def execRepeatMsgExpiry (unit : Nat) (s : State) : Host.Outcome State Fault Refusal :=
  .next (onOne 40 unit (doRepeatMsgExpiry unit) s)

/-- WAIT_BUS_SLEEP_EXPIRY (R388): WAIT_BUS_SLEEP expires and the unit enters Bus-Sleep. -/
def execWaitBusSleepExpiry (unit : Nat) (s : State) : Host.Outcome State Fault Refusal :=
  .next (onOne 40 unit (doWaitBusSleep unit) s)

/-- NM_CYCLE (R389): NM_CYCLE passes and the unit sends an NM PDU. -/
def execNmCycle (unit : Nat) (s : State) : Host.Outcome State Fault Refusal :=
  .next (onOne 40 unit (doNmCycle unit) s)

/-- NETREQ_WRITE (R388): A write to NMU_NETREQ changes unit requests. -/
def execNetreqWrite (init : Initiator) (hi : Bool) (data : Word) (s : State) : Host.Outcome State Fault Refusal :=
  .next (cmdWrite init W.NMU (if hi then NMU_NETREQ_HI else NMU_NETREQ_LO) data.toNat s)

/-- NMU_RMR (R388): NMU_CMD RMR moves a unit to Repeat-Message with RMR. -/
def execNmuRmr (init : Initiator) (unit : Nat) (s : State) : Host.Outcome State Fault Refusal :=
  .next (cmdWrite init W.NMU NMU_CMD (2 ^ 30 + unit % 64) s)

/-- NMU_WAKE (R388): NMU_CMD WAKE is a wake event of a unit. -/
def execNmuWake (init : Initiator) (unit : Nat) (s : State) : Host.Outcome State Fault Refusal :=
  .next (cmdWrite init W.NMU NMU_CMD (2 ^ 31 + unit % 64) s)

/-- CLR_PRES (R393): NMU_CMD CLR_PRES clears a unit's presence bits. -/
def execClrPres (init : Initiator) (unit : Nat) (s : State) : Host.Outcome State Fault Refusal :=
  .next (cmdWrite init W.NMU NMU_CMD (3 * 2 ^ 30 + unit % 64) s)

/-- NM_WAKE_EVENT (R388): A shore reports a spring of a unit's bus to the NMU. -/
def execNmWakeEvent (unit : Nat) (s : State) : Host.Outcome State Fault Refusal :=
  .next (onOne 40 unit (doNmWakeEvent unit) s)

/-- DESCENT_END (R391): The bus interface has held its sleep state for 1 ms. -/
def execDescentEnd (unit : Nat) (s : State) : Host.Outcome State Fault Refusal :=
  .next (onOne 40 unit (doDescentEnd unit) s)

/-- PRESENCE_TIMEOUT (R393): A presence bit clears NM_TIMEOUT after its last PDU. -/
def execPresenceTimeout (unit : Nat) (node : Nat) (s : State) : Host.Outcome State Fault Refusal :=
  .next (onOne 40 unit (doPresenceTimeout unit node) s)

/-- PNRX_TIMEOUT (R394): A PN bit clears NM_TIMEOUT after its last PDU. -/
def execPnrxTimeout (unit : Nat) (k : Nat) (s : State) : Host.Outcome State Fault Refusal :=
  .next (onOne 40 unit (doPnrxTimeout unit k) s)

/-- PWR_RUN (R397): SYS_PWR_CMD TARGET 0x0 returns the package to Run. -/
def execPwrRun (init : Initiator) (s : State) : Host.Outcome State Fault Refusal :=
  .next (cmdGuard init W.SYS SYS_PWR_CMD 0 s)

/-- PWR_DOZE (R397): SYS_PWR_CMD TARGET 0x1 takes the package to Doze. -/
def execPwrDoze (init : Initiator) (s : State) : Host.Outcome State Fault Refusal :=
  .next (cmdGuard init W.SYS SYS_PWR_CMD 1 s)

/-- PWR_STANDBY (R398): SYS_PWR_CMD TARGET 0x2 checks for pending wakes and enters Standby or is refused. -/
def execPwrStandby (init : Initiator) (s : State) : Host.Outcome State Fault Refusal :=
  .next (cmdGuard init W.SYS SYS_PWR_CMD 2 s)

/-- STANDBY_READY (R398): The main die reports ready and the shores release STBY_OFF outputs. -/
def execStandbyReady (s : State) : Host.Outcome State Fault Refusal :=
  .next (onMain doStandbyReady s)

/-- SELF_REFRESH_ENTRY (R411): Once the DRAM Dial has no transfer, the memory enters self-refresh. -/
def execSelfRefreshEntry (s : State) : Host.Outcome State Fault Refusal :=
  .next (onMain doSelfRefresh s)

/-- POWER_OFF (R397): VBAT of both shores falls below the power-on threshold. -/
def execPowerOff (s : State) : Host.Outcome State Fault Refusal :=
  .next (onPackage doPowerOff s)

end Sys2Proof.Machine
end

