-- ==== Sys2Proof/Machine/RowsPace.lean ====
section
/-! DEFINITION. The meanings of the rows of the Balance (chapter 01). -/
namespace Sys2Proof.Machine
open Reg

/-- WINDOW_END (R23): A Balance measurement window ends; readings, BAL_MIN, thresholds and histogram update. -/
def execWindowEnd (readings : List Nat) (alert : Bool) (s : State) : Host.Outcome State Fault Refusal :=
  .next (onMain (doWindowEnd readings alert) s)

/-- LOOP_PERIOD (R26): The pace-regulation loop period expires and the loop may command a new VCORE. -/
def execLoopPeriod (alert : Bool) (s : State) : Host.Outcome State Fault Refusal :=
  .next (onMain (doLoopPeriod alert) s)

/-- PMBUS_TRANSACTION_END (R29): A PMBus VOUT_COMMAND completes; success updates LAST_MV, failure counts FAILS. -/
def execPmbusTransactionEnd (ok : Bool) (alert : Bool) (s : State) : Host.Outcome State Fault Refusal :=
  .next (onMain (doPmbusEnd ok alert) s)

/-- BAL_VSET_WRITE (R31): A write to BAL_VSET while the loop is off sends one clamped VOUT_COMMAND. -/
def execBalVsetWrite (init : Initiator) (data : Word) (s : State) : Host.Outcome State Fault Refusal :=
  .next (cmdWrite init W.BAL BAL_VSET data.toNat s)

/-- BAL_HIST_CLR (R25): A write to BAL_HIST_CLR clears all histogram counters. -/
def execBalHistClr (init : Initiator) (data : Word) (s : State) : Host.Outcome State Fault Refusal :=
  .next (cmdWrite init W.BAL Reg.BAL_HIST_CLR data.toNat s)

end Sys2Proof.Machine
end

