-- ==== Sys2Proof/Machine/RowsPolice.lean ====
section
/-! DEFINITION. The meanings of the rows of policing and cadence (chapter 08). -/
namespace Sys2Proof.Machine
open Reg

/-- CADENCE_SWEEP (R202): Every 100 µs the sweep visits Running and Missing cadence entries. -/
def execCadenceSweep (bad : List BadEntry) (s : State) : Host.Outcome State Fault Refusal :=
  .next (onMain (doCadenceSweep bad) s)

/-- POL_WRITE (R208): POL command that writes a policer, gate or GCL entry. -/
def execPolWrite (init : Initiator) (data : Word) (bad : List BadEntry) (s : State) : Host.Outcome State Fault Refusal :=
  .next (cmdBad init W.POL POL_CMD (putBits data.toNat 14 13 1) bad s)

/-- POL_READ (R199): POL command that reads an entry with its counts. -/
def execPolRead (init : Initiator) (data : Word) (bad : List BadEntry) (s : State) : Host.Outcome State Fault Refusal :=
  .next (cmdBad init W.POL POL_CMD (putBits data.toNat 14 13 2) bad s)

/-- POL_CLEAR (R208): POL command that clears the counts of an entry. -/
def execPolClear (init : Initiator) (data : Word) (bad : List BadEntry) (s : State) : Host.Outcome State Fault Refusal :=
  .next (cmdBad init W.POL POL_CMD (putBits data.toNat 14 13 3) bad s)

/-- GATE_CHANGE (R199): A pending gate configuration becomes operational at its first cycle start. -/
def execGateChange (gate : Nat) (s : State) : Host.Outcome State Fault Refusal :=
  .next (onMain (doGateChange gate) s)

/-- CDM_WRITE (R203): CDM command that writes a cadence entry and returns it to Unsynced. -/
def execCdmWrite (init : Initiator) (data : Word) (bad : List BadEntry) (s : State) : Host.Outcome State Fault Refusal :=
  .next (cmdBad init W.CDM CDM_CMD (putBits data.toNat 13 12 1) bad s)

/-- CDM_READ (R208): CDM command that reads a cadence entry with state and counts. -/
def execCdmRead (init : Initiator) (data : Word) (bad : List BadEntry) (s : State) : Host.Outcome State Fault Refusal :=
  .next (cmdBad init W.CDM CDM_CMD (putBits data.toNat 13 12 2) bad s)

/-- RESYNC (R203): CDM command that returns an entry to Unsynced and clears its counts. -/
def execResync (init : Initiator) (data : Word) (bad : List BadEntry) (s : State) : Host.Outcome State Fault Refusal :=
  .next (cmdBad init W.CDM CDM_CMD (putBits data.toNat 13 12 3) bad s)

end Sys2Proof.Machine
end

