-- ==== Sys2Proof/Machine/RowsPond.lean ====
section
/-! DEFINITION. The meanings of the rows of classification at the fabric inputs, the Pond and its ports (chapters 05, 07). -/
namespace Sys2Proof.Machine
open Reg

/-- FRAME_CLASSIFY (R161): A frame at its fabric input is classified, checked by POL and CDM and its destination resolved. -/
def execFrameClassify (fp : Nat) (bad : List BadEntry) (s : State) : Host.Outcome State Fault Refusal :=
  .next (onOne 16 fp (doClassify fp bad) s)

/-- FRAME_ADMISSION (R123): The Pond decides admission of a frame at its first cell. -/
def execFrameAdmission (fp : Nat) (s : State) : Host.Outcome State Fault Refusal :=
  .next (onOne 16 fp (doAdmission fp) s)

/-- INGRESS_CELL (R124): A further cell of an admitted frame arrives and is charged to a source. -/
def execIngressCell (fid : Nat) (bytes : List Byte) (errs : List CellErr) (s : State) : Host.Outcome State Fault Refusal :=
  .next (onMain (doCell fid bytes errs) s)

/-- ECC_WINDOW_END (R139): A QMG ECC window of MS milliseconds ends and the counts restart. -/
def execEccWindowEnd (s : State) : Host.Outcome State Fault Refusal :=
  .next (onMain doEccWindowEnd s)

/-- PORT_DOWN (R133): A logical port goes down; partial frames are discarded and queued copies flushed. -/
def execPortDown (port : Nat) (s : State) : Host.Outcome State Fault Refusal :=
  .next (onOne 64 port (doPortDown port) s)

/-- FLUSHING_END (R133): The flush of a down port completes and FLUSHING becomes 0. -/
def execFlushingEnd (port : Nat) (s : State) : Host.Outcome State Fault Refusal :=
  .next (onOne 64 port (doFlushingEnd port) s)

/-- PORT_CAUSE_CLEARS (R135): The down cause of a port clears and UP_WAIT becomes 1. -/
def execPortCauseClears (port : Nat) (s : State) : Host.Outcome State Fault Refusal :=
  .next (onOne 64 port (doPortCauseClears port) s)

/-- PORT_UP (R135): The hold time passes with the flush done and the port comes up. -/
def execPortUp (port : Nat) (s : State) : Host.Outcome State Fault Refusal :=
  .next (onOne 64 port (doPortUp port) s)

/-- CT_STALL (R136): A cut-through copy waits longer than STALL_US and is ended with a bad FCS. -/
def execCtStall (fid : Nat) (port : Nat) (s : State) : Host.Outcome State Fault Refusal :=
  .next (onOne 64 port (doCtStall fid port) s)

/-- INLET_STALL (R137): No word of an Inlet frame arrives for IN_STALL_US and the frame is discarded. -/
def execInletStall (inlet : Nat) (s : State) : Host.Outcome State Fault Refusal :=
  .next (onOne 64 inlet (doInletStall inlet) s)

/-- RX_STALL (R138): No cell of a partly received store-and-forward frame arrives for IN_STALL_US. -/
def execRxStall (fid : Nat) (s : State) : Host.Outcome State Fault Refusal :=
  .next (onMain (doRxStall fid) s)

/-- MIGRATE_START (R140): QMG_MIGRATE.START begins copying a draining logical bank to a spare, or is refused. -/
def execMigrateStart (init : Initiator) (data : Word) (s : State) : Host.Outcome State Fault Refusal :=
  .next (cmdWrite init W.QMG QMG_MIGRATE data.toNat s)

/-- MIGRATION_COPY_DONE (R140): The copy completes and the Pond freezes the bank's Dial. -/
def execMigrationCopyDone (poisoned : List (Nat × CellErr)) (s : State) : Host.Outcome State Fault Refusal :=
  .next (onMain (doMigrationCopyDone poisoned) s)

/-- MIGRATION_REMAP (R140): Once the Dial has drained, the bank map points at the spare and the old bank is retired. -/
def execMigrationRemap (s : State) : Host.Outcome State Fault Refusal :=
  .next (onMain doMigrationRemap s)

/-- CLRPEAK (R121): QMG_QSEL.CLRPEAK resets the peak occupancy of the selected queue. -/
def execClrpeak (init : Initiator) (queue : Nat) (s : State) : Host.Outcome State Fault Refusal :=
  .next (cmdWrite init W.QMG QMG_QSEL (2 ^ 31 + queue % 512) s)

end Sys2Proof.Machine
end

