-- ==== Sys2Proof/Machine/RowsService.lean ====
section
/-! DEFINITION. The meanings of the rows of memories, interrupt routers, Outlets and Inlets (chapter 16). -/
namespace Sys2Proof.Machine
open Reg

/-- DMC_TRAIN_START (R409): DMC_TRAIN.START initialises and trains the memory. -/
def execDmcTrainStart (init : Initiator) (s : State) : Host.Outcome State Fault Refusal :=
  .next (cmdWrite init W.DMC DMC_TRAIN 1 s)

/-- TRAINING_COMPLETE (R409): Training ends with DONE and INIT or with FAIL. -/
def execTrainingComplete (ok : Bool) (chan : Nat) (lane : Nat) (s : State) : Host.Outcome State Fault Refusal :=
  .next (onMain (doTrainingComplete ok chan lane) s)

/-- DMC_RESTORE (R410): DMC_TRAIN.RESTORE brings the memory out of self-refresh with kept results. -/
def execDmcRestore (init : Initiator) (s : State) : Host.Outcome State Fault Refusal :=
  .next (cmdWrite init W.DMC DMC_TRAIN 2 s)

/-- SR_ENTER (R411): DMC_SR.ENTER places the memory in self-refresh. -/
def execSrEnter (init : Initiator) (s : State) : Host.Outcome State Fault Refusal :=
  .next (cmdWrite init W.DMC DMC_SR 1 s)

/-- SR_EXIT (R411): DMC_SR.EXIT brings the memory out of self-refresh. -/
def execSrExit (init : Initiator) (s : State) : Host.Outcome State Fault Refusal :=
  .next (cmdWrite init W.DMC DMC_SR 2 s)

/-- MR_ACCESS (R412): DMC_MR.GO runs a mode-register access. -/
def execMrAccess (init : Initiator) (data : Word) (ecc : Ecc) (s : State) : Host.Outcome State Fault Refusal :=
  .next (onPackage (regWrite init W.DMC DMC_MR data.toNat { Aux.plain with ecc := ecc }) s)

/-- WINDOW_READ (R413): A read of the xSPI window fetches a 64-byte block from the flash. -/
def execWindowRead (init : Initiator) (addr : Nat) (size : Nat) (s : State) : Host.Outcome State Fault Refusal :=
  .next (onPackage (access ⟨init, addr, size, false, false, 0⟩ Aux.plain) s)

/-- XSP_COMMAND (R415): XSP_CMD.GO performs one flash transaction. -/
def execXspCommand (init : Initiator) (data : Word) (answer : List Byte) (changes : List (Nat×List Byte)) (s : State) : Host.Outcome State Fault Refusal :=
  .next (onPackage (regWrite init W.XSP XSP_CMD data.toNat { Aux.plain with answer := some answer, changes := changes }) s)

/-- POLL_READY (R416): The flash status reaches READY and the poll ends. -/
def execPollReady (s : State) : Host.Outcome State Fault Refusal :=
  .next (onMain pollDone s)

/-- POLL_TIMEOUT (R416): The poll exceeds TIMEOUT_MS; waiting window reads end with bus errors. -/
def execPollTimeout (s : State) : Host.Outcome State Fault Refusal :=
  .next (onMain pollTimeout s)

/-- DS_TIMEOUT (R417): The flash does not answer with XSPI_DS within 1 µs. -/
def execDsTimeout (init : Initiator) (addr : Nat) (size : Nat) (s : State) : Host.Outcome State Fault Refusal :=
  .next (onMain (flashSilent ⟨init, addr, size, false, false, 0⟩) s)

/-- IRT_CLAIM (R420): A non-speculative read of IRT_CLAIM claims the offered input. -/
def execIrtClaim (init : Initiator) (router : Nat) (target : Nat) (s : State) : Host.Outcome State Fault Refusal :=
  .next (cmdRead init (irtWin router) (Reg.IRT_CLAIM + 0x10 * (target % 4)) s)

/-- IRT_COMPLETE (R420): A write to IRT_COMPLETE releases a claim. -/
def execIrtComplete (init : Initiator) (router : Nat) (target : Nat) (data : Word) (s : State) : Host.Outcome State Fault Refusal :=
  .next (cmdWrite init (irtWin router) (Reg.IRT_COMPLETE + 0x10 * (target % 4)) data.toNat s)

/-- NMI_POP (R421): A read of IRT_NMI_POP removes the oldest NMI entry and reports LOST. -/
def execNmiPop (init : Initiator) (router : Nat) (target : Nat) (s : State) : Host.Outcome State Fault Refusal :=
  .next (cmdRead init (irtWin router) (IRT_NMI_POP + 0x10 * (target % 4)) s)

/-- NMI_IN (R421): A falling edge on NMI_IN_N held 1 µs queues NMI number 1408. -/
def execNmiIn (s : State) : Host.Outcome State Fault Refusal :=
  .next (onMain (deliverNmi 1408) s)

/-- IRT_SWI_WRITE (R419): A write to IRT_SWI drives software interrupt inputs. -/
def execIrtSwiWrite (init : Initiator) (data : Word) (s : State) : Host.Outcome State Fault Refusal :=
  .next (cmdWrite init W.IRTM IRT_SWI data.toNat s)

/-- OUTLET_MOVE (R422): CQ moves a frame from port 60's egress queues into its Outlet. -/
def execOutletMove (s : State) : Host.Outcome State Fault Refusal :=
  .next (onMain doOutletMove s)

/-- OUT_POP (R423): A read of OUT_POP returns and removes the next Outlet word. -/
def execOutPop (init : Initiator) (outlet : Nat) (s : State) : Host.Outcome State Fault Refusal :=
  .next (onPackage (access ⟨init, addrFor init W.CQ (Reg.OUT_POP + 0x20 * (outlet % 64)), 64, false, false, 0⟩ Aux.plain) s)

/-- OUT_DROP (R425): A write to OUT_DROP discards the rest of the current or next frame. -/
def execOutDrop (init : Initiator) (outlet : Nat) (s : State) : Host.Outcome State Fault Refusal :=
  .next (cmdWrite init W.CQ (Reg.OUT_POP + 0x10 + 0x20 * (outlet % 64)) 1 s)

/-- OUTLET_AGE (R426): The oldest frame waits longer than AGE and the notice level rises. -/
def execOutletAge (outlet : Nat) (s : State) : Host.Outcome State Fault Refusal :=
  .next (onOne 64 outlet (doOutletAge outlet) s)

/-- IN_PUSH (R427): A write to IN_PUSH stages one Inlet word. -/
def execInPush (init : Initiator) (inlet : Nat) (data : DWord) (s : State) : Host.Outcome State Fault Refusal :=
  .next (onPackage (access ⟨init, addrFor init W.CQ (Reg.IN_PUSH + 0x20 * (inlet % 64)), 64, true, false, data⟩ Aux.plain) s)

/-- DMC_RESTORE_DONE (R410): Within 1 ms of RESTORE the memory has left self-refresh with the kept training results and INIT becomes 1. -/
def execDmcRestoreDone (s : State) : Host.Outcome State Fault Refusal :=
  .next (onMain doRestoreDone s)

end Sys2Proof.Machine
end

