-- ==== Sys2Proof/Machine/RowsShore.lean ====
section
/-! DEFINITION. The meanings of the rows of the shore dies and their links (chapter 12). -/
namespace Sys2Proof.Machine
open Reg

/-- TXD_DOM (R316): TXD held dominant past the time-out switches the transmitter off. -/
def execTxdDom (chan : Nat) (s : State) : Host.Outcome State Fault Refusal :=
  .next (onTrx chan (doTxdDom chan true) s)

/-- OVERTEMP (R316): Shore Tj passes the shutdown threshold and every transmitter switches off. -/
def execOvertemp (shore : Nat) (s : State) : Host.Outcome State Fault Refusal :=
  .next (onShore shore (doOvertemp shore true) s)

/-- SHORE_POWER_ON (R303): A shore's VBAT rises above the power-on threshold and it leaves power-on reset, recording spring 0x08. -/
def execShorePowerOn (shore : Nat) (s : State) : Host.Outcome State Fault Refusal :=
  .next (onShorePackage shore (doShorePowerOn shore) s)

/-- SHORE_POWER_ON_RESET (R536): A shore's VBAT falls below the power-on threshold and the shore resets. -/
def execShorePowerOnReset (shore : Nat) (s : State) : Host.Outcome State Fault Refusal :=
  .next (onShorePackage shore (doShorePor shore) s)

/-- LANE_FAIL (R305): A shore-link lane is removed after a training or CRC failure. -/
def execLaneFail (shore : Nat) (lane : Nat) (s : State) : Host.Outcome State Fault Refusal :=
  .next (onOne 2 shore (doLaneFail shore lane) s)

/-- SHORE_LINK_RETRAIN (R305): Every 10 ms the bridge retrains a down shore link. -/
def execShoreLinkRetrain (shore : Nat) (lanes : Nat) (s : State) : Host.Outcome State Fault Refusal :=
  .next (onOne 2 shore (doRetrain shore lanes) s)

/-- FLIT_RETRY (R304): A flit whose CRC fails is sent again. -/
def execFlitRetry (shore : Nat) (s : State) : Host.Outcome State Fault Refusal :=
  .next (onOne 2 shore (shoreMessage shore (fun s => s.count (shbWin shore) SHB_RETRY)) s)

/-- SHORE_HEARTBEAT (R304): Every 100 µs the main die sends a heartbeat to the shore. -/
def execShoreHeartbeat (shore : Nat) (s : State) : Host.Outcome State Fault Refusal :=
  .next (onOne 2 shore (doHeartbeat shore) s)

/-- RESET_NOTICE (R304): The main die signals reset to the shores, which reset WIN_ACCESS and locked bytes or go Limp. -/
def execResetNotice (shore : Nat) (chip : Bool) (s : State) : Host.Outcome State Fault Refusal :=
  .next (onShore shore (doResetNotice shore chip) s)

/-- PIN_ASSERT (R304): A shore control message drives ERROR_N low. -/
def execPinAssert (shore : Nat) (s : State) : Host.Outcome State Fault Refusal :=
  .next (onOne 2 shore (shoreMessage shore (shorePin shore true)) s)

/-- PIN_RELEASE (R304): A shore control message releases its hold on ERROR_N. -/
def execPinRelease (shore : Nat) (s : State) : Host.Outcome State Fault Refusal :=
  .next (onOne 2 shore (shoreMessage shore (shorePin shore false)) s)

/-- BRST_REPORT (R304): A shore reports a block-reset reaction, written to SYS_FLT_BRST. -/
def execBrstReport (shore : Nat) (win : Nat) (src : Nat) (loc : Nat) (s : State) : Host.Outcome State Fault Refusal :=
  .next (onOne 2 shore (shoreMessage shore (brstReport (srcBase win + src) loc)) s)

/-- CRST_REQUEST (R304): A shore requests a chip reset. -/
def execCrstRequest (shore : Nat) (win : Nat) (src : Nat) (loc : Nat) (x : StartInput) (s : State) : Host.Outcome State Fault Refusal :=
  .next (onOne 2 shore (shoreMessage shore (crstReset (srcBase win + src) loc x)) s)

/-- TIME_ALIGNMENT (R376): Every PERIOD_US an alignment message loads the shore time and ADDEND. -/
def execTimeAlignment (shore : Nat) (s : State) : Host.Outcome State Fault Refusal :=
  .next (onOne 2 shore (doTimeAlignment shore) s)

/-- REGISTER_REQUEST (R309): A shore bridge forwards a register request with a deadline. -/
def execRegisterRequest (init : Initiator) (addr : Nat) (size : Nat) (write : Bool) (spec : Bool) (data : DWord) (s : State) : Host.Outcome State Fault Refusal :=
  .next (onPackage (shoreRequest ⟨init, addr, size, write, spec, data⟩) s)

/-- SHORE_RESPONSE (R309): A shore register response reaches the bridge. -/
def execShoreResponse (shore : Nat) (init : Initiator) (late : Bool) (s : State) : Host.Outcome State Fault Refusal :=
  .next (onOne 2 shore (shoreResponse shore init late) s)

/-- SHB_TIMEOUT (R309): A request has no response after 50 µs and ends with a bus error. -/
def execShbTimeout (shore : Nat) (init : Initiator) (s : State) : Host.Outcome State Fault Refusal :=
  .next (onOne 2 shore (shoreTimeout shore init) s)

/-- INTERRUPT_POLL (R311): Every INTERVAL_US the bridge polls shore INT levels and latched NMIs. -/
def execInterruptPoll (shore : Nat) (s : State) : Host.Outcome State Fault Refusal :=
  .next (onOne 2 shore (doInterruptPoll shore) s)

/-- S2S_DOWN (R307): The shore-to-shore link goes down. -/
def execS2sDown (lane : Bool) (s : State) : Host.Outcome State Fault Refusal :=
  .next (onPackage (doS2sDown lane) s)

/-- TRX_STATE_CHANGE (R314): A transceiver's chosen state changes. -/
def execTrxStateChange (chan : Nat) (s : State) : Host.Outcome State Fault Refusal :=
  .next (onTrx chan (doTrxStateChange chan) s)

/-- TRX_RESUME_DONE (R315): A change to Normal or Listen-only completes and ARMED clears. -/
def execTrxResumeDone (chan : Nat) (s : State) : Host.Outcome State Fault Refusal :=
  .next (onTrx chan (doTrxResumeDone chan) s)

/-- WAKE_UP_PATTERN (R317): A transceiver detects the ISO wake-up pattern. -/
def execWakeUpPattern (chan : Nat) (s : State) : Host.Outcome State Fault Refusal :=
  .next (onTrx chan (doWakeUpPattern chan) s)

/-- WAKE_UP_FRAME (R318): A decoded frame matches a wake-up filter. -/
def execWakeUpFrame (chan : Nat) (frm : CanFrame) (s : State) : Host.Outcome State Fault Refusal :=
  .next (onTrx chan (doWakeUpFrame chan frm) s)

/-- DECODE_ERROR (R319): A decode error increments DEC_ERR. -/
def execDecodeError (chan : Nat) (s : State) : Host.Outcome State Fault Refusal :=
  .next (onTrx chan (doDecodeError chan) s)

/-- WAKE_PIN (R321): A WAKE pin holds its new level for the filter time. -/
def execWakePin (shore : Nat) (pin : Nat) (level : Bool) (s : State) : Host.Outcome State Fault Refusal :=
  .next (onShore shore (doWakePin shore pin level) s)

/-- SHORE_TIMER (R323): The shore timer reaches SECONDS and raises spring 0x07. -/
def execShoreTimer (shore : Nat) (s : State) : Host.Outcome State Fault Refusal :=
  .next (onShore shore (doShoreTimer shore) s)

/-- SOFT_WAKE (R320): SWK_CMD.SOFT_WAKE raises spring 0x09. -/
def execSoftWake (init : Initiator) (shore : Nat) (s : State) : Host.Outcome State Fault Refusal :=
  .next (cmdWrite init (swkWin shore) SWK_CMD 1 s)

/-- SWK_CLR (R399): SWK_CMD.CLR clears WAKE_REASON and SEEN. -/
def execSwkClr (init : Initiator) (shore : Nat) (s : State) : Host.Outcome State Fault Refusal :=
  .next (cmdWrite init (swkWin shore) SWK_CMD 2 s)

/-- PARTNER_WAKE (R322): A partner wake over the shore-to-shore link records spring 0x0A. -/
def execPartnerWake (shore : Nat) (s : State) : Host.Outcome State Fault Refusal :=
  .next (onShore shore (doPartnerWake shore) s)

/-- T1S_BUS_ACTIVITY (R338): Bus activity of at least MIN_BURST_US on a sleeping segment is spring 0x05. -/
def execT1sBusActivity (seg : Nat) (us : Nat) (s : State) : Host.Outcome State Fault Refusal :=
  .next (onSeg seg (doT1sActivity seg us) s)

/-- INH_RELEASE_COMMAND (R324): A guarded clear of SPS BLK_CTRL.EN starts the INH release. -/
def execInhReleaseCommand (init : Initiator) (shore : Nat) (s : State) : Host.Outcome State Fault Refusal :=
  .next (cmdGuard init (spsWin shore) BLK_CTRL (clearMask (ctrlNow s (spsWin shore)) 1) s)

/-- INH_RELEASE (R324): 2 ms after the clear the shore releases its FOLLOW outputs. -/
def execInhRelease (shore : Nat) (mainOff : Bool) (s : State) : Host.Outcome State Fault Refusal :=
  .next (onShore shore (doInhReleaseRow shore mainOff) s)

/-- INH_OC (R324): An INH output reaches its current limit. -/
def execInhOc (shore : Nat) (out : Nat) (s : State) : Host.Outcome State Fault Refusal :=
  .next (onShoreOne shore 2 out (doInhOc shore out true) s)

/-- INH_MIN_OFF_END (R400): A released INH output has been off for 20 ms and may be driven again. -/
def execInhMinOffEnd (shore : Nat) (out : Nat) (s : State) : Host.Outcome State Fault Refusal :=
  .next (onShoreOne shore 2 out (doInhMinOffEnd shore out) s)

/-- VBAT_SAMPLE (R325): Every 1 ms SPS samples VBAT and judges under- and overvoltage. -/
def execVbatSample (shore : Nat) (mv : Nat) (s : State) : Host.Outcome State Fault Refusal :=
  .next (onShore shore (doVbatSample shore mv) s)

/-- VBAT_CLR (R325): SPS_VBAT_CLR resets MIN_MV to MV. -/
def execVbatClr (init : Initiator) (shore : Nat) (s : State) : Host.Outcome State Fault Refusal :=
  .next (cmdWrite init (spsWin shore) SPS_VBAT_CLR 1 s)

/-- VCC5_UV (R532): VCC5 falls below its threshold and transmitters stay off. -/
def execVcc5Uv (shore : Nat) (s : State) : Host.Outcome State Fault Refusal :=
  .next (onShore shore (doVcc5 shore true) s)

/-- CLOCK_LOSS (R531): No clock arrives from Shore A and Shore B holds itself in power-on reset. -/
def execClockLoss (s : State) : Host.Outcome State Fault Refusal :=
  .next (onPackage doClockLoss s)

/-- CLOCK_RETURN (R531): The clock returns and Shore B leaves reset, recording spring 0x08. -/
def execClockReturn (s : State) : Host.Outcome State Fault Refusal :=
  .next (onPackage doClockReturn s)

/-- SHC_LOAD (R327): SHC_CTRL.LOAD resets the shore controller image load address. -/
def execShcLoad (init : Initiator) (shore : Nat) (data : Word) (s : State) : Host.Outcome State Fault Refusal :=
  .next (cmdWrite init (shcWin shore) SHC_CTRL (data.toNat ||| 2) s)

/-- SHC_MEM_DATA (R327): An access to SHC_MEM_DATA stores or reads a word and advances the address. -/
def execShcMemData (init : Initiator) (shore : Nat) (write : Bool) (data : Word) (s : State) : Host.Outcome State Fault Refusal :=
  .next (if write then cmdWrite init (shcWin shore) Reg.SHC_MEM_DATA data.toNat s else cmdRead init (shcWin shore) Reg.SHC_MEM_DATA s)

/-- SHC_RUN (R327): Setting RUN checks the image CRC and starts the core. -/
def execShcRun (init : Initiator) (shore : Nat) (data : Word) (s : State) : Host.Outcome State Fault Refusal :=
  .next (cmdWrite init (shcWin shore) SHC_CTRL (data.toNat ||| 1) s)

/-- SHC_WDT_KICK (R330): A write to SHC_WDT_KICK restarts the shore watchdog. -/
def execShcWdtKick (init : Initiator) (shore : Nat) (s : State) : Host.Outcome State Fault Refusal :=
  .next (cmdWrite init (shcWin shore) Reg.SHC_WDT_KICK 1 s)

/-- WDT_EXPIRED (R330): The shore watchdog expires and the core restarts. -/
def execWdtExpired (shore : Nat) (s : State) : Host.Outcome State Fault Refusal :=
  .next (onShore shore (doWdtExpired shore) s)

/-- SHC_ECC_UNCORR (R330): An uncorrectable SRAM error on fetch or load holds the core in reset. -/
def execShcEccUncorr (shore : Nat) (s : State) : Host.Outcome State Fault Refusal :=
  .next (onShore shore (doShcEcc shore) s)

/-- MBOX_IN_DOORBELL (R329): A write to SHC_MBOX_IN_DB signals a message to the shore controller. -/
def execMboxInDoorbell (init : Initiator) (shore : Nat) (data : Word) (s : State) : Host.Outcome State Fault Refusal :=
  .next (cmdWrite init (shcWin shore) SHC_MBOX_IN_DB data.toNat s)

/-- MBOX_OUT_DOORBELL (R329): The shore controller sets SHC_MBOX_OUT_DB and raises MBOX_OUT. -/
def execMboxOutDoorbell (shore : Nat) (s : State) : Host.Outcome State Fault Refusal :=
  .next (cmdWrite (if shore = 0 then .shcA else .shcB) (shcWin shore) SHC_MBOX_OUT_DB 1 s)

/-- MBOX_OUT_CLEAR (R329): Main-side firmware clears SHC_MBOX_OUT_DB. -/
def execMboxOutClear (init : Initiator) (shore : Nat) (s : State) : Host.Outcome State Fault Refusal :=
  .next (cmdWrite init (shcWin shore) SHC_MBOX_OUT_DB 1 s)

/-- RELAY_S2S_RX (R333): A relay frame arrives from the partner shore and is queued. -/
def execRelayS2sRx (shore : Nat) (s : State) : Host.Outcome State Fault Refusal :=
  .next (onShore shore (doRelayS2sRx shore) s)

/-- HANDOVER (R334): SRL_CMD.HANDOVER fixes the takeover instant. -/
def execHandover (init : Initiator) (shore : Nat) (s : State) : Host.Outcome State Fault Refusal :=
  .next (cmdWrite init (srlWin shore) SRL_CMD 2 s)

/-- TAKEOVER_INSTANT (R334): The takeover instant passes and the relay enters Run. -/
def execTakeoverInstant (shore : Nat) (s : State) : Host.Outcome State Fault Refusal :=
  .next (onShore shore (doTakeoverInstant shore) s)

/-- LIMP (R331): SRL_CMD.LIMP is a limp condition that moves the relay from Run. -/
def execLimp (init : Initiator) (shore : Nat) (s : State) : Host.Outcome State Fault Refusal :=
  .next (cmdWrite init (srlWin shore) SRL_CMD 1 s)

/-- OFF (R331): SRL_CMD.OFF moves the relay to Off. -/
def execOff (init : Initiator) (shore : Nat) (s : State) : Host.Outcome State Fault Refusal :=
  .next (cmdWrite init (srlWin shore) SRL_CMD 4 s)

/-- HEARTBEAT_LOSS (R331): No heartbeat arrives for LIMP_MS and the limp condition arises. -/
def execHeartbeatLoss (shore : Nat) (s : State) : Host.Outcome State Fault Refusal :=
  .next (onShore shore (doHeartbeatLoss shore) s)

/-- SRL_WRITE (R336): SRL_ECMD WRITE stores a relay entry and clears its spacing history. -/
def execSrlWrite (init : Initiator) (shore : Nat) (data : Word) (bad : List BadEntry) (s : State) : Host.Outcome State Fault Refusal :=
  .next (cmdBad init (srlWin shore) SRL_ECMD (putBits data.toNat 15 14 1) bad s)

/-- SRL_READ (R336): SRL_ECMD READ returns a relay entry with its counts. -/
def execSrlRead (init : Initiator) (shore : Nat) (data : Word) (bad : List BadEntry) (s : State) : Host.Outcome State Fault Refusal :=
  .next (cmdBad init (srlWin shore) SRL_ECMD (putBits data.toNat 15 14 2) bad s)

/-- SRL_CLEAR (R336): SRL_ECMD CLEAR zeroes a relay entry's counts. -/
def execSrlClear (init : Initiator) (shore : Nat) (data : Word) (bad : List BadEntry) (s : State) : Host.Outcome State Fault Refusal :=
  .next (cmdBad init (srlWin shore) SRL_ECMD (putBits data.toNat 15 14 3) bad s)

/-- PLCA_LOST (R339): No BEACON is seen for 4 cycles. -/
def execPlcaLost (seg : Nat) (s : State) : Host.Outcome State Fault Refusal :=
  .next (onSeg seg (doPlcaLost seg) s)

/-- JABBER (R339): The T1L cuts a transmission under the jabber rule. -/
def execJabber (seg : Nat) (on : Bool) (s : State) : Host.Outcome State Fault Refusal :=
  .next (onSeg seg (doJabber seg on) s)

/-- S2S_LINK_UP (R307): The shore-to-shore link trains, S2S_DOWN ends, and Shore A passes TWIN_ROLE to Shore B. -/
def execS2sLinkUp (s : State) : Host.Outcome State Fault Refusal :=
  .next (onPackage doS2sUp s)

/-- BEACON_SEEN (R339): A T1L sees or sends a PLCA BEACON, STATUS becomes 1 and PLCA_LOST ends. -/
def execBeaconSeen (seg : Nat) (s : State) : Host.Outcome State Fault Refusal :=
  .next (onSeg seg (doBeaconSeen seg) s)

/-- OVERTEMP_END (R316): The shore Tj falls back below the shutdown threshold less hysteresis, OVERTEMP ends and the transmitters return. -/
def execOvertempEnd (shore : Nat) (s : State) : Host.Outcome State Fault Refusal :=
  .next (onShore shore (doOvertemp shore false) s)

/-- TXD_RECESSIVE (R316): TXD goes recessive after a dominant time-out, the transmitter returns and TXD_DOM ends. -/
def execTxdRecessive (chan : Nat) (s : State) : Host.Outcome State Fault Refusal :=
  .next (onTrx chan (doTxdDom chan false) s)

/-- VCC5_UV_END (R532): VCC5 of a shore rises above its rising undervoltage threshold and the transmitters and line drivers may drive again. -/
def execVcc5UvEnd (shore : Nat) (s : State) : Host.Outcome State Fault Refusal :=
  .next (onShore shore (doVcc5 shore false) s)

/-- INH_OC_END (R324): An INH output leaves its current limit and the level source INH_OC ends. -/
def execInhOcEnd (shore : Nat) (out : Nat) (s : State) : Host.Outcome State Fault Refusal :=
  .next (onShoreOne shore 2 out (doInhOc shore out false) s)

/-- FRAME_DECODED (R319): In Standby a frame that matches no filter is decoded without error and DEC_ERR decrements. -/
def execFrameDecoded (chan : Nat) (s : State) : Host.Outcome State Fault Refusal :=
  .next (onTrx chan (doFrameDecoded chan) s)

end Sys2Proof.Machine
end

