-- ==== Sys2Proof/Machine/RowsSignal.lean ====
section
/-! DEFINITION. The meanings of the rows of the signal and authentication engines (chapters 09, 10). -/
namespace Sys2Proof.Machine
open Reg

/-- SGE_TAKE (R215): The signal engine takes one frame from its egress queues and handles it by its PDU definition. -/
def execSgeTake (cls : Nat) (bad : List BadEntry) (s : State) : Host.Outcome State Fault Refusal :=
  .next (onMain (doSgeTake cls bad) s)

/-- SRC_TIMEOUT (R227): A SIGNALS definition times out and may substitute values. -/
def execSrcTimeout (defn : Nat) (bad : List BadEntry) (s : State) : Host.Outcome State Fault Refusal :=
  .next (onMain (doSrcTimeout defn bad) s)

/-- CYCLIC_EMISSION (R230): A cyclic or mixed buffer emits at its due tick. -/
def execCyclicEmission (buf : Nat) (bad : List BadEntry) (s : State) : Host.Outcome State Fault Refusal :=
  .next (onMain (doCyclicEmission buf bad) s)

/-- PENDING_EMISSION (R229): A deferred on-update emission becomes due after MIN_GAP and leaves. -/
def execPendingEmission (buf : Nat) (bad : List BadEntry) (s : State) : Host.Outcome State Fault Refusal :=
  .next (onMain (doPendingEmission buf bad) s)

/-- BUNDLE_DEADLINE (R244): An open bundle's DEADLINE_US passes and it is emitted. -/
def execBundleDeadline (stream : Nat) (bad : List BadEntry) (s : State) : Host.Outcome State Fault Refusal :=
  .next (onMain (doBundleDeadline stream bad) s)

/-- TP_RX_TIMEOUT (R234): T1, T2 or T3 of a receive session expires and the session is aborted. -/
def execTpRxTimeout (sid : Nat) (s : State) : Host.Outcome State Fault Refusal :=
  .next (onMain (doTpRxTimeout sid) s)

/-- TP_TX_TIMEOUT (R238): T3 or T4 of a transmit session expires and an abort is sent. -/
def execTpTxTimeout (sid : Nat) (s : State) : Host.Outcome State Fault Refusal :=
  .next (onMain (doTpTxTimeout sid) s)

/-- BAM_GAP (R238): BAM_GAP_MS passes and the next BAM data packet is sent. -/
def execBamGap (sid : Nat) (s : State) : Host.Outcome State Fault Refusal :=
  .next (onMain (doBamGap sid) s)

/-- UC_LOAD (R247): SGE_UC_CTRL.LOAD resets the microcode load address. -/
def execUcLoad (init : Initiator) (data : Word) (s : State) : Host.Outcome State Fault Refusal :=
  .next (cmdWrite init W.SGE SGE_UC_CTRL (data.toNat ||| 2) s)

/-- UC_DATA (R247): A write to SGE_UC_DATA stores the next image word. -/
def execUcData (init : Initiator) (data : Word) (s : State) : Host.Outcome State Fault Refusal :=
  .next (cmdWrite init W.SGE SGE_UC_DATA data.toNat s)

/-- UC_RUN (R247): SGE_UC_CTRL.RUN checks word count and CRC and starts the engine. -/
def execUcRun (init : Initiator) (data : Word) (s : State) : Host.Outcome State Fault Refusal :=
  .next (cmdWrite init W.SGE SGE_UC_CTRL (data.toNat ||| 1) s)

/-- SGE_WRITE (R249): SGE command that writes a table entry to the shadow or buffer data. -/
def execSgeWrite (init : Initiator) (data : Word) (s : State) : Host.Outcome State Fault Refusal :=
  .next (cmdWrite init W.SGE SGE_CMD (putBits data.toNat 16 15 1) s)

/-- SGE_READ (R249): SGE command that reads a table entry. -/
def execSgeRead (init : Initiator) (data : Word) (bad : List BadEntry) (s : State) : Host.Outcome State Fault Refusal :=
  .next (cmdBad init W.SGE SGE_CMD (putBits data.toNat 16 15 2) bad s)

/-- SGE_CLEAR (R249): SGE command that empties a claim entry. -/
def execSgeClear (init : Initiator) (data : Word) (s : State) : Host.Outcome State Fault Refusal :=
  .next (cmdWrite init W.SGE SGE_CMD (putBits data.toNat 16 15 3) s)

/-- AUE_TAKE (R254): The authentication engine takes one PDU frame under its freshness entry. -/
def execAueTake (cls : Nat) (bad : List BadEntry) (s : State) : Host.Outcome State Fault Refusal :=
  .next (onMain (doAueTake cls bad) s)

/-- AUE_WRITE (R260): AUE command that writes a freshness, SecY, SC or SA entry. -/
def execAueWrite (init : Initiator) (data : Word) (bad : List BadEntry) (s : State) : Host.Outcome State Fault Refusal :=
  .next (cmdBad init W.AUE AUE_CMD (putBits data.toNat 16 15 1) bad s)

/-- AUE_READ (R269): AUE command that reads an entry or SecY counters. -/
def execAueRead (init : Initiator) (data : Word) (bad : List BadEntry) (s : State) : Host.Outcome State Fault Refusal :=
  .next (cmdBad init W.AUE AUE_CMD (putBits data.toNat 16 15 2) bad s)

/-- AUE_CLEAR (R269): AUE command that clears counts. -/
def execAueClear (init : Initiator) (data : Word) (bad : List BadEntry) (s : State) : Host.Outcome State Fault Refusal :=
  .next (cmdBad init W.AUE AUE_CMD (putBits data.toNat 16 15 3) bad s)

end Sys2Proof.Machine
end

