-- ==== Sys2Proof/Machine/RowsStart.lean ====
section
/-! DEFINITION. The meanings of the rows of resets, starts and Unnov (chapter 17). -/
namespace Sys2Proof.Machine
open Reg

/-- PORST_N_RELEASE (R434): PORST_N rises and a cold or wake start begins. -/
def execPorstNRelease (x : StartInput) (s : State) : Host.Outcome State Fault Refusal :=
  .next (onPackage (doPorstRelease x) s)

/-- PORST_N_ASSERT (R539): PORST_N falls and the main die enters reset. -/
def execPorstNAssert (s : State) : Host.Outcome State Fault Refusal :=
  .next (onPackage holdMain s)

/-- WRST_N (R432): WRST_N low starts a warm reset with reason 0x02. -/
def execWrstN (x : StartInput) (s : State) : Host.Outcome State Fault Refusal :=
  .next (onPackage (doWarm 2 x) s)

/-- LOCKSTEP_MISMATCH (R432): The Crown lockstep pair mismatches and the package takes a warm reset. -/
def execLockstepMismatch (x : StartInput) (s : State) : Host.Outcome State Fault Refusal :=
  .next (onPackage (doWarm 6 x) s)

/-- UNDERVOLTAGE (R539): VCORE or VSER falls below its threshold and the main die is held in reset. -/
def execUndervoltage (s : State) : Host.Outcome State Fault Refusal :=
  .next (onPackage holdMain s)

/-- UNDERVOLTAGE_RELEASE (R539): The rails recover and a warm or wake start follows. -/
def execUndervoltageRelease (x : StartInput) (s : State) : Host.Outcome State Fault Refusal :=
  .next (onPackage (doUvRelease x) s)

/-- RESET_WARM (R457): A guarded SYS_RST_CMD with TYPE warm resets the package. -/
def execResetWarm (init : Initiator) (x : StartInput) (s : State) : Host.Outcome State Fault Refusal :=
  .next (cmdStart init W.SYS SYS_RST_CMD 1 x s)

/-- RESET_COLD (R457): A guarded SYS_RST_CMD with TYPE cold resets the package. -/
def execResetCold (init : Initiator) (x : StartInput) (s : State) : Host.Outcome State Fault Refusal :=
  .next (cmdStart init W.SYS SYS_RST_CMD 2 x s)

/-- WATCHDOG_EXPIRY (R457): The Crown watchdog expires and the package takes a warm reset. -/
def execWatchdogExpiry (x : StartInput) (s : State) : Host.Outcome State Fault Refusal :=
  .next (onMain (doCrownExpiry x) s)

/-- WDT_WARN (R457): Half the watchdog timeout passes without a kick. -/
def execWdtWarn (s : State) : Host.Outcome State Fault Refusal :=
  .next (onMain doWdtWarn s)

/-- CRN_WDT_KICK (R457): A write to CRN_WDT_KICK restarts the Crown watchdog. -/
def execCrnWdtKick (init : Initiator) (s : State) : Host.Outcome State Fault Refusal :=
  .next (cmdWrite init W.CRN Reg.CRN_WDT_KICK 1 s)

/-- CRN_WDT_ENABLE (R457): A write of EN 1 with a timeout enables the Crown watchdog. -/
def execCrnWdtEnable (init : Initiator) (data : Word) (s : State) : Host.Outcome State Fault Refusal :=
  .next (cmdWrite init W.CRN CRN_WDT (data.toNat ||| 2 ^ 31) s)

/-- MOV_RUN (R457): A 0-to-1 change in CRN_MOV_RUN starts a Movement core. -/
def execMovRun (init : Initiator) (data : Word) (s : State) : Host.Outcome State Fault Refusal :=
  .next (cmdWrite init W.CRN CRN_MOV_RUN data.toNat s)

/-- HELLO (R452): Unnov HELLO opens key exchange and the device answers signed. -/
def execHello (host : Nat) (msg : List Byte) (s : State) : Host.Outcome State Fault Refusal :=
  .next (onUnnov (doHello host msg) s)

/-- PROVE (R452): Unnov PROVE authenticates the client and opens the session. -/
def execProve (host : Nat) (msg : List Byte) (s : State) : Host.Outcome State Fault Refusal :=
  .next (onUnnov (doProve host msg) s)

/-- STATUS (R454): Unnov STATUS returns per-type install and version state. -/
def execStatus (host : Nat) (msg : List Byte) (s : State) : Host.Outcome State Fault Refusal :=
  .next (onUnnov (doUnStatus host msg) s)

/-- STAGE_BEGIN (R455): Unnov STAGE_BEGIN checks a header and writes it to the Reservoir slot. -/
def execStageBegin (host : Nat) (msg : List Byte) (s : State) : Host.Outcome State Fault Refusal :=
  .next (onUnnov (doStageBegin host msg) s)

/-- STAGE_BLOCK (R455): Unnov STAGE_BLOCK writes one block of image data. -/
def execStageBlock (host : Nat) (msg : List Byte) (s : State) : Host.Outcome State Fault Refusal :=
  .next (onUnnov (doStageBlock host msg) s)

/-- STAGE_END (R455): Unnov STAGE_END checks the digest and sets STATE 0x1. -/
def execStageEnd (host : Nat) (msg : List Byte) (s : State) : Host.Outcome State Fault Refusal :=
  .next (onUnnov (doStageEnd host msg) s)

/-- COMMIT (R448): Unnov COMMIT raises the version counter and fuse epoch of an installed image. -/
def execCommit (host : Nat) (msg : List Byte) (s : State) : Host.Outcome State Fault Refusal :=
  .next (onUnnov (doCommit host msg) s)

/-- ROLLBACK (R455): Unnov ROLLBACK sets STATE 0x6 for the next start. -/
def execRollback (host : Nat) (msg : List Byte) (s : State) : Host.Outcome State Fault Refusal :=
  .next (onUnnov (doRollback host msg) s)

/-- RESTART (R454): Unnov RESTART schedules a warm or cold reset. -/
def execRestart (host : Nat) (msg : List Byte) (s : State) : Host.Outcome State Fault Refusal :=
  .next (onUnnov (doRestart host msg) s)

/-- RESTART_RESET (R454): 100 ms after the RESTART answer the reset follows. -/
def execRestartReset (x : StartInput) (s : State) : Host.Outcome State Fault Refusal :=
  .next (onUnnov (doRestartReset x) s)

/-- LEDGER_READ (R510): Unnov LEDGER_READ returns ledger image bytes. -/
def execLedgerRead (host : Nat) (msg : List Byte) (s : State) : Host.Outcome State Fault Refusal :=
  .next (onUnnov (doLedgerRead host msg) s)

/-- VAULT_EXPORT (R454): Unnov VAULT_EXPORT returns part of a vault block. -/
def execVaultExport (host : Nat) (msg : List Byte) (s : State) : Host.Outcome State Fault Refusal :=
  .next (onUnnov (doVaultExport host msg) s)

/-- UNNOV_ATTEST (R470): Unnov ATTEST returns a signed attestation statement. -/
def execUnnovAttest (host : Nat) (msg : List Byte) (s : State) : Host.Outcome State Fault Refusal :=
  .next (onUnnov (doUnAttest host msg) s)

/-- BYE (R453): Unnov BYE ends the session. -/
def execBye (host : Nat) (msg : List Byte) (s : State) : Host.Outcome State Fault Refusal :=
  .next (onUnnov (doBye host msg) s)

/-- SESSION_TIMEOUT (R453): 30 s pass without a valid request and the session ends. -/
def execSessionTimeout (s : State) : Host.Outcome State Fault Refusal :=
  .next (onUnnov doSessionTimeout s)

end Sys2Proof.Machine
end

