-- ==== Sys2Proof/Machine/RowsTables.lean ====
section
/-! DEFINITION. The meanings of the rows of the address tables (chapter 07). -/
namespace Sys2Proof.Machine
open Reg

/-- LOOKUP (R166): EMT command that finds a key and returns its slot address and action. -/
def execLookup (init : Initiator) (bad : List BadEntry) (s : State) : Host.Outcome State Fault Refusal :=
  .next (cmdBad init W.EMT EMT_CMD 1 bad s)

/-- PLAN_INSERT (R167): EMT command that searches a placement chain for a new entry and reserves its buckets. -/
def execPlanInsert (init : Initiator) (bad : List BadEntry) (s : State) : Host.Outcome State Fault Refusal :=
  .next (cmdBad init W.EMT EMT_CMD 2 bad s)

/-- RESERVE_MODIFY (R168): EMT command that finds a key and reserves its bucket for a modify. -/
def execReserveModify (init : Initiator) (bad : List BadEntry) (s : State) : Host.Outcome State Fault Refusal :=
  .next (cmdBad init W.EMT EMT_CMD 3 bad s)

/-- RESERVE_DELETE (R168): EMT command that finds a key and reserves its bucket for a delete. -/
def execReserveDelete (init : Initiator) (bad : List BadEntry) (s : State) : Host.Outcome State Fault Refusal :=
  .next (cmdBad init W.EMT EMT_CMD 4 bad s)

/-- PLAN_REHOME (R167): EMT command that searches a table slot for a stash entry. -/
def execPlanRehome (init : Initiator) (stash : Nat) (bad : List BadEntry) (s : State) : Host.Outcome State Fault Refusal :=
  .next (cmdBad init W.EMT EMT_CMD (5 + stash % 64 * 2 ^ 8) bad s)

/-- EXEC (R169): EMT command that applies the held reservation and releases it. -/
def execExecResv (init : Initiator) (bad : List BadEntry) (s : State) : Host.Outcome State Fault Refusal :=
  .next (cmdBad init W.EMT EMT_CMD 6 bad s)

/-- ABORT (R171): EMT command that releases the held reservation without change. -/
def execAbortResv (init : Initiator) (s : State) : Host.Outcome State Fault Refusal :=
  .next (cmdWrite init W.EMT EMT_CMD 7 s)

/-- FLUSH (R166): EMT command that begins deleting learned entries for a port or all. -/
def execFlush (init : Initiator) (port : Nat) (all : Bool) (s : State) : Host.Outcome State Fault Refusal :=
  .next (cmdWrite init W.EMT EMT_CMD (8 + port % 256 * 2 ^ 16 + b2n all * 2 ^ 24) s)

/-- FLUSH_DONE (R172): An EMT flush walk completes and BUSY becomes 0. -/
def execFlushDone (s : State) : Host.Outcome State Fault Refusal :=
  .next (onMain doFlushDone s)

/-- RSV_EXPIRED (R171): A reservation reaches TIMEOUT_MS and expires. -/
def execRsvExpired (s : State) : Host.Outcome State Fault Refusal :=
  .next (onMain doRsvExpired s)

/-- LEARN (R181): The command engine carries out a queued learn, placing a learned entry. -/
def execLearn (s : State) : Host.Outcome State Fault Refusal :=
  .next (onMain (doLearnItem .learn) s)

/-- REFRESH (R181): The command engine carries out a refresh, setting AGE to 3. -/
def execRefresh (s : State) : Host.Outcome State Fault Refusal :=
  .next (onMain (doLearnItem .refresh) s)

/-- MOVE (R181): The command engine carries out a move, changing DEST to the new port. -/
def execMoveEntry (s : State) : Host.Outcome State Fault Refusal :=
  .next (onMain (doLearnItem .move) s)

/-- AGING_SWEEP (R182): Every PERIOD_S seconds the sweep ages or deletes learned entries. -/
def execAgingSweep (s : State) : Host.Outcome State Fault Refusal :=
  .next (onMain doAgingSweep s)

/-- PORT_FLUSH (R183): When the command engine is free, a flush runs for a port that went down with FLUSH_ON_DOWN. -/
def execPortFlush (s : State) : Host.Outcome State Fault Refusal :=
  .next (onMain doPortFlush s)

/-- SCRUB_VISIT (R186): The scrubber compares one bucket of the EMT with its DRAM shadow. -/
def execScrubVisit (changed : Bool) (shadowBad : Bool) (bad : List BadEntry) (s : State) : Host.Outcome State Fault Refusal :=
  .next (onMain (doScrubVisit changed shadowBad bad) s)

/-- WCT_WRITE (R173): WCT_CMD.WRITE stores the staged value, mask and action of one entry. -/
def execWctWrite (init : Initiator) (s : State) : Host.Outcome State Fault Refusal :=
  .next (cmdWrite init W.WCT WCT_CMD 1 s)

/-- WCT_READ (R173): WCT_CMD.READ loads an entry and its hit count into the staging registers. -/
def execWctRead (init : Initiator) (s : State) : Host.Outcome State Fault Refusal :=
  .next (cmdWrite init W.WCT WCT_CMD 2 s)

/-- CLRHITS (R173): WCT_CMD.CLRHITS clears the hit count of an entry. -/
def execClrhits (init : Initiator) (s : State) : Host.Outcome State Fault Refusal :=
  .next (cmdWrite init W.WCT WCT_CMD 4 s)

/-- PSET_WRITE (R179): CLS_PSET_CMD.WRITE stores the staged 64 bits of one port-set entry. -/
def execPsetWrite (init : Initiator) (s : State) : Host.Outcome State Fault Refusal :=
  .next (cmdWrite init W.CLS CLS_PSET_CMD 1 s)

/-- PSET_READ (R179): CLS_PSET_CMD.READ loads one port-set entry into the staging registers. -/
def execPsetRead (init : Initiator) (s : State) : Host.Outcome State Fault Refusal :=
  .next (cmdWrite init W.CLS CLS_PSET_CMD 2 s)

end Sys2Proof.Machine
end

