-- ==== Sys2Proof/Machine/RowsTime.lean ====
section
/-! DEFINITION. The meanings of the rows of the Regulator (chapter 14). -/
namespace Sys2Proof.Machine
open Reg

/-- DEVICE_TIME_TICK (R368): At each 500 MHz tick the Regulator adds ADDEND and slew to device and vault time. -/
def execDeviceTimeTick (ticks : Nat) (s : State) : Host.Outcome State Fault Refusal :=
  .next (onPackage (passTicks ticks) s)

/-- ADDEND_WRITE (R369): A write to TMS_ADDEND_HI forms the new ADDEND, clamped to 1,000 ppm. -/
def execAddendWrite (init : Initiator) (data : Word) (s : State) : Host.Outcome State Fault Refusal :=
  .next (cmdWrite init W.TMS TMS_ADDEND_HI data.toNat s)

/-- SLEW (R371): A write to TMS_SLEW starts a slew. -/
def execSlew (init : Initiator) (data : Word) (s : State) : Host.Outcome State Fault Refusal :=
  .next (cmdWrite init W.TMS TMS_SLEW data.toNat s)

/-- STEP (R372): TMS_CMD.STEP requests a step of the device time. -/
def execStep (init : Initiator) (s : State) : Host.Outcome State Fault Refusal :=
  .next (cmdWrite init W.TMS TMS_CMD 1 s)

/-- STEP_APPLY (R372): The step applies at the next tick, adjusts VOFFSET and is reported. -/
def execStepApply (s : State) : Host.Outcome State Fault Refusal :=
  .next (onMain stepNow s)

/-- KICK (R379): TMS_CMD.KICK restarts the holdover timer or ends holdover. -/
def execKick (init : Initiator) (s : State) : Host.Outcome State Fault Refusal :=
  .next (cmdWrite init W.TMS TMS_CMD 2 s)

/-- VBASE_WRITE (R374): A guarded write to TMS_VBASE_HI steps the vault time forward. -/
def execVbaseWrite (init : Initiator) (data : Word) (s : State) : Host.Outcome State Fault Refusal :=
  .next (cmdGuard init W.TMS TMS_VBASE_HI data.toNat s)

/-- HOLDOVER (R379): HOLD_MS passes without a kick and holdover begins. -/
def execHoldover (s : State) : Host.Outcome State Fault Refusal :=
  .next (onMain doHoldover s)

/-- HOLD_LIMIT (R379): The holdover estimate reaches HOLD_LIMIT_NS. -/
def execHoldLimit (s : State) : Host.Outcome State Fault Refusal :=
  .next (onMain doHoldLimit s)

/-- REFERENCE_TRIGGER (R380): A scheduled trigger instant arrives for a CAN channel. -/
def execReferenceTrigger (chan : Nat) (s : State) : Host.Outcome State Fault Refusal :=
  .next (onOne 32 chan (doReferenceTrigger chan) s)

end Sys2Proof.Machine
end

