-- ==== Sys2Proof/Machine/RowsTwin.lean ====
section
/-! DEFINITION. The meanings of the rows of the twin link (chapter 19). -/
namespace Sys2Proof.Machine
open Reg

/-- FENCE_EDGE (R482): An edge on TWIN_FENCE_IN is judged as ALIVE, STBY or DEAD. -/
def execFenceEdge (halfNs : Nat) (s : State) : Host.Outcome State Fault Refusal :=
  .next (onMain (doFenceEdge halfNs) s)

/-- FENCE_DEAD_TIMEOUT (R482): No fence edge for 110 µs reads DEAD. -/
def execFenceDeadTimeout (s : State) : Host.Outcome State Fault Refusal :=
  .next (onMain doFenceTimeout s)

/-- LEAD_ACTIVE (R485): A Lead's fence has not read ALIVE for 250 µs and it becomes Active. -/
def execLeadActive (s : State) : Host.Outcome State Fault Refusal :=
  .next (onMain doLeadActive s)

/-- HEARTBEAT_MISS (R486): A 1 ms interval ends without a heartbeat and MISSES increments. -/
def execHeartbeatMiss (s : State) : Host.Outcome State Fault Refusal :=
  .next (onMain doHeartbeatMiss s)

/-- TAKEOVER (R486): A Mate takes over and releases its gates. -/
def execTakeover (s : State) : Host.Outcome State Fault Refusal :=
  .next (onMain doTakeover s)

/-- YIELD (R487): A guarded TWL_CMD YIELD sets YIELDED and enters Standby. -/
def execYield (init : Initiator) (s : State) : Host.Outcome State Fault Refusal :=
  .next (cmdGuard init W.TWL TWL_CMD 1 s)

/-- CLAIM (R487): A guarded TWL_CMD CLAIM clears YIELDED. -/
def execClaim (init : Initiator) (s : State) : Host.Outcome State Fault Refusal :=
  .next (cmdGuard init W.TWL TWL_CMD 2 s)

/-- YIELD_EVENT (R488): An Active Mate reads ALIVE for 250 µs and yields. -/
def execYieldEvent (s : State) : Host.Outcome State Fault Refusal :=
  .next (onMain doYieldEvent s)

/-- TWIN_HEARTBEAT_SEND (R489): Every 1 ms TWL sends a HEARTBEAT. -/
def execTwinHeartbeatSend (s : State) : Host.Outcome State Fault Refusal :=
  .next (onMain doTwinHeartbeatSend s)

/-- HEARTBEAT (R489): A HEARTBEAT message arrives and TWL_TOFFSET is computed. -/
def execHeartbeat (msg : List Byte) (s : State) : Host.Outcome State Fault Refusal :=
  .next (onMain (twinMessage 1 msg doHeartbeatRx) s)

/-- TWIN_LINK_RETRAIN (R489): Every 10 ms a down twin link retrains. -/
def execTwinLinkRetrain (lanes : Nat) (delay : Nat) (s : State) : Host.Outcome State Fault Refusal :=
  .next (onMain (doTwinRetrain lanes delay) s)

/-- FRAME (R491): A FRAME message enters FP9 with its tag rewritten. -/
def execFrame (msg : List Byte) (s : State) : Host.Outcome State Fault Refusal :=
  .next (onMain (twinMessage 4 msg doTwinFrame) s)

/-- LEARN_DELTA (R492): A LEARN_DELTA places an item in the local learning queue. -/
def execLearnDelta (msg : List Byte) (s : State) : Host.Outcome State Fault Refusal :=
  .next (onMain (twinMessage 2 msg doLearnDelta) s)

/-- NM_DELTA (R492): An NM_DELTA updates the partner's NETREQ and NM states. -/
def execNmDelta (msg : List Byte) (s : State) : Host.Outcome State Fault Refusal :=
  .next (onMain (twinMessage 3 msg doNmDelta) s)

/-- BRIDGE_WRITE (R493): A write to TWL_BR_DATA performs one remote write. -/
def execBridgeWrite (init : Initiator) (data : Word) (s : State) : Host.Outcome State Fault Refusal :=
  .next (cmdWrite init W.TWL (TWL_BR_DATA + 0x10 * init.code) data.toNat s)

/-- BRIDGE_READ (R493): A non-speculative read of TWL_BR_DATA performs one remote read. -/
def execBridgeRead (init : Initiator) (s : State) : Host.Outcome State Fault Refusal :=
  .next (cmdRead init W.TWL (TWL_BR_DATA + 0x10 * init.code) s)

/-- BR_READ (R494): The target engine serves a remote read request. -/
def execBrRead (msg : List Byte) (late : Bool) (ecc : Ecc) (s : State) : Host.Outcome State Fault Refusal :=
  .next (onMain (twinMessage 5 msg (serveRemote false late ecc)) s)

/-- BR_WRITE (R494): The target engine serves a remote write request. -/
def execBrWrite (msg : List Byte) (late : Bool) (ecc : Ecc) (s : State) : Host.Outcome State Fault Refusal :=
  .next (onMain (twinMessage 6 msg (serveRemote true late ecc)) s)

/-- BR_RESP (R495): A remote response completes the local bridge access. -/
def execBrResp (init : Initiator) (msg : List Byte) (late : Bool) (s : State) : Host.Outcome State Fault Refusal :=
  .next (onMain (twinMessage 7 msg (doBrResp init late)) s)

/-- BR_TIMEOUT (R495): No response within 100 µs ends the access with a bus error. -/
def execBrTimeout (init : Initiator) (s : State) : Host.Outcome State Fault Refusal :=
  .next (onMain (doBrTimeout init) s)

/-- TWIN_LINK_DOWN (R489): The twin link loses block lock on its last lane in service, or one lane fails and the link runs on the other, and port 52 goes down. -/
def execTwinLinkDown (s : State) : Host.Outcome State Fault Refusal :=
  .next (onMain doTwinLinkDown s)

/-- TWIN_MESSAGE_RESEND (R489): A twin-link message whose CRC fails is sent again and counted in TWL_RETRY. -/
def execTwinMessageResend (s : State) : Host.Outcome State Fault Refusal :=
  .next (onMain doTwinResend s)

end Sys2Proof.Machine
end

