-- ==== Sys2Proof/Machine/Dispatch.lean ====
section
/-! DEFINITION. The meaning of every command, one arm per constructor of `Instr`. -/
namespace Sys2Proof.Machine

def exec (i : Instr) (s : State) : Host.Outcome State Fault Refusal :=
  match i with
  | .registerWrite init addr size data ecc => Sys2Proof.Machine.execRegisterWrite init addr size data ecc s
  | .speculativeRead init addr size ecc => Sys2Proof.Machine.execSpeculativeRead init addr size ecc s
  | .counterLoRead init addr size ecc => Sys2Proof.Machine.execCounterLoRead init addr size ecc s
  | .counterHiRead init addr => Sys2Proof.Machine.execCounterHiRead init addr s
  | .icxLogPop init => Sys2Proof.Machine.execIcxLogPop init s
  | .strobe init win revert => Sys2Proof.Machine.execStrobe init win revert s
  | .revert init win => Sys2Proof.Machine.execRevert init win s
  | .updateApply win alert => Sys2Proof.Machine.execUpdateApply win alert s
  | .sharedUpdate init data => Sys2Proof.Machine.execSharedUpdate init data s
  | .updPauseExpired => Sys2Proof.Machine.execUpdPauseExpired s
  | .blockReset init win => Sys2Proof.Machine.execBlockReset init win s
  | .blockResetEnd win => Sys2Proof.Machine.execBlockResetEnd win s
  | .blockEnable init win => Sys2Proof.Machine.execBlockEnable init win s
  | .blockDisable init win => Sys2Proof.Machine.execBlockDisable init win s
  | .guardArm init win off value => Sys2Proof.Machine.execGuardArm init win off value s
  | .twinWrite init win off data => Sys2Proof.Machine.execTwinWrite init win off data s
  | .aliasSet init win off data => Sys2Proof.Machine.execAliasSet init win off data s
  | .aliasClear init win off data => Sys2Proof.Machine.execAliasClear init win off data s
  | .aliasToggle init win off data => Sys2Proof.Machine.execAliasToggle init win off data s
  | .conditionArises win src loc level => Sys2Proof.Machine.execConditionArises win src loc level s
  | .conditionEnds win src => Sys2Proof.Machine.execConditionEnds win src s
  | .quietTimerExpiry win src => Sys2Proof.Machine.execQuietTimerExpiry win src s
  | .fltRelease init win data => Sys2Proof.Machine.execFltRelease init win data s
  | .fltStatClear init win data => Sys2Proof.Machine.execFltStatClear init win data s
  | .fltRecovClr init win data => Sys2Proof.Machine.execFltRecovClr init win data s
  | .fltInject init win data => Sys2Proof.Machine.execFltInject init win data s
  | .errorNHoldEnd => Sys2Proof.Machine.execErrorNHoldEnd s
  | .windowEnd readings alert => Sys2Proof.Machine.execWindowEnd readings alert s
  | .loopPeriod alert => Sys2Proof.Machine.execLoopPeriod alert s
  | .pmbusTransactionEnd ok alert => Sys2Proof.Machine.execPmbusTransactionEnd ok alert s
  | .balVsetWrite init data => Sys2Proof.Machine.execBalVsetWrite init data s
  | .balHistClr init data => Sys2Proof.Machine.execBalHistClr init data s
  | .fabricRound train stale => Sys2Proof.Machine.execFabricRound train stale s
  | .cellArrival train out chkOk parityOk => Sys2Proof.Machine.execCellArrival train out chkOk parityOk s
  | .reseqTimeout inp out => Sys2Proof.Machine.execReseqTimeout inp out s
  | .trainFreeze init train data => Sys2Proof.Machine.execTrainFreeze init train data s
  | .trainDrained train => Sys2Proof.Machine.execTrainDrained train s
  | .trainDisable init train => Sys2Proof.Machine.execTrainDisable init train s
  | .trainEnable init train => Sys2Proof.Machine.execTrainEnable init train s
  | .trnDrainStall train => Sys2Proof.Machine.execTrnDrainStall train s
  | .bistStart init train => Sys2Proof.Machine.execBistStart init train s
  | .bistComplete train pass loc => Sys2Proof.Machine.execBistComplete train pass loc s
  | .frameClassify fp bad => Sys2Proof.Machine.execFrameClassify fp bad s
  | .frameAdmission fp => Sys2Proof.Machine.execFrameAdmission fp s
  | .ingressCell fid bytes errs => Sys2Proof.Machine.execIngressCell fid bytes errs s
  | .eccWindowEnd => Sys2Proof.Machine.execEccWindowEnd s
  | .portDown port => Sys2Proof.Machine.execPortDown port s
  | .flushingEnd port => Sys2Proof.Machine.execFlushingEnd port s
  | .portCauseClears port => Sys2Proof.Machine.execPortCauseClears port s
  | .portUp port => Sys2Proof.Machine.execPortUp port s
  | .ctStall fid port => Sys2Proof.Machine.execCtStall fid port s
  | .inletStall inlet => Sys2Proof.Machine.execInletStall inlet s
  | .rxStall fid => Sys2Proof.Machine.execRxStall fid s
  | .migrateStart init data => Sys2Proof.Machine.execMigrateStart init data s
  | .migrationCopyDone poisoned => Sys2Proof.Machine.execMigrationCopyDone poisoned s
  | .migrationRemap => Sys2Proof.Machine.execMigrationRemap s
  | .clrpeak init queue => Sys2Proof.Machine.execClrpeak init queue s
  | .dialRound dial newReqs ecc => Sys2Proof.Machine.execDialRound dial newReqs ecc s
  | .dialFreeze init dial data => Sys2Proof.Machine.execDialFreeze init dial data s
  | .dialDrained dial => Sys2Proof.Machine.execDialDrained dial s
  | .dialDrainStall dial => Sys2Proof.Machine.execDialDrainStall dial s
  | .dialWaitclr init dial data => Sys2Proof.Machine.execDialWaitclr init dial data s
  | .lookup init bad => Sys2Proof.Machine.execLookup init bad s
  | .planInsert init bad => Sys2Proof.Machine.execPlanInsert init bad s
  | .reserveModify init bad => Sys2Proof.Machine.execReserveModify init bad s
  | .reserveDelete init bad => Sys2Proof.Machine.execReserveDelete init bad s
  | .planRehome init stash bad => Sys2Proof.Machine.execPlanRehome init stash bad s
  | .execResv init bad => Sys2Proof.Machine.execExecResv init bad s
  | .abortResv init => Sys2Proof.Machine.execAbortResv init s
  | .flush init port all => Sys2Proof.Machine.execFlush init port all s
  | .flushDone => Sys2Proof.Machine.execFlushDone s
  | .rsvExpired => Sys2Proof.Machine.execRsvExpired s
  | .learn => Sys2Proof.Machine.execLearn s
  | .refresh => Sys2Proof.Machine.execRefresh s
  | .moveEntry => Sys2Proof.Machine.execMoveEntry s
  | .agingSweep => Sys2Proof.Machine.execAgingSweep s
  | .portFlush => Sys2Proof.Machine.execPortFlush s
  | .scrubVisit changed shadowBad bad => Sys2Proof.Machine.execScrubVisit changed shadowBad bad s
  | .wctWrite init => Sys2Proof.Machine.execWctWrite init s
  | .wctRead init => Sys2Proof.Machine.execWctRead init s
  | .clrhits init => Sys2Proof.Machine.execClrhits init s
  | .psetWrite init => Sys2Proof.Machine.execPsetWrite init s
  | .psetRead init => Sys2Proof.Machine.execPsetRead init s
  | .cadenceSweep bad => Sys2Proof.Machine.execCadenceSweep bad s
  | .polWrite init data bad => Sys2Proof.Machine.execPolWrite init data bad s
  | .polRead init data bad => Sys2Proof.Machine.execPolRead init data bad s
  | .polClear init data bad => Sys2Proof.Machine.execPolClear init data bad s
  | .gateChange gate => Sys2Proof.Machine.execGateChange gate s
  | .cdmWrite init data bad => Sys2Proof.Machine.execCdmWrite init data bad s
  | .cdmRead init data bad => Sys2Proof.Machine.execCdmRead init data bad s
  | .resync init data bad => Sys2Proof.Machine.execResync init data bad s
  | .sgeTake cls bad => Sys2Proof.Machine.execSgeTake cls bad s
  | .srcTimeout defn bad => Sys2Proof.Machine.execSrcTimeout defn bad s
  | .cyclicEmission buf bad => Sys2Proof.Machine.execCyclicEmission buf bad s
  | .pendingEmission buf bad => Sys2Proof.Machine.execPendingEmission buf bad s
  | .bundleDeadline stream bad => Sys2Proof.Machine.execBundleDeadline stream bad s
  | .tpRxTimeout sid => Sys2Proof.Machine.execTpRxTimeout sid s
  | .tpTxTimeout sid => Sys2Proof.Machine.execTpTxTimeout sid s
  | .bamGap sid => Sys2Proof.Machine.execBamGap sid s
  | .ucLoad init data => Sys2Proof.Machine.execUcLoad init data s
  | .ucData init data => Sys2Proof.Machine.execUcData init data s
  | .ucRun init data => Sys2Proof.Machine.execUcRun init data s
  | .sgeWrite init data => Sys2Proof.Machine.execSgeWrite init data s
  | .sgeRead init data bad => Sys2Proof.Machine.execSgeRead init data bad s
  | .sgeClear init data => Sys2Proof.Machine.execSgeClear init data s
  | .aueTake cls bad => Sys2Proof.Machine.execAueTake cls bad s
  | .aueWrite init data bad => Sys2Proof.Machine.execAueWrite init data bad s
  | .aueRead init data bad => Sys2Proof.Machine.execAueRead init data bad s
  | .aueClear init data bad => Sys2Proof.Machine.execAueClear init data bad s
  | .integrationDone chan => Sys2Proof.Machine.execIntegrationDone chan s
  | .rxClaim chan len sof => Sys2Proof.Machine.execRxClaim chan len sof s
  | .cxRxFrame chan frm sof eof txc rxc bad => Sys2Proof.Machine.execCxRxFrame chan frm sof eof txc rxc bad s
  | .cxBusError chan err => Sys2Proof.Machine.execCxBusError chan err s
  | .abrDwell chan => Sys2Proof.Machine.execAbrDwell chan s
  | .slotLoad chan slot => Sys2Proof.Machine.execSlotLoad chan slot s
  | .transmissionPoint chan sof delayErr => Sys2Proof.Machine.execTransmissionPoint chan sof delayErr s
  | .txValid chan eof txc rxc => Sys2Proof.Machine.execTxValid chan eof txc rxc s
  | .arbitrationLost chan => Sys2Proof.Machine.execArbitrationLost chan s
  | .cancelSlot init chan slot => Sys2Proof.Machine.execCancelSlot init chan slot s
  | .cancelMatch init chan => Sys2Proof.Machine.execCancelMatch init chan s
  | .cancelAll init chan => Sys2Proof.Machine.execCancelAll init chan s
  | .txevtPop init chan => Sys2Proof.Machine.execTxevtPop init chan s
  | .txevtClr init chan => Sys2Proof.Machine.execTxevtClr init chan s
  | .recover init chan => Sys2Proof.Machine.execRecover init chan s
  | .recoveryDone chan => Sys2Proof.Machine.execRecoveryDone chan s
  | .refMissed chan => Sys2Proof.Machine.execRefMissed chan s
  | .txdDom chan => Sys2Proof.Machine.execTxdDom chan s
  | .overtemp shore => Sys2Proof.Machine.execOvertemp shore s
  | .shorePowerOn shore => Sys2Proof.Machine.execShorePowerOn shore s
  | .shorePowerOnReset shore => Sys2Proof.Machine.execShorePowerOnReset shore s
  | .laneFail shore lane => Sys2Proof.Machine.execLaneFail shore lane s
  | .shoreLinkRetrain shore lanes => Sys2Proof.Machine.execShoreLinkRetrain shore lanes s
  | .flitRetry shore => Sys2Proof.Machine.execFlitRetry shore s
  | .shoreHeartbeat shore => Sys2Proof.Machine.execShoreHeartbeat shore s
  | .resetNotice shore chip => Sys2Proof.Machine.execResetNotice shore chip s
  | .pinAssert shore => Sys2Proof.Machine.execPinAssert shore s
  | .pinRelease shore => Sys2Proof.Machine.execPinRelease shore s
  | .brstReport shore win src loc => Sys2Proof.Machine.execBrstReport shore win src loc s
  | .crstRequest shore win src loc x => Sys2Proof.Machine.execCrstRequest shore win src loc x s
  | .timeAlignment shore => Sys2Proof.Machine.execTimeAlignment shore s
  | .registerRequest init addr size write spec data => Sys2Proof.Machine.execRegisterRequest init addr size write spec data s
  | .shoreResponse shore init late => Sys2Proof.Machine.execShoreResponse shore init late s
  | .shbTimeout shore init => Sys2Proof.Machine.execShbTimeout shore init s
  | .interruptPoll shore => Sys2Proof.Machine.execInterruptPoll shore s
  | .s2sDown lane => Sys2Proof.Machine.execS2sDown lane s
  | .trxStateChange chan => Sys2Proof.Machine.execTrxStateChange chan s
  | .trxResumeDone chan => Sys2Proof.Machine.execTrxResumeDone chan s
  | .wakeUpPattern chan => Sys2Proof.Machine.execWakeUpPattern chan s
  | .wakeUpFrame chan frm => Sys2Proof.Machine.execWakeUpFrame chan frm s
  | .decodeError chan => Sys2Proof.Machine.execDecodeError chan s
  | .wakePin shore pin level => Sys2Proof.Machine.execWakePin shore pin level s
  | .shoreTimer shore => Sys2Proof.Machine.execShoreTimer shore s
  | .softWake init shore => Sys2Proof.Machine.execSoftWake init shore s
  | .swkClr init shore => Sys2Proof.Machine.execSwkClr init shore s
  | .partnerWake shore => Sys2Proof.Machine.execPartnerWake shore s
  | .t1sBusActivity seg us => Sys2Proof.Machine.execT1sBusActivity seg us s
  | .inhReleaseCommand init shore => Sys2Proof.Machine.execInhReleaseCommand init shore s
  | .inhRelease shore mainOff => Sys2Proof.Machine.execInhRelease shore mainOff s
  | .inhOc shore out => Sys2Proof.Machine.execInhOc shore out s
  | .inhMinOffEnd shore out => Sys2Proof.Machine.execInhMinOffEnd shore out s
  | .vbatSample shore mv => Sys2Proof.Machine.execVbatSample shore mv s
  | .vbatClr init shore => Sys2Proof.Machine.execVbatClr init shore s
  | .vcc5Uv shore => Sys2Proof.Machine.execVcc5Uv shore s
  | .clockLoss => Sys2Proof.Machine.execClockLoss s
  | .clockReturn => Sys2Proof.Machine.execClockReturn s
  | .shcLoad init shore data => Sys2Proof.Machine.execShcLoad init shore data s
  | .shcMemData init shore write data => Sys2Proof.Machine.execShcMemData init shore write data s
  | .shcRun init shore data => Sys2Proof.Machine.execShcRun init shore data s
  | .shcWdtKick init shore => Sys2Proof.Machine.execShcWdtKick init shore s
  | .wdtExpired shore => Sys2Proof.Machine.execWdtExpired shore s
  | .shcEccUncorr shore => Sys2Proof.Machine.execShcEccUncorr shore s
  | .mboxInDoorbell init shore data => Sys2Proof.Machine.execMboxInDoorbell init shore data s
  | .mboxOutDoorbell shore => Sys2Proof.Machine.execMboxOutDoorbell shore s
  | .mboxOutClear init shore => Sys2Proof.Machine.execMboxOutClear init shore s
  | .relayS2sRx shore => Sys2Proof.Machine.execRelayS2sRx shore s
  | .handover init shore => Sys2Proof.Machine.execHandover init shore s
  | .takeoverInstant shore => Sys2Proof.Machine.execTakeoverInstant shore s
  | .limp init shore => Sys2Proof.Machine.execLimp init shore s
  | .off init shore => Sys2Proof.Machine.execOff init shore s
  | .heartbeatLoss shore => Sys2Proof.Machine.execHeartbeatLoss shore s
  | .srlWrite init shore data bad => Sys2Proof.Machine.execSrlWrite init shore data bad s
  | .srlRead init shore data bad => Sys2Proof.Machine.execSrlRead init shore data bad s
  | .srlClear init shore data bad => Sys2Proof.Machine.execSrlClear init shore data bad s
  | .plcaLost seg => Sys2Proof.Machine.execPlcaLost seg s
  | .jabber seg on => Sys2Proof.Machine.execJabber seg on s
  | .rxHead k time pre bytes => Sys2Proof.Machine.execRxHead k time pre bytes s
  | .rxEnd k pre rest len fcsOk assy bad => Sys2Proof.Machine.execRxEnd k pre rest len fcsOk assy bad s
  | .linkUp k speed full an => Sys2Proof.Machine.execLinkUp k speed full an s
  | .linkLoss k => Sys2Proof.Machine.execLinkLoss k s
  | .txSelect k time frags underrun bad => Sys2Proof.Machine.execTxSelect k time frags underrun bad s
  | .gateIntervalEnd k => Sys2Proof.Machine.execGateIntervalEnd k s
  | .scheduleOperational k => Sys2Proof.Machine.execScheduleOperational k s
  | .verifySend k => Sys2Proof.Machine.execVerifySend k s
  | .verifyResponse k => Sys2Proof.Machine.execVerifyResponse k s
  | .tsqPop init k => Sys2Proof.Machine.execTsqPop init k s
  | .wakeClr init k => Sys2Proof.Machine.execWakeClr init k s
  | .frerReset stream => Sys2Proof.Machine.execFrerReset stream s
  | .emcWrite init data bad => Sys2Proof.Machine.execEmcWrite init data bad s
  | .emcRead init data bad => Sys2Proof.Machine.execEmcRead init data bad s
  | .emcClear init data bad => Sys2Proof.Machine.execEmcClear init data bad s
  | .svpRxFrame bytes fcsOk => Sys2Proof.Machine.execSvpRxFrame bytes fcsOk s
  | .svpTxPost init data => Sys2Proof.Machine.execSvpTxPost init data s
  | .deviceTimeTick ticks => Sys2Proof.Machine.execDeviceTimeTick ticks s
  | .addendWrite init data => Sys2Proof.Machine.execAddendWrite init data s
  | .slew init data => Sys2Proof.Machine.execSlew init data s
  | .step init => Sys2Proof.Machine.execStep init s
  | .stepApply => Sys2Proof.Machine.execStepApply s
  | .kick init => Sys2Proof.Machine.execKick init s
  | .vbaseWrite init data => Sys2Proof.Machine.execVbaseWrite init data s
  | .holdover => Sys2Proof.Machine.execHoldover s
  | .holdLimit => Sys2Proof.Machine.execHoldLimit s
  | .referenceTrigger chan => Sys2Proof.Machine.execReferenceTrigger chan s
  | .nmTimeout unit => Sys2Proof.Machine.execNmTimeout unit s
  | .repeatMsgExpiry unit => Sys2Proof.Machine.execRepeatMsgExpiry unit s
  | .waitBusSleepExpiry unit => Sys2Proof.Machine.execWaitBusSleepExpiry unit s
  | .nmCycle unit => Sys2Proof.Machine.execNmCycle unit s
  | .netreqWrite init hi data => Sys2Proof.Machine.execNetreqWrite init hi data s
  | .nmuRmr init unit => Sys2Proof.Machine.execNmuRmr init unit s
  | .nmuWake init unit => Sys2Proof.Machine.execNmuWake init unit s
  | .clrPres init unit => Sys2Proof.Machine.execClrPres init unit s
  | .nmWakeEvent unit => Sys2Proof.Machine.execNmWakeEvent unit s
  | .descentEnd unit => Sys2Proof.Machine.execDescentEnd unit s
  | .presenceTimeout unit node => Sys2Proof.Machine.execPresenceTimeout unit node s
  | .pnrxTimeout unit k => Sys2Proof.Machine.execPnrxTimeout unit k s
  | .pwrRun init => Sys2Proof.Machine.execPwrRun init s
  | .pwrDoze init => Sys2Proof.Machine.execPwrDoze init s
  | .pwrStandby init => Sys2Proof.Machine.execPwrStandby init s
  | .standbyReady => Sys2Proof.Machine.execStandbyReady s
  | .selfRefreshEntry => Sys2Proof.Machine.execSelfRefreshEntry s
  | .powerOff => Sys2Proof.Machine.execPowerOff s
  | .dmcTrainStart init => Sys2Proof.Machine.execDmcTrainStart init s
  | .trainingComplete ok chan lane => Sys2Proof.Machine.execTrainingComplete ok chan lane s
  | .dmcRestore init => Sys2Proof.Machine.execDmcRestore init s
  | .srEnter init => Sys2Proof.Machine.execSrEnter init s
  | .srExit init => Sys2Proof.Machine.execSrExit init s
  | .mrAccess init data ecc => Sys2Proof.Machine.execMrAccess init data ecc s
  | .windowRead init addr size => Sys2Proof.Machine.execWindowRead init addr size s
  | .xspCommand init data answer changes => Sys2Proof.Machine.execXspCommand init data answer changes s
  | .pollReady => Sys2Proof.Machine.execPollReady s
  | .pollTimeout => Sys2Proof.Machine.execPollTimeout s
  | .dsTimeout init addr size => Sys2Proof.Machine.execDsTimeout init addr size s
  | .irtClaim init router target => Sys2Proof.Machine.execIrtClaim init router target s
  | .irtComplete init router target data => Sys2Proof.Machine.execIrtComplete init router target data s
  | .nmiPop init router target => Sys2Proof.Machine.execNmiPop init router target s
  | .nmiIn => Sys2Proof.Machine.execNmiIn s
  | .irtSwiWrite init data => Sys2Proof.Machine.execIrtSwiWrite init data s
  | .outletMove => Sys2Proof.Machine.execOutletMove s
  | .outPop init outlet => Sys2Proof.Machine.execOutPop init outlet s
  | .outDrop init outlet => Sys2Proof.Machine.execOutDrop init outlet s
  | .outletAge outlet => Sys2Proof.Machine.execOutletAge outlet s
  | .inPush init inlet data => Sys2Proof.Machine.execInPush init inlet data s
  | .porstNRelease x => Sys2Proof.Machine.execPorstNRelease x s
  | .porstNAssert => Sys2Proof.Machine.execPorstNAssert s
  | .wrstN x => Sys2Proof.Machine.execWrstN x s
  | .lockstepMismatch x => Sys2Proof.Machine.execLockstepMismatch x s
  | .undervoltage => Sys2Proof.Machine.execUndervoltage s
  | .undervoltageRelease x => Sys2Proof.Machine.execUndervoltageRelease x s
  | .resetWarm init x => Sys2Proof.Machine.execResetWarm init x s
  | .resetCold init x => Sys2Proof.Machine.execResetCold init x s
  | .watchdogExpiry x => Sys2Proof.Machine.execWatchdogExpiry x s
  | .wdtWarn => Sys2Proof.Machine.execWdtWarn s
  | .crnWdtKick init => Sys2Proof.Machine.execCrnWdtKick init s
  | .crnWdtEnable init data => Sys2Proof.Machine.execCrnWdtEnable init data s
  | .movRun init data => Sys2Proof.Machine.execMovRun init data s
  | .hello host msg => Sys2Proof.Machine.execHello host msg s
  | .prove host msg => Sys2Proof.Machine.execProve host msg s
  | .status host msg => Sys2Proof.Machine.execStatus host msg s
  | .stageBegin host msg => Sys2Proof.Machine.execStageBegin host msg s
  | .stageBlock host msg => Sys2Proof.Machine.execStageBlock host msg s
  | .stageEnd host msg => Sys2Proof.Machine.execStageEnd host msg s
  | .commit host msg => Sys2Proof.Machine.execCommit host msg s
  | .rollback host msg => Sys2Proof.Machine.execRollback host msg s
  | .restart host msg => Sys2Proof.Machine.execRestart host msg s
  | .restartReset x => Sys2Proof.Machine.execRestartReset x s
  | .ledgerRead host msg => Sys2Proof.Machine.execLedgerRead host msg s
  | .vaultExport host msg => Sys2Proof.Machine.execVaultExport host msg s
  | .unnovAttest host msg => Sys2Proof.Machine.execUnnovAttest host msg s
  | .bye host msg => Sys2Proof.Machine.execBye host msg s
  | .sessionTimeout => Sys2Proof.Machine.execSessionTimeout s
  | .fuseProgCroot init data => Sys2Proof.Machine.execFuseProgCroot init data s
  | .fuseProgEpoch init data => Sys2Proof.Machine.execFuseProgEpoch init data s
  | .lifecycleAdvance init data => Sys2Proof.Machine.execLifecycleAdvance init data s
  | .fuseProgDone ok x => Sys2Proof.Machine.execFuseProgDone ok x s
  | .generate init data bad => Sys2Proof.Machine.execGenerate init data bad s
  | .importKey init data bad => Sys2Proof.Machine.execImportKey init data bad s
  | .derive init data bad => Sys2Proof.Machine.execDerive init data bad s
  | .deleteKey init data bad => Sys2Proof.Machine.execDeleteKey init data bad s
  | .info init data bad => Sys2Proof.Machine.execInfo init data bad s
  | .save init data bad => Sys2Proof.Machine.execSave init data bad s
  | .restore init data bad => Sys2Proof.Machine.execRestore init data bad s
  | .attest init data bad => Sys2Proof.Machine.execAttest init data bad s
  | .sign init data bad => Sys2Proof.Machine.execSign init data bad s
  | .hmac init data bad => Sys2Proof.Machine.execHmac init data bad s
  | .remask handle => Sys2Proof.Machine.execRemask handle s
  | .trnOutRead init => Sys2Proof.Machine.execTrnOutRead init s
  | .healthTestFail rct apt => Sys2Proof.Machine.execHealthTestFail rct apt s
  | .startUpTest pass => Sys2Proof.Machine.execStartUpTest pass s
  | .openVault init data => Sys2Proof.Machine.execOpenVault init data s
  | .append init data => Sys2Proof.Machine.execAppend init data s
  | .seal init data => Sys2Proof.Machine.execSeal init data s
  | .raise init data => Sys2Proof.Machine.execRaise init data s
  | .timeSeal => Sys2Proof.Machine.execTimeSeal s
  | .blockWriteDone ok => Sys2Proof.Machine.execBlockWriteDone ok s
  | .fenceEdge halfNs => Sys2Proof.Machine.execFenceEdge halfNs s
  | .fenceDeadTimeout => Sys2Proof.Machine.execFenceDeadTimeout s
  | .leadActive => Sys2Proof.Machine.execLeadActive s
  | .heartbeatMiss => Sys2Proof.Machine.execHeartbeatMiss s
  | .takeover => Sys2Proof.Machine.execTakeover s
  | .yield init => Sys2Proof.Machine.execYield init s
  | .claim init => Sys2Proof.Machine.execClaim init s
  | .yieldEvent => Sys2Proof.Machine.execYieldEvent s
  | .twinHeartbeatSend => Sys2Proof.Machine.execTwinHeartbeatSend s
  | .heartbeat msg => Sys2Proof.Machine.execHeartbeat msg s
  | .twinLinkRetrain lanes delay => Sys2Proof.Machine.execTwinLinkRetrain lanes delay s
  | .frame msg => Sys2Proof.Machine.execFrame msg s
  | .learnDelta msg => Sys2Proof.Machine.execLearnDelta msg s
  | .nmDelta msg => Sys2Proof.Machine.execNmDelta msg s
  | .bridgeWrite init data => Sys2Proof.Machine.execBridgeWrite init data s
  | .bridgeRead init => Sys2Proof.Machine.execBridgeRead init s
  | .brRead msg late ecc => Sys2Proof.Machine.execBrRead msg late ecc s
  | .brWrite msg late ecc => Sys2Proof.Machine.execBrWrite msg late ecc s
  | .brResp init msg late => Sys2Proof.Machine.execBrResp init msg late s
  | .brTimeout init => Sys2Proof.Machine.execBrTimeout init s
  | .capTake => Sys2Proof.Machine.execCapTake s
  | .recordDone ring => Sys2Proof.Machine.execRecordDone ring s
  | .capTrigger init ring => Sys2Proof.Machine.execCapTrigger init ring s
  | .capRelease init ring => Sys2Proof.Machine.execCapRelease init ring s
  | .capFreeze init ring => Sys2Proof.Machine.execCapFreeze init ring s
  | .digestDone ring ok => Sys2Proof.Machine.execDigestDone ring ok s
  | .snap init => Sys2Proof.Machine.execSnap init s
  | .ldgRdDataRead init => Sys2Proof.Machine.execLdgRdDataRead init s
  | .ldgEvtPop init => Sys2Proof.Machine.execLdgEvtPop init s
  | .ledgerSecond tj => Sys2Proof.Machine.execLedgerSecond tj s
  | .twinLinkDown => Sys2Proof.Machine.execTwinLinkDown s
  | .s2sLinkUp => Sys2Proof.Machine.execS2sLinkUp s
  | .pcsError k => Sys2Proof.Machine.execPcsError k s
  | .beaconSeen seg => Sys2Proof.Machine.execBeaconSeen seg s
  | .overtempEnd shore => Sys2Proof.Machine.execOvertempEnd shore s
  | .txdRecessive chan => Sys2Proof.Machine.execTxdRecessive chan s
  | .vcc5UvEnd shore => Sys2Proof.Machine.execVcc5UvEnd shore s
  | .inhOcEnd shore out => Sys2Proof.Machine.execInhOcEnd shore out s
  | .frameDecoded chan => Sys2Proof.Machine.execFrameDecoded chan s
  | .dmcRestoreDone => Sys2Proof.Machine.execDmcRestoreDone s
  | .twinMessageResend => Sys2Proof.Machine.execTwinMessageResend s

end Sys2Proof.Machine
end

