-- ==== Sys2Proof/Machine/Pins.lean ====
section
/-! DEFINITION. The main die's output balls: the level each shows is a function of the state (21_package_and_signals.md). -/
namespace Sys2Proof.Machine
open Reg

/-- Outputs of the main die (R523). -/
inductive OutPin where
  | ctxd (n : Nat) | cstb (n : Nat)
  | svcOut | mdc | xspiCk | xspiCs | xspiRst | fence | tdo
  | gpio (n : Nat)
  | errorN | dramReset
deriving DecidableEq, Repr

/-- What an output shows: low, high, not driven, or the signal of its unit. -/
inductive OutLevel where
  | low | high | floating | signal
deriving DecidableEq, Repr

def highIf (b : Bool) : OutLevel := if b then .high else .low

/-- The levels of the outputs while the main die is in reset and its I/O rails are on (R524). -/
def resetLevel (s : State) : OutPin → OutLevel
  | .ctxd _ | .cstb _ | .xspiCs => .high
  | .svcOut | .mdc | .xspiCk | .xspiRst | .fence | .dramReset => .low
  | .tdo | .gpio _ => .floating
  | .errorN => if s.errPin.low then .low else .floating

/-- The levels while the main die runs: CTXD is recessive until its CX drives it, the service port follows its strap (R365), the
fence follows R481 and a GPIO its registers (R533). -/
def runLevel (s : State) : OutPin → OutLevel
  | .ctxd n => if s.enabled (cxWin n) then .signal else .high
  | .cstb n => highIf (cstb s n)
  | .svcOut => if svpMayRun s then .signal else .low
  | .mdc | .xspiCk | .xspiCs | .tdo | .dramReset => .signal
  | .xspiRst => .high
  | .fence => if fenceOut s = 0 then .low else .signal
  | .gpio n => if bit (gpioDriven s) n then highIf (bit (s.reg W.GPIO GPIO_OUT) n) else .floating
  | .errorN => if s.errPin.low then .low else .floating

/-- The level of an output: in Sleep and Off its rail is off and it floats (R525); in Standby the I/O rails stay on, with the
levels of a reset, but the LPDDR PHY holds self-refresh (R524, R529). -/
def ballLevel (s : State) (p : OutPin) : OutLevel :=
  match s.pwr.state with
  | .off | .sleep => .floating
  | .standby => if p = .dramReset then .signal else resetLevel s p
  | .run | .doze => if s.pwr.held then resetLevel s p else runLevel s p

end Sys2Proof.Machine
end

