-- ==== Sys2Proof/WellFormed.lean ====
section
/-! DEFINITION. Well-formed commands: every operand within the range that the spec gives the thing it names. A command that is not
well-formed names nothing of the device. -/
namespace Sys2Proof
open Machine

/-- A window of the block map (R6–R8). -/
def windowOk (w : Nat) : Bool := (blkOf w).isSome

/-- An access size of the bus (R35). -/
def sizeFits (size : Nat) : Bool := size == 8 || size == 16 || size == 32 || size == 64

/-- An address of 40 bits; a misaligned one has a meaning too (R35, R61). -/
def addrOk (addr : Nat) : Bool := decide (addr < 2 ^ 40)

/-- A CAN frame of ISO 11898-1 (R284). -/
def frameOk (f : CanFrame) : Bool :=
  decide (f.fmt < 3) && decide (f.dlc < (if f.fmt = 2 then 2048 else 16)) && decide (f.id < (if f.ide then 2 ^ 29 else 2 ^ 11)) && decide (f.sdt < 256)
    && decide (f.vcid < 256) && decide (f.data.length ≤ (if f.fmt = 0 then 8 else if f.fmt = 1 then 64 else 2048))

/-- Straps and lanes of a start (R434, R436). -/
def startOk (x : StartInput) : Bool :=
  decide (x.pins < 32) && decide (x.linkA < 256) && decide (x.linkB < 256) && x.banks.all fun b => decide (b < 34)

/-- The stage and the bit that an ECC error names fit FLT_LOC (R3, R145). -/
def cellErrOk (e : CellErr) : Bool := decide (e.stage < 256) && decide (e.bit < 64)

/-- Every operand of the command is within its range. -/
def wellFormed (i : Instr) : Bool :=
  match i with
  | .registerWrite _ addr size _ _ => addrOk addr && sizeFits size
  | .speculativeRead _ addr size _ => addrOk addr && sizeFits size
  | .counterLoRead _ addr size _ => addrOk addr && sizeFits size
  | .counterHiRead _ addr => addrOk addr
  | .icxLogPop _ => true
  | .strobe _ win _ => windowOk win
  | .revert _ win => windowOk win
  | .updateApply win _ => windowOk win
  | .sharedUpdate _ _ => true
  | .updPauseExpired => true
  | .blockReset _ win => windowOk win
  | .blockResetEnd win => windowOk win
  | .blockEnable _ win => windowOk win
  | .blockDisable _ win => windowOk win
  | .guardArm _ win off _ => windowOk win && decide (off < 0x2000)
  | .twinWrite _ win off _ => windowOk win && decide (off < 0x2000)
  | .aliasSet _ win off _ => windowOk win && decide (off < 0x2000)
  | .aliasClear _ win off _ => windowOk win && decide (off < 0x2000)
  | .aliasToggle _ win off _ => windowOk win && decide (off < 0x2000)
  | .conditionArises win src loc _ => windowOk win && decide (src < nsrc win) && decide (loc < 2 ^ 32)
  | .conditionEnds win src => windowOk win && decide (src < nsrc win)
  | .quietTimerExpiry win src => windowOk win && decide (src < nsrc win)
  | .fltRelease _ win _ => windowOk win
  | .fltStatClear _ win _ => windowOk win
  | .fltRecovClr _ win _ => windowOk win
  | .fltInject _ win _ => windowOk win
  | .errorNHoldEnd => true
  | .windowEnd _ _ => true
  | .loopPeriod _ => true
  | .pmbusTransactionEnd _ _ => true
  | .balVsetWrite _ _ => true
  | .balHistClr _ _ => true
  | .fabricRound train _ => decide (train < 3)
  | .cellArrival train out _ _ => decide (train < 3) && decide (out < 16)
  | .reseqTimeout inp out => decide (inp < 16) && decide (out < 16)
  | .trainFreeze _ train _ => decide (train < 3)
  | .trainDrained train => decide (train < 3)
  | .trainDisable _ train => decide (train < 3)
  | .trainEnable _ train => decide (train < 3)
  | .trnDrainStall train => decide (train < 3)
  | .bistStart _ train => decide (train < 3)
  | .bistComplete train _ _ => decide (train < 3)
  | .frameClassify fp _ => decide (fp < 16)
  | .frameAdmission fp => decide (fp < 16)
  | .ingressCell _ _ errs => errs.all cellErrOk
  | .eccWindowEnd => true
  | .portDown port => decide (port < 64)
  | .flushingEnd port => decide (port < 64)
  | .portCauseClears port => decide (port < 64)
  | .portUp port => decide (port < 64)
  | .ctStall _ port => decide (port < 64)
  | .inletStall inlet => decide (inlet < 64)
  | .rxStall _ => true
  | .migrateStart _ _ => true
  | .migrationCopyDone poisoned => poisoned.all fun e => cellErrOk e.2
  | .migrationRemap => true
  | .clrpeak _ queue => decide (queue < 512)
  | .dialRound dial _ _ => decide (dial < 5)
  | .dialFreeze _ dial _ => decide (dial < 5)
  | .dialDrained dial => decide (dial < 5)
  | .dialDrainStall dial => decide (dial < 5)
  | .dialWaitclr _ dial _ => decide (dial < 5)
  | .deviceTimeTick _ => true
  | .addendWrite _ _ => true
  | .slew _ _ => true
  | .step _ => true
  | .stepApply => true
  | .kick _ => true
  | .vbaseWrite _ _ => true
  | .holdover => true
  | .holdLimit => true
  | .referenceTrigger chan => decide (chan < 32)
  | .lookup _ _ => true
  | .planInsert _ _ => true
  | .reserveModify _ _ => true
  | .reserveDelete _ _ => true
  | .planRehome _ stash _ => decide (stash < 64)
  | .execResv _ _ => true
  | .abortResv _ => true
  | .flush _ port _ => decide (port < 64)
  | .flushDone => true
  | .rsvExpired => true
  | .learn => true
  | .refresh => true
  | .moveEntry => true
  | .agingSweep => true
  | .portFlush => true
  | .scrubVisit _ _ _ => true
  | .wctWrite _ => true
  | .wctRead _ => true
  | .clrhits _ => true
  | .psetWrite _ => true
  | .psetRead _ => true
  | .cadenceSweep _ => true
  | .polWrite _ _ _ => true
  | .polRead _ _ _ => true
  | .polClear _ _ _ => true
  | .gateChange gate => decide (gate < 256)
  | .cdmWrite _ _ _ => true
  | .cdmRead _ _ _ => true
  | .resync _ _ _ => true
  | .sgeTake cls _ => decide (cls < 8)
  | .srcTimeout defn _ => decide (defn < 8192)
  | .cyclicEmission buf _ => decide (buf < 4096)
  | .pendingEmission buf _ => decide (buf < 4096)
  | .bundleDeadline stream _ => decide (stream < 256)
  | .tpRxTimeout sid => decide (sid < 64)
  | .tpTxTimeout sid => decide (sid < 64)
  | .bamGap sid => decide (sid < 64)
  | .ucLoad _ _ => true
  | .ucData _ _ => true
  | .ucRun _ _ => true
  | .sgeWrite _ _ => true
  | .sgeRead _ _ _ => true
  | .sgeClear _ _ => true
  | .aueTake cls _ => decide (cls < 8)
  | .aueWrite _ _ _ => true
  | .aueRead _ _ _ => true
  | .aueClear _ _ _ => true
  | .fuseProgCroot _ _ => true
  | .fuseProgEpoch _ _ => true
  | .lifecycleAdvance _ _ => true
  | .fuseProgDone _ x => startOk x
  | .generate _ _ _ => true
  | .importKey _ _ _ => true
  | .derive _ _ _ => true
  | .deleteKey _ _ _ => true
  | .info _ _ _ => true
  | .save _ _ _ => true
  | .restore _ _ _ => true
  | .attest _ _ _ => true
  | .sign _ _ _ => true
  | .hmac _ _ _ => true
  | .remask handle => decide (handle < 514)
  | .trnOutRead _ => true
  | .healthTestFail _ _ => true
  | .startUpTest _ => true
  | .openVault _ _ => true
  | .append _ _ => true
  | .seal _ _ => true
  | .raise _ _ => true
  | .timeSeal => true
  | .blockWriteDone _ => true
  | .integrationDone chan => decide (chan < 32)
  | .rxClaim chan len sof => decide (chan < 32) && decide (len ≤ 2048) && decide (sof < 2 ^ 64)
  | .cxRxFrame chan frm sof eof txc rxc _ => decide (chan < 32) && frameOk frm && decide (sof < 2 ^ 64) && decide (eof < 2 ^ 64) && decide (txc < 512) && decide (rxc < 512)
  | .cxBusError chan _ => decide (chan < 32)
  | .abrDwell chan => decide (chan < 32)
  | .slotLoad chan slot => decide (chan < 32) && decide (slot < 64)
  | .transmissionPoint chan sof _ => decide (chan < 32) && decide (sof < 2 ^ 64)
  | .txValid chan eof txc rxc => decide (chan < 32) && decide (eof < 2 ^ 64) && decide (txc < 512) && decide (rxc < 512)
  | .arbitrationLost chan => decide (chan < 32)
  | .cancelSlot _ chan slot => decide (chan < 32) && decide (slot < 64)
  | .cancelMatch _ chan => decide (chan < 32)
  | .cancelAll _ chan => decide (chan < 32)
  | .txevtPop _ chan => decide (chan < 32)
  | .txevtClr _ chan => decide (chan < 32)
  | .recover _ chan => decide (chan < 32)
  | .recoveryDone chan => decide (chan < 32)
  | .refMissed chan => decide (chan < 32)
  | .txdDom chan => decide (chan < 24)
  | .overtemp shore => decide (shore < 2)
  | .shorePowerOn shore => decide (shore < 2)
  | .shorePowerOnReset shore => decide (shore < 2)
  | .laneFail shore lane => decide (shore < 2) && decide (lane < 8)
  | .shoreLinkRetrain shore lanes => decide (shore < 2) && decide (lanes < 256)
  | .flitRetry shore => decide (shore < 2)
  | .shoreHeartbeat shore => decide (shore < 2)
  | .resetNotice shore _ => decide (shore < 2)
  | .pinAssert shore => decide (shore < 2)
  | .pinRelease shore => decide (shore < 2)
  | .brstReport shore win src loc => decide (shore < 2) && windowOk win && decide (src < nsrc win) && decide (loc < 2 ^ 32)
  | .crstRequest shore win src loc x => decide (shore < 2) && windowOk win && decide (src < nsrc win) && decide (loc < 2 ^ 32) && startOk x
  | .timeAlignment shore => decide (shore < 2)
  | .registerRequest _ addr size _ _ _ => addrOk addr && sizeFits size
  | .shoreResponse shore _ _ => decide (shore < 2)
  | .shbTimeout shore _ => decide (shore < 2)
  | .interruptPoll shore => decide (shore < 2)
  | .s2sDown _ => true
  | .trxStateChange chan => decide (chan < 24)
  | .trxResumeDone chan => decide (chan < 24)
  | .wakeUpPattern chan => decide (chan < 24)
  | .wakeUpFrame chan frm => decide (chan < 24) && frameOk frm
  | .decodeError chan => decide (chan < 24)
  | .wakePin shore pin _ => decide (shore < 2) && decide (pin < 4)
  | .shoreTimer shore => decide (shore < 2)
  | .softWake _ shore => decide (shore < 2)
  | .swkClr _ shore => decide (shore < 2)
  | .partnerWake shore => decide (shore < 2)
  | .t1sBusActivity seg _ => decide (seg < 8)
  | .inhReleaseCommand _ shore => decide (shore < 2)
  | .inhRelease shore _ => decide (shore < 2)
  | .inhOc shore out => decide (shore < 2) && decide (out < 2)
  | .inhMinOffEnd shore out => decide (shore < 2) && decide (out < 2)
  | .vbatSample shore mv => decide (shore < 2) && decide (mv < 65536)
  | .vbatClr _ shore => decide (shore < 2)
  | .vcc5Uv shore => decide (shore < 2)
  | .clockLoss => true
  | .clockReturn => true
  | .shcLoad _ shore _ => decide (shore < 2)
  | .shcMemData _ shore _ _ => decide (shore < 2)
  | .shcRun _ shore _ => decide (shore < 2)
  | .shcWdtKick _ shore => decide (shore < 2)
  | .wdtExpired shore => decide (shore < 2)
  | .shcEccUncorr shore => decide (shore < 2)
  | .mboxInDoorbell _ shore _ => decide (shore < 2)
  | .mboxOutDoorbell shore => decide (shore < 2)
  | .mboxOutClear _ shore => decide (shore < 2)
  | .relayS2sRx shore => decide (shore < 2)
  | .handover _ shore => decide (shore < 2)
  | .takeoverInstant shore => decide (shore < 2)
  | .limp _ shore => decide (shore < 2)
  | .off _ shore => decide (shore < 2)
  | .heartbeatLoss shore => decide (shore < 2)
  | .srlWrite _ shore _ _ => decide (shore < 2)
  | .srlRead _ shore _ _ => decide (shore < 2)
  | .srlClear _ shore _ _ => decide (shore < 2)
  | .plcaLost seg => decide (seg < 8)
  | .jabber seg _ => decide (seg < 8)
  | .rxHead k time _ _ => decide (k < 20) && decide (time < 2 ^ 64)
  | .rxEnd k _ _ _ _ _ _ => decide (k < 20)
  | .linkUp k speed _ _ => decide (k < 20) && decide (speed < 8)
  | .linkLoss k => decide (k < 20)
  | .txSelect k time _ _ _ => decide (k < 20) && decide (time < 2 ^ 64)
  | .gateIntervalEnd k => decide (k < 20)
  | .scheduleOperational k => decide (k < 20)
  | .verifySend k => decide (k < 20)
  | .verifyResponse k => decide (k < 20)
  | .tsqPop _ k => decide (k < 20)
  | .wakeClr _ k => decide (k < 20)
  | .frerReset stream => decide (stream < 512)
  | .emcWrite _ _ _ => true
  | .emcRead _ _ _ => true
  | .emcClear _ _ _ => true
  | .svpRxFrame _ _ => true
  | .svpTxPost _ _ => true
  | .nmTimeout unit => decide (unit < 40)
  | .repeatMsgExpiry unit => decide (unit < 40)
  | .waitBusSleepExpiry unit => decide (unit < 40)
  | .nmCycle unit => decide (unit < 40)
  | .netreqWrite _ _ _ => true
  | .nmuRmr _ unit => decide (unit < 40)
  | .nmuWake _ unit => decide (unit < 40)
  | .clrPres _ unit => decide (unit < 40)
  | .nmWakeEvent unit => decide (unit < 40)
  | .descentEnd unit => decide (unit < 40)
  | .presenceTimeout unit node => decide (unit < 40) && decide (node < 256)
  | .pnrxTimeout unit k => decide (unit < 40) && decide (k < 64)
  | .pwrRun _ => true
  | .pwrDoze _ => true
  | .pwrStandby _ => true
  | .standbyReady => true
  | .selfRefreshEntry => true
  | .powerOff => true
  | .dmcTrainStart _ => true
  | .trainingComplete _ chan lane => decide (chan < 2) && decide (lane < 2)
  | .dmcRestore _ => true
  | .srEnter _ => true
  | .srExit _ => true
  | .mrAccess _ _ _ => true
  | .windowRead _ addr size => addrOk addr && sizeFits size
  | .xspCommand _ _ _ _ => true
  | .pollReady => true
  | .pollTimeout => true
  | .dsTimeout _ addr size => addrOk addr && sizeFits size
  | .irtClaim _ router target => decide (router < 2) && decide (target < 4)
  | .irtComplete _ router target _ => decide (router < 2) && decide (target < 4)
  | .nmiPop _ router target => decide (router < 2) && decide (target < 4)
  | .nmiIn => true
  | .irtSwiWrite _ _ => true
  | .outletMove => true
  | .outPop _ outlet => decide (outlet < 64)
  | .outDrop _ outlet => decide (outlet < 64)
  | .outletAge outlet => decide (outlet < 64)
  | .inPush _ inlet _ => decide (inlet < 64)
  | .porstNRelease x => startOk x
  | .porstNAssert => true
  | .wrstN x => startOk x
  | .lockstepMismatch x => startOk x
  | .undervoltage => true
  | .undervoltageRelease x => startOk x
  | .resetWarm _ x => startOk x
  | .resetCold _ x => startOk x
  | .watchdogExpiry x => startOk x
  | .wdtWarn => true
  | .crnWdtKick _ => true
  | .crnWdtEnable _ _ => true
  | .movRun _ _ => true
  | .hello host _ => decide (host < 256)
  | .prove host _ => decide (host < 256)
  | .status host _ => decide (host < 256)
  | .stageBegin host _ => decide (host < 256)
  | .stageBlock host _ => decide (host < 256)
  | .stageEnd host _ => decide (host < 256)
  | .commit host _ => decide (host < 256)
  | .rollback host _ => decide (host < 256)
  | .restart host _ => decide (host < 256)
  | .restartReset x => startOk x
  | .ledgerRead host _ => decide (host < 256)
  | .vaultExport host _ => decide (host < 256)
  | .unnovAttest host _ => decide (host < 256)
  | .bye host _ => decide (host < 256)
  | .sessionTimeout => true
  | .fenceEdge _ => true
  | .fenceDeadTimeout => true
  | .leadActive => true
  | .heartbeatMiss => true
  | .takeover => true
  | .yield _ => true
  | .claim _ => true
  | .yieldEvent => true
  | .twinHeartbeatSend => true
  | .heartbeat _ => true
  | .twinLinkRetrain lanes _ => decide (lanes ≤ 2)
  | .frame _ => true
  | .learnDelta _ => true
  | .nmDelta _ => true
  | .bridgeWrite _ _ => true
  | .bridgeRead _ => true
  | .brRead _ _ _ => true
  | .brWrite _ _ _ => true
  | .brResp _ _ _ => true
  | .brTimeout _ => true
  | .capTake => true
  | .recordDone ring => decide (ring < 8)
  | .capTrigger _ ring => decide (ring < 8)
  | .capRelease _ ring => decide (ring < 8)
  | .capFreeze _ ring => decide (ring < 8)
  | .digestDone ring _ => decide (ring < 8)
  | .snap _ => true
  | .ldgRdDataRead _ => true
  | .ldgEvtPop _ => true
  | .ledgerSecond _ => true
  | .twinLinkDown => true
  | .s2sLinkUp => true
  | .pcsError k => decide (k < 20)
  | .beaconSeen seg => decide (seg < 8)
  | .overtempEnd shore => decide (shore < 2)
  | .txdRecessive chan => decide (chan < 24)
  | .vcc5UvEnd shore => decide (shore < 2)
  | .inhOcEnd shore out => decide (shore < 2) && decide (out < 2)
  | .frameDecoded chan => decide (chan < 24)
  | .dmcRestoreDone => true
  | .twinMessageResend => true

end Sys2Proof
end

