-- ==== Sys2Proof/Safety.lean ====
section
/-! DEFINITION. What counts as a safe run of the block, and the terms claims use: a command's own effect, an access that reaches
its register, a state in which nothing waits. -/
namespace Sys2Proof.Machine

/-- Every waiting command is well-formed. -/
def State.queueOk (s : State) : Bool := s.pending.all wellFormed

/-- A step is safe when it neither faults nor is refused. -/
def safeStep (s : State) : Prop := ∃ t, step s = .next t

/-- `t` is the own effect of command `c` in `s`: the next state is what `complete` makes of it (levels, ports, fault states,
reactions and ERROR_N follow their causes, R72–R79). -/
def Effect (c : Instr) (s t : State) : Prop := exec c s = .next (complete s t)

/-- Command `c` in `s` answers a next state, and `P` holds of its own effect. -/
def Does (c : Instr) (s : State) (P : State → Prop) : Prop := ∃ t, Effect c s t ∧ P t

/-- No posted condition waits, and while the main die runs or is held in reset ERROR_N is low exactly when a cause or the minimum
hold says so (R79, R524). -/
def State.settled (s : State) : Bool :=
  s.posts.isEmpty && (!(mainRuns s || s.pwr.held) || s.errPin.low == (pinCause s || s.errPin.hold))

/-! ### Accesses -/

/-- The way from an initiator to a window is open: its own part runs, and a window of a shore is reached over a link that is up,
or by that shore's controller (R5, R6, R304, R327). -/
def linked (s : State) (i : Initiator) (w : Nat) : Bool :=
  initRuns s i && match shcOf i with
    | none => dieOf w == 0 || ((s.bridge (dieOf w - 1)).up && shoreRuns s (dieOf w - 1))
    | some d => dieOf w == d + 1

/-- A 32-bit access by `i` reaches offset `off` of window `w`: mapped and linked, no write of `i` outstanding, aligned, no block
reset under way, admitted by WIN_ACCESS and, at TWL, by the port's owner (R6, R35, R41, R59, R63, R493). -/
def reaches (s : State) (i : Initiator) (w off : Nat) (write : Bool) : Bool :=
  (blkOf w).isSome && linked s i w && !holdsWrite s i && decide (off < 0x10000) && sizeOk w off 32 && !(s.win w).resetting
    && admitted s i w off write && !portForbidden i w off write

/-- A write has crossed to its window: the bridge of a shore counts it and discards its bursts (R308, R310). -/
def crossed (i : Initiator) (w : Nat) (s : State) : State :=
  if (shcOf i).isNone && dieOf w != 0 then
    (s.countWrap (shbWin (dieOf w - 1)) Reg.SHB_WR 1).modBridge (dieOf w - 1) fun b => { b with bursts := [] }
  else s

/-- A register write by `i` reaches `off` of window `w` and nothing in the window stands against it: no value is armed and no
update is pending (R46, R53). -/
def takes (s : State) (i : Initiator) (w off : Nat) : Bool :=
  reaches s i w off true && (s.win w).armed.isNone && !(s.win w).upd.pending

/-- The state in which an accepted write acts: it has crossed to its window, and the bus has answered (R59). -/
def arrived (i : Initiator) (w : Nat) (s : State) : State := busDone 0 (crossed i w s)

/-- A write by `i` to the twin of `off` in window `w` would complete the guarded sequence with value `v` (R52). -/
def takesGuarded (s : State) (i : Initiator) (w off v : Nat) : Bool :=
  reaches s i w (off + 0x2000) true && !(s.win w).upd.pending && match (s.win w).armed with
    | some g => g.off == off && g.init == i && g.value == BitVec.ofNat 32 v && decide (dieNow s w ≤ g.since + 1000000)
    | none => false

/-- The state in which a completed guarded sequence acts: the window is disarmed. -/
def unlocked (i : Initiator) (w : Nat) (s : State) : State := busDone 0 (disarm w (crossed i w s))

/-- A read by `i` reaches `off` of window `w`, and over a bridge no kept burst and no prefetch region answers it (R310). -/
def readsPlain (s : State) (i : Initiator) (w off : Nat) : Bool :=
  reaches s i w off false && ((shcOf i).isSome || dieOf w == 0
    || ((s.bridge (dieOf w - 1)).bursts.isEmpty && (prefetchRegion s (dieOf w - 1) w off).isNone))

/-- The state in which such a read acts: the bridge of a shore has counted it (R308). -/
def asked (i : Initiator) (w : Nat) (s : State) : State :=
  if (shcOf i).isNone && dieOf w != 0 then (dropBurst (dieOf w - 1) i s).countWrap (shbWin (dieOf w - 1)) Reg.SHB_RD 1 else s

/-- Nothing follows the effect `t` of a command that began in `s`: no window is to enter service mode, no frame goes on by
cut-through, no poisoned frame is read, no key or learning item is done with, no channel changes its mode, every port and link level
stands as its causes say, no port is newly gated, NM and the twin link have nothing to send, SGE and AUE nothing to judge, no
condition is posted, ERROR_N stands as it should, no access that waits can run, and no TABLE_IMAGE is read. -/
structure Quiet (s t : State) : Prop where
  asleep : ¬(s.pwr.state = .doze ∧ t.pwr.state = .run)
  service : ∀ e ∈ t.wins, e.2.svc ≠ .asked
  through : ∀ k, k < 20 → (t.mac k).sending = none
  poison : ∀ f ∈ t.pond.frames, f.poison = []
  keys : ∀ e ∈ t.aue.cores, ∀ l, e.2 = some l → t.now ≤ l.last + 100000
  learning : ∀ i ∈ t.emt.queue, ∀ f, i.waits = some f → receiving t f = true
  modes : ∀ n, n < 32 → cxMode t n = cxMode s n
  ports : ∀ p, p < 53 → (t.port p).cause = portCause t p
  links : ∀ k, k < 20 → noteLink k t = t
  gates : ∀ p, 32 ≤ p → p < 52 → ethGated t p = true → ethGated s p = true
  states : t.nm.map (fun e => (e.1, e.2.state)) = s.nm.map fun e => (e.1, e.2.state)
  requests : ∀ off ∈ [Reg.NMU_NETREQ_LO, Reg.NMU_NETREQ_HI], t.reg W.NMU off = s.reg W.NMU off
  sessions : ∀ x ∈ t.sge.sessions, ∀ f, x.fid = some f →
    x.tx = true ∨ (frameKnown t f = true ∧ (x.state = .done → t.frame? f = none))
  twin : twinUp t = true → ∀ e ∈ t.pond.egress, e.1 / 8 ≠ 52
  shed : noteShed t = t
  lines : sweepLinks t = t
  posts : t.posts = []
  pin : pinUpdate t = t
  waiting : ∀ x ∈ t.deferred, initRuns t x.acc.init = true ∧ accessReady { t with deferred := [] } x = false
  table : t.crn.table = none
  queue : t.pending = s.pending

end Sys2Proof.Machine
end

