-- ==== Sys2Proof/Certificates/Slice0/Obligations.lean ====
section
/-! DEFINITION. The statements for the provers: what the rules of the spec say each command and the block as a whole do. A clause
`Does c s P` says that `exec` answers a next state for `c` in `s` and that `P` holds of the command's own effect, of which the next
state is the completion (`Obligations.QuietEffectIsFinal` says when that changes nothing more). -/
open Sys2Proof Sys2Proof.Machine Sys2Proof.Machine.Reg

/-- A step runs the front command on the queue's rest; an empty queue idles (00 Scope, conventions and device map, 02 Register windows and access rules). -/
def Obligations.StepRunsFrontCommand : Prop :=
  (∀ (c : Instr) (rest : List Instr) (s : State), s.pending = c :: rest → step s = exec c { s with pending := rest })
    ∧ ∀ s : State, s.pending = [] → step s = .next s

/-- Every command answers a next state with the queue as it was (00 Scope, conventions and device map). -/
def Obligations.EveryCommandAnswersANextState : Prop :=
  ∀ (c : Instr) (s : State), ∃ t, exec c s = .next t ∧ t.pending = s.pending

/-- A step leaves the queue's rest, in order, and adds no command (00 Scope, conventions and device map). -/
def Obligations.StepConsumesTheFrontOfTheQueue : Prop :=
  ∀ s t : State, step s = .next t → t.pending = s.pending.tail

/-- Every step leaves no condition unrecorded and ERROR_N at the level of its causes (R72, R79, R304, R435). -/
def Obligations.StepKeepsErrorPinAndPostsSettled : Prop :=
  ∀ s t : State, s.settled = true → step s = .next t → t.settled = true

/-- The reset state meets the invariant of ERROR_N and posted conditions (R72, R79). -/
def Obligations.ResetIsSettled : Prop :=
  State.reset.settled = true ∧ State.reset.pending = []

/-- Where nothing follows a command's effect, that effect is the next state (R72, R75, R79, R133, R275, R483). -/
def Obligations.QuietEffectIsFinal : Prop :=
  ∀ s t : State, Quiet s t → complete s t = t

/-- EN at reset, and EN of SYS, ICX and CRN, which ignores writes of 0 (R39). -/
def Obligations.EnableBitsAtResetAndSticky : Prop :=
  (∀ w ∈ allWindows, State.reset.flag w BLK_CTRL 0
      = decide (w ∈ [W.SYS, W.ICX, W.BAL, W.IRTC, W.CRN, W.JWL, W.TRN, W.XSP, shbWin 0, shbWin 1]))
    ∧ (∀ (i : Initiator) (s : State), ∀ w ∈ [W.SYS, W.ICX], takes s i w BLK_CTRL = true →
        Does (.blockDisable i w) s fun t => t.flag w BLK_CTRL 0 = true)
    ∧ ∀ (i : Initiator) (s : State), takesGuarded s i W.CRN BLK_CTRL (clearMask (ctrlNow s W.CRN) 1) = true →
        Does (.blockDisable i W.CRN) s fun t => t.flag W.CRN BLK_CTRL 0 = true

/-- Registers, windows and fault sources at reset (R14, R37, R38, R41, R63). -/
def Obligations.RegistersAtReset : Prop :=
  (∀ w off, State.reset.reg w off = resetOf w off % 2 ^ 32 ∧ State.reset.shadow w off = resetOf w off % 2 ^ 32)
    ∧ (∀ w ∈ allWindows, State.reset.reg w WIN_ACCESS = 1) ∧ State.reset.reg (cxWin 27) BLK_ID = 0x141B0111
    ∧ (∀ w, State.reset.win w = Win.idle) ∧ ∀ w k, State.reset.source w k = Source.idle

/-- Unmapped windows, wrong sizes and forbidden accesses end with bus errors and change nothing (R6, R35, R61, R63). -/
def Obligations.AccessesThatReachNoRegisterEndWithBusErrors : Prop :=
  ∀ (i : Initiator) (addr size : Nat) (data : DWord) (e : Ecc) (s : State) (w : Nat), (shcOf i).isNone → mainRuns s = true →
    holdsWrite s i = false → windowOf addr = some w → dieOf w = 0 →
    let fails := fun (reason loc : Nat) =>
      Effect (.registerWrite i addr size data e) s
          (logBusErr ⟨addr, reason, i.code, false, true, loc⟩ { s with bus := ⟨0, reason⟩ })
        ∧ Effect (.speculativeRead i addr size e) s
          (logBusErr ⟨addr, reason, i.code, true, false, loc⟩ { s with bus := ⟨0, reason⟩ })
    ((blkOf w).isNone → fails 1 noTarget)
      ∧ ((blkOf w).isSome → sizeOk w (addr % 0x10000) size = false → fails 3 (locSelf w))
      ∧ ((blkOf w).isSome → sizeOk w (addr % 0x10000) size = true → (s.win w).resetting = false →
          (∀ k, accessBit i w = some k → s.flag w WIN_ACCESS k = false) →
          (i ≠ .crown → fails 2 (locSelf w))
            ∧ (i = .crown → addr % 0x2000 ≠ WIN_ACCESS → Effect (.registerWrite i addr size data e) s
                (logBusErr ⟨addr, 2, i.code, false, true, locSelf w⟩ { s with bus := ⟨0, 2⟩ })))

/-- The bus error log: sixteen entries, LOST saturating at 255, oldest entry popped (R61). -/
def Obligations.BusErrorLogHoldsSixteenEntries : Prop :=
  (∀ (e : BusErr) (s : State), s.icxLog.length < 16 →
      (logBusErr e s).icxLog = s.icxLog ++ [e] ∧ (logBusErr e s).icxLost = s.icxLost)
    ∧ (∀ (e : BusErr) (s : State), 16 ≤ s.icxLog.length →
      (logBusErr e s).icxLog = s.icxLog ∧ (logBusErr e s).icxLost = min (s.icxLost + 1) 255)
    ∧ (∀ (e : BusErr) (s : State), (s.win W.ICX).resetting = false →
      (logBusErr e s).posts = s.posts ++ [⟨W.ICX, 2, .event, if e.loc = noTarget then noTarget else locSelf W.ICX, false⟩])
    ∧ ∀ (i : Initiator) (s : State), takes s i W.ICX Reg.ICX_LOG_POP = true →
      Effect (.icxLogPop i) s { arrived i W.ICX s with icxLog := s.icxLog.drop 1 }

/-- Writes of all four views change exactly the RW, RW SH and W1C bits that the register map names (R14, R42, R55). -/
def Obligations.WritesStoreAsTheRegisterMapSays : Prop :=
  ∀ (i : Initiator) (w off : Nat) (r : RegRow) (d : Word) (e : Ecc) (s : State), blkOf w ∈ [some .SHB, some .GPIO, some .TRX, some .T1L] →
    0x100 ≤ off → off < 0x2000 → rowAt w off = some r → r.gd = 0 → r.kind = .plain →
    let old := (s.reg w off &&& r.rw) ||| (s.shadow w off &&& r.sh)
    let m := r.rw ||| r.sh
    let stored := fun v => storeRow w off v r (arrived i w s)
    let masked := fun v => if m = 0 then arrived i w s else stored v
    (takes s i w off = true → (shcOf i).isNone →
        Effect (.registerWrite i (winAddr w off) 32 (d.setWidth 64) e) s (stored d.toNat))
      ∧ (takes s i w (0x4000 + off) = true → Effect (.aliasSet i w off d) s (masked (old ||| (d.toNat &&& m))))
      ∧ (takes s i w (0x8000 + off) = true → Effect (.aliasClear i w off d) s (masked (clearMask old (d.toNat &&& m))))
      ∧ (takes s i w (0xC000 + off) = true → Effect (.aliasToggle i w off d) s (masked (old ^^^ (d.toNat &&& m))))

/-- What a stored write leaves: other registers, other bits, windows, sources, memory (R14, R42). -/
def Obligations.StoredRegisterFrame : Prop :=
  ∀ (w off data : Nat) (r : RegRow) (s : State),
    let t := storeRow w off data r s
    t.reg w off % 2 ^ 32 = (if r.rw = 0 ∧ r.w1c = 0 then s.reg w off
        else clearMask (mixBits r.rw (s.reg w off) data) (data &&& r.w1c)) % 2 ^ 32
      ∧ t.shadow w off % 2 ^ 32 = (if r.sh = 0 then s.shadow w off else mixBits r.sh (s.shadow w off) data) % 2 ^ 32
      ∧ (∀ w' o, regKey w' o ≠ regKey w off → t.reg w' o = s.reg w' o ∧ t.shadow w' o = s.shadow w' o)
      ∧ ({ t with regs := s.regs, shad := s.shad } : State) = s

/-- Arming, completing and breaking a guarded sequence (R52, R53). -/
def Obligations.GuardedRegistersChangeOnlyThroughTheirSequence : Prop :=
  ∀ (i : Initiator) (w off : Nat) (r : RegRow) (d : Word) (s : State), off < 0x2000 → rowAt w off = some r →
    (r.gd ≠ 0 → takes s i w off = true →
        Effect (.guardArm i w off d) s
          (busDone 0 ((crossed i w s).setWin w { s.win w with armed := some ⟨d, off, i, dieNow s w⟩ })))
      ∧ (r.gd ≠ 0 → takesGuarded s i w off (0xFFFFFFFF - d.toNat) = true →
          Effect (.twinWrite i w off d) s (writeGuarded w off (0xFFFFFFFF - d.toNat) Aux.plain r (unlocked i w s)))
      ∧ (reaches s i w (off + 0x2000) true = true →
          (match (s.win w).armed with
            | none => r.gd ≠ 0
            | some g => r.gd = 0 ∨ g.off ≠ off ∨ g.init ≠ i ∨ d.toNat ≠ 0xFFFFFFFF - g.value.toNat
                ∨ g.since + 1000000 < dieNow s w) →
          Does (.twinWrite i w off d) s fun t => t.bus = ⟨0, 5⟩ ∧ (t.win w).armed = none ∧ t.regs = (crossed i w s).regs
            ∧ t.shad = s.shad ∧ ⟨w, 1, .event, locSelf w, false⟩ ∈ t.posts)

/-- Any other write to a window that holds an armed value disarms it and still takes effect (R53). -/
def Obligations.AnyOtherWriteBreaksAGuardedSequence : Prop :=
  ∀ (i : Initiator) (w off : Nat) (r : RegRow) (d : Word) (s : State), off < 0x2000 → rowAt w off = some r →
    reaches s i w off true = true → (s.win w).armed.isSome → (s.win w).upd.pending = false →
    let broken := (disarm w (crossed i w s)).raise0 w 1
    (r.gd = 0 → r.kind ≠ .w64 → Effect (.guardArm i w off d) s (writeReg w off d.toNat i Aux.plain r (busDone 0 broken)))
      ∧ (r.gd ≠ 0 → Effect (.guardArm i w off d) s
          (busDone 0 (broken.setWin w { s.win w with armed := some ⟨d, off, i, dieNow s w⟩ })))

/-- STROBE accepts or rejects by its check; REVERT; neither acts while an update is pending (R44, R46, R47, R340). -/
def Obligations.StrobeChecksTheWholeShadow : Prop :=
  ∀ (i : Initiator) (w : Nat) (s : State),
    let a := arrived i w s
    let verdict := fun (u : State) =>
      if strobeCheck u w = 0 then
        let p := u.setUpd w fun x => { x with pending := true, applied := false, rejected := false, reason := 0 }
        if appliesAtOnce p w then applyWin w false p else p
      else (u.setUpd w fun x => { x with applied := false, rejected := true, reason := strobeCheck u w }).raise0 w 0
    (reaches s i w BLK_UPDATE true = true → (s.win w).armed = none → (s.win w).upd.pending = true →
        (∀ b, Effect (.strobe i w b) s a) ∧ Effect (.revert i w) s a)
      ∧ (takes s i w BLK_UPDATE = true →
        Effect (.strobe i w false) s (verdict a) ∧ Effect (.strobe i w true) s (verdict (revertWin w a))
          ∧ Effect (.revert i w) s (revertWin w a))

/-- REVERT and an apply leave shadow and live set equal in every SH field, and touch nothing else (R42, R44). -/
def Obligations.RevertAndApplyMakeShadowAndLiveSetEqual : Prop :=
  ∀ (w : Nat) (s : State),
    ((revertWin w s).regs = s.regs ∧ (applyRegs w s).shad = s.shad)
      ∧ (∀ off, off < 0x2000 →
        ((revertWin w s).shadow w off ^^^ s.reg w off) &&& shMask w off = 0
          ∧ ((applyRegs w s).reg w off ^^^ s.shadow w off) &&& shMask w off = 0
          ∧ clearMask ((applyRegs w s).reg w off) (shMask w off) = clearMask (s.reg w off) (shMask w off))
      ∧ ∀ w' off, off < 0x2000 → w' ≠ w → (applyRegs w s).reg w' off = s.reg w' off
        ∧ (revertWin w s).shadow w' off = s.shadow w' off

/-- UPDATE_APPLY: the shadow becomes live whole, APPLIED, APPLY_CNT counts; nothing without PENDING (R44, R45, R49). -/
def Obligations.PendingUpdateAppliesAtTheSafePoint : Prop :=
  ∀ (w : Nat) (b : Blk) (a : Bool) (s : State), blkOf w = some b →
    (if dieOf w = 0 then mainRuns s else shoreRuns s (dieOf w - 1)) = true →
    let u := (applyHook b w a s (applyRegs w s)).setUpd w fun x =>
      { x with pending := false, applied := true, count := (x.count + 1) % 256 }
    ((s.win w).upd.pending = false ∨ safePoint s w = false → Effect (.updateApply w a) s s)
      ∧ ((s.win w).upd.pending = true → safePoint s w = true → w ∉ u.shared.waiting → Effect (.updateApply w a) s u)
      ∧ ((s.win w).upd.pending = true → safePoint s w = true → w ∈ u.shared.waiting → Does (.updateApply w a) s fun t =>
          (t.win w).upd = (u.win w).upd ∧ t.regs = u.regs ∧ w ∉ t.shared.waiting
            ∧ (t.shared.pending = true ↔ u.shared.pending = true ∧ ∃ v ∈ u.shared.waiting, v ≠ w))

/-- SYS_UPDATE: every selected block pends, or none does; UPD_PAUSE_EXPIRED ends the admission hold (R49, R50, R51). -/
def Obligations.SharedUpdateAppliesInAllBlocksOrInNone : Prop :=
  (∀ (i : Initiator) (d : Word) (s : State), takes s i W.SYS SYS_UPDATE = true →
    let ws := selected s (d.toNat % 2 ^ 16)
    (s.shared.pending = true → Does (.sharedUpdate i d) s fun t =>
        t.bus = ⟨0, 6⟩ ∧ t.shared = s.shared ∧ t.wins = s.wins ∧ t.regs = s.regs)
      ∧ (s.shared.pending = false → d.toNat % 2 ^ 16 = 0 → Effect (.sharedUpdate i d) s (arrived i W.SYS s))
      ∧ (s.shared.pending = false → d.toNat % 2 ^ 16 ≠ 0 → (∀ w ∈ ws, sharedVerdict s w = 0 ∧ appliesAtOnce s w = false) →
        Does (.sharedUpdate i d) s fun t => t.regs = s.regs ∧ t.shad = s.shad
          ∧ (∀ w ∈ ws, (t.win w).upd.pending = true) ∧ (ws ≠ [] → t.shared.pending = true ∧ t.shared.waiting = ws))
      ∧ (s.shared.pending = false → d.toNat % 2 ^ 16 ≠ 0 → ∀ w, ws = [w] → sharedVerdict s w = 0 → appliesAtOnce s w = true →
        Does (.sharedUpdate i d) s fun t => (t.win w).upd.pending = false ∧ (t.win w).upd.applied = true
          ∧ t.shared.pending = false ∧ t.shared.applied = true)
      ∧ (s.shared.pending = false → d.toNat % 2 ^ 16 ≠ 0 → ∀ v, ws.find? (fun w => sharedVerdict s w != 0) = some v →
        Does (.sharedUpdate i d) s fun t => t.regs = s.regs ∧ t.shad = s.shad
          ∧ (∀ w, (t.win w).upd.pending = (s.win w).upd.pending) ∧ t.shared.pending = false ∧ t.shared.rejected = true
          ∧ t.shared.firstReject = v ∧ t.shared.reason = sharedVerdict s v))
    ∧ ∀ s : State, mainRuns s = true →
      (s.shared.hold = true → s.shared.rounds = 0 → (s.win W.QMG).resetting = false → Does .updPauseExpired s fun t =>
          t.shared.hold = false ∧ t.shared.pauseExpired = true ∧ t.shared.pending = s.shared.pending ∧ t.wins = s.wins
            ∧ t.posts = s.posts ++ [⟨W.QMG, 2, .event, locSelf W.QMG, false⟩])
        ∧ (s.shared.hold = false ∨ s.shared.rounds ≠ 0 → Effect .updPauseExpired s s)

/-- BLOCK_RESET, BLOCK_ENABLE and BLOCK_DISABLE write BLK_CTRL, guarded where R40 says (R39, R40, R41, R556). -/
def Obligations.BlockControlWritesActThroughBlkCtrl : Prop :=
  ∀ (i : Initiator) (w : Nat) (b : Blk) (s : State), blkOf w = some b →
    let now := ctrlNow s w
    (ctrlGuarded w = false → takes s i w BLK_CTRL = true →
        Effect (.blockReset i w) s (writeCtrl w (now ||| 2) (arrived i w s))
          ∧ Effect (.blockEnable i w) s (writeCtrl w (now ||| 1) (arrived i w s))
          ∧ Effect (.blockDisable i w) s (writeCtrl w (clearMask now 1) (arrived i w s)))
      ∧ (ctrlGuarded w = true →
        (takesGuarded s i w BLK_CTRL (now ||| 2) = true → Effect (.blockReset i w) s (writeCtrl w (now ||| 2) (unlocked i w s)))
          ∧ (takesGuarded s i w BLK_CTRL (now ||| 1) = true →
            Effect (.blockEnable i w) s (writeCtrl w (now ||| 1) (unlocked i w s)))
          ∧ (takesGuarded s i w BLK_CTRL (clearMask now 1) = true →
            Effect (.blockDisable i w) s (writeCtrl w (clearMask now 1) (unlocked i w s))))
      ∧ ∀ (data : Nat) (u : State), data < 16 → bit data 1 = false →
        b ∈ [.BAL, .LDG, .IRT, .DIA, .CLS, .EMT, .WCT, .POL, .CDM, .AUE, .TRN, .CQ, .CAP, .DMC, .XSP, .GPIO, .TRX, .SWK, .SHC,
          .SRL] →
        writeCtrl w data u = askService w (bit data 2) (u.setReg w BLK_CTRL (data % 2 + bits data 3 2 * 4))

/-- A block reset returns registers, shadows and sources of its window, keeping WIN_ACCESS and locked bytes; BLOCK_RESET_END ends it (R41, R63, R68, R555). -/
def Obligations.BlockResetKeepsAccessMaskAndLockedBytes : Prop :=
  (∀ (w : Nat) (s : State), w < 0x400 →
    (∀ kept : List Nat, (∀ o ∈ kept, o < 0x2000 ∧ (o < FLT_CFG ∨ FLT_CFG + 32 ≤ o)) →
      let t := resetRegs w kept s
      (∀ off, off < 0x2000 → off ≠ WIN_ACCESS → off ∉ kept → (off < FLT_CFG ∨ FLT_CFG + 32 ≤ off) →
          t.reg w off = resetOf w off % 2 ^ 32)
        ∧ t.reg w WIN_ACCESS = s.reg w WIN_ACCESS ∧ (∀ off ∈ kept, t.reg w off = s.reg w off)
        ∧ (∀ k, k < 8 → t.reg w (FLT_CFG + 4 * k) = lockedBytes (s.reg w (FLT_CFG + 4 * k)))
        ∧ (∀ off, off < 0x2000 → t.shadow w off = resetOf w off % 2 ^ 32) ∧ (∀ k, k < 32 → t.source w k = Source.idle)
        ∧ ∀ w' off k, off < 0x2000 → k < 32 → w' ≠ w →
          t.reg w' off = s.reg w' off ∧ t.shadow w' off = s.shadow w' off ∧ t.source w' k = s.source w' k)
      ∧ ∀ b, blkOf w = some b → b ∈ [.CLS, .WCT, .AUE, .SVP, .GPIO] → w ∉ s.shared.waiting →
        resetBlock w s = (resetRegs w [] s).setWin w { Win.idle with resetting := true })
    ∧ ∀ (w : Nat) (b : Blk) (s : State), blkOf w = some b →
      (if dieOf w = 0 then mainRuns s else shoreRuns s (dieOf w - 1)) = true →
      let u := s.setWin w { s.win w with resetting := false }
      ((s.win w).resetting = true → Effect (.blockResetEnd w) s (rejudge b w u))
        ∧ ((s.win w).resetting = false → Effect (.blockResetEnd w) s s)
        ∧ (b ∈ [.SYS, .ICX, .BAL, .IRT, .DIA, .CLS, .WCT, .POL, .CDM, .SGE, .AUE, .JWL, .VLT, .SVP, .CQ, .CAP, .DMC, .XSP, .GPIO,
            .CRN, .NMU, .SWK] → rejudge b w u = u)

/-- Reads of 64-bit counters: the LO read latches the high half, the HI read takes it (R57, R58, R62, R370). -/
def Obligations.CounterPairsReadThroughTheHighLatch : Prop :=
  ∀ (i : Initiator) (w off : Nat) (r : RegRow) (e : Ecc) (s : State), off < 0x2000 → rowAt w off = some r →
    let u := asked i w s
    let latch := fun (x : Option (Nat × Word)) => u.setWin w { u.win w with hiLatch := x }
    (readsPlain s i w off = true → r.kind = .lo →
        let v := latch (some (off, BitVec.ofNat 32 (peek u w (off + 4))))
        Effect (.counterLoRead i (addrFor i w off) 32 e) s
          (busDone (peek u w off) (if w = W.TMS ∧ off = TMS_NOW_LO then latchFrac v else v)))
      ∧ (readsPlain s i w off = true → r.kind = .hi →
        (∀ v, (u.win w).hiLatch = some (off - 4, v) → 4 ≤ off →
            Effect (.counterHiRead i (addrFor i w off)) s (busDone v.toNat (latch none)))
          ∧ ((∀ o v, (u.win w).hiLatch = some (o, v) → o + 4 ≠ off) →
            Effect (.counterHiRead i (addrFor i w off)) s (busDone (peek u w off) u)))
      ∧ ((shcOf i).isNone → mainRuns s = true → holdsWrite s i = false → dieOf w = 0 → (s.win w).resetting = false →
        admitted s i w off false = true →
        r.kind = .lo → off % 8 = 0 → Effect (.counterLoRead i (winAddr w off) 64 e) s
          (busDone (peek s w off + 2 ^ 32 * peek s w (off + 4)) s))

/-- A speculative read of an RS register counts in SPEC_READS; any other is as a plain read (R54, R62, R427, R493). -/
def Obligations.SpeculativeReadsHaveNoSideEffect : Prop :=
  ∀ (i : Initiator) (w off : Nat) (r : RegRow) (e : Ecc) (s : State), off < 0x2000 → off % 4 = 0 → rowAt w off = some r →
    (shcOf i).isNone → dieOf w = 0 → reaches s i w off false = true →
    let bridged := w = W.TWL ∧ ∃ q, bridgePort off = some (q, 8)
    (r.kind = .rs ∨ r.kind = .lo → ¬bridged →
        Effect (.speculativeRead i (winAddr w off) 32 e) s (busDone (peek s w off) (s.count w SPEC_READS)))
      ∧ (w = W.TWL → bridgePort off = some (i.code, 8) →
        Effect (.speculativeRead i (winAddr w off) 32 e) s (busDone 0 (s.count w SPEC_READS)))
      ∧ (∀ q, w = W.TWL → bridgePort off = some (q, 8) → q ≠ i.code →
        Effect (.speculativeRead i (winAddr w off) 32 e) s (busDone (s.reg w off) s))
      ∧ (r.kind = .plain → Effect (.speculativeRead i (winAddr w off) 32 e) s (busDone (readView s w r off) (readDraws w off s)))
      ∧ (r.kind = .hi → Effect (.speculativeRead i (winAddr w off) 32 e) s (busDone ((latched s w off).getD (peek s w off)) s))

/-- A guarded register reads its current value, its twin the bitwise complement (R54). -/
def Obligations.GuardedRegistersReadWithTheirTwins : Prop :=
  ∀ (i : Initiator) (w off : Nat) (r : RegRow) (e : Ecc) (s : State), off < 0x2000 → rowAt w off = some r → r.gd ≠ 0 →
    (shcOf i).isNone → dieOf w = 0 → reaches s i w off false = true → reaches s i w (off + 0x2000) false = true →
    (Effect (.speculativeRead i (winAddr w off) 32 e) s (busDone (readView s w r off) s)
        ∧ Effect (.counterLoRead i (winAddr w off) 32 e) s (busDone (readView s w r off) s))
      ∧ Effect (.speculativeRead i (winAddr w (off + 0x2000)) 32 e) s (busDone (0xFFFFFFFF - readView s w r off) s)
      ∧ Effect (.counterLoRead i (winAddr w (off + 0x2000)) 32 e) s (busDone (0xFFFFFFFF - readView s w r off) s)

/-- The state table of a fault source: what each condition does in each state (R70, R72). -/
def Obligations.ConditionsMeetTheSourceStateTable : Prop :=
  ∀ (s : State) (p : Post), p.inj = false →
    let x := s.source p.win p.src
    let r := fltPost s p
    let entry : Option FltEntry := match x.state with
      | .faulted => none
      | .recovering => some ⟨p.src, x.sev, x.react, p.loc, false⟩
      | .normal => some ⟨p.src, effSev s p.win p.src, effReact s p.win p.src, p.loc, false⟩
    (p.cond = .event → x.live = false → x.held = false → r.1 = entry ∧ r.2.state = .recovering)
      ∧ (p.cond = .levelOn → r.1 = entry ∧ r.2.state = .faulted ∧ r.2.live = true)
      ∧ (p.cond = .levelOff → r.1 = none ∧ r.2.live = false
        ∧ (x.held = false → x.state = .faulted → r.2.state = .recovering) ∧ (x.held = true ∨ x.state ≠ .faulted → r.2.state = x.state))
      ∧ (p.cond ≠ .levelOff → x.state = .normal → r.2.sev = effSev s p.win p.src ∧ r.2.react = effReact s p.win p.src)
      ∧ (p.cond ≠ .levelOff → x.state ≠ .normal → r.2.sev = x.sev ∧ r.2.react = x.react)

/-- Effective severity and reaction: escalation by one step, at most Critical, and the floor of that severity (R69, R70, R74). -/
def Obligations.EscalationAndFloorFixTheReaction : Prop :=
  (∀ (s : State) (w k : Nat),
      (escalated s w k = true ↔ s.fld w FLT_ESCAL 7 0 ≠ 0 ∧ s.fld w FLT_ESCAL 7 0 ≤ recovCount s w k)
        ∧ (escalated s w k = false → effSev s w k = fltByte s w k % 4)
        ∧ (escalated s w k = true → effSev s w k = min 3 (fltByte s w k % 4 + 1))
        ∧ effReact s w k = bits (fltByte s w k) 6 2 ||| s.fld W.SYS SYS_FLT_FLOOR (5 * effSev s w k + 4) (5 * effSev s w k))
    ∧ (List.range 4).map (fun v => State.reset.fld W.SYS SYS_FLT_FLOOR (5 * v + 4) (5 * v)) = [0, 1, 0x11, 0x12]

/-- CONDITION_ARISES and CONDITION_ENDS post the condition of their source (R66, R72). -/
def Obligations.ConditionRowsPostTheirSource : Prop :=
  ∀ (w k loc : Nat) (s : State), (blkOf w).isSome →
    (if dieOf w = 0 then mainRuns s else shoreRuns s (dieOf w - 1)) = true →
    (k < nsrc w → (s.win w).resetting = false →
        Effect (.conditionArises w k loc true) s { s with posts := s.posts ++ [⟨w, k, .levelOn, loc, false⟩] }
          ∧ Effect (.conditionArises w k loc false) s { s with posts := s.posts ++ [⟨w, k, .event, loc, false⟩] }
          ∧ Effect (.conditionEnds w k) s { s with posts := s.posts ++ [⟨w, k, .levelOff, 0, false⟩] })
      ∧ (nsrc w ≤ k → ∀ b, Effect (.conditionArises w k loc b) s s ∧ Effect (.conditionEnds w k) s s)

/-- A fault that is recorded sets FLT_STAT, FLT_LOC and FLT_INFO, and counts at its severity (R67, R73, R75). -/
def Obligations.RecordedFaultShowsInItsSection : Prop :=
  ∀ (w : Nat) (e : FltEntry) (s : State), (blkOf w).isSome → ¬(W.FAB ≤ w ∧ w ≤ W.FAB + 2) → w ≠ W.CAP → e.src < 32 →
    e.sev < 4 → (∀ r, r < 8 → s.flag W.CAP (ringReg CAP_TRIG0 r) 29 = false) →
    let t := fltInform w [e] (fltRecord w e s)
    t.flag w FLT_STAT e.src = true ∧ (∀ j, j < 32 → j ≠ e.src → t.flag w FLT_STAT j = s.flag w FLT_STAT j)
      ∧ t.reg w (FLT_CNT + 4 * e.sev) = min (s.reg w (FLT_CNT + 4 * e.sev) + 1) (2 ^ 32 - 1)
      ∧ t.reg w FLT_LOC = e.loc % 2 ^ 32 ∧ t.fld w FLT_INFO 31 31 = 1 ∧ t.fld w FLT_INFO 30 30 = b2n e.inj
      ∧ t.fld w FLT_INFO 7 6 = e.sev ∧ t.fld w FLT_INFO 4 0 = e.src
      ∧ ∀ w' off, off < 0x2000 → w' ≠ w → t.reg w' off = s.reg w' off

/-- The quiet timer and FLT_RELEASE return Recovering sources to Normal; only the timer counts a recovery; ERROR_N_HOLD_END ends the minimum hold (R72, R74, R79). -/
def Obligations.QuietSourcesReturnToNormal : Prop :=
  (∀ (w k : Nat) (s : State), (blkOf w).isSome → k < nsrc w →
      (if dieOf w = 0 then mainRuns s else shoreRuns s (dieOf w - 1)) = true →
      ((s.source w k).state = .recovering → s.reg w FLT_QUIET ≠ 0 → Does (.quietTimerExpiry w k) s fun t =>
          (t.source w k).state = .normal ∧ (∀ j, j < 32 → j ≠ k → t.source w j = s.source w j)
            ∧ recovCount t w k = min (recovCount s w k + 1) 65535)
        ∧ ((s.source w k).state ≠ .recovering ∨ s.reg w FLT_QUIET = 0 → Effect (.quietTimerExpiry w k) s s))
    ∧ (∀ (i : Initiator) (w : Nat) (d : Word) (s : State), takes s i w Reg.FLT_RELEASE = true → Does (.fltRelease i w d) s fun t =>
      (∀ k, k < nsrc w → t.source w k
          = if bit d.toNat k = true ∧ (s.source w k).state = .recovering then { s.source w k with state := .normal } else s.source w k)
        ∧ t.regs = (arrived i w s).regs ∧ t.posts = s.posts)
    ∧ ∀ s : State, mainRuns s = true ∨ s.pwr.held = true → Effect .errorNHoldEnd s { s with errPin := { s.errPin with hold := false } }

/-- FLT_STAT, FLT_RECOV_CLR, FLT_CFG and FLT_INJECT writes (R67, R68, R74, R81). -/
def Obligations.FaultSectionWrites : Prop :=
  (∀ (i : Initiator) (w : Nat) (d : Word) (s : State), takes s i w FLT_STAT = true → Does (.fltStatClear i w d) s fun t =>
      (∀ k, k < nsrc w → t.flag w FLT_STAT k
          = (s.flag w FLT_STAT k && (!bit d.toNat k || (s.source w k).live || (s.source w k).held)))
        ∧ (∀ w' off, regKey w' off ≠ regKey w FLT_STAT → t.reg w' off = (arrived i w s).reg w' off)
        ∧ t.sources = s.sources ∧ t.posts = s.posts)
    ∧ (∀ (i : Initiator) (w : Nat) (d : Word) (s : State), takes s i w Reg.FLT_RECOV_CLR = true → Does (.fltRecovClr i w d) s fun t =>
      (∀ k, k < nsrc w → recovCount t w k = if bit d.toNat k then 0 else recovCount s w k)
        ∧ (∀ w' off, off < 0x2000 → w' ≠ w → t.reg w' off = (arrived i w s).reg w' off)
        ∧ t.sources = s.sources ∧ t.posts = s.posts)
    ∧ (∀ (w k b data : Nat) (a : Aux) (r : RegRow) (s : State), k < 8 → b < 4 →
      fltByte (writeGuarded w (FLT_CFG + 4 * k) data a r s) w (4 * k + b)
        = if 4 * k + b < nsrc w ∧ bit (fltByte s w (4 * k + b)) 7 = false then bits data (8 * b + 7) (8 * b) else fltByte s w (4 * k + b))
    ∧ ∀ (i : Initiator) (w : Nat) (d : Word) (s : State), takes s i w Reg.FLT_INJECT = true →
      let k := bits d.toNat 4 0
      let admits := (lifecycle s = 0 ∨ lifecycle s = 4) ∧ bit s.straps 4 = true
      let injects := fun (c : Cond) =>
        Effect (.fltInject i w d) s ((arrived i w s).post ⟨w, k, c, locCode (dieOf w) w 0x3F 0xFF 0x3F, true⟩)
      (admits → bit d.toNat 5 = true → k < nsrc w → bit d.toNat 7 = true → injects .levelOn)
        ∧ (admits → bit d.toNat 5 = true → k < nsrc w → bit d.toNat 7 = false → (s.source w k).held = true → injects .levelOff)
        ∧ (admits → bit d.toNat 5 = true → k < nsrc w → bit d.toNat 7 = false → (s.source w k).held = false → injects .event)
        ∧ (¬admits ∨ bit d.toNat 5 = false ∨ nsrc w ≤ k → Effect (.fltInject i w d) s (arrived i w s))

/-- BRST has no effect in the SYS, ICX and CRN windows (R71). -/
def Obligations.BlockResetReactionSparesSysIcxAndCrn : Prop :=
  (∀ (es : List FltEntry) (s : State), ∀ w ∈ [W.SYS, W.ICX, W.CRN], fltBrst w es s = s)
    ∧ ∀ (w : Nat) (e : FltEntry) (s : State), w ∉ [W.SYS, W.ICX, W.CRN] → dieOf w = 0 → bit e.react 2 = true → bit e.react 3 = false →
      fltBrst w [e] s = resetBlock w (brstReport (srcBase w + e.src) (s.reg w FLT_LOC) s)

/-- WINDOW_END: BAL_MIN takes the lowest enabled reading, its histogram bin counts, PACE_LOW raises the voltage (R23, R24, R25, R27). -/
def Obligations.WindowEndTakesTheLowestPace : Prop :=
  ∀ (rs : List Nat) (a : Bool) (s : State), mainRuns s = true → rs.length ≤ 16 → (∀ x ∈ rs, x < 2 ^ 16) →
    (s.enabled W.BAL = false ∨ s.flag W.BAL BAL_MEAS 16 = false ∨ s.fld W.BAL BAL_MEAS 15 0 = 0 → Effect (.windowEnd rs a) s s)
      ∧ (s.enabled W.BAL = true → s.flag W.BAL BAL_MEAS 16 = true → s.fld W.BAL BAL_MEAS 15 0 ≠ 0 →
        ∀ (m p : Nat), rs[m]? = some p → bit (s.fld W.BAL BAL_MASK 15 0) m = true →
          (∀ j q, rs[j]? = some q → bit (s.fld W.BAL BAL_MASK 15 0) j = true → p ≤ q ∧ (j < m → p < q)) →
          let k := if p < 800 then 0 else if 2200 ≤ p then 15 else (p - 700) / 100
          let last := s.fld W.BAL BAL_VSTAT 31 16
          let v := clampMv s (last + 5 * s.fld W.BAL BAL_REG_CTRL 27 24)
          (Does (.windowEnd rs a) s fun t => t.reg W.BAL BAL_MIN = m * 0x10000 + p
              ∧ t.reg W.BAL (BAL_HIST + 4 * k) = min (s.reg W.BAL (BAL_HIST + 4 * k) + 1) (2 ^ 32 - 1)
              ∧ ∀ j q, rs[j]? = some q → t.reg W.BAL (BAL_PACE + 4 * j) = 0x10000 + q)
            ∧ (p < s.fld W.BAL BAL_THRESH 31 16 → (s.source W.BAL 3).live = false → s.flag W.BAL BAL_REG_CTRL 31 = true →
              (s.win W.BAL).resetting = false → Does (.windowEnd rs a) s fun t =>
                ⟨W.BAL, 3, .levelOn, locUnit W.BAL m, false⟩ ∈ t.posts
                ∧ (s.flag W.BAL BAL_VSTAT 1 = true → t.bal.raise = true ∧ t.bal.cmdMv = s.bal.cmdMv)
                ∧ (s.flag W.BAL BAL_VSTAT 1 = false → a = false → v ≠ last → t.flag W.BAL BAL_VSTAT 1 = true ∧ t.bal.cmdMv = v)
                ∧ (s.flag W.BAL BAL_VSTAT 1 = false → a = true ∨ v = last → t.bal = s.bal)))

/-- LOOP_PERIOD: the loop raises by STEP_UP, lowers by one step, or holds, inside the guard set (R26, R28, R29). -/
def Obligations.RegulationLoopStepsWithinTheGuard : Prop :=
  ∀ (s : State), mainRuns s = true → s.enabled W.BAL = true → s.flag W.BAL BAL_REG_CTRL 31 = true →
    s.flag W.BAL BAL_VSTAT 1 = false →
    let p := s.fld W.BAL BAL_MIN 15 0
    let tgt := s.fld W.BAL BAL_REG_TARGET 15 0
    let band := s.fld W.BAL BAL_REG_TARGET 31 16
    let last := s.fld W.BAL BAL_VSTAT 31 16
    let v := clampMv s (if p + band < tgt then last + 5 * s.fld W.BAL BAL_REG_CTRL 27 24 else if tgt + band < p then last - 5 else last)
    (Does (.loopPeriod true) s fun t => t.flag W.BAL BAL_VSTAT 1 = false ∧ t.bal.cmdMv = s.bal.cmdMv
        ∧ t.reg64 W.BAL BAL_PMB_TXN_LO = s.reg64 W.BAL BAL_PMB_TXN_LO)
      ∧ (v ≠ last → Does (.loopPeriod false) s fun t => t.flag W.BAL BAL_VSTAT 1 = true ∧ t.bal.cmdMv = v
        ∧ t.fld W.BAL BAL_VSTAT 31 16 = last ∧ t.reg64 W.BAL BAL_PMB_TXN_LO = (s.reg64 W.BAL BAL_PMB_TXN_LO + 1) % 2 ^ 64)
      ∧ (v = last → Does (.loopPeriod false) s fun t => t.flag W.BAL BAL_VSTAT 1 = false ∧ t.bal.cmdMv = s.bal.cmdMv)
      ∧ (p + band < tgt → last = s.fld W.BAL BAL_REG_GUARD 31 16 → s.bal.vmaxPeriods = 15 → (s.win W.BAL).resetting = false →
        ∀ a, Does (.loopPeriod a) s fun t => t.bal.vmaxPeriods = 16 ∧ ⟨W.BAL, 4, .event, locSelf W.BAL, false⟩ ∈ t.posts)
      ∧ (v ≠ last → s.fld W.BAL BAL_REG_GUARD 15 0 ≤ s.fld W.BAL BAL_REG_GUARD 31 16 →
        s.fld W.BAL BAL_REG_GUARD 15 0 ≤ v ∧ v ≤ s.fld W.BAL BAL_REG_GUARD 31 16)

/-- PMBus outcomes, BAL_VSET and the histogram clear (R25, R29, R31). -/
def Obligations.PmbusTransactionsMoveTheVoltage : Prop :=
  (∀ (a : Bool) (s : State), mainRuns s = true → s.flag W.BAL BAL_VSTAT 1 = true → (s.win W.BAL).resetting = false →
      (s.bal.queue = [] → s.bal.raise = false →
        (s.bal.cmdMv < 2 ^ 16 → Does (.pmbusTransactionEnd true a) s fun t => t.flag W.BAL BAL_VSTAT 1 = false
            ∧ t.fld W.BAL BAL_VSTAT 31 16 = s.bal.cmdMv ∧ t.fld W.BAL BAL_VSTAT 15 8 = 0 ∧ t.posts = s.posts)
          ∧ Does (.pmbusTransactionEnd false a) s fun t => t.flag W.BAL BAL_VSTAT 1 = false
            ∧ t.fld W.BAL BAL_VSTAT 31 16 = s.fld W.BAL BAL_VSTAT 31 16
            ∧ t.fld W.BAL BAL_VSTAT 15 8 = min (s.fld W.BAL BAL_VSTAT 15 8 + 1) 255
            ∧ t.posts = s.posts ++ [⟨W.BAL, 5, .event, locSelf W.BAL, false⟩]
            ∧ t.flag W.BAL BAL_REG_CTRL 31 = (s.flag W.BAL BAL_REG_CTRL 31 && decide (s.fld W.BAL BAL_VSTAT 15 8 + 1 < 3)))
        ∧ ∀ v rest, s.bal.queue = v :: rest → s.bal.cmdMv < 2 ^ 16 → Does (.pmbusTransactionEnd true a) s fun t =>
          t.flag W.BAL BAL_VSTAT 1 = true ∧ t.bal.cmdMv = v ∧ t.bal.queue = rest ∧ t.fld W.BAL BAL_VSTAT 31 16 = s.bal.cmdMv)
    ∧ (∀ s : State, mainRuns s = true → s.flag W.BAL BAL_VSTAT 1 = false → ∀ ok a, Effect (.pmbusTransactionEnd ok a) s s)
    ∧ (∀ (i : Initiator) (d : Word) (s : State), takes s i W.BAL BAL_VSET = true →
      (s.flag W.BAL BAL_REG_CTRL 31 = true → Effect (.balVsetWrite i d) s (busDone 0 s))
        ∧ (s.flag W.BAL BAL_REG_CTRL 31 = false → s.flag W.BAL BAL_VSTAT 1 = false → Does (.balVsetWrite i d) s fun t =>
          t.bal.cmdMv = clampMv s (d.toNat % 2 ^ 16) ∧ t.flag W.BAL BAL_VSTAT 1 = true
            ∧ t.fld W.BAL BAL_VSTAT 31 16 = s.fld W.BAL BAL_VSTAT 31 16)
        ∧ (s.flag W.BAL BAL_REG_CTRL 31 = false → s.flag W.BAL BAL_VSTAT 1 = true → Does (.balVsetWrite i d) s fun t =>
          t.bal = { s.bal with queue := s.bal.queue ++ [clampMv s (d.toNat % 2 ^ 16)] } ∧ t.flag W.BAL BAL_VSTAT 1 = true))
    ∧ ∀ (i : Initiator) (d : Word) (s : State), takes s i W.BAL Reg.BAL_HIST_CLR = true → bit d.toNat 0 = true →
      Does (.balHistClr i d) s fun t => (∀ k, k < 16 → t.reg W.BAL (BAL_HIST + 4 * k) = 0)
        ∧ t.reg W.BAL BAL_MIN = s.reg W.BAL BAL_MIN

/-- Freezing, draining, disabling, enabling and testing a train (R94, R106, R107, R108, R109, R115). -/
def Obligations.TrainsLeaveAndReturnToService : Prop :=
  ∀ (i : Initiator) (t : Nat) (d : Word) (s : State), t < 3 →
    let w := fabWin t
    let last := inService s t && !otherInService s t
    (takes s i w FAB_TCTRL = true →
        (bit d.toNat 0 = true → last = true → Does (.trainFreeze i t d) s fun u =>
            inService u t = true ∧ u.flag w FAB_TCTRL 1 = bit d.toNat 1 ∧ (u.train t).refused = true)
          ∧ (bit d.toNat 0 = true → last = false → Does (.trainFreeze i t d) s fun u =>
            inService u t = false ∧ u.flag w FAB_TCTRL 0 = true ∧ u.flag w FAB_TCTRL 1 = bit d.toNat 1
              ∧ (u.train t).refused = false ∧ (u.train t).flight = (s.train t).flight)
          ∧ (bit d.toNat 0 = false → Does (.trainFreeze i t d) s fun u =>
            u.flag w FAB_TCTRL 0 = false ∧ u.flag w FAB_TCTRL 1 = bit d.toNat 1 ∧ u.flag w BLK_CTRL 0 = s.flag w BLK_CTRL 0
              ∧ (u.train t).refused = false ∧ (u.train t).flight = (s.train t).flight))
      ∧ (mainRuns s = true →
        (s.flag w FAB_TCTRL 0 = true → (s.train t).flight = [] → Does (.trainDrained t) s fun u =>
            u.flag w FAB_TCTRL 0 = true ∧ u.flag w BLK_CTRL 0 = (s.flag w BLK_CTRL 0 && !(s.train t).leaving))
          ∧ (s.flag w FAB_TCTRL 0 = false ∨ (s.train t).flight ≠ [] → Effect (.trainDrained t) s s)
          ∧ (s.flag w FAB_TCTRL 0 = true → (s.train t).flight ≠ [] → (s.win w).resetting = false →
            (s.source w 5).live = false → Does (.trnDrainStall t) s fun u => (u.train t).stalled = true
              ∧ u.posts = s.posts ++ [⟨w, 5, .levelOn, locSelf w, false⟩] ∧ u.regs = s.regs)
          ∧ ((s.train t).bistBusy = true → (s.win w).resetting = false →
            (Does (.bistComplete t true d) s fun u => (u.train t).bistBusy = false ∧ (u.train t).bistPass = true
                ∧ (u.train t).bistFail = false ∧ u.regs = s.regs)
              ∧ Does (.bistComplete t false d) s fun u => (u.train t).bistBusy = false ∧ (u.train t).bistPass = false
                ∧ (u.train t).bistFail = true ∧ u.reg w FAB_BIST_LOC = d.toNat
                ∧ u.posts = s.posts ++ [⟨w, 6, .event, d.toNat, false⟩]))
      ∧ (takesGuarded s i w BLK_CTRL (clearMask (ctrlNow s w) 1) = true → s.flag w BLK_CTRL 0 = true →
        ((s.win w).svc = .on → s.flag w BLK_CTRL 2 = true) →
        (last = true → Does (.trainDisable i t) s fun u => inService u t = true ∧ (u.train t).refused = true)
          ∧ (last = false → (s.train t).stalled = true ∨ (s.train t).flight = [] →
            Does (.trainDisable i t) s fun u => u.flag w BLK_CTRL 0 = false ∧ (u.train t).flight = [])
          ∧ (last = false → (s.train t).stalled = false → (s.train t).flight ≠ [] →
            Does (.trainDisable i t) s fun u => u.flag w BLK_CTRL 0 = true ∧ u.flag w FAB_TCTRL 0 = true
              ∧ (u.train t).flight = (s.train t).flight ∧ (u.train t).leaving = true))
      ∧ (takesGuarded s i w BLK_CTRL (ctrlNow s w ||| 1) = true → Does (.trainEnable i t) s fun u =>
          u.flag w BLK_CTRL 0 = true ∧ u.flag w FAB_TCTRL 0 = false ∧ (s.flag w BLK_CTRL 2 = false → inService u t = true)
            ∧ ∀ k, fabPtr u t k = 0)
      ∧ (takes s i w FAB_BIST = true → 
        (s.flag w BLK_CTRL 0 = false ∧ (s.train t).flight = [] → Does (.bistStart i t) s fun u =>
            (u.train t).bistBusy = true ∧ (u.train t).bistPass = false ∧ (u.train t).bistFail = false ∧ u.regs = s.regs)
          ∧ (s.flag w BLK_CTRL 0 = true ∨ (s.train t).flight ≠ [] → Does (.bistStart i t) s fun u =>
            (u.train t).bistBusy = (s.train t).bistBusy ∧ (u.train t).bistFail = true ∧ u.regs = s.regs))

/-- Grants, commits, declines, arrivals at a resequencer and its timeout (R93, R96, R98, R99, R100, R101, R102, R103). -/
def Obligations.CellsCrossInMatchOrderAndLeaveInSequence : Prop :=
  (∀ (s : State) (t o i c : Nat) (matched : List Nat), grantOf s t [] matched o = some (i, c) →
      i < 16 ∧ i ∉ matched ∧ bestClass s i o = some c
        ∧ ∀ j k, j < 16 → j ∉ matched → bestClass s j o = some k → k ≤ c
          ∧ (k = c → (i + 16 - kvGet 0 (s.train t).gptr o % 16) % 16 ≤ (j + 16 - kvGet 0 (s.train t).gptr o % 16) % 16))
    ∧ (∀ (t : Nat) (s : State), mainRuns s = true → t < 3 → inService s t = true →
      (lowestTrain s = some t → s.shared.hold = false ∧ ∀ e ∈ s.pairs, pairRunning e.2 = false) →
      (∀ (v : Voq) (f : PFrame), s.pond.voq = [v] → v.inp < 16 → v.out < 16 → s.frame? v.fid = some f →
          (s.pair v.inp v.out).used < 128 → Does (.fabricRound t []) s fun u => u.pond.voq = []
          ∧ ((u.train t).flight.drop (s.train t).flight.length).map (fun c => (c.fid, c.idx, c.train, c.src, c.dst, c.cseq, c.prev))
            = [(v.fid, v.idx, t, v.inp, v.out, (s.pair v.inp v.out).cseq, (s.pair v.inp v.out).prev)]
          ∧ (u.pair v.inp v.out).cseq = ((s.pair v.inp v.out).cseq + 1) % 65536 ∧ (u.pair v.inp v.out).prev = t
          ∧ (u.pair v.inp v.out).used = (s.pair v.inp v.out).used + 1
          ∧ kvGet 0 (u.train t).gptr v.out = (v.inp + 1) % 16 ∧ kvGet 0 (u.train t).aptr v.inp = (v.out + 1) % 16
          ∧ u.reg (fabWin t) FAB_ACC_IT = satAdd 32 (s.reg (fabWin t) FAB_ACC_IT) 1
          ∧ u.reg64 (fabWin t) FAB_CELLS_LO = (s.reg64 (fabWin t) FAB_CELLS_LO + 1) % 2 ^ 64
          ∧ u.reg64 (fabWin t) FAB_ROUNDS_LO = (s.reg64 (fabWin t) FAB_ROUNDS_LO + 1) % 2 ^ 64)
        ∧ ∀ (k i o : Nat), s.pond.voq = [] → k < 3 → k ≠ t → i < 16 → o < 16 →
          (s.train k).flight.any (fun c => c.src == i && c.dst == o) = true → Does (.fabricRound t [(0, i, o)]) s fun u =>
            u.reg (fabWin t) FAB_DECLINE = satAdd 32 (s.reg (fabWin t) FAB_DECLINE) 1 ∧ u.trains = s.trains ∧ u.pairs = s.pairs
              ∧ u.reg64 (fabWin t) FAB_ROUNDS_LO = (s.reg64 (fabWin t) FAB_ROUNDS_LO + 1) % 2 ^ 64)
    ∧ (∀ (t : Nat) (s : State), mainRuns s = true → t < 3 → inService s t = false → ∀ l, Effect (.fabricRound t l) s s)
    ∧ (∀ (t o : Nat) (c : Cell) (s : State), mainRuns s = true → t < 3 → (s.train t).flight.find? (·.dst == o) = some c →
      (s.train t).leaving = false → (s.win (fabWin t)).resetting = false → pairDue s (s.pair c.src o) = false →
      let p := s.pair c.src o
      let gone := fun (u : State) => (u.train t).flight = delFirst (fun x => x.dst == o) (s.train t).flight
      (p.held = [] → p.broken = false → c.cseq = p.expect →
          Does (.cellArrival t o true true) s fun u => (u.pair c.src o).expect = (p.expect + 1) % 65536
            ∧ (u.pair c.src o).used = p.used - 1 ∧ (u.pair c.src o).held = [] ∧ gone u)
        ∧ (p.held = [] → c.cseq ≠ p.expect → seqDist p.expect c.cseq < 128 → p.broken = false →
          Does (.cellArrival t o true true) s fun u => u.pair c.src o = { p with held := [c] } ∧ gone u)
        ∧ (128 ≤ seqDist p.expect c.cseq → Does (.cellArrival t o true true) s fun u => u.pair c.src o = p ∧ gone u
            ∧ u.reg W.FAB FAB_RSQ_LATE = satAdd 32 (s.reg W.FAB FAB_RSQ_LATE) 1)
        ∧ (Does (.cellArrival t o false true) s fun u => u.pair c.src o = p ∧ gone u
            ∧ u.reg (fabWin t) FAB_HDR_ERR = satAdd 32 (s.reg (fabWin t) FAB_HDR_ERR) 1
            ∧ ⟨fabWin t, 3, .event, locSelf (fabWin t), false⟩ ∈ u.posts)
        ∧ Does (.cellArrival t o true false) s fun u => gone u
            ∧ u.reg (fabWin t) FAB_PAR_ERR = satAdd 32 (s.reg (fabWin t) FAB_PAR_ERR) 1
            ∧ u.reg64 W.FAB FAB_RSQ_DISCARD_LO = min (s.reg64 W.FAB FAB_RSQ_DISCARD_LO + 1) (2 ^ 64 - 1)
            ∧ ⟨fabWin t, 4, .event, locSelf (fabWin t), false⟩ ∈ u.posts)
    ∧ ∀ (i o : Nat) (s : State), mainRuns s = true → i < 16 → o < 16 → let p := s.pair i o
      (pairDue s p = false → Effect (.reseqTimeout i o) s s)
        ∧ (pairDue s p = true → (∀ c ∈ p.held, c.cseq ≠ (p.expect + 1) % 65536) → (s.win W.FAB).resetting = false →
          Does (.reseqTimeout i o) s fun u => ⟨W.FAB, 8, .event, locSelf W.FAB, false⟩ ∈ u.posts
            ∧ u.reg64 W.FAB FAB_RSQ_DISCARD_LO = min (s.reg64 W.FAB FAB_RSQ_DISCARD_LO + 1) (2 ^ 64 - 1))
        ∧ (pairDue s p = true → ∀ c, p.held.find? (fun x => x.cseq == (p.expect + 1) % 65536) = some c → c.prev < 3 →
          (s.win (fabWin c.prev)).resetting = false → Does (.reseqTimeout i o) s fun u =>
            ⟨fabWin c.prev, 2, .event, locSelf (fabWin c.prev), false⟩ ∈ u.posts
              ∧ u.reg (fabWin c.prev) FAB_OWED = satAdd 32 (s.reg (fabWin c.prev) FAB_OWED) 1
              ∧ u.reg64 W.FAB FAB_RSQ_DISCARD_LO = min (s.reg64 W.FAB FAB_RSQ_DISCARD_LO + 1) (2 ^ 64 - 1))

/-- FRAME_ADMISSION: a frame is refused or admitted by the first check that decides; push-out (R51, R122, R123, R126, R127, R128, R129, R134, R396). -/
def Obligations.AdmissionFollowsItsOrderOfChecks : Prop :=
  (∀ (fp : Nat) (s : State), mainRuns s = true → fp < 16 →
      let offers := fun (x : Arrival) => x.fp == fp && x.dest.isSome && (!admissionHeld s || holdExempt x.origin)
      (s.pond.arrivals.find? offers = none → Effect (.frameAdmission fp) s s)
    ∧ ∀ (a : Arrival) (m : BitVec 64), s.pond.arrivals.find? offers = some a → a.dest = some m →
      s.enabled W.QMG = true → (s.win W.QMG).resetting = false → s.pwr.entering = none →
      let c := a.tag.cls
      let up := (portsOf m.toNat).filter fun q => !(s.portDown q || ethGated s q)
      let fromDown := (∃ p, a.origin = .port p ∧ s.portDown p = true) ∨ (a.origin = .twin ∧ s.portDown 52 = true)
      let gone := fun (u : State) => (∀ x ∈ u.pond.arrivals, x.fid ≠ a.fid) ∧ u.pond.frames = s.pond.frames
      let refused := fun (r : Nat) => Does (.frameAdmission fp) s fun u => gone u ∧ u.reg W.QMG r = satAdd 32 (s.reg W.QMG r) 1
      let admitted := fun (k : Nat) => Does (.frameAdmission fp) s fun u => (∀ x ∈ u.pond.arrivals, x.fid ≠ a.fid)
            ∧ u.reg64 W.QMG QMG_ADMIT_LO = (s.reg64 W.QMG QMG_ADMIT_LO + 1) % 2 ^ 64
            ∧ ((u.frame? a.fid).map fun f => (f.charges, f.copies.map (·.port), f.payload)) = some ([k], up, a.payload)
      (s.pwr.state = .doze → dozeRefuses s a m.toNat = true → Does (.frameAdmission fp) s fun u => gone u
          ∧ u.reg W.SYS SYS_DOZE_DROP = satAdd 32 (s.reg W.SYS SYS_DOZE_DROP) 1)
      ∧ (s.pwr.state = .run →
        (fromDown → Does (.frameAdmission fp) s fun u => gone u ∧ u.regs = s.regs
          ∧ ∀ q ∈ portsOf m.toNat, kvGet 0 u.pond.qdropDown (8 * q + c) = satAdd 32 (kvGet 0 s.pond.qdropDown (8 * q + c)) 1)
        ∧ (¬fromDown → s.descFree = 0 ∨ (s.descFree ≤ 256 ∧ engFloorOf a = none) → refused QMG_DROP_DESC)
        ∧ (¬fromDown → 256 < s.descFree → up = [] → refused QMG_DROP_DOWN)
        ∧ (∀ k, ¬fromDown → 0 < s.descFree → up ≠ [] → engFloorOf a = some k → 0 < s.engFree k → s.pickBank.isSome →
          s.frame? a.fid = none → admitted k)
        ∧ (engFloorOf a = none → ¬fromDown → 256 < s.descFree → up ≠ [] →
          (s.charged (srcClass c) < s.clsFloor c → s.pickBank.isSome → s.frame? a.fid = none → admitted (srcClass c))
        ∧ (s.clsFloor c ≤ s.charged (srcClass c) →
          s.sharedFree < s.fld W.QMG QMG_PUSHOUT 18 0 → s.flag W.QMG QMG_PUSHOUT 31 = false →
          refused QMG_DROP_POOL ∧ Does (.frameAdmission fp) s fun u => ⟨W.QMG, 6, .event, locSelf W.QMG, false⟩ ∈ u.posts)
        ∧ (s.clsFloor c ≤ s.charged (srcClass c) →
          s.fld W.QMG QMG_PUSHOUT 18 0 ≤ s.sharedFree →
          (∀ q ∈ up, 2 ^ s.fld W.QMG QMG_ALPHA (4 * c + 3) (4 * c) * s.sharedFree ≤ 64 * s.occ (8 * q + c)) →
          refused (QMG_DROP_ADM + 4 * c)))))
    ∧ ∀ (n c need : Nat) (s : State) (f : PFrame), (s.pond.frames.map (·.fid)).Nodup → f ∈ s.pond.frames →
      f ∉ (pushout c need n s).pond.frames → f.tag.cls < c ∧ f.committed = false ∧ f.tag.ct = false
        ∧ (∀ k ∈ f.charges, 4 ≤ k) ∧ (∀ x ∈ f.copies, x.outlet = false) ∧ srcShared ∈ f.charges

/-- INGRESS_CELL, ECC_WINDOW_END and FRAME_CLASSIFY (R89, R117, R124, R139, R161, R162). -/
def Obligations.CellsAreChargedAndFramesClassified : Prop :=
  (∀ (fid k b : Nat) (more : List Byte) (f : PFrame) (s : State), mainRuns s = true → s.frame? fid = some f → f.charges.length < cellsAvail f →
      s.chargeFor f.eng f.tag.cls = some k → s.pickBank = some b →
      (more = [] ∨ ∀ p < 20, ∀ r ∈ (s.mac p).rx, r.fid ≠ some fid ∨ r.dead = true) →
      let idx := f.banks.length
      let phys := s.reg W.QMG (QMG_BANKMAP + 4 * b)
      (Does (.ingressCell fid more []) s fun u =>
          (u.frame? fid).map (fun g => (g.charges, g.banks, g.tag, g.copies)) = some (f.charges ++ [k], f.banks ++ [b], f.tag, f.copies)
            ∧ u.pond.nextBank = (b + 1) % 32 ∧ u.regs = s.regs)
        ∧ (s.flag W.QMG QMG_DRAIN b = false ∧ s.inBank b < 12288 ∧ b < 32)
        ∧ ∀ (stage bitn : Nat), (s.win W.QMG).resetting = false → phys < 34 →
          (Does (.ingressCell fid more [⟨idx, .corrected, stage, bitn⟩]) s fun u =>
            (u.frame? fid).map (fun g => (g.charges, g.tag)) = some (f.charges ++ [k], f.tag)
            ∧ u.reg W.QMG (QMG_ECC_CORR + 4 * phys) = satAdd 32 (s.reg W.QMG (QMG_ECC_CORR + 4 * phys)) 1
            ∧ ⟨W.QMG, 3, .event, locCode 0 W.QMG phys stage bitn, false⟩ ∈ u.posts)
          ∧ Does (.ingressCell fid more [⟨idx, .uncorrectable, stage, bitn⟩]) s fun u =>
            (∀ g, u.frame? fid = some g → g.charges = f.charges ++ [k] ∧ g.tag.err = true)
            ∧ u.reg W.QMG QMG_ECC_UNCORR = satAdd 32 (s.reg W.QMG QMG_ECC_UNCORR) 1
            ∧ ⟨W.QMG, 4, .event, locCode 0 W.QMG phys stage bitn, false⟩ ∈ u.posts)
    ∧ (∀ (fid : Nat) (f : PFrame) (s : State), mainRuns s = true → s.frame? fid = some f → f.charges.length < cellsAvail f →
      (s.win W.QMG).resetting = false → s.chargeFor f.eng f.tag.cls = none →
      Does (.ingressCell fid [] []) s fun u => u.frame? fid = none ∧ u.reg W.QMG QMG_DROP_MIDFRAME = satAdd 32 (s.reg W.QMG QMG_DROP_MIDFRAME) 1
        ∧ ⟨W.QMG, 8, .event, locSelf W.QMG, false⟩ ∈ u.posts)
    ∧ (∀ (s : State) (c : Nat), 
      (s.charged (srcClass c) < s.clsFloor c → s.chargeFor none c = some (srcClass c))
        ∧ (s.clsFloor c ≤ s.charged (srcClass c) → 0 < s.sharedFree → s.chargeFor none c = some srcShared)
        ∧ (s.clsFloor c ≤ s.charged (srcClass c) → s.sharedFree = 0 → s.charged srcHeadroom < s.headroom → s.chargeFor none c = some srcHeadroom)
        ∧ (s.clsFloor c ≤ s.charged (srcClass c) → s.sharedFree = 0 → s.headroom ≤ s.charged srcHeadroom → s.chargeFor none c = none)
        ∧ ∀ e, (0 < s.engFree e → s.chargeFor (some e) c = some e) ∧ (s.engFree e = 0 → s.chargeFor (some e) c = s.chargeFor none c))
    ∧ (∀ s : State, mainRuns s = true → Does .eccWindowEnd s fun u => u.pond.eccWindow = [] ∧ u.regs = s.regs ∧ u.pond.frames = s.pond.frames)
    ∧ ∀ (fp : Nat) (a : Arrival) (bad : List BadEntry) (s : State), mainRuns s = true → fp < 16 → nextToClassify s fp = some a →
      let plain := fromPort a.origin = false ∨ (nmActive s a.tag.srcPort = false ∧ (a.tag.kind ≠ 3 ∨ etherType a.payload ≠ 0x88F7))
      (∀ d, a.tag.engDone = true → a.tag.dstPort = d → d < 53 → a.tag.capture = false → a.tag.mirror = false →
          Does (.frameClassify fp bad) s fun u =>
            u.pond.arrivals = updFirst (·.fid == a.fid) (fun x => { x with tag := a.tag, dest := some (BitVec.ofNat 64 (2 ^ d)) }) s.pond.arrivals
              ∧ u.regs = s.regs)
        ∧ (a.tag.engDone = false → plain → s.enabled (clsOf fp) = true → s.enabled W.CLS = true → profileFor s a.tag = none →
          Does (.frameClassify fp bad) s fun u => u.reg (clsOf fp) CLS_NOPROF = satAdd 32 (s.reg (clsOf fp) CLS_NOPROF) 1
            ∧ ∀ x ∈ u.pond.arrivals, x.fid ≠ a.fid)
        ∧ (a.tag.engDone = false → plain → s.enabled (clsOf fp) = false ∨ s.enabled W.CLS = false →
          Does (.frameClassify fp bad) s fun u => u.regs = s.regs ∧ ∀ x ∈ u.pond.arrivals, x.fid ≠ a.fid)

/-- PORT_DOWN, FLUSHING_END, PORT_CAUSE_CLEARS and PORT_UP (R133, R135). -/
def Obligations.PortsFlushHoldAndComeUp : Prop :=
  ∀ (p : Nat) (s : State), mainRuns s = true →
    let st := s.port p
    let forced := s.flag W.QMG (QMG_PORTCTL + 4 * p) 0
    let caused := decide (p ≤ 52) && portCause s p
    let settled := fun (x : PortSt) => if x.down ∧ x.upWait ∧ !x.flushing ∧ !x.hold then { x with down := false, upWait := false } else x
    ((p < 56 ∨ 60 < p) → p < 64 → forced = true ∨ caused = true → Does (.portDown p) s fun u =>
        u.port p = ⟨true, true, false, s.fld W.QMG (QMG_PORTCFG + 4 * p) 25 16 != 0, caused || st.cause⟩
          ∧ (∀ f ∈ u.pond.frames, f.whole = true ∨ f.origin ≠ .port p) ∧ (∀ a ∈ u.pond.arrivals, a.whole = true ∨ a.origin ≠ .port p)
          ∧ ((s.pond.frames.map (·.fid)).Nodup → ∀ f ∈ u.pond.frames, PFrameHas f p = false))
      ∧ ((56 ≤ p ∧ p ≤ 60) ∨ (forced = false ∧ caused = false) → Effect (.portDown p) s s)
      ∧ (p < 64 → Does (.flushingEnd p) s fun u => u.port p = settled { st with flushing := false } ∧ u.pond.frames = s.pond.frames)
      ∧ (p < 64 → Does (.portUp p) s fun u => u.port p = settled { st with hold := false } ∧ u.pond.frames = s.pond.frames)
      ∧ (caused = true → Effect (.portCauseClears p) s s)
      ∧ (p < 64 → caused = false → Does (.portCauseClears p) s fun u => u.pond.frames = s.pond.frames ∧ u.port p =
          if st.down ∧ !forced then settled { st with cause := false, upWait := true } else { st with cause := false })

/-- Stalls of cut-through copies, Inlets and receptions; migration of a bank; CLRPEAK (R121, R136, R137, R138, R140, R141). -/
def Obligations.StalledInputsAndBankMigration : Prop :=
  (∀ (fid p : Nat) (f : PFrame) (s : State), mainRuns s = true → (s.win W.QMG).resetting = false → s.frame? fid = some f →
      ((fid, p) ∉ s.pond.ended → f.tag.ct = true → 32 ≤ p → p ≤ 51 →
          (f.copies.any fun c => c.port == p && c.enq && !(f.whole && c.rel == cellsOf f.payload.length)) = true → Does (.ctStall fid p) s fun u =>
          u.reg W.QMG QMG_CT_END = satAdd 32 (s.reg W.QMG QMG_CT_END) 1
            ∧ (sendsCopy s fid p = true → u.reg (emcWin (p - 32)) EMC_TX_UNDERRUN = satAdd 32 (s.reg (emcWin (p - 32)) EMC_TX_UNDERRUN) 1)
            ∧ ⟨W.QMG, 10, .event, locSelf W.QMG, false⟩ ∈ u.posts
            ∧ ∀ g, u.frame? fid = some g → PFrameHas g p = false ∧ g.tag.err = true)
        ∧ (p < 64 → (fid, p) ∈ s.pond.ended → Does (.ctStall fid p) s fun u => u.pond.frames = s.pond.frames
          ∧ u.reg W.QMG QMG_CT_END = satAdd 32 (s.reg W.QMG QMG_CT_END) 1 ∧ ∀ x ∈ u.pond.ended, x.1 ≠ fid)
        ∧ ((fid, p) ∉ s.pond.ended → f.tag.ct = false → Effect (.ctStall fid p) s s)
        ∧ (f.whole = false → f.tag.ct = false → Does (.rxStall fid) s fun u => u.frame? fid = none
          ∧ u.reg W.QMG QMG_IN_STALL_DROP = satAdd 32 (s.reg W.QMG QMG_IN_STALL_DROP) 1
          ∧ ⟨W.QMG, 11, .event, locSelf W.QMG, false⟩ ∈ u.posts)
        ∧ (f.whole = true ∨ f.tag.ct = true → Effect (.rxStall fid) s s))
    ∧ (∀ (n : Nat) (s : State), mainRuns s = true → n < 64 → (s.inlet n).fid = none →
      ((s.inlet n).words = [] → Effect (.inletStall n) s s)
        ∧ ((s.inlet n).words ≠ [] → Does (.inletStall n) s fun u => (u.inlet n).words = [] ∧ (u.inlet n).fid = none
          ∧ u.reg W.QMG QMG_IN_STALL_DROP = satAdd 32 (s.reg W.QMG QMG_IN_STALL_DROP) 1))
    ∧ (∀ (n fid : Nat) (s : State), mainRuns s = true → n < 64 → (s.inlet n).fid = some fid → undecided s fid = false → inDead s n = false →
      Does (.inletStall n) s fun u => (u.inlet n).fid = none ∧ u.frame? fid = none
        ∧ u.reg W.QMG QMG_IN_STALL_DROP = satAdd 32 (s.reg W.QMG QMG_IN_STALL_DROP) 1)
    ∧ (∀ (i : Initiator) (d : Word) (s : State), takes s i W.QMG Reg.QMG_MIGRATE = true → bit d.toNat 31 = true →
      let b := bits d.toNat 4 0
      let k := bits d.toNat 13 8
      let fits := (k = 32 ∨ k = 33) ∧ s.flag W.QMG QMG_DRAIN b = true ∧ spareTaken s k = false ∧ s.flag W.QMG QMG_MIGSTAT 0 = false
      (fits → Does (.migrateStart i d) s fun u => u.reg W.QMG QMG_MIGSTAT = 1 ∧ u.pond.migBank = b ∧ u.pond.migSpare = k
          ∧ u.pond.frames = s.pond.frames)
        ∧ (¬fits → Does (.migrateStart i d) s fun u => u.flag W.QMG QMG_MIGSTAT 2 = true
          ∧ u.flag W.QMG QMG_MIGSTAT 0 = s.flag W.QMG QMG_MIGSTAT 0 ∧ u.pond = s.pond))
    ∧ (∀ (l : List (Nat × CellErr)) (s : State), mainRuns s = true → s.flag W.QMG QMG_MIGSTAT 0 = true → s.pond.migHold = false →
      let bad := l.filter fun x => ((s.frame? x.1).bind fun f => f.banks[x.2.idx]?) == some s.pond.migBank
      Does (.migrationCopyDone l) s fun u => u.fld W.QMG QMG_MIGSTAT 15 8 = min bad.length 255 ∧ u.flag W.QMG QMG_MIGSTAT 0 = true
        ∧ u.pond.migHold = true ∧ u.reg W.QMG QMG_ECC_UNCORR = satAdd 32 (s.reg W.QMG QMG_ECC_UNCORR) bad.length
        ∧ (∀ x ∈ bad, ∃ f, u.frame? x.1 = some f ∧ x.2.idx ∈ f.poison) ∧ u.pond.frames.map (·.tag) = s.pond.frames.map (·.tag))
    ∧ (∀ s : State, mainRuns s = true → (s.win W.QMG).resetting = false → s.flag W.QMG QMG_MIGSTAT 0 = true → s.pond.migHold = true →
      (s.dial (migDial s)).drained = true → s.pond.migBank < 32 → (s.pond.migSpare = 32 ∨ s.pond.migSpare = 33) →
      let old := s.reg W.QMG (QMG_BANKMAP + 4 * s.pond.migBank)
      old < 34 → Does .migrationRemap s fun u => u.reg W.QMG (QMG_BANKMAP + 4 * s.pond.migBank) = s.pond.migSpare
        ∧ u.flag W.QMG QMG_DRAIN s.pond.migBank = false ∧ u.flag W.QMG QMG_MIGSTAT 0 = false ∧ u.flag W.QMG QMG_MIGSTAT 1 = true
        ∧ u.pond.migHold = false ∧ (old < 32 → u.flag W.QMG QMG_RETIRED old = true) ∧ bit u.ldg.retired old = true
        ∧ ⟨W.QMG, 12, .event, locUnit W.QMG old, false⟩ ∈ u.posts)
    ∧ ∀ (i : Initiator) (q : Nat) (s : State), takes s i W.QMG QMG_QSEL = true → q < 512 →
      Does (.clrpeak i q) s fun u => u.reg W.QMG QMG_QSEL = q ∧ kvGet 0 u.pond.peak q = s.occ q ∧ u.pond.frames = s.pond.frames

/-- A Dial grants the slot owner and then the highest rank; freeze, drain and the longest waits (R150, R151, R155, R157, R158). -/
def Obligations.DialsGrantSlotsThenRanks : Prop :=
  (∀ (d : Nat) (s : State) (reqs : List DialReq), d < 5 → 
      ((dialGrants s d reqs).map (·.bank)).Nodup
        ∧ (∀ g ∈ dialGrants s d reqs, ∃ q ∈ reqs, q.req = g.req ∧ q.bank = g.bank)
        ∧ (∀ r q, slotOwner s d = some r → reqs.find? (·.req == r) = some q → ⟨r, q.bank, true⟩ ∈ dialGrants s d reqs)
        ∧ ∀ g ∈ dialGrants s d reqs, g.slot = false → ∀ q ∈ reqs, q.bank = g.bank → q.req < dialReqs d →
          rankOf s d q.req < rankOf s d g.req ∨ (rankOf s d q.req = rankOf s d g.req ∧ g.req ≤ q.req))
    ∧ (∀ (d : Nat) (new : List (Nat × Nat)) (e : Ecc) (s : State), mainRuns s = true → d < 5 →
      let asks := new.map fun q => (⟨q.1, if d = 4 then 0 else q.2 % 8, 0, false⟩ : DialReq)
      let reqs := ((s.dial d).reqs ++ asks).filter fun q => !dialSilent s d q.req
      let gs := dialGrants s d reqs
      let asleep := d = 4 ∧ (s.pwr.state = .doze ∨ s.flag W.DMC DMC_STAT 3 = true)
      (∀ r, dialSilent s d r = true ↔ (if d = 4 then 9 ≤ r else 25 ≤ r) ∨ (d ≠ 4 ∧ 16 ≤ r ∧ r < 19 ∧ inService s (r - 16) = false))
        ∧ (s.enabled (diaWin d) = true → dialFrozen s d = false → ¬asleep → Does (.dialRound d new e) s fun u =>
          (u.dial d).slot = ((s.dial d).slot + 1) % dialLen d ∧ (u.dial d).active = (s.dial d).active
            ∧ u.reg64 (diaWin d) DIAL_ROUNDS_LO = (s.reg64 (diaWin d) DIAL_ROUNDS_LO + 1) % 2 ^ 64
            ∧ ∀ r, r < dialReqs d → rankOf u d r =
              if reqs.all (fun q => q.req != r) then rankOf s d r
              else if gs.any fun g => g.req == r && !g.slot then baseRank s d r
              else if gs.any fun g => g.req == r then rankOf s d r
              else min (rankOf s d r + 1) 15)
        ∧ (s.enabled (diaWin d) = false ∨ dialFrozen s d = true ∨ asleep → Does (.dialRound d new e) s fun u =>
          u.dial d = { s.dial d with reqs := reqs } ∧ u.regs = s.regs))
    ∧ (∀ (i : Initiator) (d : Nat) (v : Word) (s : State), d < 5 →
      (takes s i (diaWin d) Reg.DIAL_FREEZE = true → Does (.dialFreeze i d v) s fun u =>
          u.reg (diaWin d) Reg.DIAL_FREEZE = v.toNat % 2 ∧ (u.dial d).slot = (s.dial d).slot
            ∧ (dialFrozen u d = false → (u.dial d).drained = false) ∧ (dialFrozen u d = true → u.dial d = s.dial d))
        ∧ (takes s i (diaWin d) Reg.DIAL_WAITCLR = true → Does (.dialWaitclr i d v) s fun u => ∀ r, r < dialReqs d →
          u.reg (diaWin d) (DIAL_WAITMAX + 4 * r) = if bit v.toNat r then 0 else s.reg (diaWin d) (DIAL_WAITMAX + 4 * r)))
    ∧ ∀ (d : Nat) (s : State), mainRuns s = true → d < 5 →
      (dialFrozen s d = true → Does (.dialDrained d) s fun u => (u.dial d).drained = true ∧ u.regs = s.regs)
        ∧ (dialFrozen s d = false → Effect (.dialDrainStall d) s s
          ∧ Does (.dialDrained d) s fun u => u.dial d = s.dial d ∧ u.regs = s.regs)
        ∧ ((s.source (diaWin d) 4).live = true → (s.win (diaWin d)).resetting = false → Does (.dialDrained d) s fun u =>
          u.posts = s.posts ++ [⟨diaWin d, 4, .levelOff, locSelf (diaWin d), false⟩])
        ∧ (dialFrozen s d = true → (s.dial d).drained = false → (s.win (diaWin d)).resetting = false →
          (s.source (diaWin d) 4).live = false → Does (.dialDrainStall d) s fun u =>
            u.posts = s.posts ++ [⟨diaWin d, 4, .levelOn, locSelf (diaWin d), false⟩])

/-- Ticks, ADDEND, slews, steps and VBASE: the device time and the vault time (R368, R369, R371, R372, R373, R374). -/
def Obligations.DeviceAndVaultTimeAdvance : Prop :=
  (∀ (n : Nat) (d : Int) (s : State), mainTimeRuns s = true → 0 < n → s.tms.step = some d →
      let a1 : Nat := (((s.tms.acc + s.tms.addend : Nat) : Int) + slewPart (s.fld W.TMS TMS_SLEW_CFG 15 0) s.tms.addend s.tms.slewRem 1).toNat % 2 ^ 96
      Does (.deviceTimeTick n) s fun u => u.tms.step = none ∧ u.tms.slewRem = 0 ∧ u.tms.steps = (s.tms.steps + 1) % 65536
        ∧ u.tms.acc = (((a1 : Int) + d * 2 ^ 32).toNat % 2 ^ 96 + (n - 1) * s.tms.addend) % 2 ^ 96)
    ∧ (∀ (n : Nat) (s : State), mainTimeRuns s = true → s.tms.step = none →
      let p := slewPart (s.fld W.TMS TMS_SLEW_CFG 15 0) s.tms.addend s.tms.slewRem n
      Does (.deviceTimeTick n) s (fun u => u.tms.acc = (((s.tms.acc + n * s.tms.addend : Nat) : Int) + p).toNat % 2 ^ 96
          ∧ u.tms.slewRem = s.tms.slewRem - p ∧ u.tms.voffset = s.tms.voffset ∧ u.regs = s.regs
          ∧ ∀ d, d < 2 → (u.shore d).time = (s.shore d).time + if (s.shore d).powered then n * (s.shore d).addend else 0)
        ∧ (0 ≤ s.tms.slewRem → 0 ≤ p ∧ p ≤ s.tms.slewRem) ∧ (s.tms.slewRem ≤ 0 → s.tms.slewRem ≤ p ∧ p ≤ 0)
        ∧ p.natAbs ≤ n * (s.tms.addend * s.fld W.TMS TMS_SLEW_CFG 15 0 / 1000000))
    ∧ (∀ (n : Nat) (s : State), mainTimeRuns s = false → Does (.deviceTimeTick n) s fun u => u.tms = s.tms ∧ u.regs = s.regs)
    ∧ (∀ (i : Initiator) (v : Word) (s : State), takes s i W.TMS TMS_ADDEND_HI = true →
      let a := v.toNat % 256 * 2 ^ 32 + s.reg W.TMS TMS_ADDEND_LO
      Does (.addendWrite i v) s fun u => u.tms.addend = max 0x1FF7CED92 (min a 0x20083126E)
        ∧ u.tms.clamped = !(decide (0x1FF7CED92 ≤ a) && decide (a ≤ 0x20083126E)) ∧ u.tms.acc = s.tms.acc)
    ∧ (∀ (i : Initiator) (v : Word) (s : State), takes s i W.TMS TMS_SLEW = true →
      Does (.slew i v) s fun u => u.tms.slewRem = v.toInt * 2 ^ 32 ∧ u.tms.acc = s.tms.acc ∧ u.tms.steps = s.tms.steps)
    ∧ (∀ (i : Initiator) (s : State), takes s i W.TMS TMS_CMD = true →
      let d := toSigned 64 (s.reg64 W.TMS TMS_STEP_LO)
      Does (.step i) s fun u => u.tms = { s.tms with step := if d = 0 then s.tms.step else some d } ∧ u.regs = s.regs)
    ∧ (∀ (d : Int) (s : State), mainRuns s = true → s.tms.step = some d → s.tms.acc < 2 ^ 96 → 0 ≤ s.now + d → s.now + d < 2 ^ 64 →
      (s.win W.TMS).resetting = false → Does .stepApply s fun u => (u.now : Int) = s.now + d ∧ u.tms.slewRem = 0 ∧ u.tms.step = none
        ∧ u.tms.steps = (s.tms.steps + 1) % 65536 ∧ ⟨W.TMS, 2, .event, locSelf W.TMS, false⟩ ∈ u.posts
        ∧ (d ≤ 0 → u.vault = s.vault) ∧ (0 ≤ d → u.vault = (s.now + s.tms.voffset + (d.toNat - s.tms.voffset)) % 2 ^ 64))
    ∧ (∀ s : State, mainRuns s = true → s.tms.step = none → Effect .stepApply s s)
    ∧ ∀ (i : Initiator) (v : Word) (s : State), takesGuarded s i W.TMS TMS_VBASE_HI v.toNat = true → s.now + s.tms.voffset < 2 ^ 64 →
      let b := v.toNat * 2 ^ 32 + s.reg W.TMS TMS_VBASE_LO
      (s.vault < b → Does (.vbaseWrite i v) s fun u => u.vault = b ∧ u.now = s.now ∧ u.tms.steps = s.tms.steps)
        ∧ (b ≤ s.vault → (s.win W.TMS).resetting = false → Does (.vbaseWrite i v) s fun u => u.tms = s.tms
          ∧ ⟨W.TMS, 6, .event, locSelf W.TMS, false⟩ ∈ u.posts)

/-- HOLDOVER, HOLD_LIMIT, KICK and REFERENCE_TRIGGER (R379, R380). -/
def Obligations.HoldoverAndReferenceTriggers : Prop :=
  (∀ s : State, mainRuns s = true →
      let due := s.fld W.TMS TMS_HOLD_CFG 31 16 * 500000 ≤ s.tms.kickTicks
      let beyond := s.reg W.TMS TMS_HOLD_LIMIT ≠ 0 ∧ s.reg W.TMS TMS_HOLD_LIMIT ≤ holdEst s
      (servoHeld s = true → s.tms.holdover = false → due → Does .holdover s fun u => u.tms.holdover = true ∧ holdElapsed u = 0
          ∧ u.tms.addend = s.tms.addend ∧ u.tms.lastErr = s.tms.lastErr)
        ∧ (servoHeld s = false ∨ s.tms.holdover = true ∨ ¬due → Effect .holdover s s)
        ∧ (s.tms.holdover = true → beyond → Does .holdLimit s fun u => u.tms.limitReached = true)
        ∧ (s.tms.holdover = false ∨ ¬beyond → Effect .holdLimit s s)
        ∧ ∀ c, c < 32 → 
          (∀ i, refDue s c = some i → s.enabled W.TMS = true → s.flag W.TMS (TMS_REF + 4 * c) 31 = true → (c < 24 → (s.shore (shoreOf c)).aligned = true) →
              Does (.referenceTrigger c) s fun u => u.reg W.TMS TMS_REF_TRIG = (s.reg W.TMS TMS_REF_TRIG + 1) % 2 ^ 32
                ∧ kvGet 0 u.tms.refAt c = i + 1)
            ∧ (refDue s c = none ∨ s.enabled W.TMS = false ∨ s.flag W.TMS (TMS_REF + 4 * c) 31 = false → Effect (.referenceTrigger c) s s))
    ∧ (∀ (s : State) (c t i : Nat), refInstant s c t = some i → ∃ k, i ≤ t ∧ t < i + s.fld W.TMS (TMS_REF + 4 * c) 14 0 * 1000000
      ∧ i = s.reg64 W.TMS TMS_REF_BASE_LO + (s.fld W.TMS (TMS_REF + 4 * c) 29 15 + k * s.fld W.TMS (TMS_REF + 4 * c) 14 0) * 1000000)
    ∧ ∀ (i : Initiator) (s : State), takes s i W.TMS TMS_CMD = true → Does (.kick i) s fun u => u.tms.holdover = false
      ∧ u.tms.accumulating = s.tms.holdover ∧ u.tms.lastErr = (if s.tms.holdover then 0 else s.tms.lastErr) ∧ u.regs = s.regs

/-- The EMT command engine: lookups, reservations, EXEC, ABORT and flushes (R165, R166, R167, R168, R169, R171, R172, R183). -/
def Obligations.EmtCommandsSearchReserveAndApply : Prop :=
  (∀ (i : Initiator) (s : State), takes s i W.EMT EMT_CMD = true → s.emt.flush = none →
      let k := cmdKey s
      let r := s.emt.resv
      let stat := fun (u : State) => u.fld W.EMT EMT_CMD_STAT 23 16
      let answers := fun (c : Instr) (v : Nat) => Does c s fun u => stat u = v ∧ u.emt = s.emt
      let reserves := fun (c : Instr) (kind : ResvKind) (plan : List Nat) (place : Nat) => Does c s fun u => stat u = 0
        ∧ u.emt.entries = s.emt.entries ∧ (u.emt.resv.map fun x => (x.kind, x.plan, x.place, x.expired)) = some (kind, plan, place, false)
      (∀ a, emtFind [] k s = some a → (s.emtAt a).valid = true ∧ (s.emtAt a).key = k ∧ a ∈ candidates s k
          ∧ Does (.lookup i []) s fun u => stat u = 0 ∧ u.reg W.EMT EMT_CMD_WHERE = a ∧ u.reg W.EMT EMT_RES_ACT = (s.emtAt a).a0.toNat
            ∧ u.reg W.EMT (EMT_RES_ACT + 4) = (s.emtAt a).a1.toNat ∧ u.emt = s.emt)
        ∧ (emtFind [] k s = none → Does (.lookup i []) s fun u => stat u = 2 ∧ u.reg W.EMT EMT_CMD_WHERE = 0x18000 ∧ u.emt = s.emt)
        ∧ (r = none → badAction (cmdAct s) = true → answers (.planInsert i []) 6 ∧ answers (.reserveModify i []) 6)
        ∧ (r = none → badAction (cmdAct s) = false → (emtFind [] k s).isSome → answers (.planInsert i []) 3)
        ∧ (r = none → badAction (cmdAct s) = false → emtFind [] k s = none → ∀ a, freeOf s (slotsOf 0 (bucketOf s 0 k)) = some a →
          reserves (.planInsert i []) .insert [a] 0 ∧ Does (.planInsert i []) s fun u => u.reg W.EMT EMT_PLAN = a
            ∧ u.fld W.EMT EMT_CMD_STAT 5 0 = 0 ∧ bucketOf s 0 k ∈ heldGroups u ∧ 8192 + bucketOf s 1 k ∈ heldGroups u)
        ∧ (r = none → badAction (cmdAct s) = false → ∀ a, emtFind [] k s = some a →
          reserves (.reserveModify i []) .modify [] a ∧ reserves (.reserveDelete i []) .delete [] a)
        ∧ (r = none → emtFind [] k s = none → answers (.reserveDelete i []) 2)
        ∧ (∀ n, n < 64 → r = none → (s.emtAt (stashAddr n)).valid = false → answers (.planRehome i n []) 9)
        ∧ (∀ n a, n < 64 → r = none → (s.emtAt (stashAddr n)).valid = true →
          freeOf s (slotsOf 0 (bucketOf s 0 (s.emtAt (stashAddr n)).key)) = some a → reserves (.planRehome i n []) .rehome [a] (stashAddr n))
        ∧ (r.isSome → answers (.planInsert i []) 1 ∧ answers (.reserveModify i []) 1 ∧ answers (.reserveDelete i []) 1
          ∧ (∀ n, n < 64 → answers (.planRehome i n []) 1) ∧ ∀ p b, answers (.flush i p b) 1)
        ∧ (r = none → answers (.execResv i []) 5 ∧ answers (.abortResv i) 5)
        ∧ (∀ x, r = some x → x.expired = true → answers (.execResv i []) 7)
        ∧ (∀ x, r = some x → Does (.abortResv i) s fun u => stat u = 0 ∧ u.emt = { s.emt with resv := none })
        ∧ (∀ x a, r = some x → x.expired = false → x.kind = .insert → x.plan = [a] → (EmtEntry.ofAct x.key x.act).valid = true →
          Does (.execResv i []) s fun u => stat u = 0 ∧ u.emt.resv = none ∧ u.emtAt a = EmtEntry.ofAct x.key x.act
            ∧ ∀ b, b ≠ a → u.emtAt b = s.emtAt b)
        ∧ (∀ x, r = some x → x.expired = false → x.kind = .modify → (EmtEntry.ofAct x.key x.act).valid = true →
          Does (.execResv i []) s fun u => stat u = 0 ∧ u.emt.resv = none ∧ (u.emtAt x.place).age = (s.emtAt x.place).age
            ∧ (u.emtAt x.place).a1 = (EmtEntry.ofAct x.key x.act).a1 ∧ ∀ b, b ≠ x.place → u.emtAt b = s.emtAt b)
        ∧ (∀ x, r = some x → x.expired = false → x.kind = .delete → (areaOf x.place = 2 ∨ ∀ t ∈ stashSlots, (s.emtAt t).valid = false) →
          Does (.execResv i []) s fun u => stat u = 0 ∧ u.emt.resv = none ∧ u.emtAt x.place = EmtEntry.free
            ∧ ∀ b, b ≠ x.place → u.emtAt b = s.emtAt b)
        ∧ (∀ p b, r = none → p < 256 → Does (.flush i p b) s fun u => bit (emtStat u) 31 = true ∧ u.emt.flush = some (p, b, true)
          ∧ ∀ e ∈ u.emt.entries, ∃ e' ∈ s.emt.entries, e'.2 = e.2))
    ∧ (∀ (i : Initiator) (a : Nat) (bad : List BadEntry) (s : State), takes s i W.EMT EMT_CMD = true → s.emt.flush = none →
      a ∈ candidates s (cmdKey s) → .emt a ∈ bad → (s.win W.EMT).resetting = false →
      let fails := fun (c : Instr) => Does c s fun u => u.fld W.EMT EMT_CMD_STAT 23 16 = 8 ∧ u.emt = s.emt
        ∧ ⟨W.EMT, 3, .event, emtLoc a, false⟩ ∈ u.posts
      fails (.lookup i bad) ∧ (s.emt.resv = none → fails (.reserveDelete i bad)
        ∧ (badAction (cmdAct s) = false → fails (.planInsert i bad) ∧ fails (.reserveModify i bad))))
    ∧ (∀ (i : Initiator) (bad : List BadEntry) (s : State), takes s i W.EMT EMT_CMD = true → hwFlushing s = true →
      let busy := fun (c : Instr) => Does c s fun u => u.fld W.EMT EMT_CMD_STAT 23 16 = 1 ∧ u.emt = s.emt
      busy (.lookup i bad) ∧ busy (.planInsert i bad) ∧ busy (.reserveModify i bad) ∧ busy (.reserveDelete i bad)
        ∧ (∀ n, n < 64 → busy (.planRehome i n bad)) ∧ busy (.execResv i bad) ∧ busy (.abortResv i) ∧ ∀ p b, busy (.flush i p b))
    ∧ (∀ (i : Initiator) (s : State), takes s i W.EMT EMT_CMD = true → fwFlushing s = true →
      Effect (.lookup i []) s (busDone 0 s) ∧ Effect (.execResv i []) s (busDone 0 s) ∧ Effect (.abortResv i) s (busDone 0 s))
    ∧ ∀ s : State, mainRuns s = true →
      (s.emt.flush = none → Effect .flushDone s s)
        ∧ (s.emt.flush.isSome → Does .flushDone s fun u => u.emt = { s.emt with flush := none } ∧ bit (emtStat u) 31 = false)
        ∧ (∀ x, s.emt.resv = some x → x.expired = false → s.fld W.EMT EMT_RSV 15 0 ≠ 0 → (s.win W.EMT).resetting = false →
          Does .rsvExpired s fun u => u.emt = { s.emt with resv := some { x with expired := true } }
            ∧ u.posts = s.posts ++ [⟨W.EMT, 8, .event, locSelf W.EMT, false⟩])
        ∧ (∀ p l, s.emt.flush = none → s.emt.flushWait = p :: l → Does .portFlush s fun u => u.emt.flush = some (p, false, false)
          ∧ u.emt.flushWait = l ∧ ∀ e ∈ u.emt.entries, ∃ e' ∈ s.emt.entries, e'.2 = e.2)
        ∧ (s.emt.flush.isSome ∨ s.emt.flushWait = [] → Effect .portFlush s s)

/-- Learning, aging and scrubbing of the EMT; the WCT and port-set staging commands (R173, R179, R181, R182, R186). -/
def Obligations.TablesLearnAgeScrubAndStage : Prop :=
  (∀ (x : LearnItem) (l : List LearnItem) (s : State), mainRuns s = true → s.enabled W.EMT = true → s.emt.queue = x :: l →
      x.waits = none → x.twin = false → s.emt.resv = none →
      (x.kind = .learn → emtFind [] x.key s = none → ∀ a, freeOf s (candidates s x.key) = some a →
          Does .learn s fun u => u.emt.queue = l ∧ u.emtAt a = learnedEntry s x.key x.port ∧ (∀ b, b ≠ a → u.emtAt b = s.emtAt b)
            ∧ u.reg W.EMT EMT_LEARN_CNT = satAdd 32 (s.reg W.EMT EMT_LEARN_CNT) 1)
        ∧ (x.kind = .learn → emtFind [] x.key s = none → freeOf s (candidates s x.key) = none → (s.win W.EMT).resetting = false →
          Does .learn s fun u => u.emt.queue = l ∧ u.emt.entries = s.emt.entries ∧ ⟨W.EMT, 7, .event, locSelf W.EMT, false⟩ ∈ u.posts
            ∧ u.reg W.EMT Reg.EMT_LEARN_FAIL = satAdd 32 (s.reg W.EMT Reg.EMT_LEARN_FAIL) 1)
        ∧ (x.kind = .refresh → ∀ a, emtFind [] x.key s = some a → (s.emtAt a).static = false → (s.emtAt a).pset = false →
          (s.emtAt a).dest % 256 = x.port → Does .refresh s fun u => u.emt.queue = l
            ∧ u.emtAt a = { s.emtAt a with a0 := wput (s.emtAt a).a0 29 28 3 } ∧ u.regs = s.regs)
        ∧ (x.kind = .move → ∀ a, emtFind [] x.key s = some a → (s.emtAt a).static = false → (s.emtAt a).dest % 256 ≠ x.port → x.port < 64 →
          Does .moveEntry s fun u => u.emt.queue = l ∧ (u.emtAt a).dest = x.port ∧ (u.emtAt a).age = 3 ∧ (u.emtAt a).pset = false
            ∧ (u.emtAt a).key = x.key ∧ u.reg W.EMT EMT_MOVE_COUNT = satAdd 32 (s.reg W.EMT EMT_MOVE_COUNT) 1)
        ∧ (x.kind = .move → ∀ a, emtFind [] x.key s = some a → (s.emtAt a).static = true →
          Does .moveEntry s fun u => u.emt.queue = l ∧ u.emt.entries = s.emt.entries))
    ∧ (∀ (a : Nat) (e : EmtEntry) (s : State), mainRuns s = true → s.emt.entries = [(a, e)] → e.learned = true → s.emt.resv = none →
      (s.enabled W.EMT = true → s.fld W.EMT EMT_AGE 15 0 ≠ 0 →
        (e.age = 0 → Does .agingSweep s fun u => u.emt.entries = [] ∧ u.reg W.EMT EMT_AGED = satAdd 32 (s.reg W.EMT EMT_AGED) 1)
          ∧ (e.age ≠ 0 → Does .agingSweep s fun u => u.emt.entries = [(a, { e with a0 := wput e.a0 29 28 (e.age - 1) })] ∧ u.regs = s.regs))
        ∧ (s.fld W.EMT EMT_AGE 15 0 = 0 → Effect .agingSweep s s))
    ∧ (∀ s : State, mainRuns s = true →
      (s.flag W.EMT Reg.EMT_SCRUB 31 = false → ∀ c b l, Effect (.scrubVisit c b l) s s)
        ∧ (s.enabled W.EMT = false → ∀ c b l, Effect (.scrubVisit c b l) s s)
        ∧ (s.enabled W.EMT = true → s.flag W.EMT Reg.EMT_SCRUB 31 = true →
          (∀ c b l, Does (.scrubVisit c b l) s fun u => u.emt.scrubPos = if s.emt.scrubPos + 1 < 16400 then s.emt.scrubPos + 1 else 0)
          ∧ ∀ b l, Does (.scrubVisit true b l) s fun u => u.emt.entries = s.emt.entries
            ∧ u.reg W.EMT Reg.EMT_SCRUB_SKIP = satAdd 32 (s.reg W.EMT Reg.EMT_SCRUB_SKIP) 1))
    ∧ (∀ (i : Initiator) (s : State), takes s i W.WCT WCT_CMD = true →
      let n := s.fld W.WCT WCT_IDX 9 0
      let act := (List.range 4).map fun j => BitVec.ofNat 32 (s.reg W.WCT (WCT_ACT + 4 * j))
      (badAction act = false → Does (.wctWrite i) s fun u => u.reg W.WCT WCT_STAT = 0
          ∧ (u.wctAt n).value = staged s WCT_VALUE ∧ (u.wctAt n).mask = staged s WCT_MASK ∧ (u.wctAt n).act = act
          ∧ (u.wctAt n).hits = (s.wctAt n).hits ∧ ∀ m, m ≠ n → u.wctAt m = s.wctAt m)
        ∧ (badAction act = true → Does (.wctWrite i) s fun u => u.reg W.WCT WCT_STAT = 1 ∧ u.wct = s.wct)
        ∧ ((s.wctAt n).hits < 2 ^ 32 → Does (.wctRead i) s fun u => staged u WCT_VALUE = (s.wctAt n).value ∧ staged u WCT_MASK = (s.wctAt n).mask
          ∧ u.reg W.WCT WCT_ACT = (s.wctAt n).a0.toNat ∧ u.reg W.WCT WCT_HITS = (s.wctAt n).hits ∧ u.wct = s.wct)
        ∧ Does (.clrhits i) s fun u => u.wctAt n = { s.wctAt n with hits := 0 } ∧ u.reg W.WCT WCT_HITS = 0 ∧ ∀ m, m ≠ n → u.wctAt m = s.wctAt m)
    ∧ ∀ (i : Initiator) (s : State), takes s i W.CLS CLS_PSET_CMD = true →
      let n := s.fld W.CLS CLS_PSET_IDX 11 0
      (Does (.psetWrite i) s fun u => kvGet 0 u.pset n = BitVec.ofNat 64 (s.reg64 W.CLS CLS_PSET_LO) ∧ (∀ m, m ≠ n → kvGet 0 u.pset m = kvGet 0 s.pset m)
          ∧ u.regs = s.regs)
        ∧ Does (.psetRead i) s fun u => u.reg64 W.CLS CLS_PSET_LO = (kvGet 0 s.pset n).toNat ∧ u.pset = s.pset

/-- POL and CDM commands, the gate change and the cadence sweep (R199, R200, R202, R203, R204, R205, R206, R208). -/
def Obligations.PolicersGatesAndCadenceEntriesFollowTheirCommands : Prop :=
  (∀ (i : Initiator) (d : Word) (l : List BadEntry) (s : State), takes s i W.POL POL_CMD = true →
      let obj := bits d.toNat 17 16
      let n := bits d.toNat 12 0
      let w := polData s
      let entry := fun (o : Nat) => if o = 0 then BadEntry.policer n else if o = 1 then .gate n else .gcl n
      let fits := (obj = 0 ∧ n ≤ 8191) ∨ (obj = 1 ∧ n ≤ 255) ∨ (obj = 2 ∧ n ≤ 4095)
      let answers := fun (c : Instr) (v : Nat) => Does c s fun u => u.reg W.POL POL_CMD_STAT = v ∧ u.pol = s.pol
      (obj = 0 → n ≠ 0 → policerBad (w 0) (w 1) (w 2) (w 3) = false → Does (.polWrite i d l) s fun u => u.reg W.POL POL_CMD_STAT = 0
          ∧ ((u.policer n).d0, (u.policer n).d1, (u.policer n).d2, (u.policer n).d3) = (w 0, w 1, w 2, w 3)
          ∧ ((u.policer n).green, (u.policer n).yellow, (u.policer n).red) = (0, 0, 0)
          ∧ (bit d.toNat 15 = false → wf (w 0) 31 30 = 2 → rateOf (wf (w 1) 31 16) ≠ 0 → (u.policer n).tc = wf (w 2) 31 8 * 65536)
          ∧ ∀ m, m ≠ n → u.policer m = s.policer m)
        ∧ (obj = 0 → n ≠ 0 → policerBad (w 0) (w 1) (w 2) (w 3) = true → answers (.polWrite i d l) 2)
        ∧ (obj = 0 → n = 0 → answers (.polWrite i d l) 1)
        ∧ (obj = 3 → answers (.polWrite i d l) 2 ∧ answers (.polRead i d l) 2 ∧ answers (.polClear i d l) 2)
        ∧ ((obj = 1 ∧ 255 < n) ∨ (obj = 2 ∧ 4095 < n) → answers (.polWrite i d l) 1 ∧ answers (.polRead i d l) 1)
        ∧ (obj = 1 → n ≤ 255 → let c : GateCfg := ⟨w 0, w 1, w 2, w 3, w 4, w 5⟩
          ((s.gate n).pend.isSome → wf (w 0) 31 31 = 1 → answers (.polWrite i d l) 4)
            ∧ ((s.gate n).pend = none → gateBad c = false → wf (w 0) 31 31 = 1 → Does (.polWrite i d l) s fun u =>
              u.reg W.POL POL_CMD_STAT = 0 ∧ u.gate n = { s.gate n with pend := some c, pendAt := gateInstant c s.now }
                ∧ ∀ m, m ≠ n → u.gate m = s.gate m)
            ∧ (gateBad c = false → wf (w 0) 31 31 = 0 → Does (.polWrite i d l) s fun u =>
              u.reg W.POL POL_CMD_STAT = 0 ∧ u.gate n = { s.gate n with cfg := c, pend := none, pendAt := 0 }))
        ∧ (obj = 2 → n ≤ 4095 → (gclInUse s n = true → answers (.polWrite i d l) 3)
          ∧ (gclInUse s n = false → Does (.polWrite i d l) s fun u => u.reg W.POL POL_CMD_STAT = 0 ∧ kvGet 0 u.pol.gcl n = w 0
            ∧ u.pol.gates = s.pol.gates))
        ∧ (fits → entry obj ∈ l → (s.win W.POL).resetting = false →
          let fails := fun (c : Instr) => Does c s fun u => u.reg W.POL POL_CMD_STAT = 5 ∧ u.pol = s.pol
            ∧ ⟨W.POL, 2, .event, entryLoc W.POL n, false⟩ ∈ u.posts
          fails (.polRead i d l) ∧ (obj ≠ 2 → fails (.polClear i d l)))
        ∧ (entry obj ∉ l →
          (obj = 0 → (s.policer n).green < 2 ^ 32 → Does (.polRead i d l) s fun u => u.reg W.POL POL_CMD_STAT = 0 ∧ u.pol = s.pol
            ∧ polData u 0 = (s.policer n).d0 ∧ polData u 3 = (s.policer n).d3 ∧ u.reg W.POL (POL_DATA + 16) = (s.policer n).green)
          ∧ (obj = 0 → Does (.polClear i d l) s fun u => u.policer n = { s.policer n with green := 0, yellow := 0, red := 0 }
            ∧ u.reg W.POL POL_CMD_STAT = 0 ∧ ∀ m, m ≠ n → u.policer m = s.policer m)
          ∧ (obj = 1 → n ≤ 255 → Does (.polClear i d l) s fun u => u.gate n = { s.gate n with closed := 0 }))
        ∧ (obj = 2 → n ≤ 4095 → answers (.polClear i d l) 2))
    ∧ (∀ (g : Nat) (s : State), mainRuns s = true → ((s.gate g).pend = none → Effect (.gateChange g) s s)
      ∧ ∀ c, (s.gate g).pend = some c → (s.now < (s.gate g).pendAt → Effect (.gateChange g) s s)
        ∧ ((s.gate g).pendAt ≤ s.now → Does (.gateChange g) s fun u => u.gate g = { s.gate g with cfg := c, pend := none, pendAt := 0 }
          ∧ (∀ m, m ≠ g → u.gate m = s.gate m) ∧ u.regs = s.regs))
    ∧ (∀ (c : GateCfg) (now : Nat), 0 < c.d1.toNat → (∃ k, gateInstant c now = GateCfgBase c + k * c.d1.toNat)
      ∧ GateCfgChange c ≤ gateInstant c now ∧ now ≤ gateInstant c now
      ∧ ∀ k, GateCfgChange c ≤ GateCfgBase c + k * c.d1.toNat → now ≤ GateCfgBase c + k * c.d1.toNat →
        gateInstant c now ≤ GateCfgBase c + k * c.d1.toNat)
    ∧ (∀ (i : Initiator) (d : Word) (l : List BadEntry) (s : State), takes s i W.CDM CDM_CMD = true →
      let k := bits d.toNat 11 0
      let w := fun (j : Nat) => BitVec.ofNat 32 (s.reg W.CDM (CDM_DATA + 4 * j))
      let bad := wf (w 0) 28 24 ≠ 0 ∨ (wf (w 0) 31 31 = 1 ∧ wf (w 0) 23 0 = 0) ∨ wf (w 2) 29 0 ≠ 0
      (k = 0 → Does (.cdmWrite i d l) s fun u => u.reg W.CDM CDM_CMD_STAT = 1 ∧ u.cdm = s.cdm)
        ∧ (k ≠ 0 → bad → Does (.cdmWrite i d l) s fun u => u.reg W.CDM CDM_CMD_STAT = 2 ∧ u.cdm = s.cdm)
        ∧ (k ≠ 0 → ¬bad → Does (.cdmWrite i d l) s fun u => u.reg W.CDM CDM_CMD_STAT = 0 ∧ u.cadence k = ⟨w 0, w 1, .unsynced, 0, 0, 0, 0⟩
          ∧ ∀ m, m ≠ k → u.cadence m = s.cadence m)
        ∧ (.cadence k ∈ l → (s.win W.CDM).resetting = false →
          let fails := fun (c : Instr) => Does c s fun u => u.reg W.CDM CDM_CMD_STAT = 5 ∧ u.cdm = s.cdm
            ∧ ⟨W.CDM, 2, .event, entryLoc W.CDM k, false⟩ ∈ u.posts
          fails (.cdmRead i d l) ∧ fails (.resync i d l))
        ∧ (.cadence k ∉ l → Does (.cdmRead i d l) s (fun u => u.reg W.CDM CDM_CMD_STAT = 0 ∧ u.cdm = s.cdm
            ∧ u.reg W.CDM CDM_DATA = (s.cadence k).d0.toNat ∧ u.reg W.CDM (CDM_DATA + 4) = (s.cadence k).d1.toNat)
          ∧ Does (.resync i d l) s fun u => u.reg W.CDM CDM_CMD_STAT = 0
            ∧ u.cadence k = { s.cadence k with state := .unsynced, early := 0, miss := 0 } ∧ ∀ m, m ≠ k → u.cadence m = s.cadence m))
    ∧ (∀ (k : Nat) (x : Cadence) (l : List BadEntry) (s : State), mainRuns s = true → s.enabled W.CDM = true → s.cdm = [(k, x)] →
      x.state = .running → wf x.d0 31 31 = 1 → (s.win W.CDM).resetting = false →
      (.cadence k ∉ l → x.last + cadPeriod x + cadLate x < s.now → Does (.cadenceSweep l) s fun u => (u.cadence k).state = .missing
          ∧ (u.cadence k).miss = satAdd 16 x.miss 1 ∧ u.reg W.CDM CDM_MISSING = satAdd 32 (s.reg W.CDM CDM_MISSING) 1
          ∧ ⟨W.CDM, 4, .event, locSelf W.CDM, false⟩ ∈ u.posts)
        ∧ (.cadence k ∈ l ∨ s.now ≤ x.last + cadPeriod x + cadLate x → Effect (.cadenceSweep l) s s))
    ∧ (∀ s : State, mainRuns s = true → s.enabled W.CDM = false → ∀ l, Effect (.cadenceSweep l) s s)
    ∧ ∀ (x : Policer) (now : Nat), (refill x now).tc ≤ wf x.d2 31 8 * 65536
      ∧ (polType x ≠ 3 → rateOf (wf x.d1 31 16) = 0 → (refill x now).tc = 0)
      ∧ (polType x = 1 → (refill x now).tp ≤ wf x.d3 31 8 * 65536)

/-- The signal engine: bit places, takes, timeouts, emissions, transport timers, microcode, table commands (R215, R222, R225, R227, R229, R234, R238, R244, R247, R249). -/
def Obligations.SignalsPackAndBuffersEmit : Prop :=
  (∀ (big : Bool) (l : List Byte) (start len v : Nat), start + len ≤ 8 * l.length →
      sigExtract big (sigPack big l start len v) start len = v % 2 ^ len
        ∧ (sigPack big l start len v).length = l.length
        ∧ ∀ n, (n < start ∨ start + len ≤ n) → sigBit big (sigPack big l start len v) n = sigBit big l n)
    ∧ (∀ (c : Nat) (l : List BadEntry) (s : State), mainRuns s = true → c < 8 →
      (s.headOf (448 + c) = none → Effect (.sgeTake c l) s s)
        ∧ ∀ pf x, s.headOf (448 + c) = some (pf, x) →
          let t := (frameOf pf x).tag
          let e := min t.passes 1
          (s.engFree e < s.engGate e → Effect (.sgeTake c l) s s)
            ∧ (s.engGate e ≤ s.engFree e → sgeRunning s = false →
              Does (.sgeTake c l) s fun u => u.reg W.SGE SGE_TAKEN = satAdd 32 (s.reg W.SGE SGE_TAKEN) 1
                ∧ u.reg W.SGE SGE_DISCARD = satAdd 32 (s.reg W.SGE SGE_DISCARD) 1 ∧ u.sge = s.sge
                ∧ ∀ g, u.frame? pf.fid = some g → PFrameHas g 56 = false)
            ∧ (s.engGate e ≤ s.engFree e → sgeRunning s = true → t.pdu < 8192 → .sge 0 t.pdu ∉ l →
              bits (s.sgeW 0 t.pdu 0) 31 28 = 1 → t.kind ≤ 4 →
              Does (.sgeTake c l) s fun u => u.reg W.SGE SGE_TAKEN = satAdd 32 (s.reg W.SGE SGE_TAKEN) 1
                ∧ u.sgeDef t.pdu = ⟨some s.vault, false⟩ ∧ u.sge.live = s.sge.live
                ∧ ∀ g, u.frame? pf.fid = some g → PFrameHas g 56 = false))
    ∧ (∀ (d : Nat) (l : List BadEntry) (s : State), mainRuns s = true →
      let due := bits (s.sgeW 0 d 0) 31 28 = 1 ∧ bits (s.sgeW 0 d 2) 31 16 ≠ 0 ∧ (s.sgeDef d).out = false
        ∧ ∃ t, (s.sgeDef d).last = some t ∧ t + bits (s.sgeW 0 d 2) 31 16 * 1000000 ≤ s.vault / 100000 * 100000
      (¬due ∨ sgeRunning s = false → Effect (.srcTimeout d l) s s)
        ∧ (due → sgeRunning s = true → (s.win W.SGE).resetting = false →
          (.sge 0 d ∉ l → Does (.srcTimeout d l) s fun u => (u.sgeDef d).out = true
            ∧ u.reg W.SGE SGE_TIMEOUTS = satAdd 32 (s.reg W.SGE SGE_TIMEOUTS) 1 ∧ ⟨W.SGE, 5, .event, sgeLoc d, false⟩ ∈ u.posts)
          ∧ (.sge 0 d ∈ l → Does (.srcTimeout d l) s fun u => u.sge = s.sge ∧ u.regs = s.regs
            ∧ ⟨W.SGE, 4, .event, sgeLoc d, false⟩ ∈ u.posts)))
    ∧ (∀ (b : Nat) (l : List BadEntry) (s : State), mainRuns s = true →
      let emits := fun (c : Instr) => .sge 2 b ∉ l → Does c s fun u => u.reg W.SGE SGE_EMITTED = satAdd 32 (s.reg W.SGE SGE_EMITTED) 1
        ∧ (u.sgeBuf b).pend = none ∧ (u.sgeBuf b).last = some s.vault
        ∧ ∃ a, u.pond.arrivals = s.pond.arrivals ++ [a] ∧ a.fp = 10 ∧ a.payload = (s.sgeBuf b).data.take (bufLen s b) ∧ a.tag.kind = 4
      let pending := ∃ d, (s.sgeBuf b).pend = some d ∧ d ≤ s.vault
      let ready := fun x => kvGet none s.sge.bundles b = some x ∧ x.opened + bits (s.sgeW 4 b 0) 15 0 * 1000 ≤ s.vault
      (cyclicDue s b = true → sgeRunning s = true → emitsNext s b = true → emits (.cyclicEmission b l))
        ∧ (cyclicDue s b = false ∨ sgeRunning s = false ∨ emitsNext s b = false → Effect (.cyclicEmission b l) s s)
        ∧ (cyclicDue s b = true → 2 ≤ bufMode s b ∧ ∃ k, k ≤ s.vault / 100000 ∧ (s.sgeBuf b).cyc < k ∧ s.sge.since < k
          ∧ bits (s.sgeW 2 b 3) 15 0 ≤ k ∧ k % bits (s.sgeW 2 b 3) 31 16 = bits (s.sgeW 2 b 3) 15 0 % bits (s.sgeW 2 b 3) 31 16)
        ∧ (emitsNext s b = true → ∀ c ∈ liveBufs s, c < b → cyclicDue s c = false ∧ pendingDue s c = false)
        ∧ (pending → sgeRunning s = true → emitsNext s b = true → emits (.pendingEmission b l))
        ∧ (¬pending ∨ sgeRunning s = false ∨ emitsNext s b = false → Effect (.pendingEmission b l) s s)
        ∧ ((¬∃ x, ready x) ∨ sgeRunning s = false → Effect (.bundleDeadline b l) s s)
        ∧ ∀ x, ready x → sgeRunning s = true → .sge 4 b ∉ l → Does (.bundleDeadline b l) s fun u => kvGet none u.sge.bundles b = none
          ∧ kvGet 0 u.sge.seqOut b = (kvGet 0 s.sge.seqOut b + 1) % 256
          ∧ u.reg W.SGE SGE_BUNDLES = satAdd 32 (s.reg W.SGE SGE_BUNDLES) 1)
    ∧ (∀ (k : Nat) (s : State), mainRuns s = true →
      let ends := fun (c : Instr) (r : Nat) => Does c s fun u => u.sess? k = none ∧ u.reg W.SGE r = satAdd 32 (s.reg W.SGE r) 1
      let still := Effect (.tpRxTimeout k) s s ∧ Effect (.tpTxTimeout k) s s ∧ Effect (.bamGap k) s s
      (s.sess? k = none → still)
        ∧ ∀ x, s.sess? k = some x →
          let due := x.since + sessLimit s x * 1000000 ≤ s.vault
          (¬due ∨ sgeRunning s = false → still)
            ∧ (x.tx = true ∨ x.state = .done → Effect (.tpRxTimeout k) s s)
            ∧ (x.state ≠ .txWait → Effect (.tpTxTimeout k) s s) ∧ (x.state ≠ .txBam → Effect (.bamGap k) s s)
            ∧ (due → sgeRunning s = true →
              (x.tx = false → x.state ≠ .done → ends (.tpRxTimeout k) SGE_TP_ABORT)
              ∧ (x.state = .txWait → ends (.tpTxTimeout k) SGE_TP_ABORT)
              ∧ (x.state = .txBam → pktsOf x.size ≤ x.next → ends (.bamGap k) SGE_TP_DONE)
              ∧ (x.state = .txBam → x.next < pktsOf x.size → Does (.bamGap k) s fun u =>
                (u.sess? k).map (fun y => (y.next, y.since)) = some (x.next + 1, s.vault)
                  ∧ u.pond.arrivals.length = s.pond.arrivals.length + 1)))
    ∧ (∀ (i : Initiator) (d : Word) (s : State),
      let n := s.fld W.SGE SGE_UC_STAT 14 0
      (takes s i W.SGE SGE_UC_CTRL = true → s.flag W.SGE BLK_CTRL 0 = false → bit d.toNat 0 = false → Does (.ucLoad i d) s fun u =>
          u.fld W.SGE SGE_UC_STAT 14 0 = 0 ∧ u.flag W.SGE SGE_UC_STAT 31 = false ∧ u.sge = s.sge)
        ∧ (takes s i W.SGE SGE_UC_DATA = true → n < 16384 → Does (.ucData i d) s fun u => kvGet 0 u.sge.ucode n = d
          ∧ u.fld W.SGE SGE_UC_STAT 14 0 = n + 1 ∧ ∀ m, m ≠ n → kvGet 0 u.sge.ucode m = kvGet 0 s.sge.ucode m)
        ∧ (takes s i W.SGE SGE_UC_CTRL = true → bit d.toNat 1 = false → s.flag W.SGE SGE_UC_STAT 31 = false → 1 ≤ n → n ≤ 16384 →
          let good := crc32c ((List.range n).flatMap fun k => leBytes 4 (kvGet 0 s.sge.ucode k).toNat) = s.reg W.SGE SGE_UC_CRC
          (good → Does (.ucRun i d) s fun u => u.flag W.SGE SGE_UC_STAT 31 = true ∧ u.flag W.SGE SGE_UC_STAT 30 = false
              ∧ u.reg W.SGE SGE_UC_VER = (kvGet 0 s.sge.ucode 0).toNat)
            ∧ (¬good → (s.win W.SGE).resetting = false → Does (.ucRun i d) s fun u => u.flag W.SGE SGE_UC_STAT 31 = false
              ∧ u.flag W.SGE SGE_UC_STAT 30 = true ∧ ⟨W.SGE, 2, .event, locSelf W.SGE, false⟩ ∈ u.posts)))
    ∧ ∀ (i : Initiator) (d : Word) (s : State), takes s i W.SGE SGE_CMD = true →
      let obj := bits d.toNat 19 17
      let n := bits d.toNat 14 0
      (obj ∈ [0, 1, 2, 4, 5, 6] → n < sgeCount obj → Does (.sgeWrite i d) s fun u => u.reg W.SGE SGE_CMD_STAT = 0 ∧ u.sge.live = s.sge.live
          ∧ ∀ k, k < sgeWords obj → u.sgeS obj n k
            = s.reg W.SGE (SGE_DATA + 4 * k) &&& sgeMask obj k (bits (s.reg W.SGE SGE_DATA) 31 28))
        ∧ (∀ l, obj ∈ [1, 2, 4, 5] → n < sgeCount obj → .sge obj n ∉ l → Does (.sgeRead i d l) s fun u => u.reg W.SGE SGE_CMD_STAT = 0 ∧ u.sge = s.sge
          ∧ ∀ k, k < sgeWords obj → u.reg W.SGE (SGE_DATA + 4 * k) = if s.flag W.SGE BLK_CTRL 3 then s.sgeW obj n k else s.sgeS obj n k)
        ∧ (∀ l, obj ≤ 6 → n < sgeCount obj → .sge obj n ∈ l → (s.win W.SGE).resetting = false → Does (.sgeRead i d l) s fun u =>
          u.reg W.SGE SGE_CMD_STAT = 5 ∧ u.sge = s.sge ∧ ⟨W.SGE, 4, .event, sgeLoc n, false⟩ ∈ u.posts)
        ∧ (obj = 7 → n < 8192 → n % 256 ≤ 0xFD → Does (.sgeClear i d) s fun u => u.reg W.SGE SGE_CMD_STAT = 0 ∧ u.claim (n / 256) (n % 256) = none)
        ∧ (obj ≠ 7 → Does (.sgeClear i d) s fun u => u.reg W.SGE SGE_CMD_STAT = 2 ∧ u.sge = s.sge)
        ∧ (obj ≤ 2 → sgeCount obj ≤ n → Does (.sgeWrite i d) s fun u => u.reg W.SGE SGE_CMD_STAT = 1 ∧ u.sge = s.sge)

/-- The authentication engine: freshness, keys, generation, verification, discards and entry commands (R253, R254, R255, R256, R260, R262, R263, R271). -/
def Obligations.AuthenticatedPdusVerifyWithTheirFreshness : Prop :=
  (∀ (key : List Byte) (x : Fresh) (p : List Byte) (c : Nat), x.counter < c → c ≤ 2 ^ 64 - 1 → c - x.counter ≤ x.e2.toNat →
      freshF x ≤ 64 → (freshF x < 64 → c - x.counter ≤ 2 ^ freshF x) →
      verifyDecide key x p (c % 2 ^ freshF x) (macTop x (pduMac key x p c)) = (some c, 0, 1))
    ∧ (∀ (core h usage : Nat) (l : List BadEntry) (s : State),
      (keyLoad l s h usage = none → coreLoad core l h usage s = (none, s))
        ∧ ∀ k, keyLoad l s h usage = some k →
          ((∀ y, kvGet none s.aue.cores core = some y → y.handle ≠ h ∨ y.last + 100000 < s.now) → (coreLoad core l h usage s).1 = some k)
            ∧ (∀ y, kvGet none s.aue.cores core = some y → y.handle = h → s.now ≤ y.last + 100000 → (coreLoad core l h usage s).1 = some y.key))
    ∧ (∀ (c : Nat) (l : List BadEntry) (s : State), mainRuns s = true → c < 8 →
      (s.headOf (456 + c) = none → Effect (.aueTake c l) s s)
        ∧ (s.enabled W.AUE = false → Effect (.aueTake c l) s s)
        ∧ ∀ pf y, s.headOf (456 + c) = some (pf, y) → s.enabled W.AUE = true →
          let t := (frameOf pf y).tag
          let e := 2 + min t.passes 1
          let i := t.freshIdx
          let x := s.freshAt i
          (s.engFree e < s.engGate e → Effect (.aueTake c l) s s)
            ∧ (s.engGate e ≤ s.engFree e → i < 16384 → .fresh i ∈ l ∨ freshFlag x 31 = false → Does (.aueTake c l) s fun u =>
              u.reg W.AUE AUE_DISCARD = satAdd 32 (s.reg W.AUE AUE_DISCARD) 1 ∧ u.aue = s.aue
                ∧ ∀ g, u.frame? pf.fid = some g → PFrameHas g 57 = false)
            ∧ (s.engGate e ≤ s.engFree e → i < 16384 → .fresh i ∉ l → (t.kind ≤ 2 ∨ t.kind = 4) → pf.payload.length ≤ 2048 → freshFlag x 31 = true →
              (freshFlag x 30 = true → x.counter = 2 ^ 64 - 1 → (s.win W.AUE).resetting = false → Does (.aueTake c l) s fun u =>
                u.reg W.AUE AUE_DISCARD = satAdd 32 (s.reg W.AUE AUE_DISCARD) 1 ∧ u.aue = s.aue
                  ∧ ⟨W.AUE, 8, .event, freshLoc i, false⟩ ∈ u.posts)
              ∧ ∀ key, (coreLoad 0 l t.keyHandle 0 s).1 = some key →
                (freshFlag x 30 = true → x.counter < 2 ^ 64 - 1 → genFits t.kind (pf.payload.length + authLen x) = true → Does (.aueTake c l) s fun u =>
                  u.freshAt i = { x with counter := x.counter + 1 } ∧ u.reg W.AUE AUE_GENERATED = satAdd 32 (s.reg W.AUE AUE_GENERATED) 1
                    ∧ u.pond.arrivals.map (·.payload) = s.pond.arrivals.map (·.payload)
                      ++ [pf.payload ++ authBytes x (x.counter + 1) (pduMac key x pf.payload (x.counter + 1))])
                ∧ ∀ n, freshFlag x 30 = false → shedding s = false → authLen x ≤ pf.payload.length →
                  let p := pf.payload.length - authLen x
                  let v := beNat (pf.payload.drop p) >>> (8 * authLen x - (freshF x + freshM x))
                  (verifyDecide key x (pf.payload.take p) (v >>> freshM x) (v % 2 ^ freshM x)).1 = some n → Does (.aueTake c l) s fun u =>
                  u.freshAt i = { x with counter := n } ∧ u.reg W.AUE AUE_VERIFIED = satAdd 32 (s.reg W.AUE AUE_VERIFIED) 1
                    ∧ ∃ a, u.pond.arrivals = s.pond.arrivals ++ [a] ∧ a.fp = 11))
    ∧ ∀ (i : Initiator) (d : Word) (l : List BadEntry) (s : State), takes s i W.AUE AUE_CMD = true → bits d.toNat 19 17 = 0 →
      let n := bits d.toNat 13 0
      let w := aueData s
      (freshBad s = true → Does (.aueWrite i d l) s fun u => u.reg W.AUE AUE_CMD_STAT = 2 ∧ u.aue = s.aue)
        ∧ (freshBad s = false → Does (.aueWrite i d l) s fun u => u.reg W.AUE AUE_CMD_STAT = 0
          ∧ (u.freshAt n).counter = w 3 + 2 ^ 32 * w 4 ∧ (u.freshAt n).e2.toNat = w 2 ∧ (u.freshAt n).fails = 0 ∧ (u.freshAt n).replays = 0
          ∧ freshFlag (u.freshAt n) 31 = bit (w 0) 31 ∧ ∀ m, m ≠ n → u.freshAt m = s.freshAt m)
        ∧ (.fresh n ∈ l → (s.win W.AUE).resetting = false →
          let fails := fun (c : Instr) => Does c s fun u => u.reg W.AUE AUE_CMD_STAT = 5 ∧ u.aue = s.aue
            ∧ ⟨W.AUE, 3, .event, freshLoc n, false⟩ ∈ u.posts
          fails (.aueRead i d l) ∧ fails (.aueClear i d l))
        ∧ (.fresh n ∉ l →
          Does (.aueRead i d l) s (fun u => u.reg W.AUE AUE_CMD_STAT = 0 ∧ u.aue = s.aue ∧ aueData u 0 = (s.freshAt n).e0.toNat
            ∧ aueData u 3 = (s.freshAt n).counter % 2 ^ 32)
          ∧ Does (.aueClear i d l) s fun u => u.reg W.AUE AUE_CMD_STAT = 0 ∧ u.freshAt n = { s.freshAt n with fails := 0, replays := 0 })

/-- CAN controllers: joining the bus, claims, reception, bus errors, bus-off recovery and automatic rate detection (R275, R277, R282, R283, R284, R285, R296, R297, R298). -/
def Obligations.CanReceptionErrorsAndRateDetection : Prop :=
  ∀ (n : Nat) (s : State), n < 32 → (if n < 24 then shoreRuns s (shoreOf n) else mainRuns s) = true →
    let w := cxWin n
    let x := s.cxs n
    let m := cxMode s n
    let plus := fun (u : State) (r k : Nat) => u.reg w r = satAdd 32 (s.reg w r) k
    Does (.integrationDone n) s (fun u => (u.cxs n).integrating = false ∧ u.regs = s.regs)
      ∧ (∀ len sof,
        let takesIn := receives s n || loops s n
        (takesIn = false ∨ x.claim ≠ none → Effect (.rxClaim n len sof) s s)
        ∧ (takesIn = true → x.claim = none → loops s n = true ∨ pathOf s n sof = none →
          (ingressHeld s n + cellsOf len ≤ 192 → Does (.rxClaim n len sof) s fun u => (u.cxs n).claim = some (some (cellsOf len)) ∧ u.regs = s.regs)
            ∧ (192 < ingressHeld s n + cellsOf len → Does (.rxClaim n len sof) s fun u => (u.cxs n).claim = some none ∧ plus u CX_RX_OVF 1))
        ∧ (receives s n = true → loops s n = false → x.claim = none → (pathOf s n sof).isSome → Does (.rxClaim n len sof) s fun u =>
          (u.cxs n).claim = none ∧ (u.cxs n).rxActive = true ∧ u.regs = s.regs))
      ∧ (∀ f sof eof tec rec bad,
        let c := Instr.cxRxFrame n f sof eof tec rec bad
        let fits := x.claim = none ∧ ingressHeld s n + cellsOf f.data.length ≤ 192 ∨ ∃ k, x.claim = some (some k)
        let open_ := receives s n = true ∧ (f.fmt = 1 → s.flag w CX_MODE 9 = true) ∧ (f.fmt = 2 → s.flag w CX_MODE 10 = true)
        (receives s n = false → Effect c s s)
          ∧ (receives s n = true → (f.fmt = 1 ∧ s.flag w CX_MODE 9 = false) ∨ (f.fmt = 2 ∧ s.flag w CX_MODE 10 = false) →
            Does c s fun u => u.pond.arrivals = s.pond.arrivals ∧ plus u (if s.flag w CX_MODE 8 then CX_PEX else CX_ERR_FORM) 1)
          ∧ (open_ → m ≠ 4 → pathOf s n sof = none →
            (fits → Does c s fun u => u.reg64 w CX_RX_LO = (s.reg64 w CX_RX_LO + 1) % 2 ^ 64 ∧ u.reg64 w CX_RXEOF_LO = eof % 2 ^ 64
                ∧ u.pond.arrivals = s.pond.arrivals
                  ++ [⟨s.pond.nextFid, fpOf n, rxTag n (s.fld w CX_RXCFG 2 0) sof f, f.data, true, none, .port n⟩]
                ∧ (u.cxs n).claim = none)
              ∧ (¬fits → Does c s fun u => u.pond.arrivals = s.pond.arrivals ∧ u.reg64 w CX_RX_LO = s.reg64 w CX_RX_LO
                ∧ (x.claim = none → plus u CX_RX_OVF 1) ∧ (u.cxs n).claim = none))
          ∧ (open_ → m = 4 → ∀ k, x.abrCand = some k →
            (x.abrGood = 0 → Does c s fun u => plus u CX_ABR_FRAMES 1 ∧ (u.cxs n).abrGood = 1 ∧ (u.cxs n).abrCand = some k
                ∧ u.pond.arrivals = s.pond.arrivals)
              ∧ (1 ≤ x.abrGood → Does c s fun u => plus u CX_ABR_FRAMES 1 ∧ (u.cxs n).abrLocked = true ∧ (u.cxs n).abrLockCand = k
                ∧ u.fld w CX_MODE 2 0 = (if s.flag w CX_ABR_CFG 30 then 1 else 2)
                ∧ u.reg w CX_NBT = s.reg w (CX_ABR_CAND + 16 * k))))
      ∧ (∀ e : CanErrEvent,
        let c := Instr.cxBusError n e
        (x.busoff = true ∨ x.integrating = true → Effect c s s)
          ∧ (s.enabled w = false ∨ m = 0 → onBus s n = none → Effect c s s)
          ∧ (x.busoff = false → x.integrating = false → (s.enabled w = true ∧ m ≠ 0) ∨ (onBus s n).isSome →
            (∀ r lec, errCounter e.kind = some (r, lec) ∨ (e.kind = .exception ∧ s.flag w CX_MODE 8 = false ∧ r = CX_ERR_FORM ∧ lec = 2) →
              Does c s fun u => plus u r 1 ∧ (u.cxs n).lec = lec ∧ (u.cxs n).lecData = e.dataPhase
                ∧ (m = 1 ∨ m = 5 → (u.cxs n).txErr = e.txErr % 512 ∧ (u.cxs n).rxErr = e.rxErr % 256
                  ∧ (u.cxs n).busoff = decide (255 < e.txErr % 512)
                  ∧ (255 < e.txErr % 512 → plus u CX_BUSOFF_CNT 1))
                ∧ (m ≠ 1 → m ≠ 5 → (u.cxs n).txErr = x.txErr ∧ (u.cxs n).rxErr = x.rxErr ∧ (u.cxs n).busoff = false))
              ∧ (e.kind = .exception → s.flag w CX_MODE 8 = true → Does c s fun u => plus u CX_PEX 1 ∧ (u.cxs n).integrating = true
                ∧ (u.cxs n).txErr = x.txErr ∧ (u.cxs n).rxErr = x.rxErr)))
      ∧ ((x.recovering = false → Effect (.recoveryDone n) s s)
        ∧ (x.recovering = true → Does (.recoveryDone n) s fun u => (u.cxs n).busoff = false ∧ (u.cxs n).recovering = false
          ∧ (u.cxs n).txErr = 0 ∧ (u.cxs n).rxErr = 0))
      ∧ (∀ i d, takes d i w CX_CMD = true →
        ((d.cxs n).busoff = true → (d.cxs n).recovering = false → Does (.recover i n) d fun u => (u.cxs n).recovering = true
            ∧ (u.cxs n).recovSeq = 0 ∧ (u.cxs n).busoff = true)
          ∧ ((d.cxs n).busoff = false ∨ (d.cxs n).recovering = true → Does (.recover i n) d fun u => u.cx = d.cx))
      ∧ (s.enabled w = false ∨ s.fld w CX_ABR_CFG 15 0 = 0 ∨ x.abrCand = none ∨ m ≠ 4 → Effect (.abrDwell n) s s)
      ∧ ∀ k, s.enabled w = true → s.fld w CX_ABR_CFG 15 0 ≠ 0 → x.abrCand = some k → m = 4 →
        (k + 1 < s.fld w CX_ABR_CFG 20 16 → Does (.abrDwell n) s fun u => (u.cxs n).abrCand = some (k + 1) ∧ (u.cxs n).abrGood = 0
            ∧ (u.cxs n).abrFailed = x.abrFailed)
          ∧ (s.fld w CX_ABR_CFG 20 16 ≤ k + 1 → Does (.abrDwell n) s fun u => (u.cxs n).abrFailed = true
            ∧ (u.cxs n).abrCand = if s.flag w CX_ABR_CFG 31 then some 0 else none)

/-- CAN controllers: slot load, commitment, end of an attempt, cancels, transmit events and missed rounds (R276, R287, R288, R289, R291, R292, R293, R294, R295, R301, R333). -/
def Obligations.CanTransmissionFollowsSlotsAndCancels : Prop :=
  (∀ (n : Nat) (s : State), n < 32 → (if n < 24 then shoreRuns s (shoreOf n) else mainRuns s) = true →
    let w := cxWin n
    let x := s.cxs n
    let m := cxMode s n
    let plus := fun (u : State) (r k : Nat) => u.reg w r = satAdd 32 (s.reg w r) k
    let relays := x.slots.countP fun y => match y.src with | .relay _ => true | _ => false
    let relayWaits := (decide (n < 24) && relayPart s n && !x.relayQ.isEmpty && decide (relays < 8)) = true
    let room := fun c => decide (x.slots.countP (fun y => y.src == .cls c) < s.fld w (CX_TXCLASS + 4 * c) 22 16)
    (∀ slot,
      let c := Instr.slotLoad n slot
      let free := s.enabled w = true ∧ m ∉ [2, 3, 4] ∧ cxDown s n = false ∧ slot < 64 ∧ x.slots.any (·.idx == slot) = false
      (s.enabled w = false → Effect c s s)
        ∧ (s.enabled w = true → m ∈ [2, 3, 4] → (headClass s n (fun _ => true) = none → Effect c s s)
          ∧ ((headClass s n fun _ => true).isSome → Does c s fun u => plus u CX_TX_SUPPRESSED 1 ∧ u.cx = s.cx))
        ∧ (s.enabled w = true → m ∉ [2, 3, 4] → cxDown s n = true ∨ 64 ≤ slot ∨ x.slots.any (·.idx == slot) = true → Effect c s s)
        ∧ (free → relayWaits → ∀ f sof rest, x.relayQ = (f, sof) :: rest →
          (f.tag.kind = 1 → s.flag w CX_MODE 9 = false → Does c s fun u => (u.cxs n).relayQ = rest ∧ (u.cxs n).slots = x.slots
              ∧ u.reg (srlWin (shoreOf n)) SRL_FMT_DROP = satAdd 32 (s.reg (srlWin (shoreOf n)) SRL_FMT_DROP) 1)
            ∧ (f.tag.kind ≠ 1 ∨ s.flag w CX_MODE 9 = true → agedRelay s n sof = true → Does c s fun u => (u.cxs n).relayQ = rest
              ∧ (u.cxs n).slots = x.slots ∧ plus u CX_TX_AGED 1)
            ∧ (f.tag.kind ≠ 1 ∨ s.flag w CX_MODE 9 = true → agedRelay s n sof = false → Does c s fun u => (u.cxs n).relayQ = rest
              ∧ (u.cxs n).slots = x.slots ++ [newSlot slot (.relay sof) f]))
        ∧ (free → ¬relayWaits → (headClass s n room = none → Effect c s s)
          ∧ ∀ k pf cp, headClass s n room = some k → s.headOf (8 * n + k) = some (pf, cp) →
            let f := frameOf pf cp
            (badFormat s n f = true → Does c s fun u => (u.cxs n).slots = x.slots ∧ plus u CX_TX_BADFMT 1)
              ∧ (badFormat s n f = false → agedClass s n k f.tag = true → Does c s fun u => (u.cxs n).slots = x.slots ∧ plus u CX_TX_AGED 1)
              ∧ (badFormat s n f = false → agedClass s n k f.tag = false → Does c s fun u =>
                (u.cxs n).slots = x.slots ++ [newSlot slot (.cls k) f])))
      ∧ (∀ sof e,
        let ready := s.enabled w = true ∧ x.busoff = false ∧ x.integrating = false ∧ (m = 1 ∨ m = 5) ∧ drives s n = true ∧ onBus s n = none
        (¬ready ∨ x.slots = [] → Effect (.transmissionPoint n sof e) s s)
          ∧ (ready → ∀ b, bestSlot s n = some b →
            (e = none ∨ tdcOn s n (busFrame s n b.frame) = false → Does (.transmissionPoint n sof e) s fun u =>
              (u.cxs n).slots = updFirst (· == b) (fun y => { y with committed := true, sof := sof }) x.slots ∧ u.regs = s.regs)
            ∧ ∀ v, e = some v → tdcOn s n (busFrame s n b.frame) = true → Does (.transmissionPoint n sof e) s fun u => plus u CX_ERR_BIT 1))
      ∧ (∀ eof tec rec,
        let c := Instr.txValid n eof tec rec
        (onBus s n = none ∨ drives s n = false → Effect c s s)
          ∧ ∀ b, onBus s n = some b → drives s n = true →
            (refSlot b = false → Does c s fun u => u.reg64 w CX_TX_LO = (s.reg64 w CX_TX_LO + 1) % 2 ^ 64
                ∧ (u.cxs n).slots = delFirst (· == b) x.slots
                ∧ (b.cancelled = true → plus u CX_TX_CANCEL_LATE 1)
                ∧ ∀ k, b.src = .cls k → x.events.length < 32 → b.cancelled = true ∨ s.flag w (CX_TXCLASS + 4 * k) 31 = true →
                  (u.cxs n).events = x.events ++ [⟨if b.cancelled then 2 else 1, b.idx, k, wf b.frame.tag.w11 15 0, b.frame.tag.w7, b.sof, eof - b.sof⟩])
              ∧ (b.src = .sync → b.orphan = false → Does c s fun u => (u.cxs n).refStep = 2 ∧ u.reg64 w CX_REF_SOF_LO = b.sof % 2 ^ 64)
              ∧ (b.src = .followUp → b.orphan = false → Does c s fun u => (u.cxs n).refStep = 0 ∧ plus u CX_REF_SENT 1))
      ∧ ((onBus s n = none → Effect (.arbitrationLost n) s s)
        ∧ ∀ b, onBus s n = some b →
          let frees := fun (r : Nat) => Does (.arbitrationLost n) s fun u => plus u CX_ARB_LOST 1 ∧ plus u r 1
            ∧ (u.cxs n).slots = delFirst (· == b) x.slots
          (b.cancelled = true → frees CX_TX_CANCEL_LATE)
            ∧ (b.cancelled = false → b.orphan = true ∨ cxDown s n = true → refSlot b = false → frees CX_TX_FLUSHED)
            ∧ (b.cancelled = false → b.orphan = true ∨ cxDown s n = true → refSlot b = true → Does (.arbitrationLost n) s fun u =>
              plus u CX_ARB_LOST 1 ∧ (u.cxs n).slots = delFirst (· == b) x.slots)
            ∧ (b.cancelled = false → b.orphan = false → cxDown s n = false → slotAged s n b = true → frees CX_TX_AGED)
            ∧ (b.cancelled = false → b.orphan = false → cxDown s n = false → slotAged s n b = false → Does (.arbitrationLost n) s fun u =>
              plus u CX_ARB_LOST 1 ∧ (u.cxs n).slots = updFirst (· == b) (fun y => { y with committed := false }) x.slots))
      ∧ (x.refStep = 0 → Effect (.refMissed n) s s)
      ∧ (x.refStep ≠ 0 → Does (.refMissed n) s fun u => plus u CX_REF_MISSED 1 ∧ (u.cxs n).refStep = 0
        ∧ ∀ y ∈ (u.cxs n).slots, refSlot y = true → y.committed = true ∧ y.orphan = true))
    ∧ ∀ (i : Initiator) (n : Nat) (s : State), n < 32 →
      let w := cxWin n
      let x := s.cxs n
      let cancels := fun (c : Instr) (d : Nat) => Does c s fun u =>
        let early := x.slots.filter fun y => cancelSelects s n d y && !y.committed
        u.reg w CX_TXCANCEL_RES = (b2n (x.slots.any fun y => cancelSelects s n d y && y.committed) * 2 ^ 16 + early.length) % 2 ^ 32
          ∧ u.reg w CX_TX_CANCELLED = satAdd 32 (s.reg w CX_TX_CANCELLED) early.length
          ∧ (u.cxs n).slots = (x.slots.filter fun y => !(cancelSelects s n d y && !y.committed)).map
            fun y => if y.committed && cancelSelects s n d y then { y with cancelled := true } else y
      (takes s i w CX_TXCANCEL = true → (∀ slot, slot < 64 → cancels (.cancelSlot i n slot) (2 ^ 30 + slot))
          ∧ cancels (.cancelMatch i n) (2 ^ 31) ∧ cancels (.cancelAll i n) (3 * 2 ^ 30))
        ∧ (readsPlain s i w CX_TXEVT_INFO = true → Does (.txevtPop i n) s fun u => (u.cxs n).events = x.events.drop 1
          ∧ u.bus = ⟨BitVec.ofNat 64 (txEvtInfo s n), 0⟩
          ∧ ∀ e ∈ x.events.head?, u.reg w CX_TXEVT_ID = e.w7.toNat ∧ u.reg64 w CX_TXEVT_SOF_LO = e.sof % 2 ^ 64 ∧ u.reg w CX_TXEVT_EOFD = e.eofd % 2 ^ 32)
        ∧ (takes s i w CX_TXEVT_CLR = true → Does (.txevtClr i n) s fun u => (u.cxs n).lost = 0 ∧ (u.cxs n).events = x.events)

/-- Shore power, shore links, control messages, register requests, the shore-to-shore link and the relay (R303, R304, R305, R307, R308, R309, R311, R331, R332, R334, R336, R531). -/
def Obligations.ShoresPowerLinksAndRelaysFollowTheirEvents : Prop :=
  ∀ (d : Nat), d < 2 →
    (∀ (s : State),
      let h := s.shore d
      let wakes8 := fun (c : Instr) => Does c s fun u => (u.shore d).powered = true ∧ (u.shore d).clocked = true ∧ bit (u.shore d).seen 8 = true
        ∧ u.spsEn d = true ∧ (h.reason = none → (u.shore d).reason = some (8, 0, s.shoreNow d))
      (h.powered = true → Effect (.shorePowerOn d) s s)
        ∧ (h.powered = false → h.clocked = true → wakes8 (.shorePowerOn d))
        ∧ (h.powered = false → h.clocked = false → Does (.shorePowerOn d) s fun u => (u.shore d).powered = true ∧ (u.shore d).seen = h.seen)
        ∧ (h.powered = false → Effect (.shorePowerOnReset d) s s)
        ∧ (h.powered = true → (s.shore (1 - d)).powered = true → Does (.shorePowerOnReset d) s fun u =>
          u.shore d = { Shore.reset with pins := h.pins, powered := false } ∧ (u.bridge d).up = false ∧ u.s2s = false ∧ u.nor = s.nor)
        ∧ (h.powered = true → (s.shore (1 - d)).powered = false → Does (.shorePowerOnReset d) s fun u => u.pwr.state = .off
          ∧ u.nor = s.nor ∧ u.fuses = s.fuses ∧ u.regs = State.reset.regs)
        ∧ ((s.shore 1).clocked = false → Effect .clockLoss s s)
        ∧ ((s.shore 1).clocked = true → Does .clockLoss s fun u => (u.shore 1).clocked = false ∧ (u.shore 1).powered = (s.shore 1).powered
          ∧ (u.bridge 1).up = false ∧ u.s2s = false)
        ∧ ((s.shore 1).clocked = true → Effect .clockReturn s s)
        ∧ (d = 1 → h.clocked = false → h.powered = true → wakes8 .clockReturn)
        ∧ (d = 1 → h.clocked = false → h.powered = false → Does .clockReturn s fun u => (u.shore d).clocked = true ∧ (u.shore d).seen = h.seen)
        ∧ (∀ lane, Does (.s2sDown lane) s fun u => u.s2s = false ∧ (u.shore d).relay.crossing = []
          ∧ u.reg (srlWin d) SRL_S2S_DROP = satAdd 32 (s.reg (srlWin d) SRL_S2S_DROP) h.relay.crossing.length)
        ∧ (s.s2s = true ∨ shoreRuns s 0 = false ∨ shoreRuns s 1 = false → Effect .s2sLinkUp s s)
        ∧ (s.s2s = false → shoreRuns s 0 = true → shoreRuns s 1 = true → Does .s2sLinkUp s fun u => u.s2s = true
          ∧ (u.shore 1).mate = (s.shore 0).mate))
    ∧ (∀ (s : State), mainRuns s = true →
      let w := shbWin d
      let b := s.bridge d
      let plus := fun (u : State) (r : Nat) => u.reg w r = satAdd 32 (s.reg w r) 1
      let message := fun (c : Instr) (P : State → Prop) => (b.up = false → Effect c s s) ∧ (b.up = true → Does c s P)
      (∀ k, (8 ≤ k ∨ bit b.lanes k = false → Effect (.laneFail d k) s s)
        ∧ (k < 8 → bit b.lanes k = true → Does (.laneFail d k) s fun u => (u.bridge d).lanes = putBit b.lanes k false
          ∧ (u.bridge d).up = (b.up && lanesCarry (putBit b.lanes k false))
          ∧ (b.up = true → (u.bridge d).up = false → plus u SHB_LINKDOWNS ∧ (u.shore d).aligned = false)
          ∧ ((s.win w).resetting = false → ⟨w, 3, .event, locLane d k, false⟩ ∈ u.posts)))
        ∧ (∀ lanes, (s.enabled w = false ∨ b.up = true ∨ shoreRuns s d = false → Effect (.shoreLinkRetrain d lanes) s s)
          ∧ (s.enabled w = true → b.up = false → shoreRuns s d = true → Does (.shoreLinkRetrain d lanes) s fun u =>
            (u.bridge d).up = lanesCarry lanes ∧ (u.bridge d).lanes = lanes % 256
              ∧ (lanesCarry lanes = true → (u.shore d).fresh = false ∧ (u.bridge d).noticeOwed = false)))
        ∧ message (.flitRetry d) (fun u => plus u SHB_RETRY ∧ u.bridges = s.bridges)
        ∧ (s.enabled w = false ∨ b.up = false → Effect (.shoreHeartbeat d) s s)
        ∧ (s.enabled w = true → b.up = true → Does (.shoreHeartbeat d) s fun u => (u.shore d).beat = s.shoreNow d)
        ∧ message (.pinAssert d) (fun u => (if d = 0 then u.errPin.shoreA else u.errPin.shoreB) = true)
        ∧ message (.pinRelease d) (fun u => (if d = 0 then u.errPin.shoreA else u.errPin.shoreB) = false)
        ∧ (∀ win src loc x,
          message (.brstReport d win src loc) (fun u => u.reg W.SYS SYS_FLT_BRST = (2 ^ 31 + (srcBase win + src)) % 2 ^ 32
              ∧ u.reg W.SYS SYS_FLT_BRST_LOC = loc % 2 ^ 32)
            ∧ (b.up = false → Effect (.crstRequest d win src loc x) s s)
            ∧ (b.up = true → Effect (.crstRequest d win src loc x) s
              (doReset .warm 7 x ((s.setReg W.SYS SYS_RST_FLT (2 ^ 31 + (srcBase win + src))).setReg W.SYS SYS_RST_FLT_LOC loc))))
        ∧ (s.enabled W.TMS = false ∨ b.up = false → Effect (.timeAlignment d) s s)
        ∧ (s.enabled W.TMS = true → b.up = true → Does (.timeAlignment d) s fun u => (u.shore d).time = s.tms.acc
          ∧ (u.shore d).addend = s.tms.addend ∧ (u.shore d).aligned = true)
        ∧ (s.enabled w = false ∨ b.up = false → Effect (.interruptPoll d) s s)
        ∧ (s.enabled w = true → b.up = true → Does (.interruptPoll d) s fun u => (u.bridge d).nmis = []
          ∧ ∀ v ∈ shoreWindows d, ∀ k, k < nsrc v → kvGet false (u.bridge d).mirror (srcBase v + k) = sourceInt s v k)
        ∧ (∀ i late, (b.reqs.find? (reqOf i late) = none ∨ b.up = false → Effect (.shoreResponse d i late) s s)
          ∧ ∀ r, b.reqs.find? (reqOf i late) = some r → b.up = true →
            let rest := s.modBridge d fun b => { b with reqs := delFirst (reqOf i late) b.reqs }
            (late = true → Does (.shoreResponse d i late) s fun u => plus u SHB_LATE ∧ u.bridges = rest.bridges)
              ∧ (late = false → Effect (.shoreResponse d i late) s (reach r.acc Aux.plain true rest)))
        ∧ (∀ i, (b.reqs.find? (reqOf i false) = none → Effect (.shbTimeout d i) s s)
          ∧ ((b.reqs.find? (reqOf i false)).isSome → Does (.shbTimeout d i) s fun u => plus u SHB_TIMEOUTS ∧ u.bus = ⟨0, 4⟩
            ∧ (u.bridge d).reqs = updFirst (reqOf i false) (fun r => { r with ended := true }) b.reqs))
        ∧ ∀ acc : Access,
          let c := Instr.registerRequest acc.init acc.addr acc.size acc.write acc.spec acc.data
          let burst := acc.write = false ∧ acc.size = 32 ∧ (burstHit s d acc.init acc.addr).isSome
          (shoreTarget acc = none → Effect c s (access acc Aux.plain s))
            ∧ ∀ v, shoreTarget acc = some (d, v) →
              (requestWaits s d acc = true → Effect c s (s.defer acc Aux.plain false))
                ∧ (holdsWrite s acc.init = false → requestWaits s d acc = false)
                ∧ (requestWaits s d acc = false →
                  (b.up = false → Does c s fun u => u.bus = ⟨0, 4⟩ ∧ u.bridges = s.bridges)
                  ∧ (b.up = true → burst → Effect c s (reach acc Aux.plain false s))
                  ∧ (b.up = true → ¬burst → acc.write = true ∨ readsOut s d acc.init < 8 → Does c s fun u =>
                    (u.bridge d).reqs = b.reqs ++ [⟨acc, false⟩]
                      ∧ u.reg w (if acc.write then SHB_WR else SHB_RD) = (s.reg w (if acc.write then SHB_WR else SHB_RD)
                        + if acc.write then 1 else acc.size / 32) % 2 ^ 32)
                  ∧ (b.up = true → ¬burst → acc.write = false → 8 ≤ readsOut s d acc.init → Effect c s s)))
    ∧ (∀ (s : State), shoreRuns s d = true →
      let w := srlWin d
      let r := (s.shore d).relay
      let limps := fun (c : Instr) => (r.state ≠ .run → Does c s fun u => (u.shore d).relay = r)
        ∧ (r.state = .run → Does c s fun u => (u.shore d).relay.state = (if s.flag w SRL_CFG 30 then .limp else .off)
          ∧ (s.flag w SRL_CFG 30 = true → (u.shore d).relay.limpAt = s.shoreNow d))
      ((s.bridge d).up = false → Effect (.resetNotice d false) s s
          ∧ Does (.resetNotice d true) s fun u => (u.bridge d).noticeOwed = true ∧ u.shores = s.shores)
        ∧ ((s.bridge d).up = true → limps (.resetNotice d false) ∧ limps (.resetNotice d true)
          ∧ Does (.resetNotice d true) s fun u => ∀ v ∈ shoreWindows d, u.reg v WIN_ACCESS = 1)
        ∧ (s.fld w SRL_CFG 23 16 = 0 ∨ s.shoreNow d < (s.shore d).beat + s.fld w SRL_CFG 23 16 * 1000000 → Effect (.heartbeatLoss d) s s)
        ∧ (s.fld w SRL_CFG 23 16 ≠ 0 → (s.shore d).beat + s.fld w SRL_CFG 23 16 * 1000000 ≤ s.shoreNow d → limps (.heartbeatLoss d))
        ∧ (r.takeover = none → Effect (.takeoverInstant d) s s)
        ∧ (∀ t, r.takeover = some t → s.shoreNow d < t → Effect (.takeoverInstant d) s s)
        ∧ (∀ t, r.takeover = some t → t ≤ s.shoreNow d → Does (.takeoverInstant d) s fun u => (u.shore d).relay.takeover = none ∧ (u.shore d).relay.state = .run
          ∧ (r.state ≠ .run → (u.shore d).relay.prev = r.state ∧ (u.shore d).relay.runAt = t))
        ∧ ((s.shore (1 - d)).relay.crossing = [] → Effect (.relayS2sRx d) s s)
        ∧ (∀ dest f sof rest, (s.shore (1 - d)).relay.crossing = (dest, f, sof) :: rest → Does (.relayS2sRx d) s fun u =>
          (u.shore (1 - d)).relay.crossing = rest ∧ u.reg w SRL_S2S_RX = satAdd 32 (s.reg w SRL_S2S_RX) 1 ∧ (r.state = .off → u.cx = s.cx)
            ∧ (r.state ≠ .off → ∀ n, n < 24 → shoreOf n = d → bit dest n = true → relayPart s n = true → (s.cxs n).relayQ.length < 16 →
              (u.cxs n).relayQ = (s.cxs n).relayQ ++ [(⟨rxTag 0xFF 0 sof f, f.data⟩, sof)])))
    ∧ ∀ (i : Initiator) (s : State),
      let w := srlWin d
      let r := (s.shore d).relay
      (takes s i w SRL_CMD = true →
        (Does (.handover i d) s fun u => (u.shore d).relay.takeover = some (max (s.reg64 w SRL_HANDOVER_LO) (s.shoreNow d)))
          ∧ (Does (.off i d) s fun u => (u.shore d).relay.state = if r.state = .run then .off else r.state)
          ∧ Does (.limp i d) s fun u => (u.shore d).relay.state = if r.state = .run then (if s.flag w SRL_CFG 30 then .limp else .off) else r.state)
        ∧ (takes s i w SRL_ECMD = true → ∀ (data : Word) (bad : List BadEntry),
          let e := bits data.toNat 7 0
          let x := relayEntry s d e
          let dw := fun k => s.reg w (SRL_EDATA + 4 * k)
          let wrong := bit (dw 0) 29 = true ∨ bit (dw 1) 29 = true ∨ bits (dw 2) 31 29 ≠ 0 ∨ bits (dw 3) 31 16 ≠ 0 ∨ 23 < bits (dw 2) 28 24
            ∨ shoreOf (bits (dw 2) 28 24) ≠ d
          (wrong → Does (.srlWrite i d data bad) s fun u => u.reg w SRL_ESTAT = 2 ∧ u.shores = s.shores)
            ∧ (¬wrong → Does (.srlWrite i d data bad) s fun u => u.reg w SRL_ESTAT = 0 ∧ relayEntry u d e = { x with
                e0 := BitVec.ofNat 32 (dw 0), e1 := BitVec.ofNat 32 (dw 1), e2 := BitVec.ofNat 32 (dw 2), e3 := BitVec.ofNat 32 (dw 3), last := none }
              ∧ ∀ m, m ≠ e → relayEntry u d m = relayEntry s d m)
            ∧ (bad.contains (.relay e) = true → Does (.srlRead i d data bad) s fun u => u.reg w SRL_ESTAT = 5 ∧ u.shores = s.shores)
            ∧ (bad.contains (.relay e) = false → Does (.srlRead i d data bad) s fun u => u.reg w SRL_ESTAT = 0 ∧ u.shores = s.shores
              ∧ u.reg w SRL_EDATA = x.e0.toNat ∧ u.reg w (SRL_EDATA + 8) = x.e2.toNat ∧ u.reg w (SRL_EDATA + 16) = x.fwd % 2 ^ 32)
            ∧ Does (.srlClear i d data bad) s fun u => u.reg w SRL_ESTAT = 0 ∧ relayEntry u d e = { x with fwd := 0, gap := 0 })

/-- Transceivers, wake detection, springs, INH outputs, battery monitor, shore controller and T1S lines (R314, R315, R316, R317, R319, R320, R321, R322, R324, R325, R327, R329). -/
def Obligations.TransceiversSpringsAndShoreServicesFollowTheirEvents : Prop :=
  (∀ (n : Nat) (s : State), n < 24 → shoreRuns s (shoreOf n) = true →
    let w := trxWin n
    let x := s.tr n
    let c := trxChosen s n
    let d := shoreOf n
    let sprung := fun (u : State) (k : Nat) => bit (u.shore d).seen k = true ∧ n ∈ u.nmReports
    (Does (.txdDom n) s fun u => (u.tr n).txdDom = true ∧ u.regs = s.regs) ∧ (Does (.txdRecessive n) s fun u => (u.tr n).txdDom = false ∧ u.regs = s.regs)
      ∧ (c = x.state → Does (.trxStateChange n) s fun u => u.tr n = { x with resume := none })
      ∧ (c = 1 ∨ c = 2 → x.state = 3 ∨ x.state = 4 → Does (.trxStateChange n) s fun u => u.tr n = { x with resume := some c })
      ∧ (c = 3 ∨ c = 4 → x.state = 1 ∨ x.state = 2 → Does (.trxStateChange n) s fun u => (u.tr n).state = c ∧ (u.tr n).armed = true)
      ∧ (c ≠ x.state → (c = 1 ∨ c = 2) ∧ x.state ≠ 3 ∧ x.state ≠ 4 ∨ c = 0 → Does (.trxStateChange n) s fun u => (u.tr n).state = c
        ∧ (u.tr n).armed = false ∧ (u.tr n).resume = none)
      ∧ (c ≠ x.state → (c = 3 ∨ c = 4) → x.state ≠ 1 → x.state ≠ 2 → Does (.trxStateChange n) s fun u => (u.tr n).state = c
        ∧ (u.tr n).armed = x.armed ∧ (u.tr n).resume = none)
      ∧ (x.resume = none → Effect (.trxResumeDone n) s s)
      ∧ (∀ k, x.resume = some k → Does (.trxResumeDone n) s fun u => (u.tr n).state = k ∧ (u.tr n).armed = false ∧ (u.tr n).resume = none)
      ∧ (s.flag w TRX_CFG 8 = false ∨ wakeArmed x = false → Effect (.wakeUpPattern n) s s)
      ∧ (s.flag w TRX_CFG 8 = true → wakeArmed x = true → Does (.wakeUpPattern n) s fun u => u.flag w TRX_WAKE 0 = true ∧ sprung u 1
        ∧ u.fld w TRX_WAKECNT 15 0 = satAdd 16 (s.fld w TRX_WAKECNT 15 0) 1)
      ∧ (decodes s n = false → Effect (.decodeError n) s s ∧ Effect (.frameDecoded n) s s ∧ ∀ f, Effect (.wakeUpFrame n f) s s)
      ∧ (decodes s n = true →
        let fails := fun (e : Instr) => (32 ≤ x.decErr → Effect e s s) ∧ (x.decErr < 31 → Does e s fun u => (u.tr n).decErr = x.decErr + 1 ∧ u.regs = s.regs)
          ∧ (x.decErr = 31 → Does e s fun u => (u.tr n).decErr = 32 ∧ u.flag w TRX_WAKE 2 = true ∧ (s.flag w TRX_CFG 10 = true → sprung u 3))
        fails (.decodeError n) ∧ (Does (.frameDecoded n) s fun u => (u.tr n).decErr = if x.decErr < 32 then x.decErr - 1 else x.decErr)
          ∧ ∀ f : CanFrame, (f.fmt = 1 → s.flag w TRX_CFG 11 = true → Effect (.wakeUpFrame n f) s s)
            ∧ (f.fmt = 1 ∧ s.flag w TRX_CFG 11 = false ∨ 2 ≤ f.fmt → fails (.wakeUpFrame n f))
            ∧ (f.fmt = 0 → (∀ k, k < 4 → wufMatches s n k f = false) → Does (.wakeUpFrame n f) s fun u =>
              (u.tr n).decErr = (if x.decErr < 32 then x.decErr - 1 else x.decErr) ∧ u.regs = s.regs)
            ∧ (f.fmt = 0 → ∀ k, k < 4 → wufMatches s n k f = true → (∀ j, j < k → wufMatches s n j f = false) → Does (.wakeUpFrame n f) s fun u =>
              u.flag w TRX_WAKE 1 = true ∧ u.fld w TRX_WAKE 5 4 = k ∧ sprung u 2)))
    ∧ (∀ (k : Nat) (s : State), k < 8 → shoreRuns s (shoreOfSeg k) = true →
      (plcaOn s k = false → Effect (.plcaLost k) s s) ∧ (plcaOn s k = false ∨ t1lState s k ≠ 1 → Effect (.beaconSeen k) s s)
        ∧ (plcaOn s k = true → (Does (.plcaLost k) s fun u => u.line k = { s.line k with status := false, lost := true })
          ∧ (t1lState s k = 1 → Does (.beaconSeen k) s fun u => u.line k = { s.line k with status := true, lost := false }))
        ∧ (∀ on, Does (.jabber k on) s fun u => u.line k = { s.line k with jabber := on })
        ∧ ∀ us, let m := s.fld (t1lWin k) T1L_CTRL 15 8
          (t1lState s k = 2 → m ≠ 0 → m ≤ us → Does (.t1sBusActivity k us) s fun u => bit (u.shore (shoreOfSeg k)).seen 5 = true ∧ 32 + k ∈ u.nmReports)
            ∧ (t1lState s k ≠ 2 ∨ m = 0 ∨ us < m → Effect (.t1sBusActivity k us) s s))
    ∧ ∀ (d : Nat), d < 2 →
      (∀ (s : State),
        let h := s.shore d
        let springs := fun (c : Instr) (code idx : Nat) => Does c s fun u => bit (u.shore d).seen code = true ∧ (u.shore d).sprung = true
          ∧ (springWakes s d code = true → u.spsEn d = true ∧ (h.reason = none → (u.shore d).reason = some (code, idx, s.shoreNow d))
            ∧ (h.reason.isSome → (u.shore d).reason = h.reason) ∧ (code ≠ 10 → (u.shore (1 - d)).partner = true))
          ∧ (springWakes s d code = false → u.spsEn d = s.spsEn d ∧ (u.shore d).reason = h.reason)
        (shoreRuns s d = true →
          (Does (.overtemp d) s fun u => (u.shore d).hot = true) ∧ (Does (.overtempEnd d) s fun u => (u.shore d).hot = false)
            ∧ (Does (.vcc5Uv d) s fun u => (u.shore d).vcc5Low = true) ∧ (Does (.vcc5UvEnd d) s fun u => (u.shore d).vcc5Low = false)
            ∧ (∀ k, k < 2 → (Does (.inhOc d k) s fun u => bit (u.shore d).inhOc k = true) ∧ (Does (.inhOcEnd d k) s fun u => bit (u.shore d).inhOc k = false)
              ∧ Does (.inhMinOffEnd d k) s fun u => bit (u.shore d).inhOn k = inhWanted s d k)
            ∧ (∀ mainOff, Does (.inhRelease d mainOff) s fun u => (u.shore d).releasing = false
              ∧ (h.releasing = true → mainOff = true → s.spsEn d = false → s.pwr.state = .run ∨ s.pwr.state = .doze ∨ s.pwr.state = .standby → u.pwr.state = .sleep)
              ∧ (h.releasing = false ∨ mainOff = false ∨ s.spsEn d = true → u.pwr = s.pwr))
            ∧ (∀ mv, let lo := s.fld (spsWin d) SPS_VBAT_CFG 15 0
              let hi := s.fld (spsWin d) SPS_VBAT_CFG 31 16
              let hy := s.fld (spsWin d) SPS_VBAT_CFG2 15 0
              Does (.vbatSample d mv) s fun u => (u.shore d).vbat = mv % 65536 ∧ (u.shore d).vmin = some (min (h.vmin.getD (mv % 65536)) (mv % 65536))
                ∧ ((u.shore d).uv = true ↔ mv < lo ∨ h.uv = true ∧ mv ≤ lo + hy) ∧ ((u.shore d).ov = true ↔ hi < mv ∨ h.ov = true ∧ hi ≤ mv + hy))
            ∧ (∀ k lvl, (4 ≤ k → Effect (.wakePin d k lvl) s s)
              ∧ (k < 4 → let cfg := s.reg (swkWin d) (SWK_PIN + 4 * k)
                let hit := bit cfg 31 = true ∧ bit h.pins k ≠ lvl ∧ (if lvl then bits cfg 29 28 = 1 ∨ bits cfg 29 28 = 3 else bits cfg 29 28 = 2 ∨ bits cfg 29 28 = 3)
                (hit → springs (.wakePin d k lvl) (if bit cfg 30 then 6 else 4) k)
                  ∧ (¬hit → Does (.wakePin d k lvl) s fun u => u.shore d = { h with pins := putBit h.pins k lvl })))
            ∧ (s.fld (swkWin d) SWK_TIMER 23 0 ≠ 0 → s.spsEn d = false → springs (.shoreTimer d) 7 0)
            ∧ (s.fld (swkWin d) SWK_TIMER 23 0 = 0 ∨ s.spsEn d = true → Effect (.shoreTimer d) s s)
            ∧ (h.partner = true → s.s2s = true → springs (.partnerWake d) 10 0) ∧ (h.partner = false ∨ s.s2s = false → Effect (.partnerWake d) s s)
            ∧ (s.fld (shcWin d) SHC_WDT 15 0 = 0 ∨ h.ctl.running = false → Effect (.wdtExpired d) s s)
            ∧ (s.fld (shcWin d) SHC_WDT 15 0 ≠ 0 → h.ctl.running = true → Does (.wdtExpired d) s fun u =>
              u.ctl d = { h.ctl with wdtResets := (h.ctl.wdtResets + 1) % 256 })
            ∧ Does (.shcEccUncorr d) s fun u => u.ctl d = { h.ctl with running := false, eccHold := true })
          ∧ (∀ i, takes s i (swkWin d) SWK_CMD = true → springs (.softWake i d) 9 0
            ∧ Does (.swkClr i d) s fun u => (u.shore d).seen = 0 ∧ (u.shore d).reason = none)
          ∧ ∀ i, takesGuarded s i (spsWin d) BLK_CTRL (clearMask (ctrlNow s (spsWin d)) 1) = true → s.spsEn d = true →
            (pendingWake s d = none → Does (.inhReleaseCommand i d) s fun u => u.spsEn d = false ∧ (u.shore d).releasing = true
                ∧ (u.shore d).sprung = false ∧ (u.shore d).relay.state = .off)
              ∧ (pendingWake s d ≠ none → Does (.inhReleaseCommand i d) s fun u => u.spsEn d = true ∧ (u.shore d).releasing = false))
        ∧ ∀ (i : Initiator) (data : Word) (s : State),
          let w := shcWin d
          let c := s.ctl d
          let a := s.reg w SHC_MEM_ADDR
          (takes s i (spsWin d) SPS_VBAT_CLR = true → Does (.vbatClr i d) s fun u => (u.shore d).vmin = some (s.shore d).vbat)
            ∧ (takes s i w SHC_CTRL = true →
              (Does (.shcLoad i d data) s fun u => u.reg w SHC_MEM_ADDR = 0 ∧ (u.ctl d).words = 0 ∧ (bit data.toNat 0 = false → (u.ctl d).running = false))
                ∧ (bit data.toNat 1 = false → (s.flag w SHC_CTRL 0 = true ∨ c.eccHold = true → Does (.shcRun i d data) s fun u => u.ctl d = c)
                  ∧ (s.flag w SHC_CTRL 0 = false → c.eccHold = false →
                    (crc32c (imageBytes s d) = s.reg w SHC_IMG_CRC → Does (.shcRun i d data) s fun u => (u.ctl d).running = true ∧ (u.ctl d).crcFail = false)
                      ∧ (crc32c (imageBytes s d) ≠ s.reg w SHC_IMG_CRC → Does (.shcRun i d data) s fun u => (u.ctl d).running = c.running ∧ (u.ctl d).crcFail = true))))
            ∧ (takes s i w SHC_MEM_DATA = true →
              (c.running = true → Does (.shcMemData i d true data) s fun u => u.shores = s.shores ∧ u.reg w SHC_MEM_ADDR = a)
                ∧ (c.running = false → Does (.shcMemData i d true data) s fun u => sramWord u d (a / 4) = data.toNat
                  ∧ u.reg w SHC_MEM_ADDR = (a + 4) % 0x20000 ∧ ∀ m, m ≠ a / 4 → sramWord u d m = sramWord s d m))
            ∧ (readsPlain s i w SHC_MEM_DATA = true → Does (.shcMemData i d false data) s fun u => u.bus = ⟨BitVec.ofNat 64 (sramWord s d (a / 4)), 0⟩
              ∧ u.reg w SHC_MEM_ADDR = (a + 4) % 0x20000 ∧ u.shores = s.shores)
            ∧ (takes s i w SHC_WDT_KICK = true → Effect (.shcWdtKick i d) s (arrived i w s))
            ∧ (takes s i w SHC_MBOX_IN_DB = true → Does (.mboxInDoorbell i d data) s fun u => u.reg w SHC_MBOX_IN_DB = data.toNat % 2
              ∧ bit (shcPend u d) 29 = bit data.toNat 0 ∧ shcIrq u d = ((shcPend u d &&& u.reg w SHC_IRQ_EN) != 0))
            ∧ (takes s (if d = 0 then .shcA else .shcB) w SHC_MBOX_OUT_DB = true → Does (.mboxOutDoorbell d) s fun u => u.flag w SHC_MBOX_OUT_DB 0 = true)
            ∧ (takes s i w SHC_MBOX_OUT_DB = true → shcOf i = none → Does (.mboxOutClear i d) s fun u => u.flag w SHC_MBOX_OUT_DB 0 = false)

/-- Ethernet ports: links, reception, selection, gates, verification, timestamps, FRER, table commands and the service port (R343, R344, R346, R348, R349, R353, R355, R356, R358, R361, R363, R364). -/
def Obligations.EthernetPortsReceiveSelectAndRecover : Prop :=
  (∀ (k : Nat) (s : State), k < 20 → mainRuns s = true →
    let w := emcWin k
    let m := s.mac k
    let auto := s.flag w EMC_CFG 26
    let plus := fun (u : State) (r : Nat) => u.reg w r = satAdd 32 (s.reg w r) 1
    let plus64 := fun (u : State) (r : Nat) => u.reg64 w r = (s.reg64 w r + 1) % 2 ^ 64
    let loses := fun (c : Instr) => (m.up = false → Effect c s s) ∧ (m.up = true → Does c s fun u => (u.mac k).up = false ∧ (u.mac k).rx = []
      ∧ (s.enabled w = true → s.flag w EMC_CFG 31 = true → plus u EMC_LINKDOWNS))
    (∀ sp full an, (k < 8 → Effect (.linkUp k sp full an) s s)
      ∧ (8 ≤ k → auto = true → full = false ∨ speedOk k sp = false → loses (.linkUp k sp full an))
      ∧ (8 ≤ k → auto = true → full = true → speedOk k sp = true → Does (.linkUp k sp full an) s fun u =>
        (u.mac k).up = true ∧ (u.mac k).speed = sp ∧ (u.mac k).anDone = an)
      ∧ (8 ≤ k → auto = false → Does (.linkUp k sp full an) s fun u => (u.mac k).up = true ∧ (u.mac k).speed = s.fld w EMC_CFG 29 27
        ∧ (u.mac k).anDone = false))
      ∧ (k < 8 → Effect (.linkLoss k) s s) ∧ (8 ≤ k → loses (.linkLoss k))
      ∧ ((s.win w).resetting = false → Effect (.pcsError k) s { s with posts := s.posts ++ [⟨w, 6, .event, locSelf w, false⟩] })
      ∧ (∀ time pre p,
        let c := Instr.rxHead k time pre p
        let t := time - s.fld w EMC_DLY 15 0
        let free := emcReceives s k = true ∧ m.rx.any (·.pre == pre) = false
        (emcReceives s k = false ∨ m.rx.any (·.pre == pre) = true → Effect c s s)
          ∧ (free → emcBuffer k < emcHeld s k + p.length → Does c s fun u => plus u EMC_RX_OVF ∧ u.pond = s.pond
            ∧ ⟨pre, none, [], t, true⟩ ∈ (u.mac k).rx)
          ∧ (free → emcHeld s k + p.length ≤ emcBuffer k → holdsFrame s k p = true → Does c s fun u => u.pond = s.pond ∧ u.regs = s.regs
            ∧ ⟨pre, none, p, t, false⟩ ∈ (u.mac k).rx)
          ∧ (free → emcHeld s k + p.length ≤ emcBuffer k → holdsFrame s k p = false → Does c s fun u => u.regs = s.regs
            ∧ u.pond.arrivals = s.pond.arrivals ++ [⟨s.pond.nextFid, fpOf (32 + k), emcTag s k t pre p, p, false, none, .port (32 + k)⟩]))
      ∧ (∀ pre rest len fcsOk assy bad,
        let c := Instr.rxEnd k pre rest len fcsOk assy bad
        let max := s.fld w EMC_CFG 13 0
        (m.rx.find? (·.pre == pre) = none → Effect c s s)
          ∧ (emcReceives s k = false → (m.rx.find? (·.pre == pre)).isSome → Does c s fun u => (u.mac k).rx = []
            ∧ ∀ f ∈ u.pond.frames, f.whole = true ∨ f.origin ≠ .port (32 + k))
          ∧ ∀ r, m.rx.find? (·.pre == pre) = some r → emcReceives s k = true →
            let held := (r.held ++ rest).take (max - 4)
            let ends := r.dead = false ∧ assy = false ∧ 64 ≤ len ∧ fcsOk = true
            let room := fun n => emcHeld (dropRx k pre s) k + n ≤ emcBuffer k
            (r.dead = true → Does c s fun u => u.pond = s.pond ∧ u.regs = s.regs)
              ∧ (r.dead = false → assy = true → Does c s fun u => plus u EMC_PRE_ASSY)
              ∧ (r.dead = false → assy = false → len < 64 → Does c s fun u => plus u EMC_RX_RUNT)
              ∧ (r.dead = false → assy = false → 64 ≤ len → fcsOk = false → Does c s fun u => plus u EMC_RX_FCS ∧ (max < len → plus u EMC_RX_TRUNC))
              ∧ (∀ fid, ends → r.fid = some fid → frameKnown s fid = false ∨ room rest.length → Does c s fun u => plus64 u EMC_RX_LO)
              ∧ (ends → max < len → Does c s fun u => plus u EMC_RX_TRUNC)
              ∧ (ends → r.fid = none → ¬room held.length → Does c s fun u => plus u EMC_RX_OVF ∧ (len ≤ max → u.pond = s.pond))
              ∧ (ends → r.fid = none → room held.length → etherType held = 0x8808 → Does c s fun u => plus u EMC_RX_PAUSE ∧ (len ≤ max → u.pond = s.pond))
              ∧ (ends → r.fid = none → room held.length → etherType held ≠ 0x8808 →
                (s.pwr.state = .doze → 8 ≤ k → wakePattern s k (r.held ++ rest) = none → Does c s fun u =>
                    plus64 u EMC_RX_LO ∧ plus u EMC_RX_DOZE_DROP ∧ (len ≤ max → u.pond = s.pond))
                  ∧ (∀ i, s.pwr.state = .doze → 8 ≤ k → wakePattern s k (r.held ++ rest) = some i → Does c s fun u => plus64 u EMC_RX_LO ∧ (u.mac k).wake = some i)
                  ∧ (s.pwr.state ≠ .doze ∨ k < 8 → s.enabled W.AUE = false → len ≤ max → Does c s fun u => plus64 u EMC_RX_LO
                    ∧ u.pond.arrivals.map (·.payload) = s.pond.arrivals.map (·.payload) ++ [held])))
      ∧ (∀ time frags under bad,
        let c := Instr.txSelect k time frags under bad
        let idle := s.enabled w = true ∧ emcDown s k = false ∧ m.sending = none
        let s' := creditsNow k s
        (¬idle → Effect c s s)
          ∧ (idle → selectClass s' k = none → Does c s fun u => u.pond = s.pond ∧ u.regs = s.regs)
          ∧ ∀ cl, idle → selectClass s' k = some cl →
            (∀ f cp, s'.headOf (8 * (32 + k) + cl) = some (f, cp) →
              let pl := egressPlan k (frameOf f cp) bad (dropCopy f.fid (32 + k) s')
              (f.tag.kind ≠ 3 → Does c s fun u => plus u EMC_TX_BADKIND ∧ u.reg64 w EMC_TX_LO = s.reg64 w EMC_TX_LO)
                ∧ (f.tag.kind = 3 → Does c s fun u =>
                  if (egressBytes k pl.1 pl.2.1 (frameOf f cp) pl.2.2).1.isSome && !under then plus64 u EMC_TX_LO
                  else u.reg64 w EMC_TX_LO = s.reg64 w EMC_TX_LO
                    ∧ ((egressBytes k pl.1 pl.2.1 (frameOf f cp) pl.2.2).1.isSome = true → plus u EMC_TX_UNDERRUN)))
              ∧ ∀ x, s'.headOf (8 * (32 + k) + cl) = none → ctHead s' (8 * (32 + k) + cl) = some x → Does c s fun u =>
                match (egressPlan k (frameOf x.1 x.2) bad s').2.1 with
                | .pass | .protect .. => (u.mac k).sending.map (·.fid) = some x.1.fid
                | _ => (u.mac k).sending = none ∧ ∀ g, u.frame? x.1.fid = some g → PFrameHas g (32 + k) = false)
      ∧ (governing s k = none → Effect (.gateIntervalEnd k) s s)
      ∧ (∀ sc, governing s k = some sc →
        let op := bits (gateWord sc s.now) 31 30
        let hold := if preemptActive s k ∧ op = 1 then true else if preemptActive s k ∧ op = 2 then false else m.hold
        Does (.gateIntervalEnd k) s fun u => u.mac k = { m with hold := hold })
      ∧ (m.pend = none ∨ s.now < m.pendAt → Effect (.scheduleOperational k) s s)
      ∧ (∀ sc, m.pend = some sc → m.pendAt ≤ s.now → Does (.scheduleOperational k) s fun u => (u.mac k).oper = some sc ∧ (u.mac k).pend = none)
      ∧ (m.verify ≠ 1 → Effect (.verifySend k) s s ∧ Effect (.verifyResponse k) s s)
      ∧ (m.verify = 1 → (Does (.verifyResponse k) s fun u => (u.mac k).verify = 2)
        ∧ Does (.verifySend k) s fun u => if 3 ≤ m.tries then (u.mac k).verify = 3 else (u.mac k).verify = 1 ∧ (u.mac k).tries = m.tries + 1))
    ∧ (∀ (i : Initiator) (k : Nat) (s : State), k < 20 →
      (readsPlain s i (emcWin k) EMC_TSQ_INFO = true → Does (.tsqPop i k) s fun u => (u.mac k).tsq = (s.mac k).tsq.drop 1
        ∧ u.bus = ⟨BitVec.ofNat 64 (tsqInfo s k), 0⟩ ∧ ∀ e ∈ (s.mac k).tsq.head?, u.reg64 (emcWin k) EMC_TSQ_TS_LO = e.time % 2 ^ 64)
        ∧ (takes s i (emcWin k) EMC_WAKE_CLR = true → Does (.wakeClr i k) s fun u => (u.mac k).wake = none))
    ∧ (∀ (i : Nat) (s : State), mainRuns s = true →
      let x := s.frerOf i
      let idle := 512 ≤ i ∨ s.enabled W.EMC = false ∨ wf x.d0 31 31 = 0 ∨ wf x.d0 29 29 = 0 ∨ wf x.d0 15 0 = 0
        ∨ ∀ l, x.timer = some l → s.now < l + wf x.d0 15 0 * 1000000
      (idle → Effect (.frerReset i) s s)
        ∧ (¬idle → Does (.frerReset i) s fun u => (u.frerOf i).takeAny = true ∧ (u.frerOf i).timer = none ∧ kvGet 0 (u.frerOf i).cnt 5 = satAdd 32 (kvGet 0 x.cnt 5) 1))
    ∧ (∀ (i : Initiator) (data : Word) (bad : List BadEntry) (s : State), takes s i W.EMC EMC_CMD = true →
      let n := bits data.toNat 8 0
      let sel := bits data.toNat 17 16
      let d := fun (u : State) (j : Nat) => u.reg W.EMC (EMC_DATA + 4 * j)
      let x := s.frerOf n
      let st := fun (c : Instr) (e : Nat) (P : State → Prop) => Does c s fun u => u.reg W.EMC EMC_CMD_STAT = e ∧ P u
      let same := fun (u : State) => u.flow = s.flow ∧ u.frer = s.frer
      let wrong := bits (d s 0) 21 16 ≠ 0 ∨ bit (d s 0) 31 = true ∧ bit (d s 0) 28 = false ∧ (bits (d s 0) 27 22 = 0 ∨ 32 < bits (d s 0) 27 22)
      (sel = 0 → st (.emcWrite i data bad) 0 fun u => u.frer = s.frer ∧ (∀ j, j < 8 → kvGet 0 u.flow (8 * n + j) = bits (d s 0) (4 * j + 3) (4 * j))
          ∧ ∀ j, j / 8 ≠ n → kvGet 0 u.flow j = kvGet 0 s.flow j)
        ∧ (sel = 1 → (wrong → st (.emcWrite i data bad) 2 same) ∧ (¬wrong → st (.emcWrite i data bad) 0 fun u =>
          u.frerOf n = { x with d0 := BitVec.ofNat 32 (d s 0), gen := bits (d s 1) 31 16, takeAny := true, timer := none } ∧ u.flow = s.flow))
        ∧ (2 ≤ sel → st (.emcWrite i data bad) 2 same)
        ∧ (sel = 0 → bad.contains (.flow n) = true → st (.emcRead i data bad) 5 same)
        ∧ (sel = 0 → bad.contains (.flow n) = false → st (.emcRead i data bad) 0 fun u => same u
          ∧ d u 0 = ((List.range 8).map fun j => kvGet 0 s.flow (8 * n + j) * 2 ^ (4 * j)).sum % 2 ^ 32)
        ∧ (sel = 1 ∨ sel = 2 → bad.contains (.frer n) = true → st (.emcRead i data bad) 5 same)
        ∧ (sel = 1 → bad.contains (.frer n) = false → st (.emcRead i data bad) 0 fun u => same u ∧ d u 0 = x.d0.toNat
          ∧ d u 1 = (x.gen * 65536 + x.recov) % 2 ^ 32 ∧ d u 2 = x.hist % 2 ^ 32)
        ∧ (sel = 2 → bad.contains (.frer n) = false → st (.emcRead i data bad) 0 fun u => same u ∧ ∀ c, c < 6 → d u c = kvGet 0 x.cnt c % 2 ^ 32)
        ∧ (sel = 3 → st (.emcRead i data bad) 2 same)
        ∧ (sel = 2 → st (.emcClear i data bad) 0 fun u => u.frerOf n = { x with cnt := [] } ∧ u.flow = s.flow)
        ∧ (sel ≠ 2 → st (.emcClear i data bad) 2 same))
    ∧ (∀ (l : List Byte) (ok : Bool) (s : State), mainRuns s = true →
      let n := s.fld W.SVP SVP_RINGLEN 7 0
      let head := s.fld W.SVP SVP_RXPTR 15 8
      let sound := 60 ≤ l.length ∧ l.length ≤ 1518 ∧ ok = true
      let full := n = 0 ∨ (head + 1) % n = s.fld W.SVP SVP_RXPTR 7 0 % n
      (s.enabled W.SVP = false → Effect (.svpRxFrame l ok) s s)
        ∧ (s.enabled W.SVP = true → ¬sound → Does (.svpRxFrame l ok) s fun u => u.reg W.SVP SVP_RX_ERR = satAdd 32 (s.reg W.SVP SVP_RX_ERR) 1 ∧ u.mem = s.mem)
        ∧ (s.enabled W.SVP = true → sound → svpAccepts s l = false → Effect (.svpRxFrame l ok) s s)
        ∧ (s.enabled W.SVP = true → sound → svpAccepts s l = true → full → Does (.svpRxFrame l ok) s fun u =>
          u.reg W.SVP SVP_RX_OVF = satAdd 32 (s.reg W.SVP SVP_RX_OVF) 1 ∧ u.mem = s.mem)
        ∧ (s.enabled W.SVP = true → sound → svpAccepts s l = true → ¬full → Does (.svpRxFrame l ok) s fun u =>
          u.fld W.SVP SVP_RXPTR 15 8 = (head + 1) % n ∧ u.fld W.SVP SVP_RXPTR 7 0 = s.fld W.SVP SVP_RXPTR 7 0
            ∧ u.fld W.SVP SVP_FRAMES 15 0 = (s.fld W.SVP SVP_FRAMES 15 0 + 1) % 65536
            ∧ u.mem = (s.memWrite (ringEntry (s.reg W.SVP SVP_RXRING) (head % n)) (beBytes 2 l.length ++ l)).mem))
    ∧ ∀ (i : Initiator) (data : Word) (s : State), takes s i W.SVP SVP_TXPTR = true →
      let n := s.fld W.SVP SVP_RINGLEN 23 16
      let head := bits data.toNat 15 8
      (s.enabled W.SVP = true → n ≠ 0 → Does (.svpTxPost i data) s fun u => u.fld W.SVP SVP_TXPTR 15 8 = head ∧ u.fld W.SVP SVP_TXPTR 7 0 = head % n
          ∧ u.fld W.SVP SVP_FRAMES 31 16
            = (s.fld W.SVP SVP_FRAMES 31 16 + (head % n + n - s.fld W.SVP SVP_TXPTR 7 0 % n) % n) % 65536)
        ∧ (s.enabled W.SVP = false ∨ n = 0 → Does (.svpTxPost i data) s fun u => u.fld W.SVP SVP_TXPTR 15 8 = head
          ∧ u.fld W.SVP SVP_TXPTR 7 0 = s.fld W.SVP SVP_TXPTR 7 0)

/-- NM units follow the state table; package power states; training, restore and self-refresh of the memory (R387, R388, R389, R391, R392, R393, R394, R395, R397, R398, R399, R409). -/
def Obligations.NetworkUnitsPowerStatesAndMemoryFollowTheirTables : Prop :=
  (∀ (u : Nat) (s : State), u < 40 →
    let x := s.unit u
    let act := nmActive s u = true
    let chg := fun (t : State) => (if u < 32 then t.flag W.NMU NMU_CHG_LO u else t.flag W.NMU NMU_CHG_HI (u - 32)) = true
    let enters := fun (c : Instr) (st : Nat) => Does c s fun t => (t.unit u).state = st ∧ chg t
    let sent := fun (t : State) => ∃ a ∈ t.pond.arrivals, a.fid = s.pond.nextFid ∧ a.dest = some (onePort u) ∧ a.origin = .nmPdu u
      ∧ a.tag.kind = if u < 32 then 5 else 3
    let repeats := fun (c : Instr) (cause : Nat) (rmr aw : Bool) => Does c s fun t => (t.unit u).state = 3 ∧ (t.unit u).cause = cause
      ∧ (t.unit u).rmr = rmr ∧ (t.unit u).aw = aw ∧ chg t ∧ sent t
    let aborts := fun (c : Instr) (cause : Nat) => repeats c cause false false ∧ Does c s fun t =>
      t.fld W.NMU (uoff NMU_UCNT2 u) 7 0 = satAdd 8 (s.fld W.NMU (uoff NMU_UCNT2 u) 7 0) 1
    let stays := fun (c : Instr) => Does c s fun t => t.unit u = x
    let wakes := fun (c : Instr) => (act → nmDescends x = true → aborts c 4)
      ∧ (act → nmDescends x = false → x.state = 1 → s.uflag NMU_UCFG u 30 = true → repeats c 4 false false)
      ∧ (act → nmDescends x = false → x.state = 1 → s.uflag NMU_UCFG u 30 = false → stays c)
      ∧ (¬act ∨ (nmDescends x = false ∧ x.state ≠ 1) → stays c)
    (mainRuns s = true →
      (¬act ∨ x.state ∉ [3, 4, 5] → Effect (.nmTimeout u) s s) ∧ (act → x.state = 5 → enters (.nmTimeout u) 2)
        ∧ (act → x.state = 3 ∨ x.state = 4 → Does (.nmTimeout u) s fun t => t.unit u = x
          ∧ t.fld W.NMU (uoff NMU_UCNT2 u) 31 24 = satAdd 8 (s.fld W.NMU (uoff NMU_UCNT2 u) 31 24) 1)
        ∧ (¬act ∨ x.state ≠ 3 → Effect (.repeatMsgExpiry u) s s)
        ∧ (act → x.state = 3 → enters (.repeatMsgExpiry u) (if nmRequest s u then 4 else 5))
        ∧ (¬act ∨ x.state ≠ 2 → Effect (.waitBusSleepExpiry u) s s) ∧ (act → x.state = 2 → enters (.waitBusSleepExpiry u) 1)
        ∧ (¬act ∨ (x.state ≠ 3 ∧ x.state ≠ 4) → Effect (.nmCycle u) s s)
        ∧ (act → x.state = 3 ∨ x.state = 4 → Does (.nmCycle u) s fun t => sent t ∧ t.nm = s.nm)
        ∧ (s.nmReports.contains u = false → Effect (.nmWakeEvent u) s s)
        ∧ (s.nmReports.contains u = true → wakes (.nmWakeEvent u) ∧ Does (.nmWakeEvent u) s fun t => t.nmReports = s.nmReports.erase u)
        ∧ (act → x.state = 1 → x.descent = true → busAsleep s u = true → Does (.descentEnd u) s fun t => t.unit u = { x with descent := false })
        ∧ (¬act ∨ x.state ≠ 1 ∨ x.descent = false ∨ busAsleep s u = false → Effect (.descentEnd u) s s)
        ∧ (∀ n, Does (.presenceTimeout u n) s fun t => kvGet false (t.unit u).pres n = false ∧ ∀ m, m ≠ n → kvGet false (t.unit u).pres m = kvGet false x.pres m)
        ∧ (∀ k, k < 48 → Does (.pnrxTimeout u k) s fun t => bit (t.unit u).pnrx k = false ∧ (¬act → (t.unit u).state = x.state)))
      ∧ ∀ i,
        (takes s i W.NMU NMU_CMD = true → wakes (.nmuWake i u)
          ∧ (act → nmDescends x = true → aborts (.nmuRmr i u) 5)
          ∧ (act → x.state = 4 ∨ x.state = 5 → repeats (.nmuRmr i u) 5 true false)
          ∧ (¬act ∨ (nmDescends x = false ∧ x.state ≠ 4 ∧ x.state ≠ 5) → stays (.nmuRmr i u))
          ∧ Does (.clrPres i u) s fun t => t.unit u = { x with pres := [] })
          ∧ ∀ (hi : Bool) (d : Word), takes s i W.NMU (if hi then NMU_NETREQ_HI else NMU_NETREQ_LO) = true →
            let r := nmRequest (s.setReg W.NMU (if hi then NMU_NETREQ_HI else NMU_NETREQ_LO) (if hi then d.toNat % 256 else d.toNat)) u
            let c := Instr.netreqWrite i hi d
            let enter := fun (st cause : Nat) (aw : Bool) => Does c s fun t => (t.unit u).state = st ∧ (t.unit u).cause = cause ∧ (t.unit u).aw = aw
            (act → nmDescends x = true → r = true → enter 3 1 false) ∧ (act → nmDescends x = false → x.state = 1 → r = true → enter 3 1 true)
              ∧ (act → x.state = 4 → r = false → enter 5 x.cause x.aw) ∧ (act → x.state = 5 → r = true → enter 4 x.cause x.aw)
              ∧ (¬act ∨ x.state = 3 ∨ (x.state = 4 ∧ r = true) ∨ (x.state ≠ 4 ∧ r = false) → stays c))
    ∧ (∀ (i : Initiator) (s : State),
      let p := s.pwr
      let who := b2n (pendingWake s 0).isSome + 2 * b2n (pendingWake s 1).isSome
      let cmd := fun (v : Nat) => takesGuarded s i W.SYS SYS_PWR_CMD v = true
      let keeps := fun (c : Instr) => Does c s fun t => t.pwr = { p with refused := false, refuser := 0 } ∧ t.dmc = s.dmc ∧ t.shores = s.shores
      (p.entering = none →
        (cmd 0 → p.state = .doze → Does (.pwrRun i) s fun t => t.pwr.state = .run ∧ dmcSr t = false ∧ t.dmc.entering = false)
          ∧ (cmd 0 → p.state ≠ .doze → keeps (.pwrRun i))
          ∧ (cmd 1 → p.state = .run → Does (.pwrDoze i) s fun t => t.pwr.state = .doze ∧ t.dmc.entering = true)
          ∧ (cmd 1 → p.state ≠ .run → keeps (.pwrDoze i))
          ∧ (cmd 2 → who ≠ 0 → Does (.pwrStandby i) s fun t => t.pwr = { p with refused := true, refuser := who } ∧ t.pond = s.pond)
          ∧ (cmd 2 → who = 0 → Does (.pwrStandby i) s fun t => t.pwr = { p with refused := false, refuser := 0, entering := some 2 }
            ∧ t.pond.frames = [] ∧ t.dmc.entering = true ∧ (t.shore 0).mark = true ∧ (t.shore 1).mark = true))
        ∧ (p.entering ≠ none → (cmd 0 → keeps (.pwrRun i)) ∧ (cmd 1 → keeps (.pwrDoze i)) ∧ (cmd 2 → keeps (.pwrStandby i)))
        ∧ (mainRuns s = true → (p.entering = none → Effect .standbyReady s s)
          ∧ (p.entering ≠ none → Does .standbyReady s fun t => t.pwr.state = .standby ∧ t.pwr.entering = none ∧ (t.bridge 0).up = false
            ∧ (t.bridge 1).up = false ∧ (t.bridge 0).noticeOwed = true ∧ t.dmc.entering = false)
          ∧ (s.dmc.entering = false → Effect .selfRefreshEntry s s)
          ∧ (s.dmc.entering = true → Does .selfRefreshEntry s fun t => t.dmc.entering = false ∧ dmcSr t = (dmcInit s || dmcSr s)))
        ∧ Does .powerOff s fun t => t.pwr.state = .off ∧ t.nor = s.nor ∧ t.fuses = s.fuses ∧ t.regs = State.reset.regs ∧ t.mem = State.reset.mem)
    ∧ (∀ (s : State), mainRuns s = true →
      (∀ ok chan lane, (s.flag W.DMC DMC_TRAIN_STAT 31 = false → Effect (.trainingComplete ok chan lane) s s)
        ∧ (s.flag W.DMC DMC_TRAIN_STAT 31 = true →
          (ok = true → Does (.trainingComplete ok chan lane) s fun t => t.reg W.DMC DMC_TRAIN_STAT = 2 ^ 30 ∧ dmcInit t = true ∧ t.flag W.DMC DMC_STAT 2 = true)
            ∧ (ok = false → Does (.trainingComplete ok chan lane) s fun t =>
              t.reg W.DMC DMC_TRAIN_STAT = 2 ^ 29 + (chan % 2) * 2 ^ 8 + lane % 2 ∧ dmcInit t = dmcInit s)))
        ∧ (s.dmc.restoring = false → Effect .dmcRestoreDone s s)
        ∧ (s.dmc.restoring = true → Does .dmcRestoreDone s fun t => dmcInit t = true ∧ t.dmc.restoring = false))
    ∧ ∀ (i : Initiator) (s : State),
      (takes s i W.DMC DMC_TRAIN = true →
        (Does (.dmcTrainStart i) s fun t => t.reg W.DMC DMC_TRAIN_STAT
            = if s.enabled W.DMC = true ∧ dmcInit s = false ∧ s.flag W.DMC DMC_TRAIN_STAT 31 = false then 2 ^ 31 else s.reg W.DMC DMC_TRAIN_STAT)
          ∧ (s.flag W.DMC DMC_STAT 2 = true → Does (.dmcRestore i) s fun t => dmcSr t = false ∧ t.dmc.restoring = true)
          ∧ (s.flag W.DMC DMC_STAT 2 = false → Does (.dmcRestore i) s fun t => t.flag W.DMC DMC_TRAIN_STAT 29 = true ∧ t.dmc = s.dmc))
        ∧ (takes s i W.DMC DMC_SR = true → (Does (.srEnter i) s fun t => dmcSr t = (dmcInit s || dmcSr s)) ∧ Does (.srExit i) s fun t => dmcSr t = false)
        ∧ (takes s i W.DMC DMC_MR = true → ∀ (d : Word) (e : Ecc),
          (bit d.toNat 31 = false ∨ dmcInit s = false → Effect (.mrAccess i d e) s (arrived i W.DMC s))
            ∧ (bit d.toNat 31 = true → dmcInit s = true → bit d.toNat 30 = false → Does (.mrAccess i d e) s fun t => t.reg W.DMC DMC_MR_DATA = s.reg W.DMC DMC_MR_DATA)
            ∧ (bit d.toNat 31 = true → dmcInit s = true → bit d.toNat 30 = true → Does (.mrAccess i d e) s fun t => t.reg W.DMC DMC_MR_DATA < 256))

/-- Outlets and Inlets, interrupt routers, and the xSPI controller follow their accesses and events (R413, R415, R416, R417, R419, R420, R421, R422, R423, R425, R426, R427). -/
def Obligations.CoreQueuesRoutersAndFlashFollowTheirAccesses : Prop :=
  (∀ (i : Initiator) (a size : Nat) (s : State), mainRuns s = true → shcOf i = none → holdsWrite s i = false → windowOf a = none →
    let o := a - xspiBase
    let acc : Access := ⟨i, a, size, false, false, 0⟩
    (Effect (.windowRead i a size) s (access acc Aux.plain s))
      ∧ (regionAt s a (size / 8) = some .flash → regionAdmits s .flash i false = true →
        (s.flag W.XSP XSP_STAT 29 && s.xsp.cs == xspCsOf s o) = false → Does (.windowRead i a size) s fun u =>
          u.bus = ⟨BitVec.ofNat 64 (leNat (s.norBytes o (size / 8))), 0⟩ ∧ u.nor = s.nor)
      ∧ (regionAt s a (size / 8) = some .flash → regionAdmits s .flash i false = true →
        (s.flag W.XSP XSP_STAT 29 && s.xsp.cs == xspCsOf s o) = true → Does (.windowRead i a size) s fun u =>
          u.xsp.waiting = s.xsp.waiting ++ [acc] ∧ u.bus = s.bus)
      ∧ (regionAt s a (size / 8) = some .flash → Does (.dsTimeout i a size) s fun u =>
          u.bus = ⟨0, errTimeout⟩ ∧ u.reg W.XSP XSP_RD_ERR = satAdd 32 (s.reg W.XSP XSP_RD_ERR) 1)
      ∧ (regionAt s a (size / 8) ≠ some .flash → Effect (.dsTimeout i a size) s s))
    ∧ (∀ (i : Initiator) (d : Word) (ans : List Byte) (ch : List (Nat × List Byte)) (s : State), takes s i W.XSP XSP_CMD = true →
      let n := bits d.toNat 8 0
      let cs := bits d.toNat 28 28
      let base := if cs = 0 then 0 else xspCs0 s
      let c := Instr.xspCommand i d ans ch
      let runs := bit d.toNat 31 = true ∧ xspBusy s = false ∧ bits d.toNat 26 25 ≤ 1 ∧ n ≤ 256
      let after := fun (u : State) => if bit d.toNat 27 then u.reg W.XSP XSP_STAT = 2 ^ 31 + 2 ^ 29 ∧ u.xsp.cs = cs
        else u.reg W.XSP XSP_STAT = 0
      (¬runs → Effect c s (arrived i W.XSP s))
        ∧ (runs → bit d.toNat 30 = false → Does c s fun u => u.nor = s.nor ∧ xspBuf u = splice (xspBuf s) 0 ((ans.take n).take 256) ∧ after u)
        ∧ (runs → bit d.toNat 30 = true → Does c s fun u =>
          u.nor = (ch.foldl (fun (x : State) e => x.norSet (base + e.1) e.2) s).nor ∧ xspBuf u = xspBuf s ∧ after u))
    ∧ (∀ (s : State), mainRuns s = true →
      (s.flag W.XSP XSP_STAT 29 = false → Effect .pollReady s s ∧ Effect .pollTimeout s s)
        ∧ (s.flag W.XSP XSP_STAT 29 = true →
          Effect .pollReady s (s.xsp.waiting.foldl (fun x acc => reach acc Aux.plain true x)
            { s.setReg W.XSP XSP_STAT (s.reg W.XSP XSP_STAT &&& 0x40000000) with xsp := { s.xsp with waiting := [] } })
            ∧ Does .pollTimeout s fun u => u.reg W.XSP XSP_STAT = 0x40000000 ∧ u.xsp.waiting = []
              ∧ u.reg W.XSP XSP_RD_ERR = satAdd 32 (s.reg W.XSP XSP_RD_ERR) s.xsp.waiting.length))
    ∧ (∀ (i : Initiator) (r t : Nat) (d : Word) (s : State), r < 2 → t < irtTargets r →
      (readsPlain s i (irtWin r) (Reg.IRT_CLAIM + 0x10 * t) = true → Does (.irtClaim i r t) s fun u =>
        u.bus = ⟨BitVec.ofNat 64 (irtClaimPeek s r t), 0⟩
          ∧ (∀ g, irtOffer s r t = some g → (u.irt r).claims = (s.irt r).claims ++ [(g, t)])
          ∧ (irtOffer s r t = none → u.irts = s.irts))
        ∧ (takes s i (irtWin r) (Reg.IRT_COMPLETE + 0x10 * t) = true → Does (.irtComplete i r t d) s fun u =>
          (u.irt r).claims = (s.irt r).claims.filter fun c => !(c.1 == bits d.toNat 10 0 && c.2 == t))
        ∧ (readsPlain s i (irtWin r) (IRT_NMI_POP + 0x10 * t) = true → Does (.nmiPop i r t) s fun u =>
          u.bus = ⟨BitVec.ofNat 64 (nmiPeek s r t), 0⟩ ∧ kvGet [] (u.irt r).nmi t = (kvGet [] (s.irt r).nmi t).drop 1
            ∧ kvGet 0 (u.irt r).lost t = 0)
        ∧ (takes s i W.IRTM IRT_SWI = true → Does (.irtSwiWrite i d) s fun u => u.fld W.IRTM IRT_SWI 15 0 = bits d.toNat 15 0)
        ∧ (mainRuns s = false → Effect .nmiIn s s)
        ∧ (mainRuns s = true → Does .nmiIn s fun u =>
          if s.enabled (irtWin r) = false then u.irt r = s.irt r
          else if (kvGet [] (s.irt r).nmi t).length < 8 then kvGet [] (u.irt r).nmi t = kvGet [] (s.irt r).nmi t ++ [1408]
          else kvGet [] (u.irt r).nmi t = kvGet [] (s.irt r).nmi t
            ∧ kvGet 0 (u.irt r).lost t = satAdd 8 (kvGet 0 (s.irt r).lost t) 1))
    ∧ (∀ (i : Initiator) (q : Nat) (s : State), q < 64 → mainRuns s = true →
      let x := s.outlet q
      (shcOf i = none → holdsWrite s i = false → (s.win W.CQ).resetting = false → admitted s i W.CQ (Reg.OUT_POP + 0x20 * q) false = true →
        (Does (.outPop i q) s fun u => u.bus = ⟨outPeek s q, 0⟩)
          ∧ (s.enabled W.CQ = false ∨ outLeft s q = [] → Effect (.outPop i q) s (busDone (outPeek s q).toNat s))
          ∧ (∀ w rest, s.enabled W.CQ = true → outLeft s q = w :: rest → Does (.outPop i q) s fun u => u.bus = ⟨w, 0⟩
            ∧ (rest ≠ [] → outLeft u q = rest ∧ (u.outlet q).frames = x.frames)
            ∧ (rest = [] → (u.outlet q).frames = x.frames.drop 1 ∧ (u.outlet q).popped = 0)))
        ∧ (takes s i W.CQ (Reg.OUT_POP + 0x10 + 0x20 * q) = true → Does (.outDrop i q) s fun u =>
          if s.enabled W.CQ = true ∧ x.frames ≠ [] then
            (u.outlet q).frames = x.frames.drop 1 ∧ u.reg W.CQ CQ_OUT_DROPPED = satAdd 32 (s.reg W.CQ CQ_OUT_DROPPED) 1
          else u.outlets = s.outlets)
        ∧ (let old := ∃ t, x.since.head? = some t ∧ t + bits (outNotice s q) 27 16 * 10000 < s.now
          (¬old → Effect (.outletAge q) s s) ∧ (old → Effect (.outletAge q) s (s.setOutlet q { x with aged := true }))))
    ∧ (∀ (s : State), mainRuns s = true →
      let front := (List.range 8).findSome? fun k => s.headOf (8 * 60 + (7 - k))
      (s.enabled W.CQ = false ∨ front = none → Effect .outletMove s s)
        ∧ (∀ e, s.enabled W.CQ = true → front = some e → Does .outletMove s fun u =>
          let q := e.1.tag.queue % 64
          if bits (outCfg s q) 12 0 ≤ (s.outlet q).frames.length then
            u.reg W.CQ CQ_OUT_OVF = satAdd 32 (s.reg W.CQ CQ_OUT_OVF) 1 ∧ u.outlets = s.outlets
          else (u.outlet q).frames = (s.outlet q).frames ++ [e.1.fid] ∧ (u.outlet q).since = (s.outlet q).since ++ [s.now]))
    ∧ (∀ (i : Initiator) (n : Nat) (w : DWord) (s : State), n < 64 → mainRuns s = true → shcOf i = none → holdsWrite s i = false →
      (s.win W.CQ).resetting = false → (s.win W.CQ).armed = none → admitted s i W.CQ (Reg.IN_PUSH + 0x20 * n) true = true →
      let x := s.inlet n
      let c := Instr.inPush i n w
      let raw := s.flag W.CQ (CQ_ICFG + 4 * n) 31 = false
      let more := fun (k : Nat) => Does c s fun u => u.reg W.CQ k = satAdd 32 (s.reg W.CQ k) 1 ∧ (u.inlet n).words = []
      let starts := Does c s fun u => (u.inlet n).words = [w] ∧ (u.inlet n).tagged = decide (¬raw) ∧ u.pond = s.pond
      let kind := bits w.toNat 63 60
      (s.enabled W.CQ = false → Effect c s (busDone 0 s))
        ∧ (s.enabled W.CQ = true → inSpace s n = 0 → x.fid = none → more CQ_IN_OVERRUN)
        ∧ (s.enabled W.CQ = true → inSpace s n ≠ 0 → x.dead = false →
          (x.words = [] → x.fid = none →
            (raw → tagValid (w.toNat / 2 ^ 32) = true → starts) ∧ (raw → tagValid (w.toNat / 2 ^ 32) = false → more CQ_IN_ORPHAN)
              ∧ (¬raw → kind = 2 ∨ kind = 3 → more CQ_IN_ORPHAN) ∧ (¬raw → kind ∉ [1, 2, 3] → more CQ_IN_BAD) ∧ (¬raw → kind = 1 → bits w.toNat 59 56 = 7 → starts)
              ∧ (¬raw → kind = 1 → bits w.toNat 59 56 ≠ 7 → more CQ_IN_BAD))
            ∧ (x.tagged = false → x.fid = none → x.words.length = 5 →
              let t := (inletTag (tagOfBytes ((x.words ++ [w]).flatMap fun v => beBytes 8 v.toNat))).setTimestamp s.now
              (t.length = 0 → Does c s fun u => (u.inlet n).fid = none
                ∧ u.reg W.CQ (IN_FRAMES + 0x20 * n) = (s.reg W.CQ (IN_FRAMES + 0x20 * n) + 1) % 2 ^ 32)
              ∧ (t.length ≠ 0 → Does c s fun u =>
                u.pond.arrivals = s.pond.arrivals ++ [⟨s.pond.nextFid, 12, t, [], false, none, .inlet n⟩]
                  ∧ (u.inlet n).fid = some s.pond.nextFid ∧ (u.inlet n).need = t.length ∧ (u.inlet n).data = []))
            ∧ (∀ f, x.tagged = false → x.fid = some f → undecided s f = true → s.frame? f = none →
              let data := x.data ++ (beBytes 8 w.toNat).take (x.need - x.data.length)
              (data.length < x.need → Does c s fun u => (u.inlet n).data = data ∧ (u.inlet n).fid = some f)
                ∧ (x.need ≤ data.length → Does c s fun u => (u.inlet n).fid = none
                  ∧ u.reg W.CQ (IN_FRAMES + 0x20 * n) = (s.reg W.CQ (IN_FRAMES + 0x20 * n) + 1) % 2 ^ 32
                  ∧ ∃ a ∈ u.pond.arrivals, a.fid = f ∧ a.payload = data ∧ a.whole = true))))

/-- Every reset source starts the main die with its kind and reason; PORST_N low holds it; the watchdog warns and resets; CRN_MOV_RUN starts cores (R432, R433, R434, R457, R524, R539). -/
def Obligations.ResetsStartTheMainDieAndTheWatchdogGuardsIt : Prop :=
  (∀ (x : StartInput) (s : State),
    let starts := fun (c : Instr) (k : StartKind) (reason : Nat) (o : State) => Effect c s (doReset k reason x o)
      ∧ Does c s fun t => t.reg W.SYS SYS_RST_REASON = k.code * 256 + reason ∧ t.pwr = State.reset.pwr ∧ t.pond.frames = []
        ∧ t.outlets = [] ∧ t.inlets = [] ∧ t.fuses.life = s.fuses.life
    let trains := fun (d m : Nat) => (s.shore d).powered && (s.shore d).clocked && lanesCarry m
    let cold := ((s.shore 0).fresh || (s.shore 1).fresh || !trains 0 x.linkA || !trains 1 x.linkB) = true
    let down := { s with bridges := s.bridges.map fun (b : Nat × Bridge) => (b.1, { b.2 with up := false }) }
    (s.pwr.state = .off → Effect (.porstNRelease x) s s)
      ∧ (s.pwr.state ≠ .off → cold → starts (.porstNRelease x) .cold 1 down)
      ∧ (¬cold → s.pwr.state = .standby → starts (.porstNRelease x) .standby 8 down)
      ∧ (¬cold → s.pwr.state ≠ .off → s.pwr.state ≠ .standby → starts (.porstNRelease x) .sleep 9 down)
      ∧ (s.pwr.state = .standby → starts (.undervoltageRelease x) .standby 8 s)
      ∧ (s.pwr.held = true → s.pwr.state = .run ∨ s.pwr.state = .doze → starts (.undervoltageRelease x) .warm 10 s)
      ∧ (s.pwr.state ≠ .standby → s.pwr.held = false ∨ (s.pwr.state ≠ .run ∧ s.pwr.state ≠ .doze) →
          Effect (.undervoltageRelease x) s s)
      ∧ (mainRuns s = true → starts (.wrstN x) .warm 2 s ∧ starts (.lockstepMismatch x) .warm 6 s
        ∧ (wdtOn s = true → wdtLimit s ≤ s.crn.wdtTicks → starts (.watchdogExpiry x) .warm 5 s)
        ∧ (wdtOn s = false ∨ s.crn.wdtTicks < wdtLimit s → Effect (.watchdogExpiry x) s s))
      ∧ (mainRuns s = false → Effect (.wrstN x) s s ∧ Effect (.lockstepMismatch x) s s ∧ Effect (.watchdogExpiry x) s s)
      ∧ ∀ i, (takesGuarded s i W.SYS SYS_RST_CMD 1 = true →
          starts (.resetWarm i x) .warm 3 ((unlocked i W.SYS s).setReg W.SYS SYS_RST_CMD 1))
        ∧ (takesGuarded s i W.SYS SYS_RST_CMD 2 = true →
          starts (.resetCold i x) .cold 4 ((unlocked i W.SYS s).setReg W.SYS SYS_RST_CMD 2)))
    ∧ (∀ (s : State), ∀ c ∈ [Instr.porstNAssert, .undervoltage],
      (s.pwr.held = true → Effect c s s)
        ∧ (s.pwr.held = false → Does c s fun t => t.pwr = { s.pwr with held := true } ∧ (t.bridge 0).up = false ∧ (t.bridge 1).up = false
          ∧ (s.pwr.state = .run ∨ s.pwr.state = .doze → (∀ n, ballLevel t (.ctxd n) = .high ∧ ballLevel t (.gpio n) = .floating)
            ∧ ballLevel t .fence = .low ∧ ballLevel t .svcOut = .low ∧ ballLevel t .xspiCs = .high ∧ ballLevel t .tdo = .floating)))
    ∧ (∀ (i : Initiator) (d : Word) (s : State),
      (mainRuns s = true → wdtOn s = true → wdtLimit s ≤ 2 * s.crn.wdtTicks → Does .wdtWarn s fun t => t.crn = { s.crn with warn := true })
        ∧ (mainRuns s = false ∨ wdtOn s = false ∨ 2 * s.crn.wdtTicks < wdtLimit s → Effect .wdtWarn s s)
        ∧ (takes s i W.CRN Reg.CRN_WDT_KICK = true → Does (.crnWdtKick i) s fun t => t.crn = { s.crn with wdtTicks := 0, warn := false })
        ∧ (takes s i W.CRN CRN_WDT = true → d.toNat % 65536 = 0 → Effect (.crnWdtEnable i d) s (arrived i W.CRN s))
        ∧ (takes s i W.CRN CRN_WDT = true → d.toNat % 65536 ≠ 0 → Does (.crnWdtEnable i d) s fun t => wdtOn t = true
          ∧ t.fld W.CRN CRN_WDT 15 0 = d.toNat % 65536
          ∧ t.crn = if wdtOn s then s.crn else { s.crn with wdtTicks := 0, warn := false })
        ∧ (takes s i W.CRN CRN_MOV_RUN = true → Does (.movRun i d) s fun t => t.reg W.CRN CRN_MOV_RUN = d.toNat % 16
          ∧ ∀ k, k < 4 → kvGet 0 t.crn.starts k =
            if bit d.toNat k = true ∧ bit (s.reg W.CRN CRN_MOV_RUN) k = false then
              s.reg W.CRN CRN_MOV_ENTRY_LO + 2 ^ 32 * s.reg W.CRN CRN_MOV_ENTRY_HI
            else kvGet 0 s.crn.starts k))

/-- Unnov: HELLO and PROVE open a session; a request is judged by session, TAG, SEQ and form, then does what its row says (R448, R449, R450, R451, R452, R453, R454, R455, R456, R470, R510). -/
def Obligations.UnnovJudgesEveryRequestAndFollowsIt : Prop :=
  ∀ (host : Nat) (m : List Byte) (s : State),
    let un := s.unnov
    let key := un.key
    let body := unBody m
    let on := mainRuns s = true ∧ s.crn.halted = false
    let requests : List (Nat × Bool × Instr) := [(0x10, true, .status host m), (0x11, true, .stageBegin host m), (0x12, true, .stageBlock host m),
      (0x13, true, .stageEnd host m), (0x14, false, .commit host m), (0x15, false, .rollback host m), (0x16, true, .restart host m),
      (0x20, false, .ledgerRead host m), (0x21, false, .vaultExport host m), (0x22, false, .unnovAttest host m), (0x7F, true, .bye host m)]
    let mine := un.host = some host ∧ unSession m = un.session ∧ 32 ≤ m.length
      ∧ m.drop (m.length - 16) = unTag key (m.take (m.length - 16))
    let fresh := fun (typ : Nat) (rec : Bool) => on ∧ un.opened = true ∧ mine ∧ unSeq m = un.seq + 1 ∧ unType m = typ
      ∧ unFormed m true = true ∧ (recovery s = false ∨ rec = true)
    let reply := fun (st : Nat) (b : List Byte) => unAnswer (unType m) (unSession m) (unSeq m) st b key
    let kept := fun (t : State) => t.unnov.seq = unSeq m ∧ t.unnov.last = t.unnov.sent
    let answers := fun (c : Instr) (st : Nat) (b : List Byte) => Does c s fun t => t.unnov.sent = reply st b ∧ kept t
    let turned := fun (c : Instr) (st : Nat) => Does c s fun t => t.unnov.sent = reply st [] ∧ kept t ∧ t.nor = s.nor ∧ t.fuses = s.fuses
      ∧ t.unnov.stage = un.stage ∧ t.unnov.restart = un.restart
    let ty := beNat body
    let dir := directory s
    ((¬on → (∀ e ∈ requests, Effect e.2.2 s s) ∧ Effect (.hello host m) s s ∧ Effect (.prove host m) s s ∧ Effect .sessionTimeout s s
        ∧ ∀ x, Effect (.restartReset x) s s)
      ∧ (on → ∀ e ∈ requests,
        (un.opened = false → Does e.2.2 s fun t => t.unnov.sent = unAnswer e.1 0 (unSeq m) unNoSession [] [] ∧ t.nor = s.nor)
          ∧ (un.opened = true → ¬mine → Does e.2.2 s fun t => t.unnov = { un with sent := [] } ∧ t.nor = s.nor)
          ∧ (un.opened = true → mine →
            (unSeq m = un.seq → Effect e.2.2 s { s with unnov := { un with sent := un.last } })
              ∧ (unSeq m ≠ un.seq → unSeq m ≠ un.seq + 1 → Does e.2.2 s fun t =>
                t.unnov = { un with sent := unAnswer (unType m) un.session (unSeq m) unBadSequence [] key } ∧ t.nor = s.nor)
              ∧ (unSeq m = un.seq + 1 → unType m ≠ e.1 ∨ unFormed m true = false → turned e.2.2 unBadMessage)
              ∧ (unSeq m = un.seq + 1 → unType m = e.1 → unFormed m true = true → recovery s = true → e.2.1 = false →
                turned e.2.2 unNotPermitted))))
      ∧ (fresh 0x10 true → let c := Instr.status host m
        (body ≠ [] → turned c unBadMessage)
          ∧ (body = [] → answers c unOk ((List.range 5).flatMap fun i => unStatusOf s (i + 1))))
      ∧ (fresh 0x11 true → let c := Instr.stageBegin host m
        let t := hdrType body
        (body.length ≠ 512 → turned c unBadMessage)
          ∧ (body.length = 512 → t = 0 ∨ 5 < t → turned c unBadType)
          ∧ (body.length = 512 → 1 ≤ t → t ≤ 5 →
            (maxLength t < hdrLength body → turned c unTooLarge)
              ∧ (hdrLength body ≤ maxLength t → headerValid s body = false → turned c unBadHeader)
              ∧ (hdrLength body ≤ maxLength t → headerValid s body = true →
                (notRolledBack s body = false → turned c unRollback)
                  ∧ (notRolledBack s body = true → (dir = none → turned c unFlash) ∧ ∀ d, dir = some d →
                    let r := readRec s d t
                    (2 ≤ r.state → r.state ≤ 6 → turned c unNotPermitted)
                      ∧ (r.state < 2 ∨ 6 < r.state → answers c unOk (beBytes 4 (blockCountOf (hdrLength body)))
                        ∧ Does c s fun u => u.unnov.stage = some (t, 0)
                          ∧ u.nor = (((writeRec d t { r with state := 0, next := 0 } s).norErase (regionOf s d t 2)
                              (slotSize (writeRec d t { r with state := 0, next := 0 } s) d t)).norSet (regionOf s d t 2) body).nor)))))
      ∧ (fresh 0x12 true → let c := Instr.stageBlock host m
        let i := beNat (body.take 4)
        (body.length < 5 ∨ 1028 < body.length → turned c unBadMessage)
          ∧ (5 ≤ body.length → body.length ≤ 1028 →
            (un.stage = none → turned c unNotStaged)
              ∧ ∀ t next, un.stage = some (t, next) → (dir = none → turned c unFlash) ∧ ∀ d, dir = some d →
                let a := regionOf s d t 2
                let n := hdrLength (s.norBytes a 512)
                (i + 1 = next → answers c unOk (beBytes 4 i) ∧ Does c s fun u => u.nor = s.nor ∧ u.unnov.stage = un.stage)
                  ∧ (i + 1 ≠ next → i ≠ next ∨ blockCountOf n ≤ i → turned c unBadSequence)
                  ∧ (i = next → i < blockCountOf n → (body.drop 4).length ≠ min 1024 (n - 1024 * i) → turned c unBadMessage)
                  ∧ (i = next → i < blockCountOf n → (body.drop 4).length = min 1024 (n - 1024 * i) → answers c unOk (beBytes 4 i)
                    ∧ Does c s fun u => u.nor = (s.norSet (a + 512 + 1024 * i) (body.drop 4)).nor ∧ u.unnov.stage = some (t, next + 1))))
      ∧ (fresh 0x13 true → let c := Instr.stageEnd host m
        (body.length ≠ 2 → turned c unBadMessage) ∧ (body.length = 2 → ty = 0 ∨ 5 < ty → turned c unBadType)
          ∧ (body.length = 2 → 1 ≤ ty → ty ≤ 5 → (dir = none → turned c unFlash) ∧ ∀ d, dir = some d →
            let a := regionOf s d ty 2
            let h := s.norBytes a 512
            (un.stage = none → turned c unNotStaged) ∧ ∀ t next, un.stage = some (t, next) →
              (t ≠ ty ∨ next < blockCountOf (hdrLength h) → turned c unNotStaged)
                ∧ (t = ty → blockCountOf (hdrLength h) ≤ next →
                  (sha384 (s.norBytes (a + 512) (hdrLength h)) ≠ hdrDigest h → turned c unDigest)
                    ∧ (sha384 (s.norBytes (a + 512) (hdrLength h)) = hdrDigest h → answers c unOk [] ∧ Does c s fun u =>
                      u.nor = (writeRec d ty { readRec s d ty with state := 1, next := 0 } s).nor ∧ u.unnov.stage = none))))
      ∧ (fresh 0x14 false → let c := Instr.commit host m
        (body.length ≠ 2 → turned c unBadMessage) ∧ (body.length = 2 → ty = 0 ∨ 5 < ty → turned c unBadType)
          ∧ (body.length = 2 → 1 ≤ ty → ty ≤ 5 → (dir = none → turned c unFlash) ∧ ∀ d, dir = some d →
            let r := readRec s d ty
            (r.state ≠ 4 → turned c unNothing) ∧ (r.state = 4 → epochConflict s d ty = true → turned c unEpoch)
              ∧ (r.state = 4 → epochConflict s d ty = false → answers c unOk []
                ∧ let done := commitSteps d ty (writeRec d ty { r with state := 5 }
                    (if s.vlt.writing.isSome then doBlockWriteDone true s else s))
                  Does c s fun u => u.nor = done.nor ∧ u.fuses = done.fuses)))
      ∧ (fresh 0x15 false → let c := Instr.rollback host m
        (body.length ≠ 2 → turned c unBadMessage) ∧ (body.length = 2 → ty = 0 ∨ 5 < ty → turned c unBadType)
          ∧ (body.length = 2 → 1 ≤ ty → ty ≤ 5 → (dir = none → turned c unFlash) ∧ ∀ d, dir = some d →
            let r := readRec s d ty
            (r.state ≠ 4 → turned c unNothing) ∧ (r.state = 4 → answers c unOk [] ∧ Does c s fun u =>
              u.nor = (writeRec d ty { r with state := 6, next := 0 } s).nor)))
      ∧ (fresh 0x16 true → let c := Instr.restart host m
        (body.length ≠ 1 ∨ (ty ≠ 1 ∧ ty ≠ 2) → turned c unBadMessage)
          ∧ (body.length = 1 → ty = 1 ∨ ty = 2 → answers c unOk [] ∧ Does c s fun u => u.unnov.restart = some ty
            ∧ (recovery s = true → u.nor = s.nor) ∧ (recovery s = false → u.nor = (persistLedger s).nor)))
      ∧ (fresh 0x20 false → let c := Instr.ledgerRead host m
        let off := beNat (body.take 4)
        let n := beNat (slice body 4 2)
        (body.length ≠ 6 ∨ 1024 < n ∨ ledgerSize ≤ off → turned c unBadMessage)
          ∧ (body.length = 6 → n ≤ 1024 → off < ledgerSize →
            answers c unOk (slice (crownImage (if off = 0 then snapMerge s else s)) off n)))
      ∧ (fresh 0x21 false → let c := Instr.vaultExport host m
        let no := beNat (body.take 8)
        let blk := s.norBytes (blockAddr s no) 4096
        let held := body.length = 9 ∧ byteAt body 8 ≤ 3 ∧ vltBlocks s ≠ 0 ∧ blockMagic blk = true ∧ blockNo blk = no
        (¬held → turned c unBadMessage) ∧ (held → answers c unOk (slice blk (1024 * byteAt body 8) 1024)))
      ∧ (fresh 0x22 false → let c := Instr.unnovAttest host m
        let h := beNat (body.take 2)
        let named := body.length = 34 ∧ attrType (slotOf [] s h).attr ≠ 0
        (¬named → turned c unBadMessage) ∧ (named → trnFailed s = true → turned c unBusy)
          ∧ (named → trnFailed s = false → answers c unOk (attestStatement h (body.drop 2) s).1))
      ∧ (fresh 0x7F true → let c := Instr.bye host m
        (body ≠ [] → turned c unBadMessage)
          ∧ (body = [] → Does c s fun u => u.unnov.sent = reply unOk [] ∧ u.unnov.opened = false ∧ u.unnov.host = none
            ∧ u.unnov.key = [] ∧ u.unnov.stage = un.stage))
      ∧ (on → Effect .sessionTimeout s { s with unnov := { Unnov.idle with stage := un.stage, restart := un.restart, image := un.image, fed := un.fed } }
        ∧ ∀ x, (un.restart = some 1 → Effect (.restartReset x) s (doReset .warm 3 x s))
          ∧ (un.restart = some 2 → Effect (.restartReset x) s (doReset .cold 4 x s))
          ∧ (un.restart ≠ some 1 → un.restart ≠ some 2 → Effect (.restartReset x) s s))
      ∧ (on → let c := Instr.hello host m
        let no := fun (st : Nat) => Does c s fun t => t.unnov = { un with sent := unAnswer 1 0 (unSeq m) st [] [] }
        let formed := unType m = 1 ∧ unFormed m false = true ∧ 128 ≤ unLength m
        (¬formed → no unBadMessage) ∧ (formed → un.opened = true → un.host ≠ some host → no unBusy)
          ∧ (formed → un.opened = false ∨ un.host = some host →
            (unSession m ≠ 0 → Does c s fun t => t.unnov = { un with sent := [] })
              ∧ (unSession m = 0 → unSeq m ≠ 1 → no unBadSequence)
              ∧ (unSession m = 0 → unSeq m = 1 →
                (un.host = some host → un.seq = 1 → un.hello = body → Effect c s { s with unnov := { un with sent := un.last } })
                  ∧ (un.host ≠ some host ∨ un.seq ≠ 1 ∨ un.hello ≠ body → Does c s fun t => t.unnov.host = some host
                    ∧ t.unnov.opened = false ∧ t.unnov.seq = 1 ∧ t.unnov.hello = body ∧ byteAt t.unnov.sent 16 = unOk
                    ∧ t.unnov.last = t.unnov.sent ∧ t.unnov.stage = un.stage))))
      ∧ (on → let c := Instr.prove host m
        let no := fun (st : Nat) => Does c s fun t => t.unnov = { un with sent := unAnswer 2 0 (unSeq m) st [] [] }
        let formed := unType m = 2 ∧ unFormed m false = true ∧ unLength m = 96
        (¬formed → no unBadMessage) ∧ (formed → un.host = none → no unNoSession)
          ∧ (formed → un.host ≠ none → un.host ≠ some host ∨ unSession m ≠ 0 → Does c s fun t => t.unnov = { un with sent := [] })
          ∧ (formed → un.host = some host → unSession m = 0 →
            (unSeq m = un.seq → un.seq = 2 → Effect c s { s with unnov := { un with sent := un.last } })
              ∧ (¬(unSeq m = un.seq ∧ un.seq = 2) → unSeq m ≠ un.seq + 1 ∨ un.opened = true → no unBadSequence)
              ∧ (unSeq m = un.seq + 1 → un.opened = false →
                let good := rootAccepted s = true ∧ ecdsaVerify un.leaf (sha384 (un.hello ++ un.reply)) body = true
                (good → Does c s fun t => t.unnov.opened = true ∧ kept t ∧ byteAt t.unnov.sent 16 = unOk
                  ∧ ∃ v : List Byte, t.unnov.session = beNat v ∧ t.unnov.sent = unAnswer 2 0 (unSeq m) unOk v key)
                  ∧ (¬good → Does c s fun t => t.unnov.opened = false ∧ kept t
                    ∧ t.unnov.sent = unAnswer 2 0 (unSeq m) unAuthFailed [] key))))

/-- Key store commands, fuse programming, re-masks, random numbers and the records vault (R460, R461, R465, R466, R467, R468, R469, R470, R474, R475, R476, R477). -/
def Obligations.KeysFusesAndVaultFollowTheirCommands : Prop :=
  (∀ (i : Initiator) (d : Word) (s : State),
      let try1 := fun (f : Nat) => s.jwl.fuseReq = none ∧ takesGuarded s i W.JWL JWL_FUSE_PROG (putBits d.toNat 31 28 f) = true
      let starts := fun (c : Instr) (f : Nat) => Does c s fun u => u.jwl.fuseReq = some (putBits d.toNat 31 28 f) ∧ u.fld W.JWL JWL_FUSE_STAT 3 0 = 0
        ∧ u.fuses = s.fuses
      let ends := fun (c : Instr) (e : Nat) => Does c s fun u => u.jwl.fuseReq = none ∧ u.fld W.JWL JWL_FUSE_STAT 3 0 = e ∧ u.fuses = s.fuses
      let t := bits d.toNat 7 4
      let refused := t ≤ lifecycle s ∨ 4 < t ∨ (t = 2 ∧ crootSet s = false) ∨ (t = 4 ∧ lifecycle s = 0)
      (try1 1 → if crootSet s then ends (.fuseProgCroot i d) 2 else starts (.fuseProgCroot i d) 1)
        ∧ (try1 2 → 1 ≤ bits d.toNat 3 0 → bits d.toNat 3 0 ≤ 8 → starts (.fuseProgEpoch i d) 2)
        ∧ (try1 2 → bits d.toNat 3 0 = 0 ∨ 8 < bits d.toNat 3 0 → Does (.fuseProgEpoch i d) s fun u => u.jwl = s.jwl ∧ u.fuses = s.fuses)
        ∧ (s.jwl.fuseReq ≠ none → ∀ e ∈ [(1, Instr.fuseProgCroot i d), (2, .fuseProgEpoch i d), (3, .lifecycleAdvance i d)],
          takesGuarded s i W.JWL JWL_FUSE_PROG (putBits d.toNat 31 28 e.1) = true →
            Does e.2 s fun u => u.jwl = s.jwl ∧ u.fuses = s.fuses ∧ u.fld W.JWL JWL_FUSE_STAT 3 0 = s.fld W.JWL JWL_FUSE_STAT 3 0)
        ∧ (try1 3 → (refused → ends (.lifecycleAdvance i d) 3) ∧ (¬refused → starts (.lifecycleAdvance i d) 3)))
    ∧ (∀ (ok : Bool) (x : StartInput) (s : State), mainRuns s = true →
      (s.jwl.fuseReq = none → Effect (.fuseProgDone ok x) s s)
        ∧ ∀ q, s.jwl.fuseReq = some q →
          ((s.win W.JWL).resetting = false → Does (.fuseProgDone false x) s fun u => u.jwl.fuseReq = none ∧ u.fld W.JWL JWL_FUSE_STAT 3 0 = 1
              ∧ ⟨W.JWL, 4, .event, locSelf W.JWL, false⟩ ∈ u.posts ∧ u.fuses = s.fuses)
            ∧ (bits q 31 28 = 1 → Does (.fuseProgDone true x) s fun u =>
              u.fuses.croot = (List.range 12).flatMap fun k => beBytes 4 (s.reg W.JWL (JWL_CROOT_STAGE + 4 * k)))
            ∧ (bits q 31 28 = 2 → Does (.fuseProgDone true x) s fun u =>
              kvGet 0 u.fuses.epoch (bits q 9 8) = addEpoch (kvGet 0 s.fuses.epoch (bits q 9 8)) (bits q 3 0))
            ∧ (bits q 31 28 = 3 → Does (.fuseProgDone true x) s fun u => u.fuses.life = s.fuses.life ||| 2 ^ (bits q 7 4 - 1)
              ∧ u.reg W.SYS SYS_RST_REASON = StartKind.cold.code * 256 + 4))
    ∧ (∀ (i : Initiator) (d : Word) (bad : List BadEntry) (s : State), takes s i W.JWL JWL_CMD = true →
      let h := bits d.toNat 9 0
      let p := bits d.toNat 25 16
      let slot := fun (u : State) (m : Nat) => kvGet Slot.empty u.jwl.slots m
      let fails := fun (c : Instr) (e : Nat) => Does c s fun u => u.reg W.JWL JWL_CMD_STAT = e ∧ u.jwl = s.jwl
      let fills := fun (c : Instr) (a : Word) (o : Nat) (key : List Byte → Prop) => Does c s fun u => u.reg W.JWL JWL_CMD_STAT = 0
        ∧ (slot u h).attr = wput a 27 26 o ∧ key (slot u h).key ∧ ∀ m, m ≠ h → slot u m = slot s m
      let gives := fun (c : Instr) (P : State → Prop) => Does c s fun u => u.reg W.JWL JWL_CMD_STAT = 0 ∧ u.jwl = s.jwl ∧ P u
      let a := BitVec.ofNat 32 (s.reg W.JWL JWL_DATA)
      let e := slotFree bad s h a
      let b := jwlIn s 512
      let n := keyLen (attrType a)
      let k := slotOf bad s h
      let shows := fun (m : List Byte) (u : State) => ∀ j, j < m.length / 4 → j < 128 → u.reg W.JWL (JWL_DATA + 4 * j) = beNat (slice m (4 * j) 4)
      (lifecycle s = 0 ∨ s.flag W.JWL BLK_CTRL 0 = false →
        ∀ c ∈ [Instr.generate i d bad, .importKey i d bad, .derive i d bad, .deleteKey i d bad, .info i d bad, .save i d bad,
          .restore i d bad, .attest i d bad, .sign i d bad, .hmac i d bad], fails c 6)
        ∧ (lifecycle s ≠ 0 → s.flag W.JWL BLK_CTRL 0 = true →
          (e ≠ 0 → ∀ c ∈ [Instr.generate i d bad, .importKey i d bad, .derive i d bad, .restore i d bad], fails c e)
            ∧ (e = 0 → trnFailed s = true → fails (.generate i d bad) 7 ∧ fails (.restore i d bad) 7)
            ∧ (e = 0 → trnFailed s = false → fills (.generate i d bad) a 1 fun key => key.length = n)
            ∧ (e = 0 → trnFailed s = false →
              match gcmOpen (rootDerived s labelSave 32) (slice b 4 12) (b.take 4) (slice b 16 n) (slice b (16 + n) 16) with
              | none => fails (.restore i d bad) 4
              | some key => fills (.restore i d bad) a (wf a 27 26) (· = key))
            ∧ (e = 0 → ∀ r key, parentKey bad s p 4 = (r, key) → (r ≠ 0 → fails (.importKey i d bad) r)
              ∧ (r = 0 → trnFailed s = false → match gcmOpen key (slice b 4 12) (b.take 4) (slice b 16 n) (slice b (16 + n) 16) with
                | none => fails (.importKey i d bad) 4
                | some key => fills (.importKey i d bad) a 2 (· = key)))
            ∧ (e = 0 → 3 < attrType a ∨ 32 < byteAt b 4 ∨ 32 < byteAt b 5 → fails (.derive i d bad) 5)
            ∧ (e = 0 → attrType a ≤ 3 → byteAt b 4 ≤ 32 → byteAt b 5 ≤ 32 → ∀ r key, parentKey bad s p 5 = (r, key) →
              (r ≠ 0 → fails (.derive i d bad) r)
                ∧ (r = 0 → trnFailed s = false → fills (.derive i d bad) a 3
                  (· = kdf key (slice b 6 (byteAt b 4) ++ [0] ++ slice b (6 + byteAt b 4) (byteAt b 5)) n)))
            ∧ (h ≤ 511 → Does (.deleteKey i d bad) s fun u => u.reg W.JWL JWL_CMD_STAT = 0 ∧ slot u h = Slot.empty ∧ ∀ m, m ≠ h → slot u m = slot s m)
            ∧ (511 < h → fails (.deleteKey i d bad) 1)
            ∧ (h ≤ hVault → bad.contains (.key h) = true →
              ∀ c ∈ [Instr.info i d bad, .save i d bad, .attest i d bad, .sign i d bad, .hmac i d bad], fails c 8)
            ∧ (bad.contains (.key h) = false → h ≤ hVault →
              gives (.info i d bad) (shows (beBytes 4 k.attr.toNat ++ publicOf k))
                ∧ (attrType k.attr = 0 → ∀ c ∈ [Instr.save i d bad, .attest i d bad, .sign i d bad, .hmac i d bad], fails c 1)
                ∧ (attrType k.attr ≠ 0 → trnFailed s = true → fails (.attest i d bad) 7)
                ∧ (attrType k.attr ≠ 0 → trnFailed s = false → h ≤ 511 → gives (.save i d bad)
                  (let iv := (trnDraw 12 s).1
                   let head := beBytes 4 k.attr.toNat
                   let c := gcmSeal (rootDerived s labelSave 32) iv head k.key
                   shows (head ++ iv ++ c.1 ++ c.2)))
                ∧ (attrType k.attr ≠ 0 → trnFailed s = false → gives (.attest i d bad) (shows (attestStatement h (jwlIn s 32) s).1))
                ∧ (attrType k.attr ≠ 0 → bit (attrUsage k.attr) 3 = false → fails (.sign i d bad) 2)
                ∧ (attrType k.attr ≠ 0 → bit (attrUsage k.attr) 3 = true → trnFailed s = false →
                  gives (.sign i d bad) (shows (ecdsaSign k.key (jwlIn s (keyLen (attrType k.attr))) (trnDraw (k.key.length + 8) s).1)))
                ∧ (attrType k.attr ≠ 0 → bit (attrUsage k.attr) 3 = true → trnFailed s = true → fails (.sign i d bad) 7)
                ∧ (attrType k.attr ≠ 0 → 511 < h → fails (.save i d bad) 1)
                ∧ (attrType k.attr ≠ 0 → trnFailed s = true → h ≤ 511 → fails (.save i d bad) 7)
                ∧ (attrType k.attr ≠ 0 → bit (attrUsage k.attr) 2 = true → 500 < beNat (jwlIn s 2) → fails (.hmac i d bad) 5)
                ∧ (attrType k.attr ≠ 0 → bit (attrUsage k.attr) 2 = false → fails (.hmac i d bad) 2)
                ∧ (attrType k.attr ≠ 0 → bit (attrUsage k.attr) 2 = true → beNat (jwlIn s 2) ≤ 500 →
                  gives (.hmac i d bad) (shows (hmacSha256 k.key (slice (jwlIn s 502) 2 (beNat (jwlIn s 2)))))))))
    ∧ (∀ (s : State), mainRuns s = true →
      (∀ h, h ≤ hVault → (trnFailed s = true → Does (.remask h) s fun u => u.jwl = s.jwl
            ∧ u.reg W.JWL JWL_REMASK_STAT = satAdd 32 (s.reg W.JWL JWL_REMASK_STAT) 1)
          ∧ (trnFailed s = false → Does (.remask h) s fun u => u.jwl.slots = s.jwl.slots ∧ ∀ m, m ≠ h → kvGet [] u.jwl.masks m = kvGet [] s.jwl.masks m))
        ∧ (∀ rct apt, rct = true ∨ apt = true → Does (.healthTestFail rct apt) s fun u => trnFailed u = true
          ∧ u.reg W.TRN TRN_HEALTH = satAdd 32 (s.reg W.TRN TRN_HEALTH) 1 ∧ (rct = true → u.flag W.TRN TRN_STAT 0 = true)
          ∧ (apt = true → u.flag W.TRN TRN_STAT 1 = true))
        ∧ Effect (.healthTestFail false false) s s
        ∧ Does (.startUpTest true) s (fun u => trnFailed u = false) ∧ Effect (.startUpTest false) s s
        ∧ (let due := fun (r : List Byte) => beNat (slice r 12 8) + s.fld W.VLT VLT_SEAL_CFG 15 0 * 1000000 ≤ s.vault
          (s.vlt.writing = none → s.fld W.VLT VLT_SEAL_CFG 15 0 ≠ 0 → (∃ r, (openRecords s)[2]? = some r ∧ due r) → Does .timeSeal s fun u =>
            u.vlt.writing.isSome ∧ u.vlt.records = s.vlt.records)
            ∧ (s.fld W.VLT VLT_SEAL_CFG 15 0 = 0 ∨ s.vlt.writing.isSome ∨ (∀ r, (openRecords s)[2]? = some r → ¬due r) →
              Effect .timeSeal s s))
        ∧ (s.vlt.writing = none → ∀ ok, Effect (.blockWriteDone ok) s s)
        ∧ ∀ b, s.vlt.writing = some b →
          ((s.win W.VLT).resetting = false → Does (.blockWriteDone false) s fun u => u.fld W.VLT VLT_STAT 23 16 = 3 ∧ u.vlt.writing = none
              ∧ u.vlt.records = s.vlt.records ∧ ⟨W.VLT, 2, .event, locSelf W.VLT, false⟩ ∈ u.posts)
            ∧ Does (.blockWriteDone true) s fun u => u.fld W.VLT VLT_STAT 23 16 = 0 ∧ u.vlt.writing = none ∧ u.vlt.records = none
              ∧ u.norBytes (blockAddr s (s.reg64 W.VLT VLT_BLOCK_LO)) b.length = b
              ∧ u.reg64 W.VLT VLT_BLOCK_LO = (s.reg64 W.VLT VLT_BLOCK_LO + 1) % 2 ^ 64
              ∧ (lifecycle s = 2 ∨ lifecycle s = 3 → u.fuses.vaultInit = true))
    ∧ (∀ (i : Initiator) (s : State), readsPlain s i W.TRN TRN_OUT = true →
      (trnFailed s = true → Does (.trnOutRead i) s fun u => u.bus = ⟨0, 0⟩)
        ∧ (trnFailed s = false → Does (.trnOutRead i) s fun u => u.bus = ⟨BitVec.ofNat 64 (beNat (trnDraw 4 s).1), 0⟩))
    ∧ ∀ (i : Initiator) (d : Word) (s : State), takes s i W.VLT VLT_CMD = true →
      let st := fun (c : Instr) (e : Nat) (P : State → Prop) => Does c s fun u => u.fld W.VLT VLT_STAT 23 16 = e ∧ P u
      let same := fun (u : State) => u.vlt = s.vlt ∧ ∀ k, k < 8 → vltCtr u k = vltCtr s k
      let typ := s.fld W.VLT VLT_REC 31 16
      let m := (openRecords s).length + if s.vlt.records = none then 3 else 1
      let k := bits d.toNat 10 8
      let blocks := (List.range (vltBlocks s)).map (blockBytes s)
      (s.vlt.writing.isSome → ∀ c ∈ [Instr.openVault i d, .append i d, .seal i d, .raise i d], st c 5 same)
        ∧ (s.vlt.writing = none → vltOpened s = false → ∀ c ∈ [Instr.append i d, .seal i d, .raise i d], st c 1 same)
        ∧ (s.vlt.writing = none → st (.openVault i d) 0 fun u => vltOpened u = true ∧ u.vlt.records = none
          ∧ ((∀ b ∈ blocks, blockValid s b = false) → u.flag W.VLT VLT_STAT 29 = true ∧ u.reg64 W.VLT VLT_NEXT_SEQ_LO = 0
            ∧ u.reg64 W.VLT VLT_BLOCK_LO = 0 ∧ ∀ j, j < 8 → vltCtr u j = 0)
          ∧ ∀ b ∈ blocks, blockValid s b = true → (∀ c ∈ blocks, blockValid s c = true → blockNo c ≤ blockNo b) →
            u.flag W.VLT VLT_STAT 29 = false ∧ u.reg64 W.VLT VLT_BLOCK_LO = (blockNo b + 1) % 2 ^ 64)
        ∧ (s.vlt.writing = none → vltOpened s = true →
          (typeRefused typ = true → st (.append i d) 2 same)
            ∧ (62 ≤ (openRecords s).length → typeRefused typ = false → st (.append i d) 5 fun u => u.vlt.writing.isSome ∧ u.vlt.records = s.vlt.records)
            ∧ (62 ≤ (openRecords s).length → vltCtr s k < s.reg64 W.VLT VLT_CTR_SET_LO → st (.raise i d) 5 fun u =>
              u.vlt.writing.isSome ∧ u.vlt.records = s.vlt.records ∧ ∀ j, j < 8 → vltCtr u j = vltCtr s j)
            ∧ ((openRecords s).length < 62 → typeRefused typ = false → st (.append i d) 0 fun u => (openRecords u).length = m
              ∧ u.reg64 W.VLT VLT_NEXT_SEQ_LO = (s.reg64 W.VLT VLT_NEXT_SEQ_LO + (m - (openRecords s).length)) % 2 ^ 64
              ∧ (62 ≤ m → u.vlt.writing.isSome) ∧ (m < 62 → u.vlt.writing = none)
              ∧ (openRecords u).getLast? = some (recordBytes typ (s.fld W.VLT VLT_REC 15 0)
                ((s.reg64 W.VLT VLT_NEXT_SEQ_LO + (m - (openRecords s).length - 1)) % 2 ^ 64) s.vault
                ((List.range 9).flatMap fun j => beBytes 4 (s.reg W.VLT (VLT_REC + 4 * (j + 1))))))
            ∧ (s.vlt.records.isSome → st (.seal i d) 0 fun u => u.vlt.writing.isSome ∧ u.vlt.records = s.vlt.records)
            ∧ (s.vlt.records = none → st (.seal i d) 0 same)
            ∧ (s.reg64 W.VLT VLT_CTR_SET_LO ≤ vltCtr s k → st (.raise i d) 4 same)
            ∧ ((openRecords s).length < 62 → vltCtr s k < s.reg64 W.VLT VLT_CTR_SET_LO → st (.raise i d) 0 fun u => vltCtr u k = s.reg64 W.VLT VLT_CTR_SET_LO
              ∧ u.vlt.writing.isSome ∧ ∀ j, j < 8 → j ≠ k → vltCtr u j = vltCtr s j))

/-- The twin pair: fence, becoming Active, yielding, the link, its messages and the bridge (R482, R483, R485, R486, R487, R488, R489, R490, R492, R493, R494, R495). -/
def Obligations.TwinPairFollowsFenceLinkAndMessages : Prop :=
  (∀ (s : State), mainRuns s = false → ∀ c ∈ [Instr.fenceEdge 25000, .fenceDeadTimeout, .leadActive, .heartbeatMiss, .takeover,
      .yieldEvent, .twinHeartbeatSend, .twinLinkRetrain 2 0, .twinLinkDown, .twinMessageResend, .heartbeat [], .frame [], .brTimeout .crown],
      Effect c s s)
    ∧ (∀ (h lanes delay : Nat) (s : State), mainRuns s = true →
      let w := s.twin
      let en := s.enabled W.TWL
      let counts := fun (t : State) (off : Nat) => t.reg W.TWL off = satAdd 32 (s.reg W.TWL off) 1
      let leads := mayLead s = true ∧ twinMate s = false
      let takesOver := mayLead s = true ∧ twinMate s = true ∧ (s.fld W.TWL TWL_CTRL 19 16 ≤ w.misses ∨ w.peerYielded = true)
      let yields := en = true ∧ w.active = true ∧ twinMate s = true ∧ w.fence = 2
      (Does (.fenceEdge h) s fun t => t.twin = { w with fence := if 20000 ≤ h ∧ h ≤ 30000 then 2 else if 40000 ≤ h ∧ h ≤ 60000 then 1 else 0 })
        ∧ (Does .fenceDeadTimeout s fun t => t.twin = { w with fence := 0 })
        ∧ (leads → Does .leadActive s fun t => t.twin = { w with active := true }) ∧ (¬leads → Effect .leadActive s s)
        ∧ (takesOver → Does .takeover s fun t => t.twin = { w with active := true } ∧ counts t TWL_TAKEOVERS
          ∧ kvGet 0 t.ldg.live 0x3A4 = satAdd 32 (kvGet 0 s.ldg.live 0x3A4) 1)
        ∧ (¬takesOver → Effect .takeover s s)
        ∧ (yields → Does .yieldEvent s fun t => t.twin = { w with active := false, yielded := true }) ∧ (¬yields → Effect .yieldEvent s s)
        ∧ (en = true → Does .heartbeatMiss s fun t => t.twin = { w with misses := satAdd 8 w.misses 1 } ∧ counts t TWL_HB_MISSED)
        ∧ (en = false → Effect .heartbeatMiss s s)
        ∧ (twinUp s = true → (Does .twinHeartbeatSend s fun t => t.twin.sent = (w.sent + 1) % 65536)
          ∧ Does .twinMessageResend s fun t => t.twin = w ∧ counts t TWL_RETRY)
        ∧ (twinUp s = false → Effect .twinHeartbeatSend s s ∧ Effect .twinMessageResend s s)
        ∧ (en = true → w.lanes = 0 → lanes ≠ 0 → Does (.twinLinkRetrain lanes delay) s fun t =>
          t.twin = { w with lanes := min lanes 2, txSeq := [], rxSeq := [] } ∧ t.reg W.TWL TWL_LINKDLY = delay % 2 ^ 32)
        ∧ (en = false ∨ w.lanes ≠ 0 ∨ lanes = 0 → Effect (.twinLinkRetrain lanes delay) s s)
        ∧ (w.lanes = 0 → Effect .twinLinkDown s s)
        ∧ (w.lanes = 1 → Does .twinLinkDown s fun t => t.twin = { w with lanes := 0, reqs := [] })
        ∧ (2 ≤ w.lanes → Effect .twinLinkDown s { s with twin := { w with lanes := w.lanes - 1 } }))
    ∧ (∀ (i : Initiator) (s : State),
      (takesGuarded s i W.TWL TWL_CMD 1 = true → Does (.yield i) s fun t => t.twin = { s.twin with active := false, yielded := true })
        ∧ (takesGuarded s i W.TWL TWL_CMD 2 = true → Does (.claim i) s fun t => t.twin = { s.twin with yielded := false }))
    ∧ (∀ (i : Initiator) (late : Bool) (ecc : Ecc) (m : List Byte) (s : State), mainRuns s = true →
      let p := m.drop 8
      let vc := byteAt m 1 / 64
      let rows : List (Nat × Instr) := [(1, .heartbeat m), (2, .learnDelta m), (3, .nmDelta m), (4, .frame m), (5, .brRead m late ecc),
        (6, .brWrite m late ecc), (7, .brResp i m late)]
      let good := fun (t : Nat) => twinUp s = true ∧ byteAt m 0 = t ∧ vcOf t = some vc ∧ beNat (slice m 2 2) = p.length
        ∧ twinLenOk t p.length = true ∧ 8 ≤ m.length
      let came := { s with twin := { s.twin with rxSeq := kvSet 0 s.twin.rxSeq vc (beNat (slice m 4 2)) } }
      let bad := fun (c : Instr) => Does c s fun t => t.reg W.TWL TWL_BAD = satAdd 32 (s.reg W.TWL TWL_BAD) 1 ∧ t.emt = s.emt ∧ t.mem = s.mem
      (twinUp s = false → ∀ e ∈ rows, Effect e.2 s s)
        ∧ (twinUp s = true → ∀ e ∈ rows, ¬good e.1 → bad e.2)
        ∧ (good 1 → Does (.heartbeat m) s fun t =>
          t.twin = { came.twin with misses := 0, peerActive := bit (byteAt p 0) 1, peerYielded := bit (byteAt p 0) 2 }
            ∧ t.reg W.TWL TWL_HB_RX = satAdd 32 (s.reg W.TWL TWL_HB_RX) 1
            ∧ t.reg64 W.TWL TWL_TOFFSET_LO = (beNat (slice p 4 8) + s.reg W.TWL TWL_LINKDLY + (2 ^ 64 - s.now)) % 2 ^ 64)
        ∧ (good 2 →
          let kind : Option LearnKind := if byteAt p 0 = 1 then some .learn else if byteAt p 0 = 2 then some .move
            else if byteAt p 0 = 3 then some .ageOut else none
          (kind = none → Effect (.learnDelta m) s came) ∧ ∀ k, kind = some k →
            (256 ≤ s.emt.queue.length → Does (.learnDelta m) s fun t => t.emt = s.emt
              ∧ t.reg W.TWL TWL_DELTA_DROP = satAdd 32 (s.reg W.TWL TWL_DELTA_DROP) 1)
              ∧ (s.emt.queue.length < 256 → s.enabled W.EMT = false → Effect (.learnDelta m) s came)
              ∧ (s.emt.queue.length < 256 → s.enabled W.EMT = true → Does (.learnDelta m) s fun t =>
                t.emt = { s.emt with queue := s.emt.queue ++ [⟨BitVec.ofNat 128 (beNat (slice p 4 16)), byteAt p 1, k, none, true⟩] }))
        ∧ (good 3 → Does (.nmDelta m) s fun t =>
          t.reg W.TWL TWL_PEER_NETREQ_LO + 2 ^ 32 * t.reg W.TWL TWL_PEER_NETREQ_HI = beNat (p.take 5)
            ∧ ∀ k, k < 5 → t.reg W.TWL (TWL_PEER_NM + 4 * k) = beNat (slice p (8 + 4 * k) 4))
        ∧ (good 4 → let t0 := tagOf48 (p.take 48)
          (t0.tagver ≠ 1 ∨ 7 < t0.kind → bad (.frame m))
            ∧ (t0.tagver = 1 → t0.kind ≤ 7 → Does (.frame m) s fun t => t.pond.arrivals = s.pond.arrivals
              ++ [⟨s.pond.nextFid, 9, twinTag t0 s.now, p.drop 48, true, none, .twin⟩]))
        ∧ (∀ e ∈ [(5, false, Instr.brRead m late ecc), (6, true, .brWrite m late ecc)], good e.1 →
          (late = true → Effect e.2.2 s came)
            ∧ (late = false → Effect e.2.2 s (twinSend 2 (access
              ⟨.twin, beNat (slice p 8 8), 32, e.2.1, false, BitVec.ofNat 64 (beNat (slice p 16 4))⟩ { Aux.plain with ecc := ecc } came))))
        ∧ (good 7 → (late = true ∨ s.twin.reqs.find? (·.init == i) = none → Effect (.brResp i m late) s came)
          ∧ ∀ r, late = false → s.twin.reqs.find? (·.init == i) = some r → Does (.brResp i m late) s fun t =>
            t.twin.reqs = delFirst (· == r) s.twin.reqs ∧ t.reg W.TWL (TWL_BR_STAT + 16 * i.code) = byteAt p 0
              ∧ t.bus = if byteAt p 0 ≠ 0 then ⟨0, byteAt p 0⟩ else if r.write then ⟨0, 0⟩ else ⟨BitVec.ofNat 64 (beNat (slice p 4 4)), 0⟩)
        ∧ (s.twin.reqs.find? (·.init == i) = none → Effect (.brTimeout i) s s)
        ∧ (∀ r, s.twin.reqs.find? (·.init == i) = some r → Does (.brTimeout i) s fun t =>
          t.twin.reqs = delFirst (· == r) s.twin.reqs ∧ t.bus = ⟨0, errTimeout⟩
            ∧ t.reg W.TWL TWL_BR_TIMEOUTS = satAdd 32 (s.reg W.TWL TWL_BR_TIMEOUTS) 1))
    ∧ (∀ (i : Initiator) (d : Word) (s : State), i.code < 5 →
      let a := bridgeAddr s i.code
      let leaves := fun (c : Instr) (write : Bool) (data : Nat) =>
        (bridgeAddrOk s a = false → Does c s fun t => t.bus = ⟨0, errSize⟩ ∧ t.twin = s.twin)
          ∧ (bridgeAddrOk s a = true → twinUp s = false → Does c s fun t => t.bus = ⟨0, errTimeout⟩ ∧ t.twin = s.twin)
          ∧ (bridgeAddrOk s a = true → twinUp s = true → Does c s fun t => t.twin.reqs = s.twin.reqs ++ [⟨i, write, a, data⟩])
      (takes s i W.TWL (TWL_BR_DATA + 16 * i.code) = true → leaves (.bridgeWrite i d) true d.toNat)
        ∧ (readsPlain s i W.TWL (TWL_BR_DATA + 16 * i.code) = true → leaves (.bridgeRead i) false 0))

/-- Capture rings take, trigger, freeze and release; digests; the ledger's second, snapshot and event queue (R498, R499, R500, R501, R502, R503, R504, R506, R507, R508). -/
def Obligations.CaptureRingsAndLedgerFollowTheirCommands : Prop :=
  (∀ (s : State), mainRuns s = true →
    let front := (List.range 8).findSome? fun k => s.headOf (8 * 58 + (7 - k))
    (s.enabled W.CAP = false ∨ front = none → Effect .capTake s s)
      ∧ (∀ e, s.enabled W.CAP = true → front = some e →
        let f := frameOf e.1 e.2
        let n := portRing s f.tag.srcPort
        let r := n % 8
        let x := s.ring r
        let drops := fun (off : Nat) => Does .capTake s fun u => u.rings = s.rings ∧ u.mem = s.mem
          ∧ u.reg W.CAP off = satAdd 32 (s.reg W.CAP off) 1
        let trig := x.state == .running && meetsTrigger s r f.tag
        let bytes := recordOf f r (ringSnap s r) x.seq trig
        let near := ringSize s r - x.next < bytes.length
        let off := if near then 0 else x.next
        let passes := x.state = .triggered ∧ ringPost s r < x.post + recordCost s r bytes.length
        (n < 8 → drops CAP_NOMAP)
          ∧ (8 ≤ n → x.state = .stopped ∨ x.state = .frozen → drops CAP_FROZEN_DROP)
          ∧ (8 ≤ n → x.state = .running ∨ x.state = .triggered →
            (x.writing ≠ none → Effect .capTake s s)
              ∧ (x.writing = none → passes → Does .capTake s fun u => (u.ring r).state = .frozen ∧ (u.ring r).sealing = ringSeals s r
                ∧ u.mem = s.mem ∧ u.reg W.CAP CAP_FROZEN_DROP = satAdd 32 (s.reg W.CAP CAP_FROZEN_DROP) 1)
              ∧ (x.writing = none → ¬passes → Does .capTake s fun u =>
                u.memBytes (ringBase s r + off) bytes.length = bytes
                  ∧ (near → bytes.length ≤ x.next → x.next + 16 ≤ ringSize s r →
                    u.memBytes (ringBase s r + x.next) 16 = recordHead (ringSize s r - x.next) 0 r 4 x.seq)
                  ∧ (u.ring r).writing = some (off, bytes.length, trig) ∧ (u.ring r).seq = x.seq + 1 ∧ (u.ring r).next = x.next
                  ∧ (u.ring r).state = if trig then .triggered else x.state))))
    ∧ (∀ (r : Nat) (ok : Bool) (s : State), r < 8 → mainRuns s = true →
      let x := s.ring r
      (x.writing = none → Effect (.recordDone r) s s)
        ∧ (∀ off len trig, x.writing = some (off, len, trig) → x.cmds = [] → Does (.recordDone r) s fun u =>
          let pad := if off = x.next then 0 else ringSize s r - x.next
          let post := if x.state = .triggered ∧ trig = false then x.post + pad + len else x.post
          (u.ring r).writing = none ∧ (u.ring r).next = (if off + len = ringSize s r then 0 else off + len)
            ∧ (u.ring r).records = x.records ++ [(off, len)] ∧ (u.ring r).post = post
            ∧ (u.ring r).state = (if x.state = .triggered ∧ ringPost s r ≤ post then .frozen else x.state)
            ∧ u.reg64 W.CAP CAP_RECORDS_LO = (s.reg64 W.CAP CAP_RECORDS_LO + 1) % 2 ^ 64)
        ∧ (x.state ≠ .frozen ∨ x.sealing = false → Effect (.digestDone r ok) s s)
        ∧ (x.state = .frozen → x.sealing = true → Does (.digestDone r ok) s fun u =>
          u.ring r = if ok then { x with
              sealing := false, done := true
              digest := sha256 (x.records.flatMap fun e => s.memBytes (ringBase s r + e.1) e.2) }
            else { x with sealing := false }))
    ∧ (∀ (i : Initiator) (r : Nat) (s : State), r < 8 → takes s i W.CAP CAP_CMD = true →
      let x := s.ring r
      let a := arrived i W.CAP s
      (∀ e ∈ [(1, Instr.capTrigger i r), (2, .capRelease i r), (3, .capFreeze i r)], x.writing ≠ none → Does e.2 s fun u =>
        u.ring r = { x with cmds := x.cmds ++ [e.1] })
        ∧ (x.writing = none →
          (x.state = .running → Does (.capTrigger i r) s fun u => u.ring r = { x with state := .triggered, trigOff := x.next, post := 0 })
            ∧ (x.state = .triggered ∨ x.state = .frozen → Does (.capTrigger i r) s fun u => u.rings = s.rings
              ∧ u.reg W.CAP CAP_TRIG_IGNORED = satAdd 32 (s.reg W.CAP CAP_TRIG_IGNORED) 1)
            ∧ (x.state = .stopped → Effect (.capTrigger i r) s a)
            ∧ (x.state = .frozen → Does (.capRelease i r) s fun u => u.mem = s.mem ∧ u.ring r = { x with
                state := .running, next := 0, trigOff := 0, post := 0, records := [], sealing := false, done := false })
            ∧ (x.state ≠ .frozen → Effect (.capRelease i r) s a)
            ∧ (x.state = .running ∨ x.state = .triggered → Does (.capFreeze i r) s fun u =>
              u.ring r = { x with state := .frozen, sealing := ringSeals s r })
            ∧ (x.state = .stopped ∨ x.state = .frozen → Effect (.capFreeze i r) s a)))
    ∧ (∀ (i : Initiator) (tj : Int) (s : State),
      let up := fun (u : State) (off : Nat) => kvGet 0 u.ldg.live off = (kvGet 0 s.ldg.live off + 1) % 2 ^ 64
      let off := s.reg W.LDG LDG_RD_OFF
      (mainRuns s = true → Does (.ledgerSecond tj) s fun u => up u (0x40 + 8 * tjBin tj)
        ∧ up u (0xC0 + 8 * vcoreBin (s.fld W.BAL BAL_VSTAT 11 0)) ∧ (s.pwr.state = .run → up u 0x260) ∧ (s.pwr.state = .doze → up u 0x268))
        ∧ (mainRuns s = false → Effect (.ledgerSecond tj) s s)
        ∧ (takes s i W.LDG LDG_CMD = true → Does (.snap i) s fun u => u.ldg.live = []
          ∧ u.ldg.snap = kvSet 0 s.ldg.live 0x390 s.ldg.retired ∧ u.ldg.retired = s.ldg.retired ∧ u.ldg.events = s.ldg.events)
        ∧ (readsPlain s i W.LDG LDG_RD_DATA = true → Does (.ldgRdDataRead i) s fun u =>
          u.bus = ⟨BitVec.ofNat 64 (snapWord s off), 0⟩ ∧ u.reg W.LDG LDG_RD_OFF = (off + 4) % 0x8000 ∧ u.ldg = s.ldg)
        ∧ (readsPlain s i W.LDG LDG_EVT_INFO = true →
          (s.ldg.events = [] → Effect (.ldgEvtPop i) s (busDone 0 s))
            ∧ ∀ e rest, s.ldg.events = e :: rest → Does (.ldgEvtPop i) s fun u =>
              u.bus = ⟨BitVec.ofNat 64 (2 ^ 31 + (rest.length + 1) * 2 ^ 16 + e.typ % 2 ^ 16), 0⟩ ∧ u.ldg.events = rest
                ∧ ∀ k, k < 9 → u.reg W.LDG (LDG_EVT_PL + 4 * k) = beNat (slice e.payload (4 * k) 4)))

/-- Frame: a command of one family leaves the state of the other families as it was (R5, R41, R56, R192, R216, R420, R427, R457, R477, R503, R508, R509). -/
def Obligations.CommandFamiliesKeepTheStateOfTheOthers : Prop :=
  ∀ (i : Initiator) (a b : Nat) (d : Word) (q : DWord) (tj : Int) (on on' : Bool) (l : List Byte) (ns : List Nat) (bad : List BadEntry)
    (s : State),
    let store := fun (t : State) => t.nor = s.nor ∧ t.fuses = s.fuses ∧ t.jwl = s.jwl ∧ t.vlt = s.vlt
    let tables := fun (t : State) => t.emt = s.emt ∧ t.wct = s.wct ∧ t.pset = s.pset ∧ t.cdm = s.cdm
    let engines := fun (t : State) => t.sge = s.sge ∧ t.aue = s.aue ∧ t.flow = s.flow
    let crown := fun (t : State) => t.crn = s.crn ∧ t.unnov = s.unnov ∧ t.straps = s.straps
    let edge := fun (t : State) => t.cx = s.cx ∧ t.nm = s.nm
    let queues := fun (t : State) => t.irts = s.irts ∧ t.outlets = s.outlets ∧ t.inlets = s.inlets
    (∀ c ∈ [Instr.irtClaim i a b, .irtComplete i a b d, .nmiPop i a b, .nmiIn, .irtSwiWrite i d, .outletMove, .outPop i a, .outDrop i a,
        .outletAge a, .inPush i a q], Does c s fun t => store t ∧ tables t ∧ engines t ∧ crown t ∧ edge t
          ∧ t.mem = s.mem ∧ t.twin = s.twin ∧ t.rings = s.rings ∧ t.ldg.live = s.ldg.live)
      ∧ (∀ c ∈ [Instr.lookup i bad, .planInsert i bad, .reserveModify i bad, .reserveDelete i bad, .planRehome i a bad, .execResv i bad,
        .abortResv i, .flush i a on, .flushDone, .rsvExpired, .learn, .refresh, .moveEntry, .agingSweep, .portFlush,
        .scrubVisit on on' bad, .wctWrite i, .wctRead i, .clrhits i, .psetWrite i, .psetRead i, .cadenceSweep bad, .polWrite i d bad,
        .polRead i d bad, .polClear i d bad, .gateChange a, .cdmWrite i d bad, .cdmRead i d bad, .resync i d bad], Does c s fun t =>
          store t ∧ engines t ∧ crown t ∧ edge t ∧ queues t ∧ t.mem = s.mem ∧ t.rings = s.rings)
      ∧ (∀ c ∈ [Instr.capTake, .recordDone a, .capTrigger i a, .capRelease i a, .capFreeze i a, .digestDone a on, .snap i,
        .ldgRdDataRead i, .ldgEvtPop i, .ledgerSecond tj], Does c s fun t =>
          store t ∧ tables t ∧ engines t ∧ crown t ∧ edge t ∧ queues t ∧ t.pol = s.pol ∧ t.twin = s.twin)
      ∧ (∀ c ∈ [Instr.fenceEdge a, .fenceDeadTimeout, .leadActive, .heartbeatMiss, .yield i, .claim i, .yieldEvent, .twinHeartbeatSend,
        .heartbeat l, .twinLinkRetrain a b, .nmDelta l, .bridgeWrite i d, .bridgeRead i, .brResp i l on, .brTimeout i, .twinLinkDown,
        .twinMessageResend], Does c s fun t => store t ∧ crown t ∧ edge t ∧ queues t ∧ t.mem = s.mem ∧ t.wct = s.wct ∧ t.cdm = s.cdm
          ∧ t.rings = s.rings)
      ∧ (∀ c ∈ [Instr.generate i d bad, .importKey i d bad, .derive i d bad, .deleteKey i d bad, .info i d bad, .save i d bad,
        .restore i d bad, .attest i d bad, .sign i d bad, .hmac i d bad, .remask a, .trnOutRead i, .healthTestFail on on', .startUpTest on,
        .openVault i d, .append i d, .seal i d, .raise i d, .timeSeal, .blockWriteDone on], Does c s fun t =>
          tables t ∧ crown t ∧ edge t ∧ queues t ∧ t.mem = s.mem ∧ t.twin = s.twin ∧ t.rings = s.rings)
      ∧ (∀ c ∈ [Instr.windowEnd ns on, .loopPeriod on, .pmbusTransactionEnd on on', .balVsetWrite i d, .balHistClr i d, .cancelSlot i a b,
        .cancelMatch i a, .cancelAll i a, .txevtPop i a, .txevtClr i a, .refMissed a], Does c s fun t =>
          store t ∧ crown t ∧ t.mem = s.mem ∧ t.irts = s.irts ∧ t.wct = s.wct ∧ t.nm = s.nm)
end

