-- ==== Sys2Proof/Laws/Bits.lean ====
section
/-! SUPPORT. Bit fields of numbers: what a field reads after a field is written. -/
namespace Sys2Proof.Machine

theorem testBit_bits (n hi lo i : Nat) : (bits n hi lo).testBit i = (decide (i < hi + 1 - lo) && n.testBit (lo + i)) := by
  simp [bits, Nat.testBit_mod_two_pow, Nat.testBit_shiftRight]

theorem bits_lt (n hi lo : Nat) : bits n hi lo < 2 ^ (hi + 1 - lo) := Nat.mod_lt _ (Nat.two_pow_pos _)

/-- A number is its part above a field, the field, and the part below. -/
theorem split_at_field (n lo k : Nat) : n = (n >>> lo / 2 ^ k * 2 ^ k + n >>> lo % 2 ^ k) * 2 ^ lo + n % 2 ^ lo := by
  have h1 := Nat.div_add_mod (n >>> lo) (2 ^ k)
  have h2 := Nat.div_add_mod n (2 ^ lo)
  rw [Nat.mul_comm] at h1
  rw [h1, Nat.shiftRight_eq_div_pow, Nat.mul_comm]
  exact h2.symm

/-- Writing a field keeps the parts around it. -/
theorem putBits_eq (n hi lo v : Nat) :
    putBits n hi lo v
      = (n >>> lo / 2 ^ (hi + 1 - lo) * 2 ^ (hi + 1 - lo) + v % 2 ^ (hi + 1 - lo)) * 2 ^ lo + n % 2 ^ lo := by
  generalize hk : hi + 1 - lo = k
  have hs := split_at_field n lo k
  unfold putBits bits
  rw [hk, Nat.shiftLeft_eq, Nat.shiftLeft_eq]
  rw [Nat.add_mul] at hs ⊢
  omega

theorem testBit_putBits (n hi lo v i : Nat) :
    (putBits n hi lo v).testBit i = if lo ≤ i ∧ i < hi + 1 then v.testBit (i - lo) else n.testBit i := by
  rw [putBits_eq]
  generalize hk : hi + 1 - lo = k
  have hlt : n % 2 ^ lo < 2 ^ lo := Nat.mod_lt _ (Nat.two_pow_pos _)
  have hv : v % 2 ^ k < 2 ^ k := Nat.mod_lt _ (Nat.two_pow_pos _)
  rw [Nat.mul_comm, Nat.testBit_two_pow_mul_add _ hlt]
  by_cases h1 : i < lo
  · rw [if_pos h1, if_neg (by omega), Nat.testBit_mod_two_pow]
    simp [h1]
  · rw [if_neg h1, Nat.mul_comm, Nat.testBit_two_pow_mul_add _ hv]
    by_cases h2 : i - lo < k
    · rw [if_pos h2, if_pos (by omega), Nat.testBit_mod_two_pow]
      simp [h2]
    · rw [if_neg h2, if_neg (by omega), Nat.testBit_div_two_pow, Nat.testBit_shiftRight]
      congr 1
      omega

/-- A field reads what was written into it. -/
@[simp] theorem bits_putBits_same (n hi lo v : Nat) : bits (putBits n hi lo v) hi lo = v % 2 ^ (hi + 1 - lo) := by
  apply Nat.eq_of_testBit_eq
  intro i
  rw [testBit_bits, testBit_putBits, Nat.testBit_mod_two_pow]
  by_cases h : i < hi + 1 - lo
  · rw [if_pos (by omega), show lo + i - lo = i by omega]
  · simp [h]

/-- A field reads as before where another was written. -/
theorem bits_putBits_other (n hi lo v hi' lo' : Nat) (h : hi' < lo ∨ hi < lo') : bits (putBits n hi lo v) hi' lo' = bits n hi' lo' := by
  apply Nat.eq_of_testBit_eq
  intro i
  rw [testBit_bits, testBit_bits, testBit_putBits]
  by_cases hi2 : i < hi' + 1 - lo'
  · rw [if_neg (by omega)]
  · simp [hi2]

theorem bit_putBits (n hi lo v i : Nat) :
    bit (putBits n hi lo v) i = if lo ≤ i ∧ i < hi + 1 then bit v (i - lo) else bit n i := testBit_putBits n hi lo v i

theorem putBits_lt (n hi lo v w : Nat) (hn : n < 2 ^ w) (h : hi < w) : putBits n hi lo v < 2 ^ w := by
  apply Nat.lt_pow_two_of_testBit
  intro i hi2
  rw [testBit_putBits, if_neg (by omega)]
  exact Nat.testBit_lt_two_pow (Nat.lt_of_lt_of_le hn (Nat.pow_le_pow_right (by decide) hi2))

theorem bits_mod (n hi lo w : Nat) (h : hi < w) : bits (n % 2 ^ w) hi lo = bits n hi lo := by
  apply Nat.eq_of_testBit_eq
  intro i
  rw [testBit_bits, testBit_bits, Nat.testBit_mod_two_pow]
  by_cases hi2 : i < hi + 1 - lo
  · simp [show lo + i < w by omega]
  · simp [hi2]

theorem bit_mod (n i w : Nat) (h : i < w) : bit (n % 2 ^ w) i = bit n i := by
  simp [bit, Nat.testBit_mod_two_pow, h]

@[simp] theorem bit_b2n (b : Bool) : bit (b2n b) 0 = b := by cases b <;> decide

theorem testBit_clearMask (n m i : Nat) : (clearMask n m).testBit i = (n.testBit i && decide (i < 32) && !m.testBit i) := by
  unfold clearMask
  rw [Nat.testBit_and, Nat.testBit_xor, Nat.testBit_mod_two_pow, show (0xFFFFFFFF : Nat) = 2 ^ 32 - 1 by decide,
    Nat.testBit_two_pow_sub_one]
  by_cases h : i < 32 <;> simp [h]

end Sys2Proof.Machine
end

