-- ==== Sys2Proof/Laws/Store.lean ====
section
/-! SUPPORT. Sparse stores: what a read finds after a write or a removal, and the canonical form. -/
namespace Sys2Proof.Machine

variable {α : Type}

theorem kvGet_filter_ne (d : α) (m : KV α) (k j : Nat) (h : j ≠ k) :
    kvGet d (m.filter fun e => e.1 != k) j = kvGet d m j := by
  induction m with
  | nil => rfl
  | cons e t ih =>
    obtain ⟨i, v⟩ := e
    by_cases hi : i = k
    · subst hi
      simp [kvGet, ih, h.symm]
    · simp [kvGet, ih, hi]

theorem kvGet_filter_self (d : α) (m : KV α) (k : Nat) :
    kvGet d (m.filter fun e => e.1 != k) k = d := by
  induction m with
  | nil => rfl
  | cons e t ih =>
    obtain ⟨i, v⟩ := e
    by_cases hi : i = k
    · simp [hi, ih]
    · simp [hi, kvGet, ih]

theorem kvGet_kvIns_same (d : α) (m : KV α) (k : Nat) (v : α) (hm : ∀ e ∈ m, e.1 ≠ k) :
    kvGet d (kvIns m k v) k = v := by
  induction m with
  | nil => simp [kvIns, kvGet]
  | cons e t ih =>
    obtain ⟨i, w⟩ := e
    have hi : i ≠ k := hm (i, w) (by simp)
    by_cases hk : k < i
    · simp [kvIns, hk, kvGet]
    · simp only [kvIns, hk, if_false, kvGet, hi]
      exact ih fun e he => hm e (by simp [he])

theorem kvGet_kvIns_other (d : α) (m : KV α) (k j : Nat) (v : α) (h : j ≠ k) :
    kvGet d (kvIns m k v) j = kvGet d m j := by
  induction m with
  | nil => simp [kvIns, kvGet, h.symm]
  | cons e t ih =>
    obtain ⟨i, w⟩ := e
    by_cases hk : k < i
    · simp [kvIns, hk, kvGet, h.symm]
    · simp only [kvIns, hk, if_false, kvGet, ih]

/-- A read finds what was written last. -/
@[simp] theorem kvGet_kvSet_same [DecidableEq α] (d : α) (m : KV α) (k : Nat) (v : α) :
    kvGet d (kvSet d m k v) k = v := by
  unfold kvSet
  by_cases hv : v = d
  · simp [hv, kvGet_filter_self]
  · simp only [hv, if_false]
    have hm : ∀ e ∈ m.filter (fun e => e.1 != k), e.1 ≠ k := by
      intro e he
      simpa using (List.mem_filter.mp he).2
    exact kvGet_kvIns_same d _ k v hm

/-- A write leaves every other key as it was. -/
theorem kvGet_kvSet_other [DecidableEq α] (d e : α) (m : KV α) (k j : Nat) (v : α) (h : j ≠ k) :
    kvGet e (kvSet d m k v) j = kvGet e m j := by
  unfold kvSet
  by_cases hv : v = d
  · simp [hv, kvGet_filter_ne e m k j h]
  · simp [hv, kvGet_kvIns_other e _ k j v h, kvGet_filter_ne e m k j h]

/-- Removing keys leaves the others as they were. -/
theorem kvGet_kvFilter (d : α) (p : Nat → Bool) (m : KV α) (k : Nat) :
    kvGet d (kvFilter p m) k = if p k then kvGet d m k else d := by
  unfold kvFilter
  induction m with
  | nil => simp [kvGet]
  | cons e t ih =>
    obtain ⟨i, v⟩ := e
    by_cases hp : p i
    · by_cases hi : i = k
      · subst hi; simp [hp, kvGet]
      · simp [hp, kvGet, hi, ih]
    · by_cases hi : i = k
      · subst hi; simp [hp, ih]
      · simp [hp, kvGet, hi, ih]

/-! ### The canonical form -/

/-- The canonical form, read off: rising keys and no default listed. -/
theorem kvWf_iff [DecidableEq α] (d : α) (m : KV α) :
    kvWf d m = true ↔ m.Pairwise (fun a b => a.1 < b.1) ∧ ∀ e ∈ m, e.2 ≠ d := by
  induction m with
  | nil => simp [kvWf]
  | cons e t ih =>
    obtain ⟨j, v⟩ := e
    cases t with
    | nil => simp [kvWf]
    | cons f u =>
      obtain ⟨k, w⟩ := f
      rw [show kvWf d ((j, v) :: (k, w) :: u) = (decide (v ≠ d) && decide (j < k) && kvWf d ((k, w) :: u)) from rfl]
      simp only [Bool.and_eq_true, decide_eq_true_eq, ih, List.pairwise_cons, List.mem_cons]
      constructor
      · rintro ⟨⟨hv, hjk⟩, ⟨hp1, hp2⟩, hd⟩
        refine ⟨⟨?_, hp1, hp2⟩, ?_⟩
        · rintro a (rfl | ha)
          · exact hjk
          · exact Nat.lt_trans hjk (hp1 a ha)
        · rintro a (rfl | rfl | ha)
          · exact hv
          · exact hd _ (.inl rfl)
          · exact hd _ (.inr ha)
      · rintro ⟨⟨h1, hp1, hp2⟩, hd⟩
        exact ⟨⟨hd _ (.inl rfl), h1 _ (.inl rfl)⟩, ⟨hp1, hp2⟩, fun a ha => hd a (.inr ha)⟩

theorem mem_kvIns (m : KV α) (k : Nat) (v : α) (e : Nat × α) : e ∈ kvIns m k v ↔ e = (k, v) ∨ e ∈ m := by
  induction m with
  | nil => simp [kvIns]
  | cons f t ih =>
    obtain ⟨i, w⟩ := f
    by_cases hk : k < i
    · simp [kvIns, hk]
    · simp only [kvIns, hk, if_false, List.mem_cons, ih]
      exact or_left_comm

theorem pairwise_kvIns (m : KV α) (k : Nat) (v : α) (hm : m.Pairwise (fun a b => a.1 < b.1)) (hk : ∀ e ∈ m, e.1 ≠ k) :
    (kvIns m k v).Pairwise (fun a b => a.1 < b.1) := by
  induction m with
  | nil => simp [kvIns]
  | cons f t ih =>
    obtain ⟨i, w⟩ := f
    rw [List.pairwise_cons] at hm
    by_cases hki : k < i
    · simp only [kvIns, hki, if_true, List.pairwise_cons, List.mem_cons]
      refine ⟨?_, hm⟩
      rintro a (rfl | ha)
      · exact hki
      · exact Nat.lt_trans hki (hm.1 a ha)
    · have hne : i ≠ k := hk (i, w) (by simp)
      simp only [kvIns, hki, if_false, List.pairwise_cons]
      refine ⟨?_, ih hm.2 fun e he => hk e (by simp [he])⟩
      intro a ha
      rcases (mem_kvIns t k v a).mp ha with rfl | ha
      · simp; omega
      · exact hm.1 a ha

/-- A write keeps the canonical form. -/
theorem kvSet_wf [DecidableEq α] (d : α) (m : KV α) (k : Nat) (v : α) (h : kvWf d m = true) : kvWf d (kvSet d m k v) = true := by
  rw [kvWf_iff] at h ⊢
  have hf : (m.filter fun e => e.1 != k).Pairwise (fun a b => a.1 < b.1) := h.1.filter _
  have hd : ∀ e ∈ m.filter (fun e => e.1 != k), e.2 ≠ d := fun e he => h.2 e (List.mem_filter.mp he).1
  unfold kvSet
  by_cases hv : v = d
  · simpa [hv] using And.intro hf hd
  · simp only [hv, if_false]
    refine ⟨pairwise_kvIns _ k v hf fun e he => by simpa using (List.mem_filter.mp he).2, ?_⟩
    intro e he
    rcases (mem_kvIns _ k v e).mp he with rfl | he
    · exact hv
    · exact hd e he

/-- A removal keeps the canonical form. -/
theorem kvFilter_wf [DecidableEq α] (d : α) (p : Nat → Bool) (m : KV α) (h : kvWf d m = true) : kvWf d (kvFilter p m) = true := by
  rw [kvWf_iff] at h ⊢
  exact ⟨h.1.filter _, fun e he => h.2 e (List.mem_filter.mp he).1⟩

end Sys2Proof.Machine
end

