-- ==== Sys2Proof/Laws/State.lean ====
section
/-! SUPPORT. One lemma per field of `State` per update, so that no proof unfolds a record update; and what a register, a shadow, a
window or a source holds after a write. -/
namespace Sys2Proof.Machine

variable (s : State)

/-! ### The register file -/

@[simp] theorem reg_setReg_same (w off v : Nat) : (s.setReg w off v).reg w off = v % 2 ^ 32 := by
  simp [State.reg, State.setReg]

theorem reg_setReg_other (w off v w' off' : Nat) (h : regKey w' off' ≠ regKey w off) :
    (s.setReg w off v).reg w' off' = s.reg w' off' := by
  simp [State.reg, State.setReg, kvGet_kvSet_other _ _ _ _ _ _ h]

@[simp] theorem shadow_setShadow_same (w off v : Nat) : (s.setShadow w off v).shadow w off = v % 2 ^ 32 := by
  simp [State.shadow, State.setShadow]

theorem shadow_setShadow_other (w off v w' off' : Nat) (h : regKey w' off' ≠ regKey w off) :
    (s.setShadow w off v).shadow w' off' = s.shadow w' off' := by
  simp [State.shadow, State.setShadow, kvGet_kvSet_other _ _ _ _ _ _ h]

/-- Offsets inside a window's 8 KiB of registers are told apart by the key. -/
theorem regKey_inj (w off w' off' : Nat) (h : off < 0x2000) (h' : off' < 0x2000) :
    regKey w off = regKey w' off' ↔ w = w' ∧ off = off' := by
  unfold regKey
  omega

theorem reg_lt (w off : Nat) : s.reg w off < 2 ^ 32 := by
  unfold State.reg
  omega

@[simp] theorem win_setWin_same (w : Nat) (x : Win) : (s.setWin w x).win w = x := by simp [State.win, State.setWin]

theorem win_setWin_other (w w' : Nat) (x : Win) (h : w' ≠ w) : (s.setWin w x).win w' = s.win w' := by
  simp [State.win, State.setWin, kvGet_kvSet_other _ _ _ _ _ _ h]

@[simp] theorem source_setSource_same (w k : Nat) (x : Source) : (s.setSource w k x).source w k = x := by
  simp [State.source, State.setSource]

theorem source_setSource_other (w k w' k' : Nat) (x : Source) (h : srcKey w' k' ≠ srcKey w k) :
    (s.setSource w k x).source w' k' = s.source w' k' := by
  simp [State.source, State.setSource, kvGet_kvSet_other _ _ _ _ _ _ h]

theorem reg_congr {s t : State} (h : s.regs = t.regs) (w off : Nat) : s.reg w off = t.reg w off := by rw [State.reg, State.reg, h]
theorem fld_congr {s t : State} (h : s.regs = t.regs) (w off hi lo : Nat) : s.fld w off hi lo = t.fld w off hi lo := by
  rw [State.fld, State.fld, reg_congr h]
theorem flag_congr {s t : State} (h : s.regs = t.regs) (w off i : Nat) : s.flag w off i = t.flag w off i := by
  rw [State.flag, State.flag, reg_congr h]
theorem reg64_congr {s t : State} (h : s.regs = t.regs) (w off : Nat) : s.reg64 w off = t.reg64 w off := by
  rw [State.reg64, State.reg64, reg_congr h, reg_congr h]
theorem shadow_congr {s t : State} (h : s.shad = t.shad) (w off : Nat) : s.shadow w off = t.shadow w off := by
  rw [State.shadow, State.shadow, h]
theorem win_congr {s t : State} (h : s.wins = t.wins) (w : Nat) : s.win w = t.win w := by rw [State.win, State.win, h]
theorem source_congr {s t : State} (h : s.sources = t.sources) (w k : Nat) : s.source w k = t.source w k := by
  rw [State.source, State.source, h]

/-! ### Derived register writes -/

theorem setFld_eq (w off hi lo v : Nat) : s.setFld w off hi lo v = s.setReg w off (putBits (s.reg w off) hi lo v) := rfl
theorem setFlag_eq (w off i : Nat) (b : Bool) : s.setFlag w off i b = s.setReg w off (putBits (s.reg w off) i i (b2n b)) := rfl
theorem count_eq (w off : Nat) : s.count w off = s.setReg w off (satAdd 32 (s.reg w off) 1) := rfl
theorem countBy_eq (w off k : Nat) : s.countBy w off k = s.setReg w off (satAdd 32 (s.reg w off) k) := rfl
theorem countWrap_eq (w off k : Nat) : s.countWrap w off k = s.setReg w off (s.reg w off + k) := rfl
theorem raise_eq (w k loc : Nat) : s.raise w k loc = s.post ⟨w, k, .event, loc, false⟩ := rfl
theorem raise0_eq (w k : Nat) : s.raise0 w k = s.post ⟨w, k, .event, locSelf w, false⟩ := rfl

/-! ### Fields of registers -/

theorem fld_setFld_same (w off hi lo v : Nat) (h : hi < 32) : (s.setFld w off hi lo v).fld w off hi lo = v % 2 ^ (hi + 1 - lo) := by
  rw [State.fld, setFld_eq, reg_setReg_same, bits_mod _ _ _ _ h, bits_putBits_same]

theorem fld_setFld_apart (w off hi lo v hi' lo' : Nat) (h : hi' < 32) (ha : hi' < lo ∨ hi < lo') :
    (s.setFld w off hi lo v).fld w off hi' lo' = s.fld w off hi' lo' := by
  rw [State.fld, setFld_eq, reg_setReg_same, bits_mod _ _ _ _ h, bits_putBits_other _ _ _ _ _ _ ha, State.fld]

theorem fld_setFld_other (w off hi lo v w' off' hi' lo' : Nat) (h : regKey w' off' ≠ regKey w off) :
    (s.setFld w off hi lo v).fld w' off' hi' lo' = s.fld w' off' hi' lo' := by
  rw [State.fld, setFld_eq, reg_setReg_other _ _ _ _ _ _ h, State.fld]

theorem flag_setFlag_same (w off i : Nat) (b : Bool) (h : i < 32) : (s.setFlag w off i b).flag w off i = b := by
  rw [State.flag, setFlag_eq, reg_setReg_same, bit_mod _ _ _ h, bit_putBits, if_pos (by omega)]
  simp

theorem flag_setFlag_apart (w off i j : Nat) (b : Bool) (h : j < 32) (hj : j ≠ i) :
    (s.setFlag w off i b).flag w off j = s.flag w off j := by
  rw [State.flag, setFlag_eq, reg_setReg_same, bit_mod _ _ _ h, bit_putBits, if_neg (by omega), State.flag]

theorem flag_setFlag_other (w off i w' off' j : Nat) (b : Bool) (h : regKey w' off' ≠ regKey w off) :
    (s.setFlag w off i b).flag w' off' j = s.flag w' off' j := by
  rw [State.flag, setFlag_eq, reg_setReg_other _ _ _ _ _ _ h, State.flag]

/-- A saturating counter below its end counts one (R15). -/
theorem reg_count_same (w off : Nat) : (s.count w off).reg w off = min (s.reg w off + 1) (2 ^ 32 - 1) := by
  rw [count_eq, reg_setReg_same]
  have := reg_lt s w off
  unfold satAdd
  omega

/-! ### Fields: one update each -/

/-! `State.setReg` -/
@[simp] theorem setReg_pending (w off v : Nat) : (s.setReg w off v).pending = s.pending := rfl
@[simp] theorem setReg_shad (w off v : Nat) : (s.setReg w off v).shad = s.shad := rfl
@[simp] theorem setReg_wins (w off v : Nat) : (s.setReg w off v).wins = s.wins := rfl
@[simp] theorem setReg_bus (w off v : Nat) : (s.setReg w off v).bus = s.bus := rfl
@[simp] theorem setReg_deferred (w off v : Nat) : (s.setReg w off v).deferred = s.deferred := rfl
@[simp] theorem setReg_shared (w off v : Nat) : (s.setReg w off v).shared = s.shared := rfl
@[simp] theorem setReg_icxLog (w off v : Nat) : (s.setReg w off v).icxLog = s.icxLog := rfl
@[simp] theorem setReg_icxLost (w off v : Nat) : (s.setReg w off v).icxLost = s.icxLost := rfl
@[simp] theorem setReg_sources (w off v : Nat) : (s.setReg w off v).sources = s.sources := rfl
@[simp] theorem setReg_posts (w off v : Nat) : (s.setReg w off v).posts = s.posts := rfl
@[simp] theorem setReg_errPin (w off v : Nat) : (s.setReg w off v).errPin = s.errPin := rfl
@[simp] theorem setReg_bal (w off v : Nat) : (s.setReg w off v).bal = s.bal := rfl
@[simp] theorem setReg_trains (w off v : Nat) : (s.setReg w off v).trains = s.trains := rfl
@[simp] theorem setReg_pairs (w off v : Nat) : (s.setReg w off v).pairs = s.pairs := rfl
@[simp] theorem setReg_rsqPeak (w off v : Nat) : (s.setReg w off v).rsqPeak = s.rsqPeak := rfl
@[simp] theorem setReg_pond (w off v : Nat) : (s.setReg w off v).pond = s.pond := rfl
@[simp] theorem setReg_dials (w off v : Nat) : (s.setReg w off v).dials = s.dials := rfl
@[simp] theorem setReg_tms (w off v : Nat) : (s.setReg w off v).tms = s.tms := rfl
@[simp] theorem setReg_ldg (w off v : Nat) : (s.setReg w off v).ldg = s.ldg := rfl
@[simp] theorem setReg_rings (w off v : Nat) : (s.setReg w off v).rings = s.rings := rfl
@[simp] theorem setReg_emt (w off v : Nat) : (s.setReg w off v).emt = s.emt := rfl
@[simp] theorem setReg_wct (w off v : Nat) : (s.setReg w off v).wct = s.wct := rfl
@[simp] theorem setReg_pset (w off v : Nat) : (s.setReg w off v).pset = s.pset := rfl
@[simp] theorem setReg_pol (w off v : Nat) : (s.setReg w off v).pol = s.pol := rfl
@[simp] theorem setReg_cdm (w off v : Nat) : (s.setReg w off v).cdm = s.cdm := rfl
@[simp] theorem setReg_pwr (w off v : Nat) : (s.setReg w off v).pwr = s.pwr := rfl
@[simp] theorem setReg_shores (w off v : Nat) : (s.setReg w off v).shores = s.shores := rfl
@[simp] theorem setReg_mem (w off v : Nat) : (s.setReg w off v).mem = s.mem := rfl
@[simp] theorem setReg_nor (w off v : Nat) : (s.setReg w off v).nor = s.nor := rfl
@[simp] theorem setReg_sge (w off v : Nat) : (s.setReg w off v).sge = s.sge := rfl
@[simp] theorem setReg_fuses (w off v : Nat) : (s.setReg w off v).fuses = s.fuses := rfl
@[simp] theorem setReg_jwl (w off v : Nat) : (s.setReg w off v).jwl = s.jwl := rfl
@[simp] theorem setReg_trnReqs (w off v : Nat) : (s.setReg w off v).trnReqs = s.trnReqs := rfl
@[simp] theorem setReg_vlt (w off v : Nat) : (s.setReg w off v).vlt = s.vlt := rfl
@[simp] theorem setReg_aue (w off v : Nat) : (s.setReg w off v).aue = s.aue := rfl
@[simp] theorem setReg_bridges (w off v : Nat) : (s.setReg w off v).bridges = s.bridges := rfl
@[simp] theorem setReg_trx (w off v : Nat) : (s.setReg w off v).trx = s.trx := rfl
@[simp] theorem setReg_t1l (w off v : Nat) : (s.setReg w off v).t1l = s.t1l := rfl
@[simp] theorem setReg_cx (w off v : Nat) : (s.setReg w off v).cx = s.cx := rfl
@[simp] theorem setReg_nm (w off v : Nat) : (s.setReg w off v).nm = s.nm := rfl
@[simp] theorem setReg_nmReports (w off v : Nat) : (s.setReg w off v).nmReports = s.nmReports := rfl
@[simp] theorem setReg_s2s (w off v : Nat) : (s.setReg w off v).s2s = s.s2s := rfl
@[simp] theorem setReg_emc (w off v : Nat) : (s.setReg w off v).emc = s.emc := rfl
@[simp] theorem setReg_frer (w off v : Nat) : (s.setReg w off v).frer = s.frer := rfl
@[simp] theorem setReg_flow (w off v : Nat) : (s.setReg w off v).flow = s.flow := rfl
@[simp] theorem setReg_wakeFids (w off v : Nat) : (s.setReg w off v).wakeFids = s.wakeFids := rfl
@[simp] theorem setReg_outlets (w off v : Nat) : (s.setReg w off v).outlets = s.outlets := rfl
@[simp] theorem setReg_inlets (w off v : Nat) : (s.setReg w off v).inlets = s.inlets := rfl
@[simp] theorem setReg_irts (w off v : Nat) : (s.setReg w off v).irts = s.irts := rfl
@[simp] theorem setReg_dmc (w off v : Nat) : (s.setReg w off v).dmc = s.dmc := rfl
@[simp] theorem setReg_xsp (w off v : Nat) : (s.setReg w off v).xsp = s.xsp := rfl
@[simp] theorem setReg_crn (w off v : Nat) : (s.setReg w off v).crn = s.crn := rfl
@[simp] theorem setReg_unnov (w off v : Nat) : (s.setReg w off v).unnov = s.unnov := rfl
@[simp] theorem setReg_straps (w off v : Nat) : (s.setReg w off v).straps = s.straps := rfl
@[simp] theorem setReg_twin (w off v : Nat) : (s.setReg w off v).twin = s.twin := rfl
@[simp] theorem setReg_free (w off v : Nat) : (s.setReg w off v).free = s.free := rfl

/-! `State.setShadow` -/
@[simp] theorem setShadow_pending (w off v : Nat) : (s.setShadow w off v).pending = s.pending := rfl
@[simp] theorem setShadow_regs (w off v : Nat) : (s.setShadow w off v).regs = s.regs := rfl
@[simp] theorem setShadow_wins (w off v : Nat) : (s.setShadow w off v).wins = s.wins := rfl
@[simp] theorem setShadow_bus (w off v : Nat) : (s.setShadow w off v).bus = s.bus := rfl
@[simp] theorem setShadow_deferred (w off v : Nat) : (s.setShadow w off v).deferred = s.deferred := rfl
@[simp] theorem setShadow_shared (w off v : Nat) : (s.setShadow w off v).shared = s.shared := rfl
@[simp] theorem setShadow_icxLog (w off v : Nat) : (s.setShadow w off v).icxLog = s.icxLog := rfl
@[simp] theorem setShadow_icxLost (w off v : Nat) : (s.setShadow w off v).icxLost = s.icxLost := rfl
@[simp] theorem setShadow_sources (w off v : Nat) : (s.setShadow w off v).sources = s.sources := rfl
@[simp] theorem setShadow_posts (w off v : Nat) : (s.setShadow w off v).posts = s.posts := rfl
@[simp] theorem setShadow_errPin (w off v : Nat) : (s.setShadow w off v).errPin = s.errPin := rfl
@[simp] theorem setShadow_bal (w off v : Nat) : (s.setShadow w off v).bal = s.bal := rfl
@[simp] theorem setShadow_trains (w off v : Nat) : (s.setShadow w off v).trains = s.trains := rfl
@[simp] theorem setShadow_pairs (w off v : Nat) : (s.setShadow w off v).pairs = s.pairs := rfl
@[simp] theorem setShadow_rsqPeak (w off v : Nat) : (s.setShadow w off v).rsqPeak = s.rsqPeak := rfl
@[simp] theorem setShadow_pond (w off v : Nat) : (s.setShadow w off v).pond = s.pond := rfl
@[simp] theorem setShadow_dials (w off v : Nat) : (s.setShadow w off v).dials = s.dials := rfl
@[simp] theorem setShadow_tms (w off v : Nat) : (s.setShadow w off v).tms = s.tms := rfl
@[simp] theorem setShadow_ldg (w off v : Nat) : (s.setShadow w off v).ldg = s.ldg := rfl
@[simp] theorem setShadow_rings (w off v : Nat) : (s.setShadow w off v).rings = s.rings := rfl
@[simp] theorem setShadow_emt (w off v : Nat) : (s.setShadow w off v).emt = s.emt := rfl
@[simp] theorem setShadow_wct (w off v : Nat) : (s.setShadow w off v).wct = s.wct := rfl
@[simp] theorem setShadow_pset (w off v : Nat) : (s.setShadow w off v).pset = s.pset := rfl
@[simp] theorem setShadow_pol (w off v : Nat) : (s.setShadow w off v).pol = s.pol := rfl
@[simp] theorem setShadow_cdm (w off v : Nat) : (s.setShadow w off v).cdm = s.cdm := rfl
@[simp] theorem setShadow_pwr (w off v : Nat) : (s.setShadow w off v).pwr = s.pwr := rfl
@[simp] theorem setShadow_shores (w off v : Nat) : (s.setShadow w off v).shores = s.shores := rfl
@[simp] theorem setShadow_mem (w off v : Nat) : (s.setShadow w off v).mem = s.mem := rfl
@[simp] theorem setShadow_nor (w off v : Nat) : (s.setShadow w off v).nor = s.nor := rfl
@[simp] theorem setShadow_sge (w off v : Nat) : (s.setShadow w off v).sge = s.sge := rfl
@[simp] theorem setShadow_fuses (w off v : Nat) : (s.setShadow w off v).fuses = s.fuses := rfl
@[simp] theorem setShadow_jwl (w off v : Nat) : (s.setShadow w off v).jwl = s.jwl := rfl
@[simp] theorem setShadow_trnReqs (w off v : Nat) : (s.setShadow w off v).trnReqs = s.trnReqs := rfl
@[simp] theorem setShadow_vlt (w off v : Nat) : (s.setShadow w off v).vlt = s.vlt := rfl
@[simp] theorem setShadow_aue (w off v : Nat) : (s.setShadow w off v).aue = s.aue := rfl
@[simp] theorem setShadow_bridges (w off v : Nat) : (s.setShadow w off v).bridges = s.bridges := rfl
@[simp] theorem setShadow_trx (w off v : Nat) : (s.setShadow w off v).trx = s.trx := rfl
@[simp] theorem setShadow_t1l (w off v : Nat) : (s.setShadow w off v).t1l = s.t1l := rfl
@[simp] theorem setShadow_cx (w off v : Nat) : (s.setShadow w off v).cx = s.cx := rfl
@[simp] theorem setShadow_nm (w off v : Nat) : (s.setShadow w off v).nm = s.nm := rfl
@[simp] theorem setShadow_nmReports (w off v : Nat) : (s.setShadow w off v).nmReports = s.nmReports := rfl
@[simp] theorem setShadow_s2s (w off v : Nat) : (s.setShadow w off v).s2s = s.s2s := rfl
@[simp] theorem setShadow_emc (w off v : Nat) : (s.setShadow w off v).emc = s.emc := rfl
@[simp] theorem setShadow_frer (w off v : Nat) : (s.setShadow w off v).frer = s.frer := rfl
@[simp] theorem setShadow_flow (w off v : Nat) : (s.setShadow w off v).flow = s.flow := rfl
@[simp] theorem setShadow_wakeFids (w off v : Nat) : (s.setShadow w off v).wakeFids = s.wakeFids := rfl
@[simp] theorem setShadow_outlets (w off v : Nat) : (s.setShadow w off v).outlets = s.outlets := rfl
@[simp] theorem setShadow_inlets (w off v : Nat) : (s.setShadow w off v).inlets = s.inlets := rfl
@[simp] theorem setShadow_irts (w off v : Nat) : (s.setShadow w off v).irts = s.irts := rfl
@[simp] theorem setShadow_dmc (w off v : Nat) : (s.setShadow w off v).dmc = s.dmc := rfl
@[simp] theorem setShadow_xsp (w off v : Nat) : (s.setShadow w off v).xsp = s.xsp := rfl
@[simp] theorem setShadow_crn (w off v : Nat) : (s.setShadow w off v).crn = s.crn := rfl
@[simp] theorem setShadow_unnov (w off v : Nat) : (s.setShadow w off v).unnov = s.unnov := rfl
@[simp] theorem setShadow_straps (w off v : Nat) : (s.setShadow w off v).straps = s.straps := rfl
@[simp] theorem setShadow_twin (w off v : Nat) : (s.setShadow w off v).twin = s.twin := rfl
@[simp] theorem setShadow_free (w off v : Nat) : (s.setShadow w off v).free = s.free := rfl

/-! `State.setWin` -/
@[simp] theorem setWin_pending (w : Nat) (x : Win) : (s.setWin w x).pending = s.pending := rfl
@[simp] theorem setWin_regs (w : Nat) (x : Win) : (s.setWin w x).regs = s.regs := rfl
@[simp] theorem setWin_shad (w : Nat) (x : Win) : (s.setWin w x).shad = s.shad := rfl
@[simp] theorem setWin_bus (w : Nat) (x : Win) : (s.setWin w x).bus = s.bus := rfl
@[simp] theorem setWin_deferred (w : Nat) (x : Win) : (s.setWin w x).deferred = s.deferred := rfl
@[simp] theorem setWin_shared (w : Nat) (x : Win) : (s.setWin w x).shared = s.shared := rfl
@[simp] theorem setWin_icxLog (w : Nat) (x : Win) : (s.setWin w x).icxLog = s.icxLog := rfl
@[simp] theorem setWin_icxLost (w : Nat) (x : Win) : (s.setWin w x).icxLost = s.icxLost := rfl
@[simp] theorem setWin_sources (w : Nat) (x : Win) : (s.setWin w x).sources = s.sources := rfl
@[simp] theorem setWin_posts (w : Nat) (x : Win) : (s.setWin w x).posts = s.posts := rfl
@[simp] theorem setWin_errPin (w : Nat) (x : Win) : (s.setWin w x).errPin = s.errPin := rfl
@[simp] theorem setWin_bal (w : Nat) (x : Win) : (s.setWin w x).bal = s.bal := rfl
@[simp] theorem setWin_trains (w : Nat) (x : Win) : (s.setWin w x).trains = s.trains := rfl
@[simp] theorem setWin_pairs (w : Nat) (x : Win) : (s.setWin w x).pairs = s.pairs := rfl
@[simp] theorem setWin_rsqPeak (w : Nat) (x : Win) : (s.setWin w x).rsqPeak = s.rsqPeak := rfl
@[simp] theorem setWin_pond (w : Nat) (x : Win) : (s.setWin w x).pond = s.pond := rfl
@[simp] theorem setWin_dials (w : Nat) (x : Win) : (s.setWin w x).dials = s.dials := rfl
@[simp] theorem setWin_tms (w : Nat) (x : Win) : (s.setWin w x).tms = s.tms := rfl
@[simp] theorem setWin_ldg (w : Nat) (x : Win) : (s.setWin w x).ldg = s.ldg := rfl
@[simp] theorem setWin_rings (w : Nat) (x : Win) : (s.setWin w x).rings = s.rings := rfl
@[simp] theorem setWin_emt (w : Nat) (x : Win) : (s.setWin w x).emt = s.emt := rfl
@[simp] theorem setWin_wct (w : Nat) (x : Win) : (s.setWin w x).wct = s.wct := rfl
@[simp] theorem setWin_pset (w : Nat) (x : Win) : (s.setWin w x).pset = s.pset := rfl
@[simp] theorem setWin_pol (w : Nat) (x : Win) : (s.setWin w x).pol = s.pol := rfl
@[simp] theorem setWin_cdm (w : Nat) (x : Win) : (s.setWin w x).cdm = s.cdm := rfl
@[simp] theorem setWin_pwr (w : Nat) (x : Win) : (s.setWin w x).pwr = s.pwr := rfl
@[simp] theorem setWin_shores (w : Nat) (x : Win) : (s.setWin w x).shores = s.shores := rfl
@[simp] theorem setWin_mem (w : Nat) (x : Win) : (s.setWin w x).mem = s.mem := rfl
@[simp] theorem setWin_nor (w : Nat) (x : Win) : (s.setWin w x).nor = s.nor := rfl
@[simp] theorem setWin_sge (w : Nat) (x : Win) : (s.setWin w x).sge = s.sge := rfl
@[simp] theorem setWin_fuses (w : Nat) (x : Win) : (s.setWin w x).fuses = s.fuses := rfl
@[simp] theorem setWin_jwl (w : Nat) (x : Win) : (s.setWin w x).jwl = s.jwl := rfl
@[simp] theorem setWin_trnReqs (w : Nat) (x : Win) : (s.setWin w x).trnReqs = s.trnReqs := rfl
@[simp] theorem setWin_vlt (w : Nat) (x : Win) : (s.setWin w x).vlt = s.vlt := rfl
@[simp] theorem setWin_aue (w : Nat) (x : Win) : (s.setWin w x).aue = s.aue := rfl
@[simp] theorem setWin_bridges (w : Nat) (x : Win) : (s.setWin w x).bridges = s.bridges := rfl
@[simp] theorem setWin_trx (w : Nat) (x : Win) : (s.setWin w x).trx = s.trx := rfl
@[simp] theorem setWin_t1l (w : Nat) (x : Win) : (s.setWin w x).t1l = s.t1l := rfl
@[simp] theorem setWin_cx (w : Nat) (x : Win) : (s.setWin w x).cx = s.cx := rfl
@[simp] theorem setWin_nm (w : Nat) (x : Win) : (s.setWin w x).nm = s.nm := rfl
@[simp] theorem setWin_nmReports (w : Nat) (x : Win) : (s.setWin w x).nmReports = s.nmReports := rfl
@[simp] theorem setWin_s2s (w : Nat) (x : Win) : (s.setWin w x).s2s = s.s2s := rfl
@[simp] theorem setWin_emc (w : Nat) (x : Win) : (s.setWin w x).emc = s.emc := rfl
@[simp] theorem setWin_frer (w : Nat) (x : Win) : (s.setWin w x).frer = s.frer := rfl
@[simp] theorem setWin_flow (w : Nat) (x : Win) : (s.setWin w x).flow = s.flow := rfl
@[simp] theorem setWin_wakeFids (w : Nat) (x : Win) : (s.setWin w x).wakeFids = s.wakeFids := rfl
@[simp] theorem setWin_outlets (w : Nat) (x : Win) : (s.setWin w x).outlets = s.outlets := rfl
@[simp] theorem setWin_inlets (w : Nat) (x : Win) : (s.setWin w x).inlets = s.inlets := rfl
@[simp] theorem setWin_irts (w : Nat) (x : Win) : (s.setWin w x).irts = s.irts := rfl
@[simp] theorem setWin_dmc (w : Nat) (x : Win) : (s.setWin w x).dmc = s.dmc := rfl
@[simp] theorem setWin_xsp (w : Nat) (x : Win) : (s.setWin w x).xsp = s.xsp := rfl
@[simp] theorem setWin_crn (w : Nat) (x : Win) : (s.setWin w x).crn = s.crn := rfl
@[simp] theorem setWin_unnov (w : Nat) (x : Win) : (s.setWin w x).unnov = s.unnov := rfl
@[simp] theorem setWin_straps (w : Nat) (x : Win) : (s.setWin w x).straps = s.straps := rfl
@[simp] theorem setWin_twin (w : Nat) (x : Win) : (s.setWin w x).twin = s.twin := rfl
@[simp] theorem setWin_free (w : Nat) (x : Win) : (s.setWin w x).free = s.free := rfl

/-! `State.setSource` -/
@[simp] theorem setSource_pending (w k : Nat) (x : Source) : (s.setSource w k x).pending = s.pending := rfl
@[simp] theorem setSource_regs (w k : Nat) (x : Source) : (s.setSource w k x).regs = s.regs := rfl
@[simp] theorem setSource_shad (w k : Nat) (x : Source) : (s.setSource w k x).shad = s.shad := rfl
@[simp] theorem setSource_wins (w k : Nat) (x : Source) : (s.setSource w k x).wins = s.wins := rfl
@[simp] theorem setSource_bus (w k : Nat) (x : Source) : (s.setSource w k x).bus = s.bus := rfl
@[simp] theorem setSource_deferred (w k : Nat) (x : Source) : (s.setSource w k x).deferred = s.deferred := rfl
@[simp] theorem setSource_shared (w k : Nat) (x : Source) : (s.setSource w k x).shared = s.shared := rfl
@[simp] theorem setSource_icxLog (w k : Nat) (x : Source) : (s.setSource w k x).icxLog = s.icxLog := rfl
@[simp] theorem setSource_icxLost (w k : Nat) (x : Source) : (s.setSource w k x).icxLost = s.icxLost := rfl
@[simp] theorem setSource_posts (w k : Nat) (x : Source) : (s.setSource w k x).posts = s.posts := rfl
@[simp] theorem setSource_errPin (w k : Nat) (x : Source) : (s.setSource w k x).errPin = s.errPin := rfl
@[simp] theorem setSource_bal (w k : Nat) (x : Source) : (s.setSource w k x).bal = s.bal := rfl
@[simp] theorem setSource_trains (w k : Nat) (x : Source) : (s.setSource w k x).trains = s.trains := rfl
@[simp] theorem setSource_pairs (w k : Nat) (x : Source) : (s.setSource w k x).pairs = s.pairs := rfl
@[simp] theorem setSource_rsqPeak (w k : Nat) (x : Source) : (s.setSource w k x).rsqPeak = s.rsqPeak := rfl
@[simp] theorem setSource_pond (w k : Nat) (x : Source) : (s.setSource w k x).pond = s.pond := rfl
@[simp] theorem setSource_dials (w k : Nat) (x : Source) : (s.setSource w k x).dials = s.dials := rfl
@[simp] theorem setSource_tms (w k : Nat) (x : Source) : (s.setSource w k x).tms = s.tms := rfl
@[simp] theorem setSource_ldg (w k : Nat) (x : Source) : (s.setSource w k x).ldg = s.ldg := rfl
@[simp] theorem setSource_rings (w k : Nat) (x : Source) : (s.setSource w k x).rings = s.rings := rfl
@[simp] theorem setSource_emt (w k : Nat) (x : Source) : (s.setSource w k x).emt = s.emt := rfl
@[simp] theorem setSource_wct (w k : Nat) (x : Source) : (s.setSource w k x).wct = s.wct := rfl
@[simp] theorem setSource_pset (w k : Nat) (x : Source) : (s.setSource w k x).pset = s.pset := rfl
@[simp] theorem setSource_pol (w k : Nat) (x : Source) : (s.setSource w k x).pol = s.pol := rfl
@[simp] theorem setSource_cdm (w k : Nat) (x : Source) : (s.setSource w k x).cdm = s.cdm := rfl
@[simp] theorem setSource_pwr (w k : Nat) (x : Source) : (s.setSource w k x).pwr = s.pwr := rfl
@[simp] theorem setSource_shores (w k : Nat) (x : Source) : (s.setSource w k x).shores = s.shores := rfl
@[simp] theorem setSource_mem (w k : Nat) (x : Source) : (s.setSource w k x).mem = s.mem := rfl
@[simp] theorem setSource_nor (w k : Nat) (x : Source) : (s.setSource w k x).nor = s.nor := rfl
@[simp] theorem setSource_sge (w k : Nat) (x : Source) : (s.setSource w k x).sge = s.sge := rfl
@[simp] theorem setSource_fuses (w k : Nat) (x : Source) : (s.setSource w k x).fuses = s.fuses := rfl
@[simp] theorem setSource_jwl (w k : Nat) (x : Source) : (s.setSource w k x).jwl = s.jwl := rfl
@[simp] theorem setSource_trnReqs (w k : Nat) (x : Source) : (s.setSource w k x).trnReqs = s.trnReqs := rfl
@[simp] theorem setSource_vlt (w k : Nat) (x : Source) : (s.setSource w k x).vlt = s.vlt := rfl
@[simp] theorem setSource_aue (w k : Nat) (x : Source) : (s.setSource w k x).aue = s.aue := rfl
@[simp] theorem setSource_bridges (w k : Nat) (x : Source) : (s.setSource w k x).bridges = s.bridges := rfl
@[simp] theorem setSource_trx (w k : Nat) (x : Source) : (s.setSource w k x).trx = s.trx := rfl
@[simp] theorem setSource_t1l (w k : Nat) (x : Source) : (s.setSource w k x).t1l = s.t1l := rfl
@[simp] theorem setSource_cx (w k : Nat) (x : Source) : (s.setSource w k x).cx = s.cx := rfl
@[simp] theorem setSource_nm (w k : Nat) (x : Source) : (s.setSource w k x).nm = s.nm := rfl
@[simp] theorem setSource_nmReports (w k : Nat) (x : Source) : (s.setSource w k x).nmReports = s.nmReports := rfl
@[simp] theorem setSource_s2s (w k : Nat) (x : Source) : (s.setSource w k x).s2s = s.s2s := rfl
@[simp] theorem setSource_emc (w k : Nat) (x : Source) : (s.setSource w k x).emc = s.emc := rfl
@[simp] theorem setSource_frer (w k : Nat) (x : Source) : (s.setSource w k x).frer = s.frer := rfl
@[simp] theorem setSource_flow (w k : Nat) (x : Source) : (s.setSource w k x).flow = s.flow := rfl
@[simp] theorem setSource_wakeFids (w k : Nat) (x : Source) : (s.setSource w k x).wakeFids = s.wakeFids := rfl
@[simp] theorem setSource_outlets (w k : Nat) (x : Source) : (s.setSource w k x).outlets = s.outlets := rfl
@[simp] theorem setSource_inlets (w k : Nat) (x : Source) : (s.setSource w k x).inlets = s.inlets := rfl
@[simp] theorem setSource_irts (w k : Nat) (x : Source) : (s.setSource w k x).irts = s.irts := rfl
@[simp] theorem setSource_dmc (w k : Nat) (x : Source) : (s.setSource w k x).dmc = s.dmc := rfl
@[simp] theorem setSource_xsp (w k : Nat) (x : Source) : (s.setSource w k x).xsp = s.xsp := rfl
@[simp] theorem setSource_crn (w k : Nat) (x : Source) : (s.setSource w k x).crn = s.crn := rfl
@[simp] theorem setSource_unnov (w k : Nat) (x : Source) : (s.setSource w k x).unnov = s.unnov := rfl
@[simp] theorem setSource_straps (w k : Nat) (x : Source) : (s.setSource w k x).straps = s.straps := rfl
@[simp] theorem setSource_twin (w k : Nat) (x : Source) : (s.setSource w k x).twin = s.twin := rfl
@[simp] theorem setSource_free (w k : Nat) (x : Source) : (s.setSource w k x).free = s.free := rfl

/-! `State.modPond` -/
@[simp] theorem modPond_pending (f : Pond → Pond) : (s.modPond f).pending = s.pending := rfl
@[simp] theorem modPond_regs (f : Pond → Pond) : (s.modPond f).regs = s.regs := rfl
@[simp] theorem modPond_shad (f : Pond → Pond) : (s.modPond f).shad = s.shad := rfl
@[simp] theorem modPond_wins (f : Pond → Pond) : (s.modPond f).wins = s.wins := rfl
@[simp] theorem modPond_bus (f : Pond → Pond) : (s.modPond f).bus = s.bus := rfl
@[simp] theorem modPond_deferred (f : Pond → Pond) : (s.modPond f).deferred = s.deferred := rfl
@[simp] theorem modPond_shared (f : Pond → Pond) : (s.modPond f).shared = s.shared := rfl
@[simp] theorem modPond_icxLog (f : Pond → Pond) : (s.modPond f).icxLog = s.icxLog := rfl
@[simp] theorem modPond_icxLost (f : Pond → Pond) : (s.modPond f).icxLost = s.icxLost := rfl
@[simp] theorem modPond_sources (f : Pond → Pond) : (s.modPond f).sources = s.sources := rfl
@[simp] theorem modPond_posts (f : Pond → Pond) : (s.modPond f).posts = s.posts := rfl
@[simp] theorem modPond_errPin (f : Pond → Pond) : (s.modPond f).errPin = s.errPin := rfl
@[simp] theorem modPond_bal (f : Pond → Pond) : (s.modPond f).bal = s.bal := rfl
@[simp] theorem modPond_trains (f : Pond → Pond) : (s.modPond f).trains = s.trains := rfl
@[simp] theorem modPond_pairs (f : Pond → Pond) : (s.modPond f).pairs = s.pairs := rfl
@[simp] theorem modPond_rsqPeak (f : Pond → Pond) : (s.modPond f).rsqPeak = s.rsqPeak := rfl
@[simp] theorem modPond_dials (f : Pond → Pond) : (s.modPond f).dials = s.dials := rfl
@[simp] theorem modPond_tms (f : Pond → Pond) : (s.modPond f).tms = s.tms := rfl
@[simp] theorem modPond_ldg (f : Pond → Pond) : (s.modPond f).ldg = s.ldg := rfl
@[simp] theorem modPond_rings (f : Pond → Pond) : (s.modPond f).rings = s.rings := rfl
@[simp] theorem modPond_emt (f : Pond → Pond) : (s.modPond f).emt = s.emt := rfl
@[simp] theorem modPond_wct (f : Pond → Pond) : (s.modPond f).wct = s.wct := rfl
@[simp] theorem modPond_pset (f : Pond → Pond) : (s.modPond f).pset = s.pset := rfl
@[simp] theorem modPond_pol (f : Pond → Pond) : (s.modPond f).pol = s.pol := rfl
@[simp] theorem modPond_cdm (f : Pond → Pond) : (s.modPond f).cdm = s.cdm := rfl
@[simp] theorem modPond_pwr (f : Pond → Pond) : (s.modPond f).pwr = s.pwr := rfl
@[simp] theorem modPond_shores (f : Pond → Pond) : (s.modPond f).shores = s.shores := rfl
@[simp] theorem modPond_mem (f : Pond → Pond) : (s.modPond f).mem = s.mem := rfl
@[simp] theorem modPond_nor (f : Pond → Pond) : (s.modPond f).nor = s.nor := rfl
@[simp] theorem modPond_sge (f : Pond → Pond) : (s.modPond f).sge = s.sge := rfl
@[simp] theorem modPond_fuses (f : Pond → Pond) : (s.modPond f).fuses = s.fuses := rfl
@[simp] theorem modPond_jwl (f : Pond → Pond) : (s.modPond f).jwl = s.jwl := rfl
@[simp] theorem modPond_trnReqs (f : Pond → Pond) : (s.modPond f).trnReqs = s.trnReqs := rfl
@[simp] theorem modPond_vlt (f : Pond → Pond) : (s.modPond f).vlt = s.vlt := rfl
@[simp] theorem modPond_aue (f : Pond → Pond) : (s.modPond f).aue = s.aue := rfl
@[simp] theorem modPond_bridges (f : Pond → Pond) : (s.modPond f).bridges = s.bridges := rfl
@[simp] theorem modPond_trx (f : Pond → Pond) : (s.modPond f).trx = s.trx := rfl
@[simp] theorem modPond_t1l (f : Pond → Pond) : (s.modPond f).t1l = s.t1l := rfl
@[simp] theorem modPond_cx (f : Pond → Pond) : (s.modPond f).cx = s.cx := rfl
@[simp] theorem modPond_nm (f : Pond → Pond) : (s.modPond f).nm = s.nm := rfl
@[simp] theorem modPond_nmReports (f : Pond → Pond) : (s.modPond f).nmReports = s.nmReports := rfl
@[simp] theorem modPond_s2s (f : Pond → Pond) : (s.modPond f).s2s = s.s2s := rfl
@[simp] theorem modPond_emc (f : Pond → Pond) : (s.modPond f).emc = s.emc := rfl
@[simp] theorem modPond_frer (f : Pond → Pond) : (s.modPond f).frer = s.frer := rfl
@[simp] theorem modPond_flow (f : Pond → Pond) : (s.modPond f).flow = s.flow := rfl
@[simp] theorem modPond_wakeFids (f : Pond → Pond) : (s.modPond f).wakeFids = s.wakeFids := rfl
@[simp] theorem modPond_outlets (f : Pond → Pond) : (s.modPond f).outlets = s.outlets := rfl
@[simp] theorem modPond_inlets (f : Pond → Pond) : (s.modPond f).inlets = s.inlets := rfl
@[simp] theorem modPond_irts (f : Pond → Pond) : (s.modPond f).irts = s.irts := rfl
@[simp] theorem modPond_dmc (f : Pond → Pond) : (s.modPond f).dmc = s.dmc := rfl
@[simp] theorem modPond_xsp (f : Pond → Pond) : (s.modPond f).xsp = s.xsp := rfl
@[simp] theorem modPond_crn (f : Pond → Pond) : (s.modPond f).crn = s.crn := rfl
@[simp] theorem modPond_unnov (f : Pond → Pond) : (s.modPond f).unnov = s.unnov := rfl
@[simp] theorem modPond_straps (f : Pond → Pond) : (s.modPond f).straps = s.straps := rfl
@[simp] theorem modPond_twin (f : Pond → Pond) : (s.modPond f).twin = s.twin := rfl
@[simp] theorem modPond_free (f : Pond → Pond) : (s.modPond f).free = s.free := rfl

/-! `State.modTms` -/
@[simp] theorem modTms_pending (f : Tms → Tms) : (s.modTms f).pending = s.pending := rfl
@[simp] theorem modTms_regs (f : Tms → Tms) : (s.modTms f).regs = s.regs := rfl
@[simp] theorem modTms_shad (f : Tms → Tms) : (s.modTms f).shad = s.shad := rfl
@[simp] theorem modTms_wins (f : Tms → Tms) : (s.modTms f).wins = s.wins := rfl
@[simp] theorem modTms_bus (f : Tms → Tms) : (s.modTms f).bus = s.bus := rfl
@[simp] theorem modTms_deferred (f : Tms → Tms) : (s.modTms f).deferred = s.deferred := rfl
@[simp] theorem modTms_shared (f : Tms → Tms) : (s.modTms f).shared = s.shared := rfl
@[simp] theorem modTms_icxLog (f : Tms → Tms) : (s.modTms f).icxLog = s.icxLog := rfl
@[simp] theorem modTms_icxLost (f : Tms → Tms) : (s.modTms f).icxLost = s.icxLost := rfl
@[simp] theorem modTms_sources (f : Tms → Tms) : (s.modTms f).sources = s.sources := rfl
@[simp] theorem modTms_posts (f : Tms → Tms) : (s.modTms f).posts = s.posts := rfl
@[simp] theorem modTms_errPin (f : Tms → Tms) : (s.modTms f).errPin = s.errPin := rfl
@[simp] theorem modTms_bal (f : Tms → Tms) : (s.modTms f).bal = s.bal := rfl
@[simp] theorem modTms_trains (f : Tms → Tms) : (s.modTms f).trains = s.trains := rfl
@[simp] theorem modTms_pairs (f : Tms → Tms) : (s.modTms f).pairs = s.pairs := rfl
@[simp] theorem modTms_rsqPeak (f : Tms → Tms) : (s.modTms f).rsqPeak = s.rsqPeak := rfl
@[simp] theorem modTms_pond (f : Tms → Tms) : (s.modTms f).pond = s.pond := rfl
@[simp] theorem modTms_dials (f : Tms → Tms) : (s.modTms f).dials = s.dials := rfl
@[simp] theorem modTms_ldg (f : Tms → Tms) : (s.modTms f).ldg = s.ldg := rfl
@[simp] theorem modTms_rings (f : Tms → Tms) : (s.modTms f).rings = s.rings := rfl
@[simp] theorem modTms_emt (f : Tms → Tms) : (s.modTms f).emt = s.emt := rfl
@[simp] theorem modTms_wct (f : Tms → Tms) : (s.modTms f).wct = s.wct := rfl
@[simp] theorem modTms_pset (f : Tms → Tms) : (s.modTms f).pset = s.pset := rfl
@[simp] theorem modTms_pol (f : Tms → Tms) : (s.modTms f).pol = s.pol := rfl
@[simp] theorem modTms_cdm (f : Tms → Tms) : (s.modTms f).cdm = s.cdm := rfl
@[simp] theorem modTms_pwr (f : Tms → Tms) : (s.modTms f).pwr = s.pwr := rfl
@[simp] theorem modTms_shores (f : Tms → Tms) : (s.modTms f).shores = s.shores := rfl
@[simp] theorem modTms_mem (f : Tms → Tms) : (s.modTms f).mem = s.mem := rfl
@[simp] theorem modTms_nor (f : Tms → Tms) : (s.modTms f).nor = s.nor := rfl
@[simp] theorem modTms_sge (f : Tms → Tms) : (s.modTms f).sge = s.sge := rfl
@[simp] theorem modTms_fuses (f : Tms → Tms) : (s.modTms f).fuses = s.fuses := rfl
@[simp] theorem modTms_jwl (f : Tms → Tms) : (s.modTms f).jwl = s.jwl := rfl
@[simp] theorem modTms_trnReqs (f : Tms → Tms) : (s.modTms f).trnReqs = s.trnReqs := rfl
@[simp] theorem modTms_vlt (f : Tms → Tms) : (s.modTms f).vlt = s.vlt := rfl
@[simp] theorem modTms_aue (f : Tms → Tms) : (s.modTms f).aue = s.aue := rfl
@[simp] theorem modTms_bridges (f : Tms → Tms) : (s.modTms f).bridges = s.bridges := rfl
@[simp] theorem modTms_trx (f : Tms → Tms) : (s.modTms f).trx = s.trx := rfl
@[simp] theorem modTms_t1l (f : Tms → Tms) : (s.modTms f).t1l = s.t1l := rfl
@[simp] theorem modTms_cx (f : Tms → Tms) : (s.modTms f).cx = s.cx := rfl
@[simp] theorem modTms_nm (f : Tms → Tms) : (s.modTms f).nm = s.nm := rfl
@[simp] theorem modTms_nmReports (f : Tms → Tms) : (s.modTms f).nmReports = s.nmReports := rfl
@[simp] theorem modTms_s2s (f : Tms → Tms) : (s.modTms f).s2s = s.s2s := rfl
@[simp] theorem modTms_emc (f : Tms → Tms) : (s.modTms f).emc = s.emc := rfl
@[simp] theorem modTms_frer (f : Tms → Tms) : (s.modTms f).frer = s.frer := rfl
@[simp] theorem modTms_flow (f : Tms → Tms) : (s.modTms f).flow = s.flow := rfl
@[simp] theorem modTms_wakeFids (f : Tms → Tms) : (s.modTms f).wakeFids = s.wakeFids := rfl
@[simp] theorem modTms_outlets (f : Tms → Tms) : (s.modTms f).outlets = s.outlets := rfl
@[simp] theorem modTms_inlets (f : Tms → Tms) : (s.modTms f).inlets = s.inlets := rfl
@[simp] theorem modTms_irts (f : Tms → Tms) : (s.modTms f).irts = s.irts := rfl
@[simp] theorem modTms_dmc (f : Tms → Tms) : (s.modTms f).dmc = s.dmc := rfl
@[simp] theorem modTms_xsp (f : Tms → Tms) : (s.modTms f).xsp = s.xsp := rfl
@[simp] theorem modTms_crn (f : Tms → Tms) : (s.modTms f).crn = s.crn := rfl
@[simp] theorem modTms_unnov (f : Tms → Tms) : (s.modTms f).unnov = s.unnov := rfl
@[simp] theorem modTms_straps (f : Tms → Tms) : (s.modTms f).straps = s.straps := rfl
@[simp] theorem modTms_twin (f : Tms → Tms) : (s.modTms f).twin = s.twin := rfl
@[simp] theorem modTms_free (f : Tms → Tms) : (s.modTms f).free = s.free := rfl

/-! `State.modSge` -/
@[simp] theorem modSge_pending (f : Sge → Sge) : (s.modSge f).pending = s.pending := rfl
@[simp] theorem modSge_regs (f : Sge → Sge) : (s.modSge f).regs = s.regs := rfl
@[simp] theorem modSge_shad (f : Sge → Sge) : (s.modSge f).shad = s.shad := rfl
@[simp] theorem modSge_wins (f : Sge → Sge) : (s.modSge f).wins = s.wins := rfl
@[simp] theorem modSge_bus (f : Sge → Sge) : (s.modSge f).bus = s.bus := rfl
@[simp] theorem modSge_deferred (f : Sge → Sge) : (s.modSge f).deferred = s.deferred := rfl
@[simp] theorem modSge_shared (f : Sge → Sge) : (s.modSge f).shared = s.shared := rfl
@[simp] theorem modSge_icxLog (f : Sge → Sge) : (s.modSge f).icxLog = s.icxLog := rfl
@[simp] theorem modSge_icxLost (f : Sge → Sge) : (s.modSge f).icxLost = s.icxLost := rfl
@[simp] theorem modSge_sources (f : Sge → Sge) : (s.modSge f).sources = s.sources := rfl
@[simp] theorem modSge_posts (f : Sge → Sge) : (s.modSge f).posts = s.posts := rfl
@[simp] theorem modSge_errPin (f : Sge → Sge) : (s.modSge f).errPin = s.errPin := rfl
@[simp] theorem modSge_bal (f : Sge → Sge) : (s.modSge f).bal = s.bal := rfl
@[simp] theorem modSge_trains (f : Sge → Sge) : (s.modSge f).trains = s.trains := rfl
@[simp] theorem modSge_pairs (f : Sge → Sge) : (s.modSge f).pairs = s.pairs := rfl
@[simp] theorem modSge_rsqPeak (f : Sge → Sge) : (s.modSge f).rsqPeak = s.rsqPeak := rfl
@[simp] theorem modSge_pond (f : Sge → Sge) : (s.modSge f).pond = s.pond := rfl
@[simp] theorem modSge_dials (f : Sge → Sge) : (s.modSge f).dials = s.dials := rfl
@[simp] theorem modSge_tms (f : Sge → Sge) : (s.modSge f).tms = s.tms := rfl
@[simp] theorem modSge_ldg (f : Sge → Sge) : (s.modSge f).ldg = s.ldg := rfl
@[simp] theorem modSge_rings (f : Sge → Sge) : (s.modSge f).rings = s.rings := rfl
@[simp] theorem modSge_emt (f : Sge → Sge) : (s.modSge f).emt = s.emt := rfl
@[simp] theorem modSge_wct (f : Sge → Sge) : (s.modSge f).wct = s.wct := rfl
@[simp] theorem modSge_pset (f : Sge → Sge) : (s.modSge f).pset = s.pset := rfl
@[simp] theorem modSge_pol (f : Sge → Sge) : (s.modSge f).pol = s.pol := rfl
@[simp] theorem modSge_cdm (f : Sge → Sge) : (s.modSge f).cdm = s.cdm := rfl
@[simp] theorem modSge_pwr (f : Sge → Sge) : (s.modSge f).pwr = s.pwr := rfl
@[simp] theorem modSge_shores (f : Sge → Sge) : (s.modSge f).shores = s.shores := rfl
@[simp] theorem modSge_mem (f : Sge → Sge) : (s.modSge f).mem = s.mem := rfl
@[simp] theorem modSge_nor (f : Sge → Sge) : (s.modSge f).nor = s.nor := rfl
@[simp] theorem modSge_fuses (f : Sge → Sge) : (s.modSge f).fuses = s.fuses := rfl
@[simp] theorem modSge_jwl (f : Sge → Sge) : (s.modSge f).jwl = s.jwl := rfl
@[simp] theorem modSge_trnReqs (f : Sge → Sge) : (s.modSge f).trnReqs = s.trnReqs := rfl
@[simp] theorem modSge_vlt (f : Sge → Sge) : (s.modSge f).vlt = s.vlt := rfl
@[simp] theorem modSge_aue (f : Sge → Sge) : (s.modSge f).aue = s.aue := rfl
@[simp] theorem modSge_bridges (f : Sge → Sge) : (s.modSge f).bridges = s.bridges := rfl
@[simp] theorem modSge_trx (f : Sge → Sge) : (s.modSge f).trx = s.trx := rfl
@[simp] theorem modSge_t1l (f : Sge → Sge) : (s.modSge f).t1l = s.t1l := rfl
@[simp] theorem modSge_cx (f : Sge → Sge) : (s.modSge f).cx = s.cx := rfl
@[simp] theorem modSge_nm (f : Sge → Sge) : (s.modSge f).nm = s.nm := rfl
@[simp] theorem modSge_nmReports (f : Sge → Sge) : (s.modSge f).nmReports = s.nmReports := rfl
@[simp] theorem modSge_s2s (f : Sge → Sge) : (s.modSge f).s2s = s.s2s := rfl
@[simp] theorem modSge_emc (f : Sge → Sge) : (s.modSge f).emc = s.emc := rfl
@[simp] theorem modSge_frer (f : Sge → Sge) : (s.modSge f).frer = s.frer := rfl
@[simp] theorem modSge_flow (f : Sge → Sge) : (s.modSge f).flow = s.flow := rfl
@[simp] theorem modSge_wakeFids (f : Sge → Sge) : (s.modSge f).wakeFids = s.wakeFids := rfl
@[simp] theorem modSge_outlets (f : Sge → Sge) : (s.modSge f).outlets = s.outlets := rfl
@[simp] theorem modSge_inlets (f : Sge → Sge) : (s.modSge f).inlets = s.inlets := rfl
@[simp] theorem modSge_irts (f : Sge → Sge) : (s.modSge f).irts = s.irts := rfl
@[simp] theorem modSge_dmc (f : Sge → Sge) : (s.modSge f).dmc = s.dmc := rfl
@[simp] theorem modSge_xsp (f : Sge → Sge) : (s.modSge f).xsp = s.xsp := rfl
@[simp] theorem modSge_crn (f : Sge → Sge) : (s.modSge f).crn = s.crn := rfl
@[simp] theorem modSge_unnov (f : Sge → Sge) : (s.modSge f).unnov = s.unnov := rfl
@[simp] theorem modSge_straps (f : Sge → Sge) : (s.modSge f).straps = s.straps := rfl
@[simp] theorem modSge_twin (f : Sge → Sge) : (s.modSge f).twin = s.twin := rfl
@[simp] theorem modSge_free (f : Sge → Sge) : (s.modSge f).free = s.free := rfl

/-! `State.modEmt` -/
@[simp] theorem modEmt_pending (f : Emt → Emt) : (s.modEmt f).pending = s.pending := rfl
@[simp] theorem modEmt_regs (f : Emt → Emt) : (s.modEmt f).regs = s.regs := rfl
@[simp] theorem modEmt_shad (f : Emt → Emt) : (s.modEmt f).shad = s.shad := rfl
@[simp] theorem modEmt_wins (f : Emt → Emt) : (s.modEmt f).wins = s.wins := rfl
@[simp] theorem modEmt_bus (f : Emt → Emt) : (s.modEmt f).bus = s.bus := rfl
@[simp] theorem modEmt_deferred (f : Emt → Emt) : (s.modEmt f).deferred = s.deferred := rfl
@[simp] theorem modEmt_shared (f : Emt → Emt) : (s.modEmt f).shared = s.shared := rfl
@[simp] theorem modEmt_icxLog (f : Emt → Emt) : (s.modEmt f).icxLog = s.icxLog := rfl
@[simp] theorem modEmt_icxLost (f : Emt → Emt) : (s.modEmt f).icxLost = s.icxLost := rfl
@[simp] theorem modEmt_sources (f : Emt → Emt) : (s.modEmt f).sources = s.sources := rfl
@[simp] theorem modEmt_posts (f : Emt → Emt) : (s.modEmt f).posts = s.posts := rfl
@[simp] theorem modEmt_errPin (f : Emt → Emt) : (s.modEmt f).errPin = s.errPin := rfl
@[simp] theorem modEmt_bal (f : Emt → Emt) : (s.modEmt f).bal = s.bal := rfl
@[simp] theorem modEmt_trains (f : Emt → Emt) : (s.modEmt f).trains = s.trains := rfl
@[simp] theorem modEmt_pairs (f : Emt → Emt) : (s.modEmt f).pairs = s.pairs := rfl
@[simp] theorem modEmt_rsqPeak (f : Emt → Emt) : (s.modEmt f).rsqPeak = s.rsqPeak := rfl
@[simp] theorem modEmt_pond (f : Emt → Emt) : (s.modEmt f).pond = s.pond := rfl
@[simp] theorem modEmt_dials (f : Emt → Emt) : (s.modEmt f).dials = s.dials := rfl
@[simp] theorem modEmt_tms (f : Emt → Emt) : (s.modEmt f).tms = s.tms := rfl
@[simp] theorem modEmt_ldg (f : Emt → Emt) : (s.modEmt f).ldg = s.ldg := rfl
@[simp] theorem modEmt_rings (f : Emt → Emt) : (s.modEmt f).rings = s.rings := rfl
@[simp] theorem modEmt_wct (f : Emt → Emt) : (s.modEmt f).wct = s.wct := rfl
@[simp] theorem modEmt_pset (f : Emt → Emt) : (s.modEmt f).pset = s.pset := rfl
@[simp] theorem modEmt_pol (f : Emt → Emt) : (s.modEmt f).pol = s.pol := rfl
@[simp] theorem modEmt_cdm (f : Emt → Emt) : (s.modEmt f).cdm = s.cdm := rfl
@[simp] theorem modEmt_pwr (f : Emt → Emt) : (s.modEmt f).pwr = s.pwr := rfl
@[simp] theorem modEmt_shores (f : Emt → Emt) : (s.modEmt f).shores = s.shores := rfl
@[simp] theorem modEmt_mem (f : Emt → Emt) : (s.modEmt f).mem = s.mem := rfl
@[simp] theorem modEmt_nor (f : Emt → Emt) : (s.modEmt f).nor = s.nor := rfl
@[simp] theorem modEmt_sge (f : Emt → Emt) : (s.modEmt f).sge = s.sge := rfl
@[simp] theorem modEmt_fuses (f : Emt → Emt) : (s.modEmt f).fuses = s.fuses := rfl
@[simp] theorem modEmt_jwl (f : Emt → Emt) : (s.modEmt f).jwl = s.jwl := rfl
@[simp] theorem modEmt_trnReqs (f : Emt → Emt) : (s.modEmt f).trnReqs = s.trnReqs := rfl
@[simp] theorem modEmt_vlt (f : Emt → Emt) : (s.modEmt f).vlt = s.vlt := rfl
@[simp] theorem modEmt_aue (f : Emt → Emt) : (s.modEmt f).aue = s.aue := rfl
@[simp] theorem modEmt_bridges (f : Emt → Emt) : (s.modEmt f).bridges = s.bridges := rfl
@[simp] theorem modEmt_trx (f : Emt → Emt) : (s.modEmt f).trx = s.trx := rfl
@[simp] theorem modEmt_t1l (f : Emt → Emt) : (s.modEmt f).t1l = s.t1l := rfl
@[simp] theorem modEmt_cx (f : Emt → Emt) : (s.modEmt f).cx = s.cx := rfl
@[simp] theorem modEmt_nm (f : Emt → Emt) : (s.modEmt f).nm = s.nm := rfl
@[simp] theorem modEmt_nmReports (f : Emt → Emt) : (s.modEmt f).nmReports = s.nmReports := rfl
@[simp] theorem modEmt_s2s (f : Emt → Emt) : (s.modEmt f).s2s = s.s2s := rfl
@[simp] theorem modEmt_emc (f : Emt → Emt) : (s.modEmt f).emc = s.emc := rfl
@[simp] theorem modEmt_frer (f : Emt → Emt) : (s.modEmt f).frer = s.frer := rfl
@[simp] theorem modEmt_flow (f : Emt → Emt) : (s.modEmt f).flow = s.flow := rfl
@[simp] theorem modEmt_wakeFids (f : Emt → Emt) : (s.modEmt f).wakeFids = s.wakeFids := rfl
@[simp] theorem modEmt_outlets (f : Emt → Emt) : (s.modEmt f).outlets = s.outlets := rfl
@[simp] theorem modEmt_inlets (f : Emt → Emt) : (s.modEmt f).inlets = s.inlets := rfl
@[simp] theorem modEmt_irts (f : Emt → Emt) : (s.modEmt f).irts = s.irts := rfl
@[simp] theorem modEmt_dmc (f : Emt → Emt) : (s.modEmt f).dmc = s.dmc := rfl
@[simp] theorem modEmt_xsp (f : Emt → Emt) : (s.modEmt f).xsp = s.xsp := rfl
@[simp] theorem modEmt_crn (f : Emt → Emt) : (s.modEmt f).crn = s.crn := rfl
@[simp] theorem modEmt_unnov (f : Emt → Emt) : (s.modEmt f).unnov = s.unnov := rfl
@[simp] theorem modEmt_straps (f : Emt → Emt) : (s.modEmt f).straps = s.straps := rfl
@[simp] theorem modEmt_twin (f : Emt → Emt) : (s.modEmt f).twin = s.twin := rfl
@[simp] theorem modEmt_free (f : Emt → Emt) : (s.modEmt f).free = s.free := rfl

/-! `State.modPol` -/
@[simp] theorem modPol_pending (f : Pol → Pol) : (s.modPol f).pending = s.pending := rfl
@[simp] theorem modPol_regs (f : Pol → Pol) : (s.modPol f).regs = s.regs := rfl
@[simp] theorem modPol_shad (f : Pol → Pol) : (s.modPol f).shad = s.shad := rfl
@[simp] theorem modPol_wins (f : Pol → Pol) : (s.modPol f).wins = s.wins := rfl
@[simp] theorem modPol_bus (f : Pol → Pol) : (s.modPol f).bus = s.bus := rfl
@[simp] theorem modPol_deferred (f : Pol → Pol) : (s.modPol f).deferred = s.deferred := rfl
@[simp] theorem modPol_shared (f : Pol → Pol) : (s.modPol f).shared = s.shared := rfl
@[simp] theorem modPol_icxLog (f : Pol → Pol) : (s.modPol f).icxLog = s.icxLog := rfl
@[simp] theorem modPol_icxLost (f : Pol → Pol) : (s.modPol f).icxLost = s.icxLost := rfl
@[simp] theorem modPol_sources (f : Pol → Pol) : (s.modPol f).sources = s.sources := rfl
@[simp] theorem modPol_posts (f : Pol → Pol) : (s.modPol f).posts = s.posts := rfl
@[simp] theorem modPol_errPin (f : Pol → Pol) : (s.modPol f).errPin = s.errPin := rfl
@[simp] theorem modPol_bal (f : Pol → Pol) : (s.modPol f).bal = s.bal := rfl
@[simp] theorem modPol_trains (f : Pol → Pol) : (s.modPol f).trains = s.trains := rfl
@[simp] theorem modPol_pairs (f : Pol → Pol) : (s.modPol f).pairs = s.pairs := rfl
@[simp] theorem modPol_rsqPeak (f : Pol → Pol) : (s.modPol f).rsqPeak = s.rsqPeak := rfl
@[simp] theorem modPol_pond (f : Pol → Pol) : (s.modPol f).pond = s.pond := rfl
@[simp] theorem modPol_dials (f : Pol → Pol) : (s.modPol f).dials = s.dials := rfl
@[simp] theorem modPol_tms (f : Pol → Pol) : (s.modPol f).tms = s.tms := rfl
@[simp] theorem modPol_ldg (f : Pol → Pol) : (s.modPol f).ldg = s.ldg := rfl
@[simp] theorem modPol_rings (f : Pol → Pol) : (s.modPol f).rings = s.rings := rfl
@[simp] theorem modPol_emt (f : Pol → Pol) : (s.modPol f).emt = s.emt := rfl
@[simp] theorem modPol_wct (f : Pol → Pol) : (s.modPol f).wct = s.wct := rfl
@[simp] theorem modPol_pset (f : Pol → Pol) : (s.modPol f).pset = s.pset := rfl
@[simp] theorem modPol_cdm (f : Pol → Pol) : (s.modPol f).cdm = s.cdm := rfl
@[simp] theorem modPol_pwr (f : Pol → Pol) : (s.modPol f).pwr = s.pwr := rfl
@[simp] theorem modPol_shores (f : Pol → Pol) : (s.modPol f).shores = s.shores := rfl
@[simp] theorem modPol_mem (f : Pol → Pol) : (s.modPol f).mem = s.mem := rfl
@[simp] theorem modPol_nor (f : Pol → Pol) : (s.modPol f).nor = s.nor := rfl
@[simp] theorem modPol_sge (f : Pol → Pol) : (s.modPol f).sge = s.sge := rfl
@[simp] theorem modPol_fuses (f : Pol → Pol) : (s.modPol f).fuses = s.fuses := rfl
@[simp] theorem modPol_jwl (f : Pol → Pol) : (s.modPol f).jwl = s.jwl := rfl
@[simp] theorem modPol_trnReqs (f : Pol → Pol) : (s.modPol f).trnReqs = s.trnReqs := rfl
@[simp] theorem modPol_vlt (f : Pol → Pol) : (s.modPol f).vlt = s.vlt := rfl
@[simp] theorem modPol_aue (f : Pol → Pol) : (s.modPol f).aue = s.aue := rfl
@[simp] theorem modPol_bridges (f : Pol → Pol) : (s.modPol f).bridges = s.bridges := rfl
@[simp] theorem modPol_trx (f : Pol → Pol) : (s.modPol f).trx = s.trx := rfl
@[simp] theorem modPol_t1l (f : Pol → Pol) : (s.modPol f).t1l = s.t1l := rfl
@[simp] theorem modPol_cx (f : Pol → Pol) : (s.modPol f).cx = s.cx := rfl
@[simp] theorem modPol_nm (f : Pol → Pol) : (s.modPol f).nm = s.nm := rfl
@[simp] theorem modPol_nmReports (f : Pol → Pol) : (s.modPol f).nmReports = s.nmReports := rfl
@[simp] theorem modPol_s2s (f : Pol → Pol) : (s.modPol f).s2s = s.s2s := rfl
@[simp] theorem modPol_emc (f : Pol → Pol) : (s.modPol f).emc = s.emc := rfl
@[simp] theorem modPol_frer (f : Pol → Pol) : (s.modPol f).frer = s.frer := rfl
@[simp] theorem modPol_flow (f : Pol → Pol) : (s.modPol f).flow = s.flow := rfl
@[simp] theorem modPol_wakeFids (f : Pol → Pol) : (s.modPol f).wakeFids = s.wakeFids := rfl
@[simp] theorem modPol_outlets (f : Pol → Pol) : (s.modPol f).outlets = s.outlets := rfl
@[simp] theorem modPol_inlets (f : Pol → Pol) : (s.modPol f).inlets = s.inlets := rfl
@[simp] theorem modPol_irts (f : Pol → Pol) : (s.modPol f).irts = s.irts := rfl
@[simp] theorem modPol_dmc (f : Pol → Pol) : (s.modPol f).dmc = s.dmc := rfl
@[simp] theorem modPol_xsp (f : Pol → Pol) : (s.modPol f).xsp = s.xsp := rfl
@[simp] theorem modPol_crn (f : Pol → Pol) : (s.modPol f).crn = s.crn := rfl
@[simp] theorem modPol_unnov (f : Pol → Pol) : (s.modPol f).unnov = s.unnov := rfl
@[simp] theorem modPol_straps (f : Pol → Pol) : (s.modPol f).straps = s.straps := rfl
@[simp] theorem modPol_twin (f : Pol → Pol) : (s.modPol f).twin = s.twin := rfl
@[simp] theorem modPol_free (f : Pol → Pol) : (s.modPol f).free = s.free := rfl

/-! `State.modAue` -/
@[simp] theorem modAue_pending (f : Aue → Aue) : (s.modAue f).pending = s.pending := rfl
@[simp] theorem modAue_regs (f : Aue → Aue) : (s.modAue f).regs = s.regs := rfl
@[simp] theorem modAue_shad (f : Aue → Aue) : (s.modAue f).shad = s.shad := rfl
@[simp] theorem modAue_wins (f : Aue → Aue) : (s.modAue f).wins = s.wins := rfl
@[simp] theorem modAue_bus (f : Aue → Aue) : (s.modAue f).bus = s.bus := rfl
@[simp] theorem modAue_deferred (f : Aue → Aue) : (s.modAue f).deferred = s.deferred := rfl
@[simp] theorem modAue_shared (f : Aue → Aue) : (s.modAue f).shared = s.shared := rfl
@[simp] theorem modAue_icxLog (f : Aue → Aue) : (s.modAue f).icxLog = s.icxLog := rfl
@[simp] theorem modAue_icxLost (f : Aue → Aue) : (s.modAue f).icxLost = s.icxLost := rfl
@[simp] theorem modAue_sources (f : Aue → Aue) : (s.modAue f).sources = s.sources := rfl
@[simp] theorem modAue_posts (f : Aue → Aue) : (s.modAue f).posts = s.posts := rfl
@[simp] theorem modAue_errPin (f : Aue → Aue) : (s.modAue f).errPin = s.errPin := rfl
@[simp] theorem modAue_bal (f : Aue → Aue) : (s.modAue f).bal = s.bal := rfl
@[simp] theorem modAue_trains (f : Aue → Aue) : (s.modAue f).trains = s.trains := rfl
@[simp] theorem modAue_pairs (f : Aue → Aue) : (s.modAue f).pairs = s.pairs := rfl
@[simp] theorem modAue_rsqPeak (f : Aue → Aue) : (s.modAue f).rsqPeak = s.rsqPeak := rfl
@[simp] theorem modAue_pond (f : Aue → Aue) : (s.modAue f).pond = s.pond := rfl
@[simp] theorem modAue_dials (f : Aue → Aue) : (s.modAue f).dials = s.dials := rfl
@[simp] theorem modAue_tms (f : Aue → Aue) : (s.modAue f).tms = s.tms := rfl
@[simp] theorem modAue_ldg (f : Aue → Aue) : (s.modAue f).ldg = s.ldg := rfl
@[simp] theorem modAue_rings (f : Aue → Aue) : (s.modAue f).rings = s.rings := rfl
@[simp] theorem modAue_emt (f : Aue → Aue) : (s.modAue f).emt = s.emt := rfl
@[simp] theorem modAue_wct (f : Aue → Aue) : (s.modAue f).wct = s.wct := rfl
@[simp] theorem modAue_pset (f : Aue → Aue) : (s.modAue f).pset = s.pset := rfl
@[simp] theorem modAue_pol (f : Aue → Aue) : (s.modAue f).pol = s.pol := rfl
@[simp] theorem modAue_cdm (f : Aue → Aue) : (s.modAue f).cdm = s.cdm := rfl
@[simp] theorem modAue_pwr (f : Aue → Aue) : (s.modAue f).pwr = s.pwr := rfl
@[simp] theorem modAue_shores (f : Aue → Aue) : (s.modAue f).shores = s.shores := rfl
@[simp] theorem modAue_mem (f : Aue → Aue) : (s.modAue f).mem = s.mem := rfl
@[simp] theorem modAue_nor (f : Aue → Aue) : (s.modAue f).nor = s.nor := rfl
@[simp] theorem modAue_sge (f : Aue → Aue) : (s.modAue f).sge = s.sge := rfl
@[simp] theorem modAue_fuses (f : Aue → Aue) : (s.modAue f).fuses = s.fuses := rfl
@[simp] theorem modAue_jwl (f : Aue → Aue) : (s.modAue f).jwl = s.jwl := rfl
@[simp] theorem modAue_trnReqs (f : Aue → Aue) : (s.modAue f).trnReqs = s.trnReqs := rfl
@[simp] theorem modAue_vlt (f : Aue → Aue) : (s.modAue f).vlt = s.vlt := rfl
@[simp] theorem modAue_bridges (f : Aue → Aue) : (s.modAue f).bridges = s.bridges := rfl
@[simp] theorem modAue_trx (f : Aue → Aue) : (s.modAue f).trx = s.trx := rfl
@[simp] theorem modAue_t1l (f : Aue → Aue) : (s.modAue f).t1l = s.t1l := rfl
@[simp] theorem modAue_cx (f : Aue → Aue) : (s.modAue f).cx = s.cx := rfl
@[simp] theorem modAue_nm (f : Aue → Aue) : (s.modAue f).nm = s.nm := rfl
@[simp] theorem modAue_nmReports (f : Aue → Aue) : (s.modAue f).nmReports = s.nmReports := rfl
@[simp] theorem modAue_s2s (f : Aue → Aue) : (s.modAue f).s2s = s.s2s := rfl
@[simp] theorem modAue_emc (f : Aue → Aue) : (s.modAue f).emc = s.emc := rfl
@[simp] theorem modAue_frer (f : Aue → Aue) : (s.modAue f).frer = s.frer := rfl
@[simp] theorem modAue_flow (f : Aue → Aue) : (s.modAue f).flow = s.flow := rfl
@[simp] theorem modAue_wakeFids (f : Aue → Aue) : (s.modAue f).wakeFids = s.wakeFids := rfl
@[simp] theorem modAue_outlets (f : Aue → Aue) : (s.modAue f).outlets = s.outlets := rfl
@[simp] theorem modAue_inlets (f : Aue → Aue) : (s.modAue f).inlets = s.inlets := rfl
@[simp] theorem modAue_irts (f : Aue → Aue) : (s.modAue f).irts = s.irts := rfl
@[simp] theorem modAue_dmc (f : Aue → Aue) : (s.modAue f).dmc = s.dmc := rfl
@[simp] theorem modAue_xsp (f : Aue → Aue) : (s.modAue f).xsp = s.xsp := rfl
@[simp] theorem modAue_crn (f : Aue → Aue) : (s.modAue f).crn = s.crn := rfl
@[simp] theorem modAue_unnov (f : Aue → Aue) : (s.modAue f).unnov = s.unnov := rfl
@[simp] theorem modAue_straps (f : Aue → Aue) : (s.modAue f).straps = s.straps := rfl
@[simp] theorem modAue_twin (f : Aue → Aue) : (s.modAue f).twin = s.twin := rfl
@[simp] theorem modAue_free (f : Aue → Aue) : (s.modAue f).free = s.free := rfl

/-! `State.modJwl` -/
@[simp] theorem modJwl_pending (f : Jewel → Jewel) : (s.modJwl f).pending = s.pending := rfl
@[simp] theorem modJwl_regs (f : Jewel → Jewel) : (s.modJwl f).regs = s.regs := rfl
@[simp] theorem modJwl_shad (f : Jewel → Jewel) : (s.modJwl f).shad = s.shad := rfl
@[simp] theorem modJwl_wins (f : Jewel → Jewel) : (s.modJwl f).wins = s.wins := rfl
@[simp] theorem modJwl_bus (f : Jewel → Jewel) : (s.modJwl f).bus = s.bus := rfl
@[simp] theorem modJwl_deferred (f : Jewel → Jewel) : (s.modJwl f).deferred = s.deferred := rfl
@[simp] theorem modJwl_shared (f : Jewel → Jewel) : (s.modJwl f).shared = s.shared := rfl
@[simp] theorem modJwl_icxLog (f : Jewel → Jewel) : (s.modJwl f).icxLog = s.icxLog := rfl
@[simp] theorem modJwl_icxLost (f : Jewel → Jewel) : (s.modJwl f).icxLost = s.icxLost := rfl
@[simp] theorem modJwl_sources (f : Jewel → Jewel) : (s.modJwl f).sources = s.sources := rfl
@[simp] theorem modJwl_posts (f : Jewel → Jewel) : (s.modJwl f).posts = s.posts := rfl
@[simp] theorem modJwl_errPin (f : Jewel → Jewel) : (s.modJwl f).errPin = s.errPin := rfl
@[simp] theorem modJwl_bal (f : Jewel → Jewel) : (s.modJwl f).bal = s.bal := rfl
@[simp] theorem modJwl_trains (f : Jewel → Jewel) : (s.modJwl f).trains = s.trains := rfl
@[simp] theorem modJwl_pairs (f : Jewel → Jewel) : (s.modJwl f).pairs = s.pairs := rfl
@[simp] theorem modJwl_rsqPeak (f : Jewel → Jewel) : (s.modJwl f).rsqPeak = s.rsqPeak := rfl
@[simp] theorem modJwl_pond (f : Jewel → Jewel) : (s.modJwl f).pond = s.pond := rfl
@[simp] theorem modJwl_dials (f : Jewel → Jewel) : (s.modJwl f).dials = s.dials := rfl
@[simp] theorem modJwl_tms (f : Jewel → Jewel) : (s.modJwl f).tms = s.tms := rfl
@[simp] theorem modJwl_ldg (f : Jewel → Jewel) : (s.modJwl f).ldg = s.ldg := rfl
@[simp] theorem modJwl_rings (f : Jewel → Jewel) : (s.modJwl f).rings = s.rings := rfl
@[simp] theorem modJwl_emt (f : Jewel → Jewel) : (s.modJwl f).emt = s.emt := rfl
@[simp] theorem modJwl_wct (f : Jewel → Jewel) : (s.modJwl f).wct = s.wct := rfl
@[simp] theorem modJwl_pset (f : Jewel → Jewel) : (s.modJwl f).pset = s.pset := rfl
@[simp] theorem modJwl_pol (f : Jewel → Jewel) : (s.modJwl f).pol = s.pol := rfl
@[simp] theorem modJwl_cdm (f : Jewel → Jewel) : (s.modJwl f).cdm = s.cdm := rfl
@[simp] theorem modJwl_pwr (f : Jewel → Jewel) : (s.modJwl f).pwr = s.pwr := rfl
@[simp] theorem modJwl_shores (f : Jewel → Jewel) : (s.modJwl f).shores = s.shores := rfl
@[simp] theorem modJwl_mem (f : Jewel → Jewel) : (s.modJwl f).mem = s.mem := rfl
@[simp] theorem modJwl_nor (f : Jewel → Jewel) : (s.modJwl f).nor = s.nor := rfl
@[simp] theorem modJwl_sge (f : Jewel → Jewel) : (s.modJwl f).sge = s.sge := rfl
@[simp] theorem modJwl_fuses (f : Jewel → Jewel) : (s.modJwl f).fuses = s.fuses := rfl
@[simp] theorem modJwl_trnReqs (f : Jewel → Jewel) : (s.modJwl f).trnReqs = s.trnReqs := rfl
@[simp] theorem modJwl_vlt (f : Jewel → Jewel) : (s.modJwl f).vlt = s.vlt := rfl
@[simp] theorem modJwl_aue (f : Jewel → Jewel) : (s.modJwl f).aue = s.aue := rfl
@[simp] theorem modJwl_bridges (f : Jewel → Jewel) : (s.modJwl f).bridges = s.bridges := rfl
@[simp] theorem modJwl_trx (f : Jewel → Jewel) : (s.modJwl f).trx = s.trx := rfl
@[simp] theorem modJwl_t1l (f : Jewel → Jewel) : (s.modJwl f).t1l = s.t1l := rfl
@[simp] theorem modJwl_cx (f : Jewel → Jewel) : (s.modJwl f).cx = s.cx := rfl
@[simp] theorem modJwl_nm (f : Jewel → Jewel) : (s.modJwl f).nm = s.nm := rfl
@[simp] theorem modJwl_nmReports (f : Jewel → Jewel) : (s.modJwl f).nmReports = s.nmReports := rfl
@[simp] theorem modJwl_s2s (f : Jewel → Jewel) : (s.modJwl f).s2s = s.s2s := rfl
@[simp] theorem modJwl_emc (f : Jewel → Jewel) : (s.modJwl f).emc = s.emc := rfl
@[simp] theorem modJwl_frer (f : Jewel → Jewel) : (s.modJwl f).frer = s.frer := rfl
@[simp] theorem modJwl_flow (f : Jewel → Jewel) : (s.modJwl f).flow = s.flow := rfl
@[simp] theorem modJwl_wakeFids (f : Jewel → Jewel) : (s.modJwl f).wakeFids = s.wakeFids := rfl
@[simp] theorem modJwl_outlets (f : Jewel → Jewel) : (s.modJwl f).outlets = s.outlets := rfl
@[simp] theorem modJwl_inlets (f : Jewel → Jewel) : (s.modJwl f).inlets = s.inlets := rfl
@[simp] theorem modJwl_irts (f : Jewel → Jewel) : (s.modJwl f).irts = s.irts := rfl
@[simp] theorem modJwl_dmc (f : Jewel → Jewel) : (s.modJwl f).dmc = s.dmc := rfl
@[simp] theorem modJwl_xsp (f : Jewel → Jewel) : (s.modJwl f).xsp = s.xsp := rfl
@[simp] theorem modJwl_crn (f : Jewel → Jewel) : (s.modJwl f).crn = s.crn := rfl
@[simp] theorem modJwl_unnov (f : Jewel → Jewel) : (s.modJwl f).unnov = s.unnov := rfl
@[simp] theorem modJwl_straps (f : Jewel → Jewel) : (s.modJwl f).straps = s.straps := rfl
@[simp] theorem modJwl_twin (f : Jewel → Jewel) : (s.modJwl f).twin = s.twin := rfl
@[simp] theorem modJwl_free (f : Jewel → Jewel) : (s.modJwl f).free = s.free := rfl

/-! `State.modVlt` -/
@[simp] theorem modVlt_pending (f : Vault → Vault) : (s.modVlt f).pending = s.pending := rfl
@[simp] theorem modVlt_regs (f : Vault → Vault) : (s.modVlt f).regs = s.regs := rfl
@[simp] theorem modVlt_shad (f : Vault → Vault) : (s.modVlt f).shad = s.shad := rfl
@[simp] theorem modVlt_wins (f : Vault → Vault) : (s.modVlt f).wins = s.wins := rfl
@[simp] theorem modVlt_bus (f : Vault → Vault) : (s.modVlt f).bus = s.bus := rfl
@[simp] theorem modVlt_deferred (f : Vault → Vault) : (s.modVlt f).deferred = s.deferred := rfl
@[simp] theorem modVlt_shared (f : Vault → Vault) : (s.modVlt f).shared = s.shared := rfl
@[simp] theorem modVlt_icxLog (f : Vault → Vault) : (s.modVlt f).icxLog = s.icxLog := rfl
@[simp] theorem modVlt_icxLost (f : Vault → Vault) : (s.modVlt f).icxLost = s.icxLost := rfl
@[simp] theorem modVlt_sources (f : Vault → Vault) : (s.modVlt f).sources = s.sources := rfl
@[simp] theorem modVlt_posts (f : Vault → Vault) : (s.modVlt f).posts = s.posts := rfl
@[simp] theorem modVlt_errPin (f : Vault → Vault) : (s.modVlt f).errPin = s.errPin := rfl
@[simp] theorem modVlt_bal (f : Vault → Vault) : (s.modVlt f).bal = s.bal := rfl
@[simp] theorem modVlt_trains (f : Vault → Vault) : (s.modVlt f).trains = s.trains := rfl
@[simp] theorem modVlt_pairs (f : Vault → Vault) : (s.modVlt f).pairs = s.pairs := rfl
@[simp] theorem modVlt_rsqPeak (f : Vault → Vault) : (s.modVlt f).rsqPeak = s.rsqPeak := rfl
@[simp] theorem modVlt_pond (f : Vault → Vault) : (s.modVlt f).pond = s.pond := rfl
@[simp] theorem modVlt_dials (f : Vault → Vault) : (s.modVlt f).dials = s.dials := rfl
@[simp] theorem modVlt_tms (f : Vault → Vault) : (s.modVlt f).tms = s.tms := rfl
@[simp] theorem modVlt_ldg (f : Vault → Vault) : (s.modVlt f).ldg = s.ldg := rfl
@[simp] theorem modVlt_rings (f : Vault → Vault) : (s.modVlt f).rings = s.rings := rfl
@[simp] theorem modVlt_emt (f : Vault → Vault) : (s.modVlt f).emt = s.emt := rfl
@[simp] theorem modVlt_wct (f : Vault → Vault) : (s.modVlt f).wct = s.wct := rfl
@[simp] theorem modVlt_pset (f : Vault → Vault) : (s.modVlt f).pset = s.pset := rfl
@[simp] theorem modVlt_pol (f : Vault → Vault) : (s.modVlt f).pol = s.pol := rfl
@[simp] theorem modVlt_cdm (f : Vault → Vault) : (s.modVlt f).cdm = s.cdm := rfl
@[simp] theorem modVlt_pwr (f : Vault → Vault) : (s.modVlt f).pwr = s.pwr := rfl
@[simp] theorem modVlt_shores (f : Vault → Vault) : (s.modVlt f).shores = s.shores := rfl
@[simp] theorem modVlt_mem (f : Vault → Vault) : (s.modVlt f).mem = s.mem := rfl
@[simp] theorem modVlt_nor (f : Vault → Vault) : (s.modVlt f).nor = s.nor := rfl
@[simp] theorem modVlt_sge (f : Vault → Vault) : (s.modVlt f).sge = s.sge := rfl
@[simp] theorem modVlt_fuses (f : Vault → Vault) : (s.modVlt f).fuses = s.fuses := rfl
@[simp] theorem modVlt_jwl (f : Vault → Vault) : (s.modVlt f).jwl = s.jwl := rfl
@[simp] theorem modVlt_trnReqs (f : Vault → Vault) : (s.modVlt f).trnReqs = s.trnReqs := rfl
@[simp] theorem modVlt_aue (f : Vault → Vault) : (s.modVlt f).aue = s.aue := rfl
@[simp] theorem modVlt_bridges (f : Vault → Vault) : (s.modVlt f).bridges = s.bridges := rfl
@[simp] theorem modVlt_trx (f : Vault → Vault) : (s.modVlt f).trx = s.trx := rfl
@[simp] theorem modVlt_t1l (f : Vault → Vault) : (s.modVlt f).t1l = s.t1l := rfl
@[simp] theorem modVlt_cx (f : Vault → Vault) : (s.modVlt f).cx = s.cx := rfl
@[simp] theorem modVlt_nm (f : Vault → Vault) : (s.modVlt f).nm = s.nm := rfl
@[simp] theorem modVlt_nmReports (f : Vault → Vault) : (s.modVlt f).nmReports = s.nmReports := rfl
@[simp] theorem modVlt_s2s (f : Vault → Vault) : (s.modVlt f).s2s = s.s2s := rfl
@[simp] theorem modVlt_emc (f : Vault → Vault) : (s.modVlt f).emc = s.emc := rfl
@[simp] theorem modVlt_frer (f : Vault → Vault) : (s.modVlt f).frer = s.frer := rfl
@[simp] theorem modVlt_flow (f : Vault → Vault) : (s.modVlt f).flow = s.flow := rfl
@[simp] theorem modVlt_wakeFids (f : Vault → Vault) : (s.modVlt f).wakeFids = s.wakeFids := rfl
@[simp] theorem modVlt_outlets (f : Vault → Vault) : (s.modVlt f).outlets = s.outlets := rfl
@[simp] theorem modVlt_inlets (f : Vault → Vault) : (s.modVlt f).inlets = s.inlets := rfl
@[simp] theorem modVlt_irts (f : Vault → Vault) : (s.modVlt f).irts = s.irts := rfl
@[simp] theorem modVlt_dmc (f : Vault → Vault) : (s.modVlt f).dmc = s.dmc := rfl
@[simp] theorem modVlt_xsp (f : Vault → Vault) : (s.modVlt f).xsp = s.xsp := rfl
@[simp] theorem modVlt_crn (f : Vault → Vault) : (s.modVlt f).crn = s.crn := rfl
@[simp] theorem modVlt_unnov (f : Vault → Vault) : (s.modVlt f).unnov = s.unnov := rfl
@[simp] theorem modVlt_straps (f : Vault → Vault) : (s.modVlt f).straps = s.straps := rfl
@[simp] theorem modVlt_twin (f : Vault → Vault) : (s.modVlt f).twin = s.twin := rfl
@[simp] theorem modVlt_free (f : Vault → Vault) : (s.modVlt f).free = s.free := rfl

/-! `State.modTwin` -/
@[simp] theorem modTwin_pending (f : Twin → Twin) : (s.modTwin f).pending = s.pending := rfl
@[simp] theorem modTwin_regs (f : Twin → Twin) : (s.modTwin f).regs = s.regs := rfl
@[simp] theorem modTwin_shad (f : Twin → Twin) : (s.modTwin f).shad = s.shad := rfl
@[simp] theorem modTwin_wins (f : Twin → Twin) : (s.modTwin f).wins = s.wins := rfl
@[simp] theorem modTwin_bus (f : Twin → Twin) : (s.modTwin f).bus = s.bus := rfl
@[simp] theorem modTwin_deferred (f : Twin → Twin) : (s.modTwin f).deferred = s.deferred := rfl
@[simp] theorem modTwin_shared (f : Twin → Twin) : (s.modTwin f).shared = s.shared := rfl
@[simp] theorem modTwin_icxLog (f : Twin → Twin) : (s.modTwin f).icxLog = s.icxLog := rfl
@[simp] theorem modTwin_icxLost (f : Twin → Twin) : (s.modTwin f).icxLost = s.icxLost := rfl
@[simp] theorem modTwin_sources (f : Twin → Twin) : (s.modTwin f).sources = s.sources := rfl
@[simp] theorem modTwin_posts (f : Twin → Twin) : (s.modTwin f).posts = s.posts := rfl
@[simp] theorem modTwin_errPin (f : Twin → Twin) : (s.modTwin f).errPin = s.errPin := rfl
@[simp] theorem modTwin_bal (f : Twin → Twin) : (s.modTwin f).bal = s.bal := rfl
@[simp] theorem modTwin_trains (f : Twin → Twin) : (s.modTwin f).trains = s.trains := rfl
@[simp] theorem modTwin_pairs (f : Twin → Twin) : (s.modTwin f).pairs = s.pairs := rfl
@[simp] theorem modTwin_rsqPeak (f : Twin → Twin) : (s.modTwin f).rsqPeak = s.rsqPeak := rfl
@[simp] theorem modTwin_pond (f : Twin → Twin) : (s.modTwin f).pond = s.pond := rfl
@[simp] theorem modTwin_dials (f : Twin → Twin) : (s.modTwin f).dials = s.dials := rfl
@[simp] theorem modTwin_tms (f : Twin → Twin) : (s.modTwin f).tms = s.tms := rfl
@[simp] theorem modTwin_ldg (f : Twin → Twin) : (s.modTwin f).ldg = s.ldg := rfl
@[simp] theorem modTwin_rings (f : Twin → Twin) : (s.modTwin f).rings = s.rings := rfl
@[simp] theorem modTwin_emt (f : Twin → Twin) : (s.modTwin f).emt = s.emt := rfl
@[simp] theorem modTwin_wct (f : Twin → Twin) : (s.modTwin f).wct = s.wct := rfl
@[simp] theorem modTwin_pset (f : Twin → Twin) : (s.modTwin f).pset = s.pset := rfl
@[simp] theorem modTwin_pol (f : Twin → Twin) : (s.modTwin f).pol = s.pol := rfl
@[simp] theorem modTwin_cdm (f : Twin → Twin) : (s.modTwin f).cdm = s.cdm := rfl
@[simp] theorem modTwin_pwr (f : Twin → Twin) : (s.modTwin f).pwr = s.pwr := rfl
@[simp] theorem modTwin_shores (f : Twin → Twin) : (s.modTwin f).shores = s.shores := rfl
@[simp] theorem modTwin_mem (f : Twin → Twin) : (s.modTwin f).mem = s.mem := rfl
@[simp] theorem modTwin_nor (f : Twin → Twin) : (s.modTwin f).nor = s.nor := rfl
@[simp] theorem modTwin_sge (f : Twin → Twin) : (s.modTwin f).sge = s.sge := rfl
@[simp] theorem modTwin_fuses (f : Twin → Twin) : (s.modTwin f).fuses = s.fuses := rfl
@[simp] theorem modTwin_jwl (f : Twin → Twin) : (s.modTwin f).jwl = s.jwl := rfl
@[simp] theorem modTwin_trnReqs (f : Twin → Twin) : (s.modTwin f).trnReqs = s.trnReqs := rfl
@[simp] theorem modTwin_vlt (f : Twin → Twin) : (s.modTwin f).vlt = s.vlt := rfl
@[simp] theorem modTwin_aue (f : Twin → Twin) : (s.modTwin f).aue = s.aue := rfl
@[simp] theorem modTwin_bridges (f : Twin → Twin) : (s.modTwin f).bridges = s.bridges := rfl
@[simp] theorem modTwin_trx (f : Twin → Twin) : (s.modTwin f).trx = s.trx := rfl
@[simp] theorem modTwin_t1l (f : Twin → Twin) : (s.modTwin f).t1l = s.t1l := rfl
@[simp] theorem modTwin_cx (f : Twin → Twin) : (s.modTwin f).cx = s.cx := rfl
@[simp] theorem modTwin_nm (f : Twin → Twin) : (s.modTwin f).nm = s.nm := rfl
@[simp] theorem modTwin_nmReports (f : Twin → Twin) : (s.modTwin f).nmReports = s.nmReports := rfl
@[simp] theorem modTwin_s2s (f : Twin → Twin) : (s.modTwin f).s2s = s.s2s := rfl
@[simp] theorem modTwin_emc (f : Twin → Twin) : (s.modTwin f).emc = s.emc := rfl
@[simp] theorem modTwin_frer (f : Twin → Twin) : (s.modTwin f).frer = s.frer := rfl
@[simp] theorem modTwin_flow (f : Twin → Twin) : (s.modTwin f).flow = s.flow := rfl
@[simp] theorem modTwin_wakeFids (f : Twin → Twin) : (s.modTwin f).wakeFids = s.wakeFids := rfl
@[simp] theorem modTwin_outlets (f : Twin → Twin) : (s.modTwin f).outlets = s.outlets := rfl
@[simp] theorem modTwin_inlets (f : Twin → Twin) : (s.modTwin f).inlets = s.inlets := rfl
@[simp] theorem modTwin_irts (f : Twin → Twin) : (s.modTwin f).irts = s.irts := rfl
@[simp] theorem modTwin_dmc (f : Twin → Twin) : (s.modTwin f).dmc = s.dmc := rfl
@[simp] theorem modTwin_xsp (f : Twin → Twin) : (s.modTwin f).xsp = s.xsp := rfl
@[simp] theorem modTwin_crn (f : Twin → Twin) : (s.modTwin f).crn = s.crn := rfl
@[simp] theorem modTwin_unnov (f : Twin → Twin) : (s.modTwin f).unnov = s.unnov := rfl
@[simp] theorem modTwin_straps (f : Twin → Twin) : (s.modTwin f).straps = s.straps := rfl
@[simp] theorem modTwin_free (f : Twin → Twin) : (s.modTwin f).free = s.free := rfl

/-! `State.modUnnov` -/
@[simp] theorem modUnnov_pending (f : Unnov → Unnov) : (s.modUnnov f).pending = s.pending := rfl
@[simp] theorem modUnnov_regs (f : Unnov → Unnov) : (s.modUnnov f).regs = s.regs := rfl
@[simp] theorem modUnnov_shad (f : Unnov → Unnov) : (s.modUnnov f).shad = s.shad := rfl
@[simp] theorem modUnnov_wins (f : Unnov → Unnov) : (s.modUnnov f).wins = s.wins := rfl
@[simp] theorem modUnnov_bus (f : Unnov → Unnov) : (s.modUnnov f).bus = s.bus := rfl
@[simp] theorem modUnnov_deferred (f : Unnov → Unnov) : (s.modUnnov f).deferred = s.deferred := rfl
@[simp] theorem modUnnov_shared (f : Unnov → Unnov) : (s.modUnnov f).shared = s.shared := rfl
@[simp] theorem modUnnov_icxLog (f : Unnov → Unnov) : (s.modUnnov f).icxLog = s.icxLog := rfl
@[simp] theorem modUnnov_icxLost (f : Unnov → Unnov) : (s.modUnnov f).icxLost = s.icxLost := rfl
@[simp] theorem modUnnov_sources (f : Unnov → Unnov) : (s.modUnnov f).sources = s.sources := rfl
@[simp] theorem modUnnov_posts (f : Unnov → Unnov) : (s.modUnnov f).posts = s.posts := rfl
@[simp] theorem modUnnov_errPin (f : Unnov → Unnov) : (s.modUnnov f).errPin = s.errPin := rfl
@[simp] theorem modUnnov_bal (f : Unnov → Unnov) : (s.modUnnov f).bal = s.bal := rfl
@[simp] theorem modUnnov_trains (f : Unnov → Unnov) : (s.modUnnov f).trains = s.trains := rfl
@[simp] theorem modUnnov_pairs (f : Unnov → Unnov) : (s.modUnnov f).pairs = s.pairs := rfl
@[simp] theorem modUnnov_rsqPeak (f : Unnov → Unnov) : (s.modUnnov f).rsqPeak = s.rsqPeak := rfl
@[simp] theorem modUnnov_pond (f : Unnov → Unnov) : (s.modUnnov f).pond = s.pond := rfl
@[simp] theorem modUnnov_dials (f : Unnov → Unnov) : (s.modUnnov f).dials = s.dials := rfl
@[simp] theorem modUnnov_tms (f : Unnov → Unnov) : (s.modUnnov f).tms = s.tms := rfl
@[simp] theorem modUnnov_ldg (f : Unnov → Unnov) : (s.modUnnov f).ldg = s.ldg := rfl
@[simp] theorem modUnnov_rings (f : Unnov → Unnov) : (s.modUnnov f).rings = s.rings := rfl
@[simp] theorem modUnnov_emt (f : Unnov → Unnov) : (s.modUnnov f).emt = s.emt := rfl
@[simp] theorem modUnnov_wct (f : Unnov → Unnov) : (s.modUnnov f).wct = s.wct := rfl
@[simp] theorem modUnnov_pset (f : Unnov → Unnov) : (s.modUnnov f).pset = s.pset := rfl
@[simp] theorem modUnnov_pol (f : Unnov → Unnov) : (s.modUnnov f).pol = s.pol := rfl
@[simp] theorem modUnnov_cdm (f : Unnov → Unnov) : (s.modUnnov f).cdm = s.cdm := rfl
@[simp] theorem modUnnov_pwr (f : Unnov → Unnov) : (s.modUnnov f).pwr = s.pwr := rfl
@[simp] theorem modUnnov_shores (f : Unnov → Unnov) : (s.modUnnov f).shores = s.shores := rfl
@[simp] theorem modUnnov_mem (f : Unnov → Unnov) : (s.modUnnov f).mem = s.mem := rfl
@[simp] theorem modUnnov_nor (f : Unnov → Unnov) : (s.modUnnov f).nor = s.nor := rfl
@[simp] theorem modUnnov_sge (f : Unnov → Unnov) : (s.modUnnov f).sge = s.sge := rfl
@[simp] theorem modUnnov_fuses (f : Unnov → Unnov) : (s.modUnnov f).fuses = s.fuses := rfl
@[simp] theorem modUnnov_jwl (f : Unnov → Unnov) : (s.modUnnov f).jwl = s.jwl := rfl
@[simp] theorem modUnnov_trnReqs (f : Unnov → Unnov) : (s.modUnnov f).trnReqs = s.trnReqs := rfl
@[simp] theorem modUnnov_vlt (f : Unnov → Unnov) : (s.modUnnov f).vlt = s.vlt := rfl
@[simp] theorem modUnnov_aue (f : Unnov → Unnov) : (s.modUnnov f).aue = s.aue := rfl
@[simp] theorem modUnnov_bridges (f : Unnov → Unnov) : (s.modUnnov f).bridges = s.bridges := rfl
@[simp] theorem modUnnov_trx (f : Unnov → Unnov) : (s.modUnnov f).trx = s.trx := rfl
@[simp] theorem modUnnov_t1l (f : Unnov → Unnov) : (s.modUnnov f).t1l = s.t1l := rfl
@[simp] theorem modUnnov_cx (f : Unnov → Unnov) : (s.modUnnov f).cx = s.cx := rfl
@[simp] theorem modUnnov_nm (f : Unnov → Unnov) : (s.modUnnov f).nm = s.nm := rfl
@[simp] theorem modUnnov_nmReports (f : Unnov → Unnov) : (s.modUnnov f).nmReports = s.nmReports := rfl
@[simp] theorem modUnnov_s2s (f : Unnov → Unnov) : (s.modUnnov f).s2s = s.s2s := rfl
@[simp] theorem modUnnov_emc (f : Unnov → Unnov) : (s.modUnnov f).emc = s.emc := rfl
@[simp] theorem modUnnov_frer (f : Unnov → Unnov) : (s.modUnnov f).frer = s.frer := rfl
@[simp] theorem modUnnov_flow (f : Unnov → Unnov) : (s.modUnnov f).flow = s.flow := rfl
@[simp] theorem modUnnov_wakeFids (f : Unnov → Unnov) : (s.modUnnov f).wakeFids = s.wakeFids := rfl
@[simp] theorem modUnnov_outlets (f : Unnov → Unnov) : (s.modUnnov f).outlets = s.outlets := rfl
@[simp] theorem modUnnov_inlets (f : Unnov → Unnov) : (s.modUnnov f).inlets = s.inlets := rfl
@[simp] theorem modUnnov_irts (f : Unnov → Unnov) : (s.modUnnov f).irts = s.irts := rfl
@[simp] theorem modUnnov_dmc (f : Unnov → Unnov) : (s.modUnnov f).dmc = s.dmc := rfl
@[simp] theorem modUnnov_xsp (f : Unnov → Unnov) : (s.modUnnov f).xsp = s.xsp := rfl
@[simp] theorem modUnnov_crn (f : Unnov → Unnov) : (s.modUnnov f).crn = s.crn := rfl
@[simp] theorem modUnnov_straps (f : Unnov → Unnov) : (s.modUnnov f).straps = s.straps := rfl
@[simp] theorem modUnnov_twin (f : Unnov → Unnov) : (s.modUnnov f).twin = s.twin := rfl
@[simp] theorem modUnnov_free (f : Unnov → Unnov) : (s.modUnnov f).free = s.free := rfl

/-! `State.modCrn` -/
@[simp] theorem modCrn_pending (f : Crown → Crown) : (s.modCrn f).pending = s.pending := rfl
@[simp] theorem modCrn_regs (f : Crown → Crown) : (s.modCrn f).regs = s.regs := rfl
@[simp] theorem modCrn_shad (f : Crown → Crown) : (s.modCrn f).shad = s.shad := rfl
@[simp] theorem modCrn_wins (f : Crown → Crown) : (s.modCrn f).wins = s.wins := rfl
@[simp] theorem modCrn_bus (f : Crown → Crown) : (s.modCrn f).bus = s.bus := rfl
@[simp] theorem modCrn_deferred (f : Crown → Crown) : (s.modCrn f).deferred = s.deferred := rfl
@[simp] theorem modCrn_shared (f : Crown → Crown) : (s.modCrn f).shared = s.shared := rfl
@[simp] theorem modCrn_icxLog (f : Crown → Crown) : (s.modCrn f).icxLog = s.icxLog := rfl
@[simp] theorem modCrn_icxLost (f : Crown → Crown) : (s.modCrn f).icxLost = s.icxLost := rfl
@[simp] theorem modCrn_sources (f : Crown → Crown) : (s.modCrn f).sources = s.sources := rfl
@[simp] theorem modCrn_posts (f : Crown → Crown) : (s.modCrn f).posts = s.posts := rfl
@[simp] theorem modCrn_errPin (f : Crown → Crown) : (s.modCrn f).errPin = s.errPin := rfl
@[simp] theorem modCrn_bal (f : Crown → Crown) : (s.modCrn f).bal = s.bal := rfl
@[simp] theorem modCrn_trains (f : Crown → Crown) : (s.modCrn f).trains = s.trains := rfl
@[simp] theorem modCrn_pairs (f : Crown → Crown) : (s.modCrn f).pairs = s.pairs := rfl
@[simp] theorem modCrn_rsqPeak (f : Crown → Crown) : (s.modCrn f).rsqPeak = s.rsqPeak := rfl
@[simp] theorem modCrn_pond (f : Crown → Crown) : (s.modCrn f).pond = s.pond := rfl
@[simp] theorem modCrn_dials (f : Crown → Crown) : (s.modCrn f).dials = s.dials := rfl
@[simp] theorem modCrn_tms (f : Crown → Crown) : (s.modCrn f).tms = s.tms := rfl
@[simp] theorem modCrn_ldg (f : Crown → Crown) : (s.modCrn f).ldg = s.ldg := rfl
@[simp] theorem modCrn_rings (f : Crown → Crown) : (s.modCrn f).rings = s.rings := rfl
@[simp] theorem modCrn_emt (f : Crown → Crown) : (s.modCrn f).emt = s.emt := rfl
@[simp] theorem modCrn_wct (f : Crown → Crown) : (s.modCrn f).wct = s.wct := rfl
@[simp] theorem modCrn_pset (f : Crown → Crown) : (s.modCrn f).pset = s.pset := rfl
@[simp] theorem modCrn_pol (f : Crown → Crown) : (s.modCrn f).pol = s.pol := rfl
@[simp] theorem modCrn_cdm (f : Crown → Crown) : (s.modCrn f).cdm = s.cdm := rfl
@[simp] theorem modCrn_pwr (f : Crown → Crown) : (s.modCrn f).pwr = s.pwr := rfl
@[simp] theorem modCrn_shores (f : Crown → Crown) : (s.modCrn f).shores = s.shores := rfl
@[simp] theorem modCrn_mem (f : Crown → Crown) : (s.modCrn f).mem = s.mem := rfl
@[simp] theorem modCrn_nor (f : Crown → Crown) : (s.modCrn f).nor = s.nor := rfl
@[simp] theorem modCrn_sge (f : Crown → Crown) : (s.modCrn f).sge = s.sge := rfl
@[simp] theorem modCrn_fuses (f : Crown → Crown) : (s.modCrn f).fuses = s.fuses := rfl
@[simp] theorem modCrn_jwl (f : Crown → Crown) : (s.modCrn f).jwl = s.jwl := rfl
@[simp] theorem modCrn_trnReqs (f : Crown → Crown) : (s.modCrn f).trnReqs = s.trnReqs := rfl
@[simp] theorem modCrn_vlt (f : Crown → Crown) : (s.modCrn f).vlt = s.vlt := rfl
@[simp] theorem modCrn_aue (f : Crown → Crown) : (s.modCrn f).aue = s.aue := rfl
@[simp] theorem modCrn_bridges (f : Crown → Crown) : (s.modCrn f).bridges = s.bridges := rfl
@[simp] theorem modCrn_trx (f : Crown → Crown) : (s.modCrn f).trx = s.trx := rfl
@[simp] theorem modCrn_t1l (f : Crown → Crown) : (s.modCrn f).t1l = s.t1l := rfl
@[simp] theorem modCrn_cx (f : Crown → Crown) : (s.modCrn f).cx = s.cx := rfl
@[simp] theorem modCrn_nm (f : Crown → Crown) : (s.modCrn f).nm = s.nm := rfl
@[simp] theorem modCrn_nmReports (f : Crown → Crown) : (s.modCrn f).nmReports = s.nmReports := rfl
@[simp] theorem modCrn_s2s (f : Crown → Crown) : (s.modCrn f).s2s = s.s2s := rfl
@[simp] theorem modCrn_emc (f : Crown → Crown) : (s.modCrn f).emc = s.emc := rfl
@[simp] theorem modCrn_frer (f : Crown → Crown) : (s.modCrn f).frer = s.frer := rfl
@[simp] theorem modCrn_flow (f : Crown → Crown) : (s.modCrn f).flow = s.flow := rfl
@[simp] theorem modCrn_wakeFids (f : Crown → Crown) : (s.modCrn f).wakeFids = s.wakeFids := rfl
@[simp] theorem modCrn_outlets (f : Crown → Crown) : (s.modCrn f).outlets = s.outlets := rfl
@[simp] theorem modCrn_inlets (f : Crown → Crown) : (s.modCrn f).inlets = s.inlets := rfl
@[simp] theorem modCrn_irts (f : Crown → Crown) : (s.modCrn f).irts = s.irts := rfl
@[simp] theorem modCrn_dmc (f : Crown → Crown) : (s.modCrn f).dmc = s.dmc := rfl
@[simp] theorem modCrn_xsp (f : Crown → Crown) : (s.modCrn f).xsp = s.xsp := rfl
@[simp] theorem modCrn_unnov (f : Crown → Crown) : (s.modCrn f).unnov = s.unnov := rfl
@[simp] theorem modCrn_straps (f : Crown → Crown) : (s.modCrn f).straps = s.straps := rfl
@[simp] theorem modCrn_twin (f : Crown → Crown) : (s.modCrn f).twin = s.twin := rfl
@[simp] theorem modCrn_free (f : Crown → Crown) : (s.modCrn f).free = s.free := rfl

/-! `State.setShore` -/
@[simp] theorem setShore_pending (d : Nat) (x : Shore) : (s.setShore d x).pending = s.pending := rfl
@[simp] theorem setShore_regs (d : Nat) (x : Shore) : (s.setShore d x).regs = s.regs := rfl
@[simp] theorem setShore_shad (d : Nat) (x : Shore) : (s.setShore d x).shad = s.shad := rfl
@[simp] theorem setShore_wins (d : Nat) (x : Shore) : (s.setShore d x).wins = s.wins := rfl
@[simp] theorem setShore_bus (d : Nat) (x : Shore) : (s.setShore d x).bus = s.bus := rfl
@[simp] theorem setShore_deferred (d : Nat) (x : Shore) : (s.setShore d x).deferred = s.deferred := rfl
@[simp] theorem setShore_shared (d : Nat) (x : Shore) : (s.setShore d x).shared = s.shared := rfl
@[simp] theorem setShore_icxLog (d : Nat) (x : Shore) : (s.setShore d x).icxLog = s.icxLog := rfl
@[simp] theorem setShore_icxLost (d : Nat) (x : Shore) : (s.setShore d x).icxLost = s.icxLost := rfl
@[simp] theorem setShore_sources (d : Nat) (x : Shore) : (s.setShore d x).sources = s.sources := rfl
@[simp] theorem setShore_posts (d : Nat) (x : Shore) : (s.setShore d x).posts = s.posts := rfl
@[simp] theorem setShore_errPin (d : Nat) (x : Shore) : (s.setShore d x).errPin = s.errPin := rfl
@[simp] theorem setShore_bal (d : Nat) (x : Shore) : (s.setShore d x).bal = s.bal := rfl
@[simp] theorem setShore_trains (d : Nat) (x : Shore) : (s.setShore d x).trains = s.trains := rfl
@[simp] theorem setShore_pairs (d : Nat) (x : Shore) : (s.setShore d x).pairs = s.pairs := rfl
@[simp] theorem setShore_rsqPeak (d : Nat) (x : Shore) : (s.setShore d x).rsqPeak = s.rsqPeak := rfl
@[simp] theorem setShore_pond (d : Nat) (x : Shore) : (s.setShore d x).pond = s.pond := rfl
@[simp] theorem setShore_dials (d : Nat) (x : Shore) : (s.setShore d x).dials = s.dials := rfl
@[simp] theorem setShore_tms (d : Nat) (x : Shore) : (s.setShore d x).tms = s.tms := rfl
@[simp] theorem setShore_ldg (d : Nat) (x : Shore) : (s.setShore d x).ldg = s.ldg := rfl
@[simp] theorem setShore_rings (d : Nat) (x : Shore) : (s.setShore d x).rings = s.rings := rfl
@[simp] theorem setShore_emt (d : Nat) (x : Shore) : (s.setShore d x).emt = s.emt := rfl
@[simp] theorem setShore_wct (d : Nat) (x : Shore) : (s.setShore d x).wct = s.wct := rfl
@[simp] theorem setShore_pset (d : Nat) (x : Shore) : (s.setShore d x).pset = s.pset := rfl
@[simp] theorem setShore_pol (d : Nat) (x : Shore) : (s.setShore d x).pol = s.pol := rfl
@[simp] theorem setShore_cdm (d : Nat) (x : Shore) : (s.setShore d x).cdm = s.cdm := rfl
@[simp] theorem setShore_pwr (d : Nat) (x : Shore) : (s.setShore d x).pwr = s.pwr := rfl
@[simp] theorem setShore_mem (d : Nat) (x : Shore) : (s.setShore d x).mem = s.mem := rfl
@[simp] theorem setShore_nor (d : Nat) (x : Shore) : (s.setShore d x).nor = s.nor := rfl
@[simp] theorem setShore_sge (d : Nat) (x : Shore) : (s.setShore d x).sge = s.sge := rfl
@[simp] theorem setShore_fuses (d : Nat) (x : Shore) : (s.setShore d x).fuses = s.fuses := rfl
@[simp] theorem setShore_jwl (d : Nat) (x : Shore) : (s.setShore d x).jwl = s.jwl := rfl
@[simp] theorem setShore_trnReqs (d : Nat) (x : Shore) : (s.setShore d x).trnReqs = s.trnReqs := rfl
@[simp] theorem setShore_vlt (d : Nat) (x : Shore) : (s.setShore d x).vlt = s.vlt := rfl
@[simp] theorem setShore_aue (d : Nat) (x : Shore) : (s.setShore d x).aue = s.aue := rfl
@[simp] theorem setShore_bridges (d : Nat) (x : Shore) : (s.setShore d x).bridges = s.bridges := rfl
@[simp] theorem setShore_trx (d : Nat) (x : Shore) : (s.setShore d x).trx = s.trx := rfl
@[simp] theorem setShore_t1l (d : Nat) (x : Shore) : (s.setShore d x).t1l = s.t1l := rfl
@[simp] theorem setShore_cx (d : Nat) (x : Shore) : (s.setShore d x).cx = s.cx := rfl
@[simp] theorem setShore_nm (d : Nat) (x : Shore) : (s.setShore d x).nm = s.nm := rfl
@[simp] theorem setShore_nmReports (d : Nat) (x : Shore) : (s.setShore d x).nmReports = s.nmReports := rfl
@[simp] theorem setShore_s2s (d : Nat) (x : Shore) : (s.setShore d x).s2s = s.s2s := rfl
@[simp] theorem setShore_emc (d : Nat) (x : Shore) : (s.setShore d x).emc = s.emc := rfl
@[simp] theorem setShore_frer (d : Nat) (x : Shore) : (s.setShore d x).frer = s.frer := rfl
@[simp] theorem setShore_flow (d : Nat) (x : Shore) : (s.setShore d x).flow = s.flow := rfl
@[simp] theorem setShore_wakeFids (d : Nat) (x : Shore) : (s.setShore d x).wakeFids = s.wakeFids := rfl
@[simp] theorem setShore_outlets (d : Nat) (x : Shore) : (s.setShore d x).outlets = s.outlets := rfl
@[simp] theorem setShore_inlets (d : Nat) (x : Shore) : (s.setShore d x).inlets = s.inlets := rfl
@[simp] theorem setShore_irts (d : Nat) (x : Shore) : (s.setShore d x).irts = s.irts := rfl
@[simp] theorem setShore_dmc (d : Nat) (x : Shore) : (s.setShore d x).dmc = s.dmc := rfl
@[simp] theorem setShore_xsp (d : Nat) (x : Shore) : (s.setShore d x).xsp = s.xsp := rfl
@[simp] theorem setShore_crn (d : Nat) (x : Shore) : (s.setShore d x).crn = s.crn := rfl
@[simp] theorem setShore_unnov (d : Nat) (x : Shore) : (s.setShore d x).unnov = s.unnov := rfl
@[simp] theorem setShore_straps (d : Nat) (x : Shore) : (s.setShore d x).straps = s.straps := rfl
@[simp] theorem setShore_twin (d : Nat) (x : Shore) : (s.setShore d x).twin = s.twin := rfl
@[simp] theorem setShore_free (d : Nat) (x : Shore) : (s.setShore d x).free = s.free := rfl

/-! `State.setCx` -/
@[simp] theorem setCx_pending (n : Nat) (x : Cx) : (s.setCx n x).pending = s.pending := rfl
@[simp] theorem setCx_regs (n : Nat) (x : Cx) : (s.setCx n x).regs = s.regs := rfl
@[simp] theorem setCx_shad (n : Nat) (x : Cx) : (s.setCx n x).shad = s.shad := rfl
@[simp] theorem setCx_wins (n : Nat) (x : Cx) : (s.setCx n x).wins = s.wins := rfl
@[simp] theorem setCx_bus (n : Nat) (x : Cx) : (s.setCx n x).bus = s.bus := rfl
@[simp] theorem setCx_deferred (n : Nat) (x : Cx) : (s.setCx n x).deferred = s.deferred := rfl
@[simp] theorem setCx_shared (n : Nat) (x : Cx) : (s.setCx n x).shared = s.shared := rfl
@[simp] theorem setCx_icxLog (n : Nat) (x : Cx) : (s.setCx n x).icxLog = s.icxLog := rfl
@[simp] theorem setCx_icxLost (n : Nat) (x : Cx) : (s.setCx n x).icxLost = s.icxLost := rfl
@[simp] theorem setCx_sources (n : Nat) (x : Cx) : (s.setCx n x).sources = s.sources := rfl
@[simp] theorem setCx_posts (n : Nat) (x : Cx) : (s.setCx n x).posts = s.posts := rfl
@[simp] theorem setCx_errPin (n : Nat) (x : Cx) : (s.setCx n x).errPin = s.errPin := rfl
@[simp] theorem setCx_bal (n : Nat) (x : Cx) : (s.setCx n x).bal = s.bal := rfl
@[simp] theorem setCx_trains (n : Nat) (x : Cx) : (s.setCx n x).trains = s.trains := rfl
@[simp] theorem setCx_pairs (n : Nat) (x : Cx) : (s.setCx n x).pairs = s.pairs := rfl
@[simp] theorem setCx_rsqPeak (n : Nat) (x : Cx) : (s.setCx n x).rsqPeak = s.rsqPeak := rfl
@[simp] theorem setCx_pond (n : Nat) (x : Cx) : (s.setCx n x).pond = s.pond := rfl
@[simp] theorem setCx_dials (n : Nat) (x : Cx) : (s.setCx n x).dials = s.dials := rfl
@[simp] theorem setCx_tms (n : Nat) (x : Cx) : (s.setCx n x).tms = s.tms := rfl
@[simp] theorem setCx_ldg (n : Nat) (x : Cx) : (s.setCx n x).ldg = s.ldg := rfl
@[simp] theorem setCx_rings (n : Nat) (x : Cx) : (s.setCx n x).rings = s.rings := rfl
@[simp] theorem setCx_emt (n : Nat) (x : Cx) : (s.setCx n x).emt = s.emt := rfl
@[simp] theorem setCx_wct (n : Nat) (x : Cx) : (s.setCx n x).wct = s.wct := rfl
@[simp] theorem setCx_pset (n : Nat) (x : Cx) : (s.setCx n x).pset = s.pset := rfl
@[simp] theorem setCx_pol (n : Nat) (x : Cx) : (s.setCx n x).pol = s.pol := rfl
@[simp] theorem setCx_cdm (n : Nat) (x : Cx) : (s.setCx n x).cdm = s.cdm := rfl
@[simp] theorem setCx_pwr (n : Nat) (x : Cx) : (s.setCx n x).pwr = s.pwr := rfl
@[simp] theorem setCx_shores (n : Nat) (x : Cx) : (s.setCx n x).shores = s.shores := rfl
@[simp] theorem setCx_mem (n : Nat) (x : Cx) : (s.setCx n x).mem = s.mem := rfl
@[simp] theorem setCx_nor (n : Nat) (x : Cx) : (s.setCx n x).nor = s.nor := rfl
@[simp] theorem setCx_sge (n : Nat) (x : Cx) : (s.setCx n x).sge = s.sge := rfl
@[simp] theorem setCx_fuses (n : Nat) (x : Cx) : (s.setCx n x).fuses = s.fuses := rfl
@[simp] theorem setCx_jwl (n : Nat) (x : Cx) : (s.setCx n x).jwl = s.jwl := rfl
@[simp] theorem setCx_trnReqs (n : Nat) (x : Cx) : (s.setCx n x).trnReqs = s.trnReqs := rfl
@[simp] theorem setCx_vlt (n : Nat) (x : Cx) : (s.setCx n x).vlt = s.vlt := rfl
@[simp] theorem setCx_aue (n : Nat) (x : Cx) : (s.setCx n x).aue = s.aue := rfl
@[simp] theorem setCx_bridges (n : Nat) (x : Cx) : (s.setCx n x).bridges = s.bridges := rfl
@[simp] theorem setCx_trx (n : Nat) (x : Cx) : (s.setCx n x).trx = s.trx := rfl
@[simp] theorem setCx_t1l (n : Nat) (x : Cx) : (s.setCx n x).t1l = s.t1l := rfl
@[simp] theorem setCx_nm (n : Nat) (x : Cx) : (s.setCx n x).nm = s.nm := rfl
@[simp] theorem setCx_nmReports (n : Nat) (x : Cx) : (s.setCx n x).nmReports = s.nmReports := rfl
@[simp] theorem setCx_s2s (n : Nat) (x : Cx) : (s.setCx n x).s2s = s.s2s := rfl
@[simp] theorem setCx_emc (n : Nat) (x : Cx) : (s.setCx n x).emc = s.emc := rfl
@[simp] theorem setCx_frer (n : Nat) (x : Cx) : (s.setCx n x).frer = s.frer := rfl
@[simp] theorem setCx_flow (n : Nat) (x : Cx) : (s.setCx n x).flow = s.flow := rfl
@[simp] theorem setCx_wakeFids (n : Nat) (x : Cx) : (s.setCx n x).wakeFids = s.wakeFids := rfl
@[simp] theorem setCx_outlets (n : Nat) (x : Cx) : (s.setCx n x).outlets = s.outlets := rfl
@[simp] theorem setCx_inlets (n : Nat) (x : Cx) : (s.setCx n x).inlets = s.inlets := rfl
@[simp] theorem setCx_irts (n : Nat) (x : Cx) : (s.setCx n x).irts = s.irts := rfl
@[simp] theorem setCx_dmc (n : Nat) (x : Cx) : (s.setCx n x).dmc = s.dmc := rfl
@[simp] theorem setCx_xsp (n : Nat) (x : Cx) : (s.setCx n x).xsp = s.xsp := rfl
@[simp] theorem setCx_crn (n : Nat) (x : Cx) : (s.setCx n x).crn = s.crn := rfl
@[simp] theorem setCx_unnov (n : Nat) (x : Cx) : (s.setCx n x).unnov = s.unnov := rfl
@[simp] theorem setCx_straps (n : Nat) (x : Cx) : (s.setCx n x).straps = s.straps := rfl
@[simp] theorem setCx_twin (n : Nat) (x : Cx) : (s.setCx n x).twin = s.twin := rfl
@[simp] theorem setCx_free (n : Nat) (x : Cx) : (s.setCx n x).free = s.free := rfl

/-! `State.setTr` -/
@[simp] theorem setTr_pending (n : Nat) (x : Trx) : (s.setTr n x).pending = s.pending := rfl
@[simp] theorem setTr_regs (n : Nat) (x : Trx) : (s.setTr n x).regs = s.regs := rfl
@[simp] theorem setTr_shad (n : Nat) (x : Trx) : (s.setTr n x).shad = s.shad := rfl
@[simp] theorem setTr_wins (n : Nat) (x : Trx) : (s.setTr n x).wins = s.wins := rfl
@[simp] theorem setTr_bus (n : Nat) (x : Trx) : (s.setTr n x).bus = s.bus := rfl
@[simp] theorem setTr_deferred (n : Nat) (x : Trx) : (s.setTr n x).deferred = s.deferred := rfl
@[simp] theorem setTr_shared (n : Nat) (x : Trx) : (s.setTr n x).shared = s.shared := rfl
@[simp] theorem setTr_icxLog (n : Nat) (x : Trx) : (s.setTr n x).icxLog = s.icxLog := rfl
@[simp] theorem setTr_icxLost (n : Nat) (x : Trx) : (s.setTr n x).icxLost = s.icxLost := rfl
@[simp] theorem setTr_sources (n : Nat) (x : Trx) : (s.setTr n x).sources = s.sources := rfl
@[simp] theorem setTr_posts (n : Nat) (x : Trx) : (s.setTr n x).posts = s.posts := rfl
@[simp] theorem setTr_errPin (n : Nat) (x : Trx) : (s.setTr n x).errPin = s.errPin := rfl
@[simp] theorem setTr_bal (n : Nat) (x : Trx) : (s.setTr n x).bal = s.bal := rfl
@[simp] theorem setTr_trains (n : Nat) (x : Trx) : (s.setTr n x).trains = s.trains := rfl
@[simp] theorem setTr_pairs (n : Nat) (x : Trx) : (s.setTr n x).pairs = s.pairs := rfl
@[simp] theorem setTr_rsqPeak (n : Nat) (x : Trx) : (s.setTr n x).rsqPeak = s.rsqPeak := rfl
@[simp] theorem setTr_pond (n : Nat) (x : Trx) : (s.setTr n x).pond = s.pond := rfl
@[simp] theorem setTr_dials (n : Nat) (x : Trx) : (s.setTr n x).dials = s.dials := rfl
@[simp] theorem setTr_tms (n : Nat) (x : Trx) : (s.setTr n x).tms = s.tms := rfl
@[simp] theorem setTr_ldg (n : Nat) (x : Trx) : (s.setTr n x).ldg = s.ldg := rfl
@[simp] theorem setTr_rings (n : Nat) (x : Trx) : (s.setTr n x).rings = s.rings := rfl
@[simp] theorem setTr_emt (n : Nat) (x : Trx) : (s.setTr n x).emt = s.emt := rfl
@[simp] theorem setTr_wct (n : Nat) (x : Trx) : (s.setTr n x).wct = s.wct := rfl
@[simp] theorem setTr_pset (n : Nat) (x : Trx) : (s.setTr n x).pset = s.pset := rfl
@[simp] theorem setTr_pol (n : Nat) (x : Trx) : (s.setTr n x).pol = s.pol := rfl
@[simp] theorem setTr_cdm (n : Nat) (x : Trx) : (s.setTr n x).cdm = s.cdm := rfl
@[simp] theorem setTr_pwr (n : Nat) (x : Trx) : (s.setTr n x).pwr = s.pwr := rfl
@[simp] theorem setTr_shores (n : Nat) (x : Trx) : (s.setTr n x).shores = s.shores := rfl
@[simp] theorem setTr_mem (n : Nat) (x : Trx) : (s.setTr n x).mem = s.mem := rfl
@[simp] theorem setTr_nor (n : Nat) (x : Trx) : (s.setTr n x).nor = s.nor := rfl
@[simp] theorem setTr_sge (n : Nat) (x : Trx) : (s.setTr n x).sge = s.sge := rfl
@[simp] theorem setTr_fuses (n : Nat) (x : Trx) : (s.setTr n x).fuses = s.fuses := rfl
@[simp] theorem setTr_jwl (n : Nat) (x : Trx) : (s.setTr n x).jwl = s.jwl := rfl
@[simp] theorem setTr_trnReqs (n : Nat) (x : Trx) : (s.setTr n x).trnReqs = s.trnReqs := rfl
@[simp] theorem setTr_vlt (n : Nat) (x : Trx) : (s.setTr n x).vlt = s.vlt := rfl
@[simp] theorem setTr_aue (n : Nat) (x : Trx) : (s.setTr n x).aue = s.aue := rfl
@[simp] theorem setTr_bridges (n : Nat) (x : Trx) : (s.setTr n x).bridges = s.bridges := rfl
@[simp] theorem setTr_t1l (n : Nat) (x : Trx) : (s.setTr n x).t1l = s.t1l := rfl
@[simp] theorem setTr_cx (n : Nat) (x : Trx) : (s.setTr n x).cx = s.cx := rfl
@[simp] theorem setTr_nm (n : Nat) (x : Trx) : (s.setTr n x).nm = s.nm := rfl
@[simp] theorem setTr_nmReports (n : Nat) (x : Trx) : (s.setTr n x).nmReports = s.nmReports := rfl
@[simp] theorem setTr_s2s (n : Nat) (x : Trx) : (s.setTr n x).s2s = s.s2s := rfl
@[simp] theorem setTr_emc (n : Nat) (x : Trx) : (s.setTr n x).emc = s.emc := rfl
@[simp] theorem setTr_frer (n : Nat) (x : Trx) : (s.setTr n x).frer = s.frer := rfl
@[simp] theorem setTr_flow (n : Nat) (x : Trx) : (s.setTr n x).flow = s.flow := rfl
@[simp] theorem setTr_wakeFids (n : Nat) (x : Trx) : (s.setTr n x).wakeFids = s.wakeFids := rfl
@[simp] theorem setTr_outlets (n : Nat) (x : Trx) : (s.setTr n x).outlets = s.outlets := rfl
@[simp] theorem setTr_inlets (n : Nat) (x : Trx) : (s.setTr n x).inlets = s.inlets := rfl
@[simp] theorem setTr_irts (n : Nat) (x : Trx) : (s.setTr n x).irts = s.irts := rfl
@[simp] theorem setTr_dmc (n : Nat) (x : Trx) : (s.setTr n x).dmc = s.dmc := rfl
@[simp] theorem setTr_xsp (n : Nat) (x : Trx) : (s.setTr n x).xsp = s.xsp := rfl
@[simp] theorem setTr_crn (n : Nat) (x : Trx) : (s.setTr n x).crn = s.crn := rfl
@[simp] theorem setTr_unnov (n : Nat) (x : Trx) : (s.setTr n x).unnov = s.unnov := rfl
@[simp] theorem setTr_straps (n : Nat) (x : Trx) : (s.setTr n x).straps = s.straps := rfl
@[simp] theorem setTr_twin (n : Nat) (x : Trx) : (s.setTr n x).twin = s.twin := rfl
@[simp] theorem setTr_free (n : Nat) (x : Trx) : (s.setTr n x).free = s.free := rfl

/-! `State.modLine` -/
@[simp] theorem modLine_pending (k : Nat) (f : T1l → T1l) : (s.modLine k f).pending = s.pending := rfl
@[simp] theorem modLine_regs (k : Nat) (f : T1l → T1l) : (s.modLine k f).regs = s.regs := rfl
@[simp] theorem modLine_shad (k : Nat) (f : T1l → T1l) : (s.modLine k f).shad = s.shad := rfl
@[simp] theorem modLine_wins (k : Nat) (f : T1l → T1l) : (s.modLine k f).wins = s.wins := rfl
@[simp] theorem modLine_bus (k : Nat) (f : T1l → T1l) : (s.modLine k f).bus = s.bus := rfl
@[simp] theorem modLine_deferred (k : Nat) (f : T1l → T1l) : (s.modLine k f).deferred = s.deferred := rfl
@[simp] theorem modLine_shared (k : Nat) (f : T1l → T1l) : (s.modLine k f).shared = s.shared := rfl
@[simp] theorem modLine_icxLog (k : Nat) (f : T1l → T1l) : (s.modLine k f).icxLog = s.icxLog := rfl
@[simp] theorem modLine_icxLost (k : Nat) (f : T1l → T1l) : (s.modLine k f).icxLost = s.icxLost := rfl
@[simp] theorem modLine_sources (k : Nat) (f : T1l → T1l) : (s.modLine k f).sources = s.sources := rfl
@[simp] theorem modLine_posts (k : Nat) (f : T1l → T1l) : (s.modLine k f).posts = s.posts := rfl
@[simp] theorem modLine_errPin (k : Nat) (f : T1l → T1l) : (s.modLine k f).errPin = s.errPin := rfl
@[simp] theorem modLine_bal (k : Nat) (f : T1l → T1l) : (s.modLine k f).bal = s.bal := rfl
@[simp] theorem modLine_trains (k : Nat) (f : T1l → T1l) : (s.modLine k f).trains = s.trains := rfl
@[simp] theorem modLine_pairs (k : Nat) (f : T1l → T1l) : (s.modLine k f).pairs = s.pairs := rfl
@[simp] theorem modLine_rsqPeak (k : Nat) (f : T1l → T1l) : (s.modLine k f).rsqPeak = s.rsqPeak := rfl
@[simp] theorem modLine_pond (k : Nat) (f : T1l → T1l) : (s.modLine k f).pond = s.pond := rfl
@[simp] theorem modLine_dials (k : Nat) (f : T1l → T1l) : (s.modLine k f).dials = s.dials := rfl
@[simp] theorem modLine_tms (k : Nat) (f : T1l → T1l) : (s.modLine k f).tms = s.tms := rfl
@[simp] theorem modLine_ldg (k : Nat) (f : T1l → T1l) : (s.modLine k f).ldg = s.ldg := rfl
@[simp] theorem modLine_rings (k : Nat) (f : T1l → T1l) : (s.modLine k f).rings = s.rings := rfl
@[simp] theorem modLine_emt (k : Nat) (f : T1l → T1l) : (s.modLine k f).emt = s.emt := rfl
@[simp] theorem modLine_wct (k : Nat) (f : T1l → T1l) : (s.modLine k f).wct = s.wct := rfl
@[simp] theorem modLine_pset (k : Nat) (f : T1l → T1l) : (s.modLine k f).pset = s.pset := rfl
@[simp] theorem modLine_pol (k : Nat) (f : T1l → T1l) : (s.modLine k f).pol = s.pol := rfl
@[simp] theorem modLine_cdm (k : Nat) (f : T1l → T1l) : (s.modLine k f).cdm = s.cdm := rfl
@[simp] theorem modLine_pwr (k : Nat) (f : T1l → T1l) : (s.modLine k f).pwr = s.pwr := rfl
@[simp] theorem modLine_shores (k : Nat) (f : T1l → T1l) : (s.modLine k f).shores = s.shores := rfl
@[simp] theorem modLine_mem (k : Nat) (f : T1l → T1l) : (s.modLine k f).mem = s.mem := rfl
@[simp] theorem modLine_nor (k : Nat) (f : T1l → T1l) : (s.modLine k f).nor = s.nor := rfl
@[simp] theorem modLine_sge (k : Nat) (f : T1l → T1l) : (s.modLine k f).sge = s.sge := rfl
@[simp] theorem modLine_fuses (k : Nat) (f : T1l → T1l) : (s.modLine k f).fuses = s.fuses := rfl
@[simp] theorem modLine_jwl (k : Nat) (f : T1l → T1l) : (s.modLine k f).jwl = s.jwl := rfl
@[simp] theorem modLine_trnReqs (k : Nat) (f : T1l → T1l) : (s.modLine k f).trnReqs = s.trnReqs := rfl
@[simp] theorem modLine_vlt (k : Nat) (f : T1l → T1l) : (s.modLine k f).vlt = s.vlt := rfl
@[simp] theorem modLine_aue (k : Nat) (f : T1l → T1l) : (s.modLine k f).aue = s.aue := rfl
@[simp] theorem modLine_bridges (k : Nat) (f : T1l → T1l) : (s.modLine k f).bridges = s.bridges := rfl
@[simp] theorem modLine_trx (k : Nat) (f : T1l → T1l) : (s.modLine k f).trx = s.trx := rfl
@[simp] theorem modLine_cx (k : Nat) (f : T1l → T1l) : (s.modLine k f).cx = s.cx := rfl
@[simp] theorem modLine_nm (k : Nat) (f : T1l → T1l) : (s.modLine k f).nm = s.nm := rfl
@[simp] theorem modLine_nmReports (k : Nat) (f : T1l → T1l) : (s.modLine k f).nmReports = s.nmReports := rfl
@[simp] theorem modLine_s2s (k : Nat) (f : T1l → T1l) : (s.modLine k f).s2s = s.s2s := rfl
@[simp] theorem modLine_emc (k : Nat) (f : T1l → T1l) : (s.modLine k f).emc = s.emc := rfl
@[simp] theorem modLine_frer (k : Nat) (f : T1l → T1l) : (s.modLine k f).frer = s.frer := rfl
@[simp] theorem modLine_flow (k : Nat) (f : T1l → T1l) : (s.modLine k f).flow = s.flow := rfl
@[simp] theorem modLine_wakeFids (k : Nat) (f : T1l → T1l) : (s.modLine k f).wakeFids = s.wakeFids := rfl
@[simp] theorem modLine_outlets (k : Nat) (f : T1l → T1l) : (s.modLine k f).outlets = s.outlets := rfl
@[simp] theorem modLine_inlets (k : Nat) (f : T1l → T1l) : (s.modLine k f).inlets = s.inlets := rfl
@[simp] theorem modLine_irts (k : Nat) (f : T1l → T1l) : (s.modLine k f).irts = s.irts := rfl
@[simp] theorem modLine_dmc (k : Nat) (f : T1l → T1l) : (s.modLine k f).dmc = s.dmc := rfl
@[simp] theorem modLine_xsp (k : Nat) (f : T1l → T1l) : (s.modLine k f).xsp = s.xsp := rfl
@[simp] theorem modLine_crn (k : Nat) (f : T1l → T1l) : (s.modLine k f).crn = s.crn := rfl
@[simp] theorem modLine_unnov (k : Nat) (f : T1l → T1l) : (s.modLine k f).unnov = s.unnov := rfl
@[simp] theorem modLine_straps (k : Nat) (f : T1l → T1l) : (s.modLine k f).straps = s.straps := rfl
@[simp] theorem modLine_twin (k : Nat) (f : T1l → T1l) : (s.modLine k f).twin = s.twin := rfl
@[simp] theorem modLine_free (k : Nat) (f : T1l → T1l) : (s.modLine k f).free = s.free := rfl

/-! `State.modBridge` -/
@[simp] theorem modBridge_pending (d : Nat) (f : Bridge → Bridge) : (s.modBridge d f).pending = s.pending := rfl
@[simp] theorem modBridge_regs (d : Nat) (f : Bridge → Bridge) : (s.modBridge d f).regs = s.regs := rfl
@[simp] theorem modBridge_shad (d : Nat) (f : Bridge → Bridge) : (s.modBridge d f).shad = s.shad := rfl
@[simp] theorem modBridge_wins (d : Nat) (f : Bridge → Bridge) : (s.modBridge d f).wins = s.wins := rfl
@[simp] theorem modBridge_bus (d : Nat) (f : Bridge → Bridge) : (s.modBridge d f).bus = s.bus := rfl
@[simp] theorem modBridge_deferred (d : Nat) (f : Bridge → Bridge) : (s.modBridge d f).deferred = s.deferred := rfl
@[simp] theorem modBridge_shared (d : Nat) (f : Bridge → Bridge) : (s.modBridge d f).shared = s.shared := rfl
@[simp] theorem modBridge_icxLog (d : Nat) (f : Bridge → Bridge) : (s.modBridge d f).icxLog = s.icxLog := rfl
@[simp] theorem modBridge_icxLost (d : Nat) (f : Bridge → Bridge) : (s.modBridge d f).icxLost = s.icxLost := rfl
@[simp] theorem modBridge_sources (d : Nat) (f : Bridge → Bridge) : (s.modBridge d f).sources = s.sources := rfl
@[simp] theorem modBridge_posts (d : Nat) (f : Bridge → Bridge) : (s.modBridge d f).posts = s.posts := rfl
@[simp] theorem modBridge_errPin (d : Nat) (f : Bridge → Bridge) : (s.modBridge d f).errPin = s.errPin := rfl
@[simp] theorem modBridge_bal (d : Nat) (f : Bridge → Bridge) : (s.modBridge d f).bal = s.bal := rfl
@[simp] theorem modBridge_trains (d : Nat) (f : Bridge → Bridge) : (s.modBridge d f).trains = s.trains := rfl
@[simp] theorem modBridge_pairs (d : Nat) (f : Bridge → Bridge) : (s.modBridge d f).pairs = s.pairs := rfl
@[simp] theorem modBridge_rsqPeak (d : Nat) (f : Bridge → Bridge) : (s.modBridge d f).rsqPeak = s.rsqPeak := rfl
@[simp] theorem modBridge_pond (d : Nat) (f : Bridge → Bridge) : (s.modBridge d f).pond = s.pond := rfl
@[simp] theorem modBridge_dials (d : Nat) (f : Bridge → Bridge) : (s.modBridge d f).dials = s.dials := rfl
@[simp] theorem modBridge_tms (d : Nat) (f : Bridge → Bridge) : (s.modBridge d f).tms = s.tms := rfl
@[simp] theorem modBridge_ldg (d : Nat) (f : Bridge → Bridge) : (s.modBridge d f).ldg = s.ldg := rfl
@[simp] theorem modBridge_rings (d : Nat) (f : Bridge → Bridge) : (s.modBridge d f).rings = s.rings := rfl
@[simp] theorem modBridge_emt (d : Nat) (f : Bridge → Bridge) : (s.modBridge d f).emt = s.emt := rfl
@[simp] theorem modBridge_wct (d : Nat) (f : Bridge → Bridge) : (s.modBridge d f).wct = s.wct := rfl
@[simp] theorem modBridge_pset (d : Nat) (f : Bridge → Bridge) : (s.modBridge d f).pset = s.pset := rfl
@[simp] theorem modBridge_pol (d : Nat) (f : Bridge → Bridge) : (s.modBridge d f).pol = s.pol := rfl
@[simp] theorem modBridge_cdm (d : Nat) (f : Bridge → Bridge) : (s.modBridge d f).cdm = s.cdm := rfl
@[simp] theorem modBridge_pwr (d : Nat) (f : Bridge → Bridge) : (s.modBridge d f).pwr = s.pwr := rfl
@[simp] theorem modBridge_shores (d : Nat) (f : Bridge → Bridge) : (s.modBridge d f).shores = s.shores := rfl
@[simp] theorem modBridge_mem (d : Nat) (f : Bridge → Bridge) : (s.modBridge d f).mem = s.mem := rfl
@[simp] theorem modBridge_nor (d : Nat) (f : Bridge → Bridge) : (s.modBridge d f).nor = s.nor := rfl
@[simp] theorem modBridge_sge (d : Nat) (f : Bridge → Bridge) : (s.modBridge d f).sge = s.sge := rfl
@[simp] theorem modBridge_fuses (d : Nat) (f : Bridge → Bridge) : (s.modBridge d f).fuses = s.fuses := rfl
@[simp] theorem modBridge_jwl (d : Nat) (f : Bridge → Bridge) : (s.modBridge d f).jwl = s.jwl := rfl
@[simp] theorem modBridge_trnReqs (d : Nat) (f : Bridge → Bridge) : (s.modBridge d f).trnReqs = s.trnReqs := rfl
@[simp] theorem modBridge_vlt (d : Nat) (f : Bridge → Bridge) : (s.modBridge d f).vlt = s.vlt := rfl
@[simp] theorem modBridge_aue (d : Nat) (f : Bridge → Bridge) : (s.modBridge d f).aue = s.aue := rfl
@[simp] theorem modBridge_trx (d : Nat) (f : Bridge → Bridge) : (s.modBridge d f).trx = s.trx := rfl
@[simp] theorem modBridge_t1l (d : Nat) (f : Bridge → Bridge) : (s.modBridge d f).t1l = s.t1l := rfl
@[simp] theorem modBridge_cx (d : Nat) (f : Bridge → Bridge) : (s.modBridge d f).cx = s.cx := rfl
@[simp] theorem modBridge_nm (d : Nat) (f : Bridge → Bridge) : (s.modBridge d f).nm = s.nm := rfl
@[simp] theorem modBridge_nmReports (d : Nat) (f : Bridge → Bridge) : (s.modBridge d f).nmReports = s.nmReports := rfl
@[simp] theorem modBridge_s2s (d : Nat) (f : Bridge → Bridge) : (s.modBridge d f).s2s = s.s2s := rfl
@[simp] theorem modBridge_emc (d : Nat) (f : Bridge → Bridge) : (s.modBridge d f).emc = s.emc := rfl
@[simp] theorem modBridge_frer (d : Nat) (f : Bridge → Bridge) : (s.modBridge d f).frer = s.frer := rfl
@[simp] theorem modBridge_flow (d : Nat) (f : Bridge → Bridge) : (s.modBridge d f).flow = s.flow := rfl
@[simp] theorem modBridge_wakeFids (d : Nat) (f : Bridge → Bridge) : (s.modBridge d f).wakeFids = s.wakeFids := rfl
@[simp] theorem modBridge_outlets (d : Nat) (f : Bridge → Bridge) : (s.modBridge d f).outlets = s.outlets := rfl
@[simp] theorem modBridge_inlets (d : Nat) (f : Bridge → Bridge) : (s.modBridge d f).inlets = s.inlets := rfl
@[simp] theorem modBridge_irts (d : Nat) (f : Bridge → Bridge) : (s.modBridge d f).irts = s.irts := rfl
@[simp] theorem modBridge_dmc (d : Nat) (f : Bridge → Bridge) : (s.modBridge d f).dmc = s.dmc := rfl
@[simp] theorem modBridge_xsp (d : Nat) (f : Bridge → Bridge) : (s.modBridge d f).xsp = s.xsp := rfl
@[simp] theorem modBridge_crn (d : Nat) (f : Bridge → Bridge) : (s.modBridge d f).crn = s.crn := rfl
@[simp] theorem modBridge_unnov (d : Nat) (f : Bridge → Bridge) : (s.modBridge d f).unnov = s.unnov := rfl
@[simp] theorem modBridge_straps (d : Nat) (f : Bridge → Bridge) : (s.modBridge d f).straps = s.straps := rfl
@[simp] theorem modBridge_twin (d : Nat) (f : Bridge → Bridge) : (s.modBridge d f).twin = s.twin := rfl
@[simp] theorem modBridge_free (d : Nat) (f : Bridge → Bridge) : (s.modBridge d f).free = s.free := rfl

/-! `State.modUnit` -/
@[simp] theorem modUnit_pending (u : Nat) (f : NmUnit → NmUnit) : (s.modUnit u f).pending = s.pending := rfl
@[simp] theorem modUnit_regs (u : Nat) (f : NmUnit → NmUnit) : (s.modUnit u f).regs = s.regs := rfl
@[simp] theorem modUnit_shad (u : Nat) (f : NmUnit → NmUnit) : (s.modUnit u f).shad = s.shad := rfl
@[simp] theorem modUnit_wins (u : Nat) (f : NmUnit → NmUnit) : (s.modUnit u f).wins = s.wins := rfl
@[simp] theorem modUnit_bus (u : Nat) (f : NmUnit → NmUnit) : (s.modUnit u f).bus = s.bus := rfl
@[simp] theorem modUnit_deferred (u : Nat) (f : NmUnit → NmUnit) : (s.modUnit u f).deferred = s.deferred := rfl
@[simp] theorem modUnit_shared (u : Nat) (f : NmUnit → NmUnit) : (s.modUnit u f).shared = s.shared := rfl
@[simp] theorem modUnit_icxLog (u : Nat) (f : NmUnit → NmUnit) : (s.modUnit u f).icxLog = s.icxLog := rfl
@[simp] theorem modUnit_icxLost (u : Nat) (f : NmUnit → NmUnit) : (s.modUnit u f).icxLost = s.icxLost := rfl
@[simp] theorem modUnit_sources (u : Nat) (f : NmUnit → NmUnit) : (s.modUnit u f).sources = s.sources := rfl
@[simp] theorem modUnit_posts (u : Nat) (f : NmUnit → NmUnit) : (s.modUnit u f).posts = s.posts := rfl
@[simp] theorem modUnit_errPin (u : Nat) (f : NmUnit → NmUnit) : (s.modUnit u f).errPin = s.errPin := rfl
@[simp] theorem modUnit_bal (u : Nat) (f : NmUnit → NmUnit) : (s.modUnit u f).bal = s.bal := rfl
@[simp] theorem modUnit_trains (u : Nat) (f : NmUnit → NmUnit) : (s.modUnit u f).trains = s.trains := rfl
@[simp] theorem modUnit_pairs (u : Nat) (f : NmUnit → NmUnit) : (s.modUnit u f).pairs = s.pairs := rfl
@[simp] theorem modUnit_rsqPeak (u : Nat) (f : NmUnit → NmUnit) : (s.modUnit u f).rsqPeak = s.rsqPeak := rfl
@[simp] theorem modUnit_pond (u : Nat) (f : NmUnit → NmUnit) : (s.modUnit u f).pond = s.pond := rfl
@[simp] theorem modUnit_dials (u : Nat) (f : NmUnit → NmUnit) : (s.modUnit u f).dials = s.dials := rfl
@[simp] theorem modUnit_tms (u : Nat) (f : NmUnit → NmUnit) : (s.modUnit u f).tms = s.tms := rfl
@[simp] theorem modUnit_ldg (u : Nat) (f : NmUnit → NmUnit) : (s.modUnit u f).ldg = s.ldg := rfl
@[simp] theorem modUnit_rings (u : Nat) (f : NmUnit → NmUnit) : (s.modUnit u f).rings = s.rings := rfl
@[simp] theorem modUnit_emt (u : Nat) (f : NmUnit → NmUnit) : (s.modUnit u f).emt = s.emt := rfl
@[simp] theorem modUnit_wct (u : Nat) (f : NmUnit → NmUnit) : (s.modUnit u f).wct = s.wct := rfl
@[simp] theorem modUnit_pset (u : Nat) (f : NmUnit → NmUnit) : (s.modUnit u f).pset = s.pset := rfl
@[simp] theorem modUnit_pol (u : Nat) (f : NmUnit → NmUnit) : (s.modUnit u f).pol = s.pol := rfl
@[simp] theorem modUnit_cdm (u : Nat) (f : NmUnit → NmUnit) : (s.modUnit u f).cdm = s.cdm := rfl
@[simp] theorem modUnit_pwr (u : Nat) (f : NmUnit → NmUnit) : (s.modUnit u f).pwr = s.pwr := rfl
@[simp] theorem modUnit_shores (u : Nat) (f : NmUnit → NmUnit) : (s.modUnit u f).shores = s.shores := rfl
@[simp] theorem modUnit_mem (u : Nat) (f : NmUnit → NmUnit) : (s.modUnit u f).mem = s.mem := rfl
@[simp] theorem modUnit_nor (u : Nat) (f : NmUnit → NmUnit) : (s.modUnit u f).nor = s.nor := rfl
@[simp] theorem modUnit_sge (u : Nat) (f : NmUnit → NmUnit) : (s.modUnit u f).sge = s.sge := rfl
@[simp] theorem modUnit_fuses (u : Nat) (f : NmUnit → NmUnit) : (s.modUnit u f).fuses = s.fuses := rfl
@[simp] theorem modUnit_jwl (u : Nat) (f : NmUnit → NmUnit) : (s.modUnit u f).jwl = s.jwl := rfl
@[simp] theorem modUnit_trnReqs (u : Nat) (f : NmUnit → NmUnit) : (s.modUnit u f).trnReqs = s.trnReqs := rfl
@[simp] theorem modUnit_vlt (u : Nat) (f : NmUnit → NmUnit) : (s.modUnit u f).vlt = s.vlt := rfl
@[simp] theorem modUnit_aue (u : Nat) (f : NmUnit → NmUnit) : (s.modUnit u f).aue = s.aue := rfl
@[simp] theorem modUnit_bridges (u : Nat) (f : NmUnit → NmUnit) : (s.modUnit u f).bridges = s.bridges := rfl
@[simp] theorem modUnit_trx (u : Nat) (f : NmUnit → NmUnit) : (s.modUnit u f).trx = s.trx := rfl
@[simp] theorem modUnit_t1l (u : Nat) (f : NmUnit → NmUnit) : (s.modUnit u f).t1l = s.t1l := rfl
@[simp] theorem modUnit_cx (u : Nat) (f : NmUnit → NmUnit) : (s.modUnit u f).cx = s.cx := rfl
@[simp] theorem modUnit_nmReports (u : Nat) (f : NmUnit → NmUnit) : (s.modUnit u f).nmReports = s.nmReports := rfl
@[simp] theorem modUnit_s2s (u : Nat) (f : NmUnit → NmUnit) : (s.modUnit u f).s2s = s.s2s := rfl
@[simp] theorem modUnit_emc (u : Nat) (f : NmUnit → NmUnit) : (s.modUnit u f).emc = s.emc := rfl
@[simp] theorem modUnit_frer (u : Nat) (f : NmUnit → NmUnit) : (s.modUnit u f).frer = s.frer := rfl
@[simp] theorem modUnit_flow (u : Nat) (f : NmUnit → NmUnit) : (s.modUnit u f).flow = s.flow := rfl
@[simp] theorem modUnit_wakeFids (u : Nat) (f : NmUnit → NmUnit) : (s.modUnit u f).wakeFids = s.wakeFids := rfl
@[simp] theorem modUnit_outlets (u : Nat) (f : NmUnit → NmUnit) : (s.modUnit u f).outlets = s.outlets := rfl
@[simp] theorem modUnit_inlets (u : Nat) (f : NmUnit → NmUnit) : (s.modUnit u f).inlets = s.inlets := rfl
@[simp] theorem modUnit_irts (u : Nat) (f : NmUnit → NmUnit) : (s.modUnit u f).irts = s.irts := rfl
@[simp] theorem modUnit_dmc (u : Nat) (f : NmUnit → NmUnit) : (s.modUnit u f).dmc = s.dmc := rfl
@[simp] theorem modUnit_xsp (u : Nat) (f : NmUnit → NmUnit) : (s.modUnit u f).xsp = s.xsp := rfl
@[simp] theorem modUnit_crn (u : Nat) (f : NmUnit → NmUnit) : (s.modUnit u f).crn = s.crn := rfl
@[simp] theorem modUnit_unnov (u : Nat) (f : NmUnit → NmUnit) : (s.modUnit u f).unnov = s.unnov := rfl
@[simp] theorem modUnit_straps (u : Nat) (f : NmUnit → NmUnit) : (s.modUnit u f).straps = s.straps := rfl
@[simp] theorem modUnit_twin (u : Nat) (f : NmUnit → NmUnit) : (s.modUnit u f).twin = s.twin := rfl
@[simp] theorem modUnit_free (u : Nat) (f : NmUnit → NmUnit) : (s.modUnit u f).free = s.free := rfl

/-! `State.modMac` -/
@[simp] theorem modMac_pending (k : Nat) (f : Emc → Emc) : (s.modMac k f).pending = s.pending := rfl
@[simp] theorem modMac_regs (k : Nat) (f : Emc → Emc) : (s.modMac k f).regs = s.regs := rfl
@[simp] theorem modMac_shad (k : Nat) (f : Emc → Emc) : (s.modMac k f).shad = s.shad := rfl
@[simp] theorem modMac_wins (k : Nat) (f : Emc → Emc) : (s.modMac k f).wins = s.wins := rfl
@[simp] theorem modMac_bus (k : Nat) (f : Emc → Emc) : (s.modMac k f).bus = s.bus := rfl
@[simp] theorem modMac_deferred (k : Nat) (f : Emc → Emc) : (s.modMac k f).deferred = s.deferred := rfl
@[simp] theorem modMac_shared (k : Nat) (f : Emc → Emc) : (s.modMac k f).shared = s.shared := rfl
@[simp] theorem modMac_icxLog (k : Nat) (f : Emc → Emc) : (s.modMac k f).icxLog = s.icxLog := rfl
@[simp] theorem modMac_icxLost (k : Nat) (f : Emc → Emc) : (s.modMac k f).icxLost = s.icxLost := rfl
@[simp] theorem modMac_sources (k : Nat) (f : Emc → Emc) : (s.modMac k f).sources = s.sources := rfl
@[simp] theorem modMac_posts (k : Nat) (f : Emc → Emc) : (s.modMac k f).posts = s.posts := rfl
@[simp] theorem modMac_errPin (k : Nat) (f : Emc → Emc) : (s.modMac k f).errPin = s.errPin := rfl
@[simp] theorem modMac_bal (k : Nat) (f : Emc → Emc) : (s.modMac k f).bal = s.bal := rfl
@[simp] theorem modMac_trains (k : Nat) (f : Emc → Emc) : (s.modMac k f).trains = s.trains := rfl
@[simp] theorem modMac_pairs (k : Nat) (f : Emc → Emc) : (s.modMac k f).pairs = s.pairs := rfl
@[simp] theorem modMac_rsqPeak (k : Nat) (f : Emc → Emc) : (s.modMac k f).rsqPeak = s.rsqPeak := rfl
@[simp] theorem modMac_pond (k : Nat) (f : Emc → Emc) : (s.modMac k f).pond = s.pond := rfl
@[simp] theorem modMac_dials (k : Nat) (f : Emc → Emc) : (s.modMac k f).dials = s.dials := rfl
@[simp] theorem modMac_tms (k : Nat) (f : Emc → Emc) : (s.modMac k f).tms = s.tms := rfl
@[simp] theorem modMac_ldg (k : Nat) (f : Emc → Emc) : (s.modMac k f).ldg = s.ldg := rfl
@[simp] theorem modMac_rings (k : Nat) (f : Emc → Emc) : (s.modMac k f).rings = s.rings := rfl
@[simp] theorem modMac_emt (k : Nat) (f : Emc → Emc) : (s.modMac k f).emt = s.emt := rfl
@[simp] theorem modMac_wct (k : Nat) (f : Emc → Emc) : (s.modMac k f).wct = s.wct := rfl
@[simp] theorem modMac_pset (k : Nat) (f : Emc → Emc) : (s.modMac k f).pset = s.pset := rfl
@[simp] theorem modMac_pol (k : Nat) (f : Emc → Emc) : (s.modMac k f).pol = s.pol := rfl
@[simp] theorem modMac_cdm (k : Nat) (f : Emc → Emc) : (s.modMac k f).cdm = s.cdm := rfl
@[simp] theorem modMac_pwr (k : Nat) (f : Emc → Emc) : (s.modMac k f).pwr = s.pwr := rfl
@[simp] theorem modMac_shores (k : Nat) (f : Emc → Emc) : (s.modMac k f).shores = s.shores := rfl
@[simp] theorem modMac_mem (k : Nat) (f : Emc → Emc) : (s.modMac k f).mem = s.mem := rfl
@[simp] theorem modMac_nor (k : Nat) (f : Emc → Emc) : (s.modMac k f).nor = s.nor := rfl
@[simp] theorem modMac_sge (k : Nat) (f : Emc → Emc) : (s.modMac k f).sge = s.sge := rfl
@[simp] theorem modMac_fuses (k : Nat) (f : Emc → Emc) : (s.modMac k f).fuses = s.fuses := rfl
@[simp] theorem modMac_jwl (k : Nat) (f : Emc → Emc) : (s.modMac k f).jwl = s.jwl := rfl
@[simp] theorem modMac_trnReqs (k : Nat) (f : Emc → Emc) : (s.modMac k f).trnReqs = s.trnReqs := rfl
@[simp] theorem modMac_vlt (k : Nat) (f : Emc → Emc) : (s.modMac k f).vlt = s.vlt := rfl
@[simp] theorem modMac_aue (k : Nat) (f : Emc → Emc) : (s.modMac k f).aue = s.aue := rfl
@[simp] theorem modMac_bridges (k : Nat) (f : Emc → Emc) : (s.modMac k f).bridges = s.bridges := rfl
@[simp] theorem modMac_trx (k : Nat) (f : Emc → Emc) : (s.modMac k f).trx = s.trx := rfl
@[simp] theorem modMac_t1l (k : Nat) (f : Emc → Emc) : (s.modMac k f).t1l = s.t1l := rfl
@[simp] theorem modMac_cx (k : Nat) (f : Emc → Emc) : (s.modMac k f).cx = s.cx := rfl
@[simp] theorem modMac_nm (k : Nat) (f : Emc → Emc) : (s.modMac k f).nm = s.nm := rfl
@[simp] theorem modMac_nmReports (k : Nat) (f : Emc → Emc) : (s.modMac k f).nmReports = s.nmReports := rfl
@[simp] theorem modMac_s2s (k : Nat) (f : Emc → Emc) : (s.modMac k f).s2s = s.s2s := rfl
@[simp] theorem modMac_frer (k : Nat) (f : Emc → Emc) : (s.modMac k f).frer = s.frer := rfl
@[simp] theorem modMac_flow (k : Nat) (f : Emc → Emc) : (s.modMac k f).flow = s.flow := rfl
@[simp] theorem modMac_wakeFids (k : Nat) (f : Emc → Emc) : (s.modMac k f).wakeFids = s.wakeFids := rfl
@[simp] theorem modMac_outlets (k : Nat) (f : Emc → Emc) : (s.modMac k f).outlets = s.outlets := rfl
@[simp] theorem modMac_inlets (k : Nat) (f : Emc → Emc) : (s.modMac k f).inlets = s.inlets := rfl
@[simp] theorem modMac_irts (k : Nat) (f : Emc → Emc) : (s.modMac k f).irts = s.irts := rfl
@[simp] theorem modMac_dmc (k : Nat) (f : Emc → Emc) : (s.modMac k f).dmc = s.dmc := rfl
@[simp] theorem modMac_xsp (k : Nat) (f : Emc → Emc) : (s.modMac k f).xsp = s.xsp := rfl
@[simp] theorem modMac_crn (k : Nat) (f : Emc → Emc) : (s.modMac k f).crn = s.crn := rfl
@[simp] theorem modMac_unnov (k : Nat) (f : Emc → Emc) : (s.modMac k f).unnov = s.unnov := rfl
@[simp] theorem modMac_straps (k : Nat) (f : Emc → Emc) : (s.modMac k f).straps = s.straps := rfl
@[simp] theorem modMac_twin (k : Nat) (f : Emc → Emc) : (s.modMac k f).twin = s.twin := rfl
@[simp] theorem modMac_free (k : Nat) (f : Emc → Emc) : (s.modMac k f).free = s.free := rfl

/-! `State.setRing` -/
@[simp] theorem setRing_pending (r : Nat) (x : Ring) : (s.setRing r x).pending = s.pending := rfl
@[simp] theorem setRing_regs (r : Nat) (x : Ring) : (s.setRing r x).regs = s.regs := rfl
@[simp] theorem setRing_shad (r : Nat) (x : Ring) : (s.setRing r x).shad = s.shad := rfl
@[simp] theorem setRing_wins (r : Nat) (x : Ring) : (s.setRing r x).wins = s.wins := rfl
@[simp] theorem setRing_bus (r : Nat) (x : Ring) : (s.setRing r x).bus = s.bus := rfl
@[simp] theorem setRing_deferred (r : Nat) (x : Ring) : (s.setRing r x).deferred = s.deferred := rfl
@[simp] theorem setRing_shared (r : Nat) (x : Ring) : (s.setRing r x).shared = s.shared := rfl
@[simp] theorem setRing_icxLog (r : Nat) (x : Ring) : (s.setRing r x).icxLog = s.icxLog := rfl
@[simp] theorem setRing_icxLost (r : Nat) (x : Ring) : (s.setRing r x).icxLost = s.icxLost := rfl
@[simp] theorem setRing_sources (r : Nat) (x : Ring) : (s.setRing r x).sources = s.sources := rfl
@[simp] theorem setRing_posts (r : Nat) (x : Ring) : (s.setRing r x).posts = s.posts := rfl
@[simp] theorem setRing_errPin (r : Nat) (x : Ring) : (s.setRing r x).errPin = s.errPin := rfl
@[simp] theorem setRing_bal (r : Nat) (x : Ring) : (s.setRing r x).bal = s.bal := rfl
@[simp] theorem setRing_trains (r : Nat) (x : Ring) : (s.setRing r x).trains = s.trains := rfl
@[simp] theorem setRing_pairs (r : Nat) (x : Ring) : (s.setRing r x).pairs = s.pairs := rfl
@[simp] theorem setRing_rsqPeak (r : Nat) (x : Ring) : (s.setRing r x).rsqPeak = s.rsqPeak := rfl
@[simp] theorem setRing_pond (r : Nat) (x : Ring) : (s.setRing r x).pond = s.pond := rfl
@[simp] theorem setRing_dials (r : Nat) (x : Ring) : (s.setRing r x).dials = s.dials := rfl
@[simp] theorem setRing_tms (r : Nat) (x : Ring) : (s.setRing r x).tms = s.tms := rfl
@[simp] theorem setRing_ldg (r : Nat) (x : Ring) : (s.setRing r x).ldg = s.ldg := rfl
@[simp] theorem setRing_emt (r : Nat) (x : Ring) : (s.setRing r x).emt = s.emt := rfl
@[simp] theorem setRing_wct (r : Nat) (x : Ring) : (s.setRing r x).wct = s.wct := rfl
@[simp] theorem setRing_pset (r : Nat) (x : Ring) : (s.setRing r x).pset = s.pset := rfl
@[simp] theorem setRing_pol (r : Nat) (x : Ring) : (s.setRing r x).pol = s.pol := rfl
@[simp] theorem setRing_cdm (r : Nat) (x : Ring) : (s.setRing r x).cdm = s.cdm := rfl
@[simp] theorem setRing_pwr (r : Nat) (x : Ring) : (s.setRing r x).pwr = s.pwr := rfl
@[simp] theorem setRing_shores (r : Nat) (x : Ring) : (s.setRing r x).shores = s.shores := rfl
@[simp] theorem setRing_mem (r : Nat) (x : Ring) : (s.setRing r x).mem = s.mem := rfl
@[simp] theorem setRing_nor (r : Nat) (x : Ring) : (s.setRing r x).nor = s.nor := rfl
@[simp] theorem setRing_sge (r : Nat) (x : Ring) : (s.setRing r x).sge = s.sge := rfl
@[simp] theorem setRing_fuses (r : Nat) (x : Ring) : (s.setRing r x).fuses = s.fuses := rfl
@[simp] theorem setRing_jwl (r : Nat) (x : Ring) : (s.setRing r x).jwl = s.jwl := rfl
@[simp] theorem setRing_trnReqs (r : Nat) (x : Ring) : (s.setRing r x).trnReqs = s.trnReqs := rfl
@[simp] theorem setRing_vlt (r : Nat) (x : Ring) : (s.setRing r x).vlt = s.vlt := rfl
@[simp] theorem setRing_aue (r : Nat) (x : Ring) : (s.setRing r x).aue = s.aue := rfl
@[simp] theorem setRing_bridges (r : Nat) (x : Ring) : (s.setRing r x).bridges = s.bridges := rfl
@[simp] theorem setRing_trx (r : Nat) (x : Ring) : (s.setRing r x).trx = s.trx := rfl
@[simp] theorem setRing_t1l (r : Nat) (x : Ring) : (s.setRing r x).t1l = s.t1l := rfl
@[simp] theorem setRing_cx (r : Nat) (x : Ring) : (s.setRing r x).cx = s.cx := rfl
@[simp] theorem setRing_nm (r : Nat) (x : Ring) : (s.setRing r x).nm = s.nm := rfl
@[simp] theorem setRing_nmReports (r : Nat) (x : Ring) : (s.setRing r x).nmReports = s.nmReports := rfl
@[simp] theorem setRing_s2s (r : Nat) (x : Ring) : (s.setRing r x).s2s = s.s2s := rfl
@[simp] theorem setRing_emc (r : Nat) (x : Ring) : (s.setRing r x).emc = s.emc := rfl
@[simp] theorem setRing_frer (r : Nat) (x : Ring) : (s.setRing r x).frer = s.frer := rfl
@[simp] theorem setRing_flow (r : Nat) (x : Ring) : (s.setRing r x).flow = s.flow := rfl
@[simp] theorem setRing_wakeFids (r : Nat) (x : Ring) : (s.setRing r x).wakeFids = s.wakeFids := rfl
@[simp] theorem setRing_outlets (r : Nat) (x : Ring) : (s.setRing r x).outlets = s.outlets := rfl
@[simp] theorem setRing_inlets (r : Nat) (x : Ring) : (s.setRing r x).inlets = s.inlets := rfl
@[simp] theorem setRing_irts (r : Nat) (x : Ring) : (s.setRing r x).irts = s.irts := rfl
@[simp] theorem setRing_dmc (r : Nat) (x : Ring) : (s.setRing r x).dmc = s.dmc := rfl
@[simp] theorem setRing_xsp (r : Nat) (x : Ring) : (s.setRing r x).xsp = s.xsp := rfl
@[simp] theorem setRing_crn (r : Nat) (x : Ring) : (s.setRing r x).crn = s.crn := rfl
@[simp] theorem setRing_unnov (r : Nat) (x : Ring) : (s.setRing r x).unnov = s.unnov := rfl
@[simp] theorem setRing_straps (r : Nat) (x : Ring) : (s.setRing r x).straps = s.straps := rfl
@[simp] theorem setRing_twin (r : Nat) (x : Ring) : (s.setRing r x).twin = s.twin := rfl
@[simp] theorem setRing_free (r : Nat) (x : Ring) : (s.setRing r x).free = s.free := rfl

/-! `State.setDial` -/
@[simp] theorem setDial_pending (d : Nat) (x : Dial) : (s.setDial d x).pending = s.pending := rfl
@[simp] theorem setDial_regs (d : Nat) (x : Dial) : (s.setDial d x).regs = s.regs := rfl
@[simp] theorem setDial_shad (d : Nat) (x : Dial) : (s.setDial d x).shad = s.shad := rfl
@[simp] theorem setDial_wins (d : Nat) (x : Dial) : (s.setDial d x).wins = s.wins := rfl
@[simp] theorem setDial_bus (d : Nat) (x : Dial) : (s.setDial d x).bus = s.bus := rfl
@[simp] theorem setDial_deferred (d : Nat) (x : Dial) : (s.setDial d x).deferred = s.deferred := rfl
@[simp] theorem setDial_shared (d : Nat) (x : Dial) : (s.setDial d x).shared = s.shared := rfl
@[simp] theorem setDial_icxLog (d : Nat) (x : Dial) : (s.setDial d x).icxLog = s.icxLog := rfl
@[simp] theorem setDial_icxLost (d : Nat) (x : Dial) : (s.setDial d x).icxLost = s.icxLost := rfl
@[simp] theorem setDial_sources (d : Nat) (x : Dial) : (s.setDial d x).sources = s.sources := rfl
@[simp] theorem setDial_posts (d : Nat) (x : Dial) : (s.setDial d x).posts = s.posts := rfl
@[simp] theorem setDial_errPin (d : Nat) (x : Dial) : (s.setDial d x).errPin = s.errPin := rfl
@[simp] theorem setDial_bal (d : Nat) (x : Dial) : (s.setDial d x).bal = s.bal := rfl
@[simp] theorem setDial_trains (d : Nat) (x : Dial) : (s.setDial d x).trains = s.trains := rfl
@[simp] theorem setDial_pairs (d : Nat) (x : Dial) : (s.setDial d x).pairs = s.pairs := rfl
@[simp] theorem setDial_rsqPeak (d : Nat) (x : Dial) : (s.setDial d x).rsqPeak = s.rsqPeak := rfl
@[simp] theorem setDial_pond (d : Nat) (x : Dial) : (s.setDial d x).pond = s.pond := rfl
@[simp] theorem setDial_tms (d : Nat) (x : Dial) : (s.setDial d x).tms = s.tms := rfl
@[simp] theorem setDial_ldg (d : Nat) (x : Dial) : (s.setDial d x).ldg = s.ldg := rfl
@[simp] theorem setDial_rings (d : Nat) (x : Dial) : (s.setDial d x).rings = s.rings := rfl
@[simp] theorem setDial_emt (d : Nat) (x : Dial) : (s.setDial d x).emt = s.emt := rfl
@[simp] theorem setDial_wct (d : Nat) (x : Dial) : (s.setDial d x).wct = s.wct := rfl
@[simp] theorem setDial_pset (d : Nat) (x : Dial) : (s.setDial d x).pset = s.pset := rfl
@[simp] theorem setDial_pol (d : Nat) (x : Dial) : (s.setDial d x).pol = s.pol := rfl
@[simp] theorem setDial_cdm (d : Nat) (x : Dial) : (s.setDial d x).cdm = s.cdm := rfl
@[simp] theorem setDial_pwr (d : Nat) (x : Dial) : (s.setDial d x).pwr = s.pwr := rfl
@[simp] theorem setDial_shores (d : Nat) (x : Dial) : (s.setDial d x).shores = s.shores := rfl
@[simp] theorem setDial_mem (d : Nat) (x : Dial) : (s.setDial d x).mem = s.mem := rfl
@[simp] theorem setDial_nor (d : Nat) (x : Dial) : (s.setDial d x).nor = s.nor := rfl
@[simp] theorem setDial_sge (d : Nat) (x : Dial) : (s.setDial d x).sge = s.sge := rfl
@[simp] theorem setDial_fuses (d : Nat) (x : Dial) : (s.setDial d x).fuses = s.fuses := rfl
@[simp] theorem setDial_jwl (d : Nat) (x : Dial) : (s.setDial d x).jwl = s.jwl := rfl
@[simp] theorem setDial_trnReqs (d : Nat) (x : Dial) : (s.setDial d x).trnReqs = s.trnReqs := rfl
@[simp] theorem setDial_vlt (d : Nat) (x : Dial) : (s.setDial d x).vlt = s.vlt := rfl
@[simp] theorem setDial_aue (d : Nat) (x : Dial) : (s.setDial d x).aue = s.aue := rfl
@[simp] theorem setDial_bridges (d : Nat) (x : Dial) : (s.setDial d x).bridges = s.bridges := rfl
@[simp] theorem setDial_trx (d : Nat) (x : Dial) : (s.setDial d x).trx = s.trx := rfl
@[simp] theorem setDial_t1l (d : Nat) (x : Dial) : (s.setDial d x).t1l = s.t1l := rfl
@[simp] theorem setDial_cx (d : Nat) (x : Dial) : (s.setDial d x).cx = s.cx := rfl
@[simp] theorem setDial_nm (d : Nat) (x : Dial) : (s.setDial d x).nm = s.nm := rfl
@[simp] theorem setDial_nmReports (d : Nat) (x : Dial) : (s.setDial d x).nmReports = s.nmReports := rfl
@[simp] theorem setDial_s2s (d : Nat) (x : Dial) : (s.setDial d x).s2s = s.s2s := rfl
@[simp] theorem setDial_emc (d : Nat) (x : Dial) : (s.setDial d x).emc = s.emc := rfl
@[simp] theorem setDial_frer (d : Nat) (x : Dial) : (s.setDial d x).frer = s.frer := rfl
@[simp] theorem setDial_flow (d : Nat) (x : Dial) : (s.setDial d x).flow = s.flow := rfl
@[simp] theorem setDial_wakeFids (d : Nat) (x : Dial) : (s.setDial d x).wakeFids = s.wakeFids := rfl
@[simp] theorem setDial_outlets (d : Nat) (x : Dial) : (s.setDial d x).outlets = s.outlets := rfl
@[simp] theorem setDial_inlets (d : Nat) (x : Dial) : (s.setDial d x).inlets = s.inlets := rfl
@[simp] theorem setDial_irts (d : Nat) (x : Dial) : (s.setDial d x).irts = s.irts := rfl
@[simp] theorem setDial_dmc (d : Nat) (x : Dial) : (s.setDial d x).dmc = s.dmc := rfl
@[simp] theorem setDial_xsp (d : Nat) (x : Dial) : (s.setDial d x).xsp = s.xsp := rfl
@[simp] theorem setDial_crn (d : Nat) (x : Dial) : (s.setDial d x).crn = s.crn := rfl
@[simp] theorem setDial_unnov (d : Nat) (x : Dial) : (s.setDial d x).unnov = s.unnov := rfl
@[simp] theorem setDial_straps (d : Nat) (x : Dial) : (s.setDial d x).straps = s.straps := rfl
@[simp] theorem setDial_twin (d : Nat) (x : Dial) : (s.setDial d x).twin = s.twin := rfl
@[simp] theorem setDial_free (d : Nat) (x : Dial) : (s.setDial d x).free = s.free := rfl

/-! `State.setTrain` -/
@[simp] theorem setTrain_pending (k : Nat) (x : Train) : (s.setTrain k x).pending = s.pending := rfl
@[simp] theorem setTrain_regs (k : Nat) (x : Train) : (s.setTrain k x).regs = s.regs := rfl
@[simp] theorem setTrain_shad (k : Nat) (x : Train) : (s.setTrain k x).shad = s.shad := rfl
@[simp] theorem setTrain_wins (k : Nat) (x : Train) : (s.setTrain k x).wins = s.wins := rfl
@[simp] theorem setTrain_bus (k : Nat) (x : Train) : (s.setTrain k x).bus = s.bus := rfl
@[simp] theorem setTrain_deferred (k : Nat) (x : Train) : (s.setTrain k x).deferred = s.deferred := rfl
@[simp] theorem setTrain_shared (k : Nat) (x : Train) : (s.setTrain k x).shared = s.shared := rfl
@[simp] theorem setTrain_icxLog (k : Nat) (x : Train) : (s.setTrain k x).icxLog = s.icxLog := rfl
@[simp] theorem setTrain_icxLost (k : Nat) (x : Train) : (s.setTrain k x).icxLost = s.icxLost := rfl
@[simp] theorem setTrain_sources (k : Nat) (x : Train) : (s.setTrain k x).sources = s.sources := rfl
@[simp] theorem setTrain_posts (k : Nat) (x : Train) : (s.setTrain k x).posts = s.posts := rfl
@[simp] theorem setTrain_errPin (k : Nat) (x : Train) : (s.setTrain k x).errPin = s.errPin := rfl
@[simp] theorem setTrain_bal (k : Nat) (x : Train) : (s.setTrain k x).bal = s.bal := rfl
@[simp] theorem setTrain_pairs (k : Nat) (x : Train) : (s.setTrain k x).pairs = s.pairs := rfl
@[simp] theorem setTrain_rsqPeak (k : Nat) (x : Train) : (s.setTrain k x).rsqPeak = s.rsqPeak := rfl
@[simp] theorem setTrain_pond (k : Nat) (x : Train) : (s.setTrain k x).pond = s.pond := rfl
@[simp] theorem setTrain_dials (k : Nat) (x : Train) : (s.setTrain k x).dials = s.dials := rfl
@[simp] theorem setTrain_tms (k : Nat) (x : Train) : (s.setTrain k x).tms = s.tms := rfl
@[simp] theorem setTrain_ldg (k : Nat) (x : Train) : (s.setTrain k x).ldg = s.ldg := rfl
@[simp] theorem setTrain_rings (k : Nat) (x : Train) : (s.setTrain k x).rings = s.rings := rfl
@[simp] theorem setTrain_emt (k : Nat) (x : Train) : (s.setTrain k x).emt = s.emt := rfl
@[simp] theorem setTrain_wct (k : Nat) (x : Train) : (s.setTrain k x).wct = s.wct := rfl
@[simp] theorem setTrain_pset (k : Nat) (x : Train) : (s.setTrain k x).pset = s.pset := rfl
@[simp] theorem setTrain_pol (k : Nat) (x : Train) : (s.setTrain k x).pol = s.pol := rfl
@[simp] theorem setTrain_cdm (k : Nat) (x : Train) : (s.setTrain k x).cdm = s.cdm := rfl
@[simp] theorem setTrain_pwr (k : Nat) (x : Train) : (s.setTrain k x).pwr = s.pwr := rfl
@[simp] theorem setTrain_shores (k : Nat) (x : Train) : (s.setTrain k x).shores = s.shores := rfl
@[simp] theorem setTrain_mem (k : Nat) (x : Train) : (s.setTrain k x).mem = s.mem := rfl
@[simp] theorem setTrain_nor (k : Nat) (x : Train) : (s.setTrain k x).nor = s.nor := rfl
@[simp] theorem setTrain_sge (k : Nat) (x : Train) : (s.setTrain k x).sge = s.sge := rfl
@[simp] theorem setTrain_fuses (k : Nat) (x : Train) : (s.setTrain k x).fuses = s.fuses := rfl
@[simp] theorem setTrain_jwl (k : Nat) (x : Train) : (s.setTrain k x).jwl = s.jwl := rfl
@[simp] theorem setTrain_trnReqs (k : Nat) (x : Train) : (s.setTrain k x).trnReqs = s.trnReqs := rfl
@[simp] theorem setTrain_vlt (k : Nat) (x : Train) : (s.setTrain k x).vlt = s.vlt := rfl
@[simp] theorem setTrain_aue (k : Nat) (x : Train) : (s.setTrain k x).aue = s.aue := rfl
@[simp] theorem setTrain_bridges (k : Nat) (x : Train) : (s.setTrain k x).bridges = s.bridges := rfl
@[simp] theorem setTrain_trx (k : Nat) (x : Train) : (s.setTrain k x).trx = s.trx := rfl
@[simp] theorem setTrain_t1l (k : Nat) (x : Train) : (s.setTrain k x).t1l = s.t1l := rfl
@[simp] theorem setTrain_cx (k : Nat) (x : Train) : (s.setTrain k x).cx = s.cx := rfl
@[simp] theorem setTrain_nm (k : Nat) (x : Train) : (s.setTrain k x).nm = s.nm := rfl
@[simp] theorem setTrain_nmReports (k : Nat) (x : Train) : (s.setTrain k x).nmReports = s.nmReports := rfl
@[simp] theorem setTrain_s2s (k : Nat) (x : Train) : (s.setTrain k x).s2s = s.s2s := rfl
@[simp] theorem setTrain_emc (k : Nat) (x : Train) : (s.setTrain k x).emc = s.emc := rfl
@[simp] theorem setTrain_frer (k : Nat) (x : Train) : (s.setTrain k x).frer = s.frer := rfl
@[simp] theorem setTrain_flow (k : Nat) (x : Train) : (s.setTrain k x).flow = s.flow := rfl
@[simp] theorem setTrain_wakeFids (k : Nat) (x : Train) : (s.setTrain k x).wakeFids = s.wakeFids := rfl
@[simp] theorem setTrain_outlets (k : Nat) (x : Train) : (s.setTrain k x).outlets = s.outlets := rfl
@[simp] theorem setTrain_inlets (k : Nat) (x : Train) : (s.setTrain k x).inlets = s.inlets := rfl
@[simp] theorem setTrain_irts (k : Nat) (x : Train) : (s.setTrain k x).irts = s.irts := rfl
@[simp] theorem setTrain_dmc (k : Nat) (x : Train) : (s.setTrain k x).dmc = s.dmc := rfl
@[simp] theorem setTrain_xsp (k : Nat) (x : Train) : (s.setTrain k x).xsp = s.xsp := rfl
@[simp] theorem setTrain_crn (k : Nat) (x : Train) : (s.setTrain k x).crn = s.crn := rfl
@[simp] theorem setTrain_unnov (k : Nat) (x : Train) : (s.setTrain k x).unnov = s.unnov := rfl
@[simp] theorem setTrain_straps (k : Nat) (x : Train) : (s.setTrain k x).straps = s.straps := rfl
@[simp] theorem setTrain_twin (k : Nat) (x : Train) : (s.setTrain k x).twin = s.twin := rfl
@[simp] theorem setTrain_free (k : Nat) (x : Train) : (s.setTrain k x).free = s.free := rfl

/-! `State.setPair` -/
@[simp] theorem setPair_pending (i o : Nat) (x : Pair) : (s.setPair i o x).pending = s.pending := rfl
@[simp] theorem setPair_regs (i o : Nat) (x : Pair) : (s.setPair i o x).regs = s.regs := rfl
@[simp] theorem setPair_shad (i o : Nat) (x : Pair) : (s.setPair i o x).shad = s.shad := rfl
@[simp] theorem setPair_wins (i o : Nat) (x : Pair) : (s.setPair i o x).wins = s.wins := rfl
@[simp] theorem setPair_bus (i o : Nat) (x : Pair) : (s.setPair i o x).bus = s.bus := rfl
@[simp] theorem setPair_deferred (i o : Nat) (x : Pair) : (s.setPair i o x).deferred = s.deferred := rfl
@[simp] theorem setPair_shared (i o : Nat) (x : Pair) : (s.setPair i o x).shared = s.shared := rfl
@[simp] theorem setPair_icxLog (i o : Nat) (x : Pair) : (s.setPair i o x).icxLog = s.icxLog := rfl
@[simp] theorem setPair_icxLost (i o : Nat) (x : Pair) : (s.setPair i o x).icxLost = s.icxLost := rfl
@[simp] theorem setPair_sources (i o : Nat) (x : Pair) : (s.setPair i o x).sources = s.sources := rfl
@[simp] theorem setPair_posts (i o : Nat) (x : Pair) : (s.setPair i o x).posts = s.posts := rfl
@[simp] theorem setPair_errPin (i o : Nat) (x : Pair) : (s.setPair i o x).errPin = s.errPin := rfl
@[simp] theorem setPair_bal (i o : Nat) (x : Pair) : (s.setPair i o x).bal = s.bal := rfl
@[simp] theorem setPair_trains (i o : Nat) (x : Pair) : (s.setPair i o x).trains = s.trains := rfl
@[simp] theorem setPair_rsqPeak (i o : Nat) (x : Pair) : (s.setPair i o x).rsqPeak = s.rsqPeak := rfl
@[simp] theorem setPair_pond (i o : Nat) (x : Pair) : (s.setPair i o x).pond = s.pond := rfl
@[simp] theorem setPair_dials (i o : Nat) (x : Pair) : (s.setPair i o x).dials = s.dials := rfl
@[simp] theorem setPair_tms (i o : Nat) (x : Pair) : (s.setPair i o x).tms = s.tms := rfl
@[simp] theorem setPair_ldg (i o : Nat) (x : Pair) : (s.setPair i o x).ldg = s.ldg := rfl
@[simp] theorem setPair_rings (i o : Nat) (x : Pair) : (s.setPair i o x).rings = s.rings := rfl
@[simp] theorem setPair_emt (i o : Nat) (x : Pair) : (s.setPair i o x).emt = s.emt := rfl
@[simp] theorem setPair_wct (i o : Nat) (x : Pair) : (s.setPair i o x).wct = s.wct := rfl
@[simp] theorem setPair_pset (i o : Nat) (x : Pair) : (s.setPair i o x).pset = s.pset := rfl
@[simp] theorem setPair_pol (i o : Nat) (x : Pair) : (s.setPair i o x).pol = s.pol := rfl
@[simp] theorem setPair_cdm (i o : Nat) (x : Pair) : (s.setPair i o x).cdm = s.cdm := rfl
@[simp] theorem setPair_pwr (i o : Nat) (x : Pair) : (s.setPair i o x).pwr = s.pwr := rfl
@[simp] theorem setPair_shores (i o : Nat) (x : Pair) : (s.setPair i o x).shores = s.shores := rfl
@[simp] theorem setPair_mem (i o : Nat) (x : Pair) : (s.setPair i o x).mem = s.mem := rfl
@[simp] theorem setPair_nor (i o : Nat) (x : Pair) : (s.setPair i o x).nor = s.nor := rfl
@[simp] theorem setPair_sge (i o : Nat) (x : Pair) : (s.setPair i o x).sge = s.sge := rfl
@[simp] theorem setPair_fuses (i o : Nat) (x : Pair) : (s.setPair i o x).fuses = s.fuses := rfl
@[simp] theorem setPair_jwl (i o : Nat) (x : Pair) : (s.setPair i o x).jwl = s.jwl := rfl
@[simp] theorem setPair_trnReqs (i o : Nat) (x : Pair) : (s.setPair i o x).trnReqs = s.trnReqs := rfl
@[simp] theorem setPair_vlt (i o : Nat) (x : Pair) : (s.setPair i o x).vlt = s.vlt := rfl
@[simp] theorem setPair_aue (i o : Nat) (x : Pair) : (s.setPair i o x).aue = s.aue := rfl
@[simp] theorem setPair_bridges (i o : Nat) (x : Pair) : (s.setPair i o x).bridges = s.bridges := rfl
@[simp] theorem setPair_trx (i o : Nat) (x : Pair) : (s.setPair i o x).trx = s.trx := rfl
@[simp] theorem setPair_t1l (i o : Nat) (x : Pair) : (s.setPair i o x).t1l = s.t1l := rfl
@[simp] theorem setPair_cx (i o : Nat) (x : Pair) : (s.setPair i o x).cx = s.cx := rfl
@[simp] theorem setPair_nm (i o : Nat) (x : Pair) : (s.setPair i o x).nm = s.nm := rfl
@[simp] theorem setPair_nmReports (i o : Nat) (x : Pair) : (s.setPair i o x).nmReports = s.nmReports := rfl
@[simp] theorem setPair_s2s (i o : Nat) (x : Pair) : (s.setPair i o x).s2s = s.s2s := rfl
@[simp] theorem setPair_emc (i o : Nat) (x : Pair) : (s.setPair i o x).emc = s.emc := rfl
@[simp] theorem setPair_frer (i o : Nat) (x : Pair) : (s.setPair i o x).frer = s.frer := rfl
@[simp] theorem setPair_flow (i o : Nat) (x : Pair) : (s.setPair i o x).flow = s.flow := rfl
@[simp] theorem setPair_wakeFids (i o : Nat) (x : Pair) : (s.setPair i o x).wakeFids = s.wakeFids := rfl
@[simp] theorem setPair_outlets (i o : Nat) (x : Pair) : (s.setPair i o x).outlets = s.outlets := rfl
@[simp] theorem setPair_inlets (i o : Nat) (x : Pair) : (s.setPair i o x).inlets = s.inlets := rfl
@[simp] theorem setPair_irts (i o : Nat) (x : Pair) : (s.setPair i o x).irts = s.irts := rfl
@[simp] theorem setPair_dmc (i o : Nat) (x : Pair) : (s.setPair i o x).dmc = s.dmc := rfl
@[simp] theorem setPair_xsp (i o : Nat) (x : Pair) : (s.setPair i o x).xsp = s.xsp := rfl
@[simp] theorem setPair_crn (i o : Nat) (x : Pair) : (s.setPair i o x).crn = s.crn := rfl
@[simp] theorem setPair_unnov (i o : Nat) (x : Pair) : (s.setPair i o x).unnov = s.unnov := rfl
@[simp] theorem setPair_straps (i o : Nat) (x : Pair) : (s.setPair i o x).straps = s.straps := rfl
@[simp] theorem setPair_twin (i o : Nat) (x : Pair) : (s.setPair i o x).twin = s.twin := rfl
@[simp] theorem setPair_free (i o : Nat) (x : Pair) : (s.setPair i o x).free = s.free := rfl

/-! `State.setOutlet` -/
@[simp] theorem setOutlet_pending (q : Nat) (x : Outlet) : (s.setOutlet q x).pending = s.pending := rfl
@[simp] theorem setOutlet_regs (q : Nat) (x : Outlet) : (s.setOutlet q x).regs = s.regs := rfl
@[simp] theorem setOutlet_shad (q : Nat) (x : Outlet) : (s.setOutlet q x).shad = s.shad := rfl
@[simp] theorem setOutlet_wins (q : Nat) (x : Outlet) : (s.setOutlet q x).wins = s.wins := rfl
@[simp] theorem setOutlet_bus (q : Nat) (x : Outlet) : (s.setOutlet q x).bus = s.bus := rfl
@[simp] theorem setOutlet_deferred (q : Nat) (x : Outlet) : (s.setOutlet q x).deferred = s.deferred := rfl
@[simp] theorem setOutlet_shared (q : Nat) (x : Outlet) : (s.setOutlet q x).shared = s.shared := rfl
@[simp] theorem setOutlet_icxLog (q : Nat) (x : Outlet) : (s.setOutlet q x).icxLog = s.icxLog := rfl
@[simp] theorem setOutlet_icxLost (q : Nat) (x : Outlet) : (s.setOutlet q x).icxLost = s.icxLost := rfl
@[simp] theorem setOutlet_sources (q : Nat) (x : Outlet) : (s.setOutlet q x).sources = s.sources := rfl
@[simp] theorem setOutlet_posts (q : Nat) (x : Outlet) : (s.setOutlet q x).posts = s.posts := rfl
@[simp] theorem setOutlet_errPin (q : Nat) (x : Outlet) : (s.setOutlet q x).errPin = s.errPin := rfl
@[simp] theorem setOutlet_bal (q : Nat) (x : Outlet) : (s.setOutlet q x).bal = s.bal := rfl
@[simp] theorem setOutlet_trains (q : Nat) (x : Outlet) : (s.setOutlet q x).trains = s.trains := rfl
@[simp] theorem setOutlet_pairs (q : Nat) (x : Outlet) : (s.setOutlet q x).pairs = s.pairs := rfl
@[simp] theorem setOutlet_rsqPeak (q : Nat) (x : Outlet) : (s.setOutlet q x).rsqPeak = s.rsqPeak := rfl
@[simp] theorem setOutlet_pond (q : Nat) (x : Outlet) : (s.setOutlet q x).pond = s.pond := rfl
@[simp] theorem setOutlet_dials (q : Nat) (x : Outlet) : (s.setOutlet q x).dials = s.dials := rfl
@[simp] theorem setOutlet_tms (q : Nat) (x : Outlet) : (s.setOutlet q x).tms = s.tms := rfl
@[simp] theorem setOutlet_ldg (q : Nat) (x : Outlet) : (s.setOutlet q x).ldg = s.ldg := rfl
@[simp] theorem setOutlet_rings (q : Nat) (x : Outlet) : (s.setOutlet q x).rings = s.rings := rfl
@[simp] theorem setOutlet_emt (q : Nat) (x : Outlet) : (s.setOutlet q x).emt = s.emt := rfl
@[simp] theorem setOutlet_wct (q : Nat) (x : Outlet) : (s.setOutlet q x).wct = s.wct := rfl
@[simp] theorem setOutlet_pset (q : Nat) (x : Outlet) : (s.setOutlet q x).pset = s.pset := rfl
@[simp] theorem setOutlet_pol (q : Nat) (x : Outlet) : (s.setOutlet q x).pol = s.pol := rfl
@[simp] theorem setOutlet_cdm (q : Nat) (x : Outlet) : (s.setOutlet q x).cdm = s.cdm := rfl
@[simp] theorem setOutlet_pwr (q : Nat) (x : Outlet) : (s.setOutlet q x).pwr = s.pwr := rfl
@[simp] theorem setOutlet_shores (q : Nat) (x : Outlet) : (s.setOutlet q x).shores = s.shores := rfl
@[simp] theorem setOutlet_mem (q : Nat) (x : Outlet) : (s.setOutlet q x).mem = s.mem := rfl
@[simp] theorem setOutlet_nor (q : Nat) (x : Outlet) : (s.setOutlet q x).nor = s.nor := rfl
@[simp] theorem setOutlet_sge (q : Nat) (x : Outlet) : (s.setOutlet q x).sge = s.sge := rfl
@[simp] theorem setOutlet_fuses (q : Nat) (x : Outlet) : (s.setOutlet q x).fuses = s.fuses := rfl
@[simp] theorem setOutlet_jwl (q : Nat) (x : Outlet) : (s.setOutlet q x).jwl = s.jwl := rfl
@[simp] theorem setOutlet_trnReqs (q : Nat) (x : Outlet) : (s.setOutlet q x).trnReqs = s.trnReqs := rfl
@[simp] theorem setOutlet_vlt (q : Nat) (x : Outlet) : (s.setOutlet q x).vlt = s.vlt := rfl
@[simp] theorem setOutlet_aue (q : Nat) (x : Outlet) : (s.setOutlet q x).aue = s.aue := rfl
@[simp] theorem setOutlet_bridges (q : Nat) (x : Outlet) : (s.setOutlet q x).bridges = s.bridges := rfl
@[simp] theorem setOutlet_trx (q : Nat) (x : Outlet) : (s.setOutlet q x).trx = s.trx := rfl
@[simp] theorem setOutlet_t1l (q : Nat) (x : Outlet) : (s.setOutlet q x).t1l = s.t1l := rfl
@[simp] theorem setOutlet_cx (q : Nat) (x : Outlet) : (s.setOutlet q x).cx = s.cx := rfl
@[simp] theorem setOutlet_nm (q : Nat) (x : Outlet) : (s.setOutlet q x).nm = s.nm := rfl
@[simp] theorem setOutlet_nmReports (q : Nat) (x : Outlet) : (s.setOutlet q x).nmReports = s.nmReports := rfl
@[simp] theorem setOutlet_s2s (q : Nat) (x : Outlet) : (s.setOutlet q x).s2s = s.s2s := rfl
@[simp] theorem setOutlet_emc (q : Nat) (x : Outlet) : (s.setOutlet q x).emc = s.emc := rfl
@[simp] theorem setOutlet_frer (q : Nat) (x : Outlet) : (s.setOutlet q x).frer = s.frer := rfl
@[simp] theorem setOutlet_flow (q : Nat) (x : Outlet) : (s.setOutlet q x).flow = s.flow := rfl
@[simp] theorem setOutlet_wakeFids (q : Nat) (x : Outlet) : (s.setOutlet q x).wakeFids = s.wakeFids := rfl
@[simp] theorem setOutlet_inlets (q : Nat) (x : Outlet) : (s.setOutlet q x).inlets = s.inlets := rfl
@[simp] theorem setOutlet_irts (q : Nat) (x : Outlet) : (s.setOutlet q x).irts = s.irts := rfl
@[simp] theorem setOutlet_dmc (q : Nat) (x : Outlet) : (s.setOutlet q x).dmc = s.dmc := rfl
@[simp] theorem setOutlet_xsp (q : Nat) (x : Outlet) : (s.setOutlet q x).xsp = s.xsp := rfl
@[simp] theorem setOutlet_crn (q : Nat) (x : Outlet) : (s.setOutlet q x).crn = s.crn := rfl
@[simp] theorem setOutlet_unnov (q : Nat) (x : Outlet) : (s.setOutlet q x).unnov = s.unnov := rfl
@[simp] theorem setOutlet_straps (q : Nat) (x : Outlet) : (s.setOutlet q x).straps = s.straps := rfl
@[simp] theorem setOutlet_twin (q : Nat) (x : Outlet) : (s.setOutlet q x).twin = s.twin := rfl
@[simp] theorem setOutlet_free (q : Nat) (x : Outlet) : (s.setOutlet q x).free = s.free := rfl

/-! `State.setInlet` -/
@[simp] theorem setInlet_pending (q : Nat) (x : Inlet) : (s.setInlet q x).pending = s.pending := rfl
@[simp] theorem setInlet_regs (q : Nat) (x : Inlet) : (s.setInlet q x).regs = s.regs := rfl
@[simp] theorem setInlet_shad (q : Nat) (x : Inlet) : (s.setInlet q x).shad = s.shad := rfl
@[simp] theorem setInlet_wins (q : Nat) (x : Inlet) : (s.setInlet q x).wins = s.wins := rfl
@[simp] theorem setInlet_bus (q : Nat) (x : Inlet) : (s.setInlet q x).bus = s.bus := rfl
@[simp] theorem setInlet_deferred (q : Nat) (x : Inlet) : (s.setInlet q x).deferred = s.deferred := rfl
@[simp] theorem setInlet_shared (q : Nat) (x : Inlet) : (s.setInlet q x).shared = s.shared := rfl
@[simp] theorem setInlet_icxLog (q : Nat) (x : Inlet) : (s.setInlet q x).icxLog = s.icxLog := rfl
@[simp] theorem setInlet_icxLost (q : Nat) (x : Inlet) : (s.setInlet q x).icxLost = s.icxLost := rfl
@[simp] theorem setInlet_sources (q : Nat) (x : Inlet) : (s.setInlet q x).sources = s.sources := rfl
@[simp] theorem setInlet_posts (q : Nat) (x : Inlet) : (s.setInlet q x).posts = s.posts := rfl
@[simp] theorem setInlet_errPin (q : Nat) (x : Inlet) : (s.setInlet q x).errPin = s.errPin := rfl
@[simp] theorem setInlet_bal (q : Nat) (x : Inlet) : (s.setInlet q x).bal = s.bal := rfl
@[simp] theorem setInlet_trains (q : Nat) (x : Inlet) : (s.setInlet q x).trains = s.trains := rfl
@[simp] theorem setInlet_pairs (q : Nat) (x : Inlet) : (s.setInlet q x).pairs = s.pairs := rfl
@[simp] theorem setInlet_rsqPeak (q : Nat) (x : Inlet) : (s.setInlet q x).rsqPeak = s.rsqPeak := rfl
@[simp] theorem setInlet_pond (q : Nat) (x : Inlet) : (s.setInlet q x).pond = s.pond := rfl
@[simp] theorem setInlet_dials (q : Nat) (x : Inlet) : (s.setInlet q x).dials = s.dials := rfl
@[simp] theorem setInlet_tms (q : Nat) (x : Inlet) : (s.setInlet q x).tms = s.tms := rfl
@[simp] theorem setInlet_ldg (q : Nat) (x : Inlet) : (s.setInlet q x).ldg = s.ldg := rfl
@[simp] theorem setInlet_rings (q : Nat) (x : Inlet) : (s.setInlet q x).rings = s.rings := rfl
@[simp] theorem setInlet_emt (q : Nat) (x : Inlet) : (s.setInlet q x).emt = s.emt := rfl
@[simp] theorem setInlet_wct (q : Nat) (x : Inlet) : (s.setInlet q x).wct = s.wct := rfl
@[simp] theorem setInlet_pset (q : Nat) (x : Inlet) : (s.setInlet q x).pset = s.pset := rfl
@[simp] theorem setInlet_pol (q : Nat) (x : Inlet) : (s.setInlet q x).pol = s.pol := rfl
@[simp] theorem setInlet_cdm (q : Nat) (x : Inlet) : (s.setInlet q x).cdm = s.cdm := rfl
@[simp] theorem setInlet_pwr (q : Nat) (x : Inlet) : (s.setInlet q x).pwr = s.pwr := rfl
@[simp] theorem setInlet_shores (q : Nat) (x : Inlet) : (s.setInlet q x).shores = s.shores := rfl
@[simp] theorem setInlet_mem (q : Nat) (x : Inlet) : (s.setInlet q x).mem = s.mem := rfl
@[simp] theorem setInlet_nor (q : Nat) (x : Inlet) : (s.setInlet q x).nor = s.nor := rfl
@[simp] theorem setInlet_sge (q : Nat) (x : Inlet) : (s.setInlet q x).sge = s.sge := rfl
@[simp] theorem setInlet_fuses (q : Nat) (x : Inlet) : (s.setInlet q x).fuses = s.fuses := rfl
@[simp] theorem setInlet_jwl (q : Nat) (x : Inlet) : (s.setInlet q x).jwl = s.jwl := rfl
@[simp] theorem setInlet_trnReqs (q : Nat) (x : Inlet) : (s.setInlet q x).trnReqs = s.trnReqs := rfl
@[simp] theorem setInlet_vlt (q : Nat) (x : Inlet) : (s.setInlet q x).vlt = s.vlt := rfl
@[simp] theorem setInlet_aue (q : Nat) (x : Inlet) : (s.setInlet q x).aue = s.aue := rfl
@[simp] theorem setInlet_bridges (q : Nat) (x : Inlet) : (s.setInlet q x).bridges = s.bridges := rfl
@[simp] theorem setInlet_trx (q : Nat) (x : Inlet) : (s.setInlet q x).trx = s.trx := rfl
@[simp] theorem setInlet_t1l (q : Nat) (x : Inlet) : (s.setInlet q x).t1l = s.t1l := rfl
@[simp] theorem setInlet_cx (q : Nat) (x : Inlet) : (s.setInlet q x).cx = s.cx := rfl
@[simp] theorem setInlet_nm (q : Nat) (x : Inlet) : (s.setInlet q x).nm = s.nm := rfl
@[simp] theorem setInlet_nmReports (q : Nat) (x : Inlet) : (s.setInlet q x).nmReports = s.nmReports := rfl
@[simp] theorem setInlet_s2s (q : Nat) (x : Inlet) : (s.setInlet q x).s2s = s.s2s := rfl
@[simp] theorem setInlet_emc (q : Nat) (x : Inlet) : (s.setInlet q x).emc = s.emc := rfl
@[simp] theorem setInlet_frer (q : Nat) (x : Inlet) : (s.setInlet q x).frer = s.frer := rfl
@[simp] theorem setInlet_flow (q : Nat) (x : Inlet) : (s.setInlet q x).flow = s.flow := rfl
@[simp] theorem setInlet_wakeFids (q : Nat) (x : Inlet) : (s.setInlet q x).wakeFids = s.wakeFids := rfl
@[simp] theorem setInlet_outlets (q : Nat) (x : Inlet) : (s.setInlet q x).outlets = s.outlets := rfl
@[simp] theorem setInlet_irts (q : Nat) (x : Inlet) : (s.setInlet q x).irts = s.irts := rfl
@[simp] theorem setInlet_dmc (q : Nat) (x : Inlet) : (s.setInlet q x).dmc = s.dmc := rfl
@[simp] theorem setInlet_xsp (q : Nat) (x : Inlet) : (s.setInlet q x).xsp = s.xsp := rfl
@[simp] theorem setInlet_crn (q : Nat) (x : Inlet) : (s.setInlet q x).crn = s.crn := rfl
@[simp] theorem setInlet_unnov (q : Nat) (x : Inlet) : (s.setInlet q x).unnov = s.unnov := rfl
@[simp] theorem setInlet_straps (q : Nat) (x : Inlet) : (s.setInlet q x).straps = s.straps := rfl
@[simp] theorem setInlet_twin (q : Nat) (x : Inlet) : (s.setInlet q x).twin = s.twin := rfl
@[simp] theorem setInlet_free (q : Nat) (x : Inlet) : (s.setInlet q x).free = s.free := rfl

/-! `State.setIrt` -/
@[simp] theorem setIrt_pending (r : Nat) (x : Irt) : (s.setIrt r x).pending = s.pending := rfl
@[simp] theorem setIrt_regs (r : Nat) (x : Irt) : (s.setIrt r x).regs = s.regs := rfl
@[simp] theorem setIrt_shad (r : Nat) (x : Irt) : (s.setIrt r x).shad = s.shad := rfl
@[simp] theorem setIrt_wins (r : Nat) (x : Irt) : (s.setIrt r x).wins = s.wins := rfl
@[simp] theorem setIrt_bus (r : Nat) (x : Irt) : (s.setIrt r x).bus = s.bus := rfl
@[simp] theorem setIrt_deferred (r : Nat) (x : Irt) : (s.setIrt r x).deferred = s.deferred := rfl
@[simp] theorem setIrt_shared (r : Nat) (x : Irt) : (s.setIrt r x).shared = s.shared := rfl
@[simp] theorem setIrt_icxLog (r : Nat) (x : Irt) : (s.setIrt r x).icxLog = s.icxLog := rfl
@[simp] theorem setIrt_icxLost (r : Nat) (x : Irt) : (s.setIrt r x).icxLost = s.icxLost := rfl
@[simp] theorem setIrt_sources (r : Nat) (x : Irt) : (s.setIrt r x).sources = s.sources := rfl
@[simp] theorem setIrt_posts (r : Nat) (x : Irt) : (s.setIrt r x).posts = s.posts := rfl
@[simp] theorem setIrt_errPin (r : Nat) (x : Irt) : (s.setIrt r x).errPin = s.errPin := rfl
@[simp] theorem setIrt_bal (r : Nat) (x : Irt) : (s.setIrt r x).bal = s.bal := rfl
@[simp] theorem setIrt_trains (r : Nat) (x : Irt) : (s.setIrt r x).trains = s.trains := rfl
@[simp] theorem setIrt_pairs (r : Nat) (x : Irt) : (s.setIrt r x).pairs = s.pairs := rfl
@[simp] theorem setIrt_rsqPeak (r : Nat) (x : Irt) : (s.setIrt r x).rsqPeak = s.rsqPeak := rfl
@[simp] theorem setIrt_pond (r : Nat) (x : Irt) : (s.setIrt r x).pond = s.pond := rfl
@[simp] theorem setIrt_dials (r : Nat) (x : Irt) : (s.setIrt r x).dials = s.dials := rfl
@[simp] theorem setIrt_tms (r : Nat) (x : Irt) : (s.setIrt r x).tms = s.tms := rfl
@[simp] theorem setIrt_ldg (r : Nat) (x : Irt) : (s.setIrt r x).ldg = s.ldg := rfl
@[simp] theorem setIrt_rings (r : Nat) (x : Irt) : (s.setIrt r x).rings = s.rings := rfl
@[simp] theorem setIrt_emt (r : Nat) (x : Irt) : (s.setIrt r x).emt = s.emt := rfl
@[simp] theorem setIrt_wct (r : Nat) (x : Irt) : (s.setIrt r x).wct = s.wct := rfl
@[simp] theorem setIrt_pset (r : Nat) (x : Irt) : (s.setIrt r x).pset = s.pset := rfl
@[simp] theorem setIrt_pol (r : Nat) (x : Irt) : (s.setIrt r x).pol = s.pol := rfl
@[simp] theorem setIrt_cdm (r : Nat) (x : Irt) : (s.setIrt r x).cdm = s.cdm := rfl
@[simp] theorem setIrt_pwr (r : Nat) (x : Irt) : (s.setIrt r x).pwr = s.pwr := rfl
@[simp] theorem setIrt_shores (r : Nat) (x : Irt) : (s.setIrt r x).shores = s.shores := rfl
@[simp] theorem setIrt_mem (r : Nat) (x : Irt) : (s.setIrt r x).mem = s.mem := rfl
@[simp] theorem setIrt_nor (r : Nat) (x : Irt) : (s.setIrt r x).nor = s.nor := rfl
@[simp] theorem setIrt_sge (r : Nat) (x : Irt) : (s.setIrt r x).sge = s.sge := rfl
@[simp] theorem setIrt_fuses (r : Nat) (x : Irt) : (s.setIrt r x).fuses = s.fuses := rfl
@[simp] theorem setIrt_jwl (r : Nat) (x : Irt) : (s.setIrt r x).jwl = s.jwl := rfl
@[simp] theorem setIrt_trnReqs (r : Nat) (x : Irt) : (s.setIrt r x).trnReqs = s.trnReqs := rfl
@[simp] theorem setIrt_vlt (r : Nat) (x : Irt) : (s.setIrt r x).vlt = s.vlt := rfl
@[simp] theorem setIrt_aue (r : Nat) (x : Irt) : (s.setIrt r x).aue = s.aue := rfl
@[simp] theorem setIrt_bridges (r : Nat) (x : Irt) : (s.setIrt r x).bridges = s.bridges := rfl
@[simp] theorem setIrt_trx (r : Nat) (x : Irt) : (s.setIrt r x).trx = s.trx := rfl
@[simp] theorem setIrt_t1l (r : Nat) (x : Irt) : (s.setIrt r x).t1l = s.t1l := rfl
@[simp] theorem setIrt_cx (r : Nat) (x : Irt) : (s.setIrt r x).cx = s.cx := rfl
@[simp] theorem setIrt_nm (r : Nat) (x : Irt) : (s.setIrt r x).nm = s.nm := rfl
@[simp] theorem setIrt_nmReports (r : Nat) (x : Irt) : (s.setIrt r x).nmReports = s.nmReports := rfl
@[simp] theorem setIrt_s2s (r : Nat) (x : Irt) : (s.setIrt r x).s2s = s.s2s := rfl
@[simp] theorem setIrt_emc (r : Nat) (x : Irt) : (s.setIrt r x).emc = s.emc := rfl
@[simp] theorem setIrt_frer (r : Nat) (x : Irt) : (s.setIrt r x).frer = s.frer := rfl
@[simp] theorem setIrt_flow (r : Nat) (x : Irt) : (s.setIrt r x).flow = s.flow := rfl
@[simp] theorem setIrt_wakeFids (r : Nat) (x : Irt) : (s.setIrt r x).wakeFids = s.wakeFids := rfl
@[simp] theorem setIrt_outlets (r : Nat) (x : Irt) : (s.setIrt r x).outlets = s.outlets := rfl
@[simp] theorem setIrt_inlets (r : Nat) (x : Irt) : (s.setIrt r x).inlets = s.inlets := rfl
@[simp] theorem setIrt_dmc (r : Nat) (x : Irt) : (s.setIrt r x).dmc = s.dmc := rfl
@[simp] theorem setIrt_xsp (r : Nat) (x : Irt) : (s.setIrt r x).xsp = s.xsp := rfl
@[simp] theorem setIrt_crn (r : Nat) (x : Irt) : (s.setIrt r x).crn = s.crn := rfl
@[simp] theorem setIrt_unnov (r : Nat) (x : Irt) : (s.setIrt r x).unnov = s.unnov := rfl
@[simp] theorem setIrt_straps (r : Nat) (x : Irt) : (s.setIrt r x).straps = s.straps := rfl
@[simp] theorem setIrt_twin (r : Nat) (x : Irt) : (s.setIrt r x).twin = s.twin := rfl
@[simp] theorem setIrt_free (r : Nat) (x : Irt) : (s.setIrt r x).free = s.free := rfl

/-! `State.setWct` -/
@[simp] theorem setWct_pending (i : Nat) (x : WctEntry) : (s.setWct i x).pending = s.pending := rfl
@[simp] theorem setWct_regs (i : Nat) (x : WctEntry) : (s.setWct i x).regs = s.regs := rfl
@[simp] theorem setWct_shad (i : Nat) (x : WctEntry) : (s.setWct i x).shad = s.shad := rfl
@[simp] theorem setWct_wins (i : Nat) (x : WctEntry) : (s.setWct i x).wins = s.wins := rfl
@[simp] theorem setWct_bus (i : Nat) (x : WctEntry) : (s.setWct i x).bus = s.bus := rfl
@[simp] theorem setWct_deferred (i : Nat) (x : WctEntry) : (s.setWct i x).deferred = s.deferred := rfl
@[simp] theorem setWct_shared (i : Nat) (x : WctEntry) : (s.setWct i x).shared = s.shared := rfl
@[simp] theorem setWct_icxLog (i : Nat) (x : WctEntry) : (s.setWct i x).icxLog = s.icxLog := rfl
@[simp] theorem setWct_icxLost (i : Nat) (x : WctEntry) : (s.setWct i x).icxLost = s.icxLost := rfl
@[simp] theorem setWct_sources (i : Nat) (x : WctEntry) : (s.setWct i x).sources = s.sources := rfl
@[simp] theorem setWct_posts (i : Nat) (x : WctEntry) : (s.setWct i x).posts = s.posts := rfl
@[simp] theorem setWct_errPin (i : Nat) (x : WctEntry) : (s.setWct i x).errPin = s.errPin := rfl
@[simp] theorem setWct_bal (i : Nat) (x : WctEntry) : (s.setWct i x).bal = s.bal := rfl
@[simp] theorem setWct_trains (i : Nat) (x : WctEntry) : (s.setWct i x).trains = s.trains := rfl
@[simp] theorem setWct_pairs (i : Nat) (x : WctEntry) : (s.setWct i x).pairs = s.pairs := rfl
@[simp] theorem setWct_rsqPeak (i : Nat) (x : WctEntry) : (s.setWct i x).rsqPeak = s.rsqPeak := rfl
@[simp] theorem setWct_pond (i : Nat) (x : WctEntry) : (s.setWct i x).pond = s.pond := rfl
@[simp] theorem setWct_dials (i : Nat) (x : WctEntry) : (s.setWct i x).dials = s.dials := rfl
@[simp] theorem setWct_tms (i : Nat) (x : WctEntry) : (s.setWct i x).tms = s.tms := rfl
@[simp] theorem setWct_ldg (i : Nat) (x : WctEntry) : (s.setWct i x).ldg = s.ldg := rfl
@[simp] theorem setWct_rings (i : Nat) (x : WctEntry) : (s.setWct i x).rings = s.rings := rfl
@[simp] theorem setWct_emt (i : Nat) (x : WctEntry) : (s.setWct i x).emt = s.emt := rfl
@[simp] theorem setWct_pset (i : Nat) (x : WctEntry) : (s.setWct i x).pset = s.pset := rfl
@[simp] theorem setWct_pol (i : Nat) (x : WctEntry) : (s.setWct i x).pol = s.pol := rfl
@[simp] theorem setWct_cdm (i : Nat) (x : WctEntry) : (s.setWct i x).cdm = s.cdm := rfl
@[simp] theorem setWct_pwr (i : Nat) (x : WctEntry) : (s.setWct i x).pwr = s.pwr := rfl
@[simp] theorem setWct_shores (i : Nat) (x : WctEntry) : (s.setWct i x).shores = s.shores := rfl
@[simp] theorem setWct_mem (i : Nat) (x : WctEntry) : (s.setWct i x).mem = s.mem := rfl
@[simp] theorem setWct_nor (i : Nat) (x : WctEntry) : (s.setWct i x).nor = s.nor := rfl
@[simp] theorem setWct_sge (i : Nat) (x : WctEntry) : (s.setWct i x).sge = s.sge := rfl
@[simp] theorem setWct_fuses (i : Nat) (x : WctEntry) : (s.setWct i x).fuses = s.fuses := rfl
@[simp] theorem setWct_jwl (i : Nat) (x : WctEntry) : (s.setWct i x).jwl = s.jwl := rfl
@[simp] theorem setWct_trnReqs (i : Nat) (x : WctEntry) : (s.setWct i x).trnReqs = s.trnReqs := rfl
@[simp] theorem setWct_vlt (i : Nat) (x : WctEntry) : (s.setWct i x).vlt = s.vlt := rfl
@[simp] theorem setWct_aue (i : Nat) (x : WctEntry) : (s.setWct i x).aue = s.aue := rfl
@[simp] theorem setWct_bridges (i : Nat) (x : WctEntry) : (s.setWct i x).bridges = s.bridges := rfl
@[simp] theorem setWct_trx (i : Nat) (x : WctEntry) : (s.setWct i x).trx = s.trx := rfl
@[simp] theorem setWct_t1l (i : Nat) (x : WctEntry) : (s.setWct i x).t1l = s.t1l := rfl
@[simp] theorem setWct_cx (i : Nat) (x : WctEntry) : (s.setWct i x).cx = s.cx := rfl
@[simp] theorem setWct_nm (i : Nat) (x : WctEntry) : (s.setWct i x).nm = s.nm := rfl
@[simp] theorem setWct_nmReports (i : Nat) (x : WctEntry) : (s.setWct i x).nmReports = s.nmReports := rfl
@[simp] theorem setWct_s2s (i : Nat) (x : WctEntry) : (s.setWct i x).s2s = s.s2s := rfl
@[simp] theorem setWct_emc (i : Nat) (x : WctEntry) : (s.setWct i x).emc = s.emc := rfl
@[simp] theorem setWct_frer (i : Nat) (x : WctEntry) : (s.setWct i x).frer = s.frer := rfl
@[simp] theorem setWct_flow (i : Nat) (x : WctEntry) : (s.setWct i x).flow = s.flow := rfl
@[simp] theorem setWct_wakeFids (i : Nat) (x : WctEntry) : (s.setWct i x).wakeFids = s.wakeFids := rfl
@[simp] theorem setWct_outlets (i : Nat) (x : WctEntry) : (s.setWct i x).outlets = s.outlets := rfl
@[simp] theorem setWct_inlets (i : Nat) (x : WctEntry) : (s.setWct i x).inlets = s.inlets := rfl
@[simp] theorem setWct_irts (i : Nat) (x : WctEntry) : (s.setWct i x).irts = s.irts := rfl
@[simp] theorem setWct_dmc (i : Nat) (x : WctEntry) : (s.setWct i x).dmc = s.dmc := rfl
@[simp] theorem setWct_xsp (i : Nat) (x : WctEntry) : (s.setWct i x).xsp = s.xsp := rfl
@[simp] theorem setWct_crn (i : Nat) (x : WctEntry) : (s.setWct i x).crn = s.crn := rfl
@[simp] theorem setWct_unnov (i : Nat) (x : WctEntry) : (s.setWct i x).unnov = s.unnov := rfl
@[simp] theorem setWct_straps (i : Nat) (x : WctEntry) : (s.setWct i x).straps = s.straps := rfl
@[simp] theorem setWct_twin (i : Nat) (x : WctEntry) : (s.setWct i x).twin = s.twin := rfl
@[simp] theorem setWct_free (i : Nat) (x : WctEntry) : (s.setWct i x).free = s.free := rfl

/-! `State.setCadence` -/
@[simp] theorem setCadence_pending (k : Nat) (x : Cadence) : (s.setCadence k x).pending = s.pending := rfl
@[simp] theorem setCadence_regs (k : Nat) (x : Cadence) : (s.setCadence k x).regs = s.regs := rfl
@[simp] theorem setCadence_shad (k : Nat) (x : Cadence) : (s.setCadence k x).shad = s.shad := rfl
@[simp] theorem setCadence_wins (k : Nat) (x : Cadence) : (s.setCadence k x).wins = s.wins := rfl
@[simp] theorem setCadence_bus (k : Nat) (x : Cadence) : (s.setCadence k x).bus = s.bus := rfl
@[simp] theorem setCadence_deferred (k : Nat) (x : Cadence) : (s.setCadence k x).deferred = s.deferred := rfl
@[simp] theorem setCadence_shared (k : Nat) (x : Cadence) : (s.setCadence k x).shared = s.shared := rfl
@[simp] theorem setCadence_icxLog (k : Nat) (x : Cadence) : (s.setCadence k x).icxLog = s.icxLog := rfl
@[simp] theorem setCadence_icxLost (k : Nat) (x : Cadence) : (s.setCadence k x).icxLost = s.icxLost := rfl
@[simp] theorem setCadence_sources (k : Nat) (x : Cadence) : (s.setCadence k x).sources = s.sources := rfl
@[simp] theorem setCadence_posts (k : Nat) (x : Cadence) : (s.setCadence k x).posts = s.posts := rfl
@[simp] theorem setCadence_errPin (k : Nat) (x : Cadence) : (s.setCadence k x).errPin = s.errPin := rfl
@[simp] theorem setCadence_bal (k : Nat) (x : Cadence) : (s.setCadence k x).bal = s.bal := rfl
@[simp] theorem setCadence_trains (k : Nat) (x : Cadence) : (s.setCadence k x).trains = s.trains := rfl
@[simp] theorem setCadence_pairs (k : Nat) (x : Cadence) : (s.setCadence k x).pairs = s.pairs := rfl
@[simp] theorem setCadence_rsqPeak (k : Nat) (x : Cadence) : (s.setCadence k x).rsqPeak = s.rsqPeak := rfl
@[simp] theorem setCadence_pond (k : Nat) (x : Cadence) : (s.setCadence k x).pond = s.pond := rfl
@[simp] theorem setCadence_dials (k : Nat) (x : Cadence) : (s.setCadence k x).dials = s.dials := rfl
@[simp] theorem setCadence_tms (k : Nat) (x : Cadence) : (s.setCadence k x).tms = s.tms := rfl
@[simp] theorem setCadence_ldg (k : Nat) (x : Cadence) : (s.setCadence k x).ldg = s.ldg := rfl
@[simp] theorem setCadence_rings (k : Nat) (x : Cadence) : (s.setCadence k x).rings = s.rings := rfl
@[simp] theorem setCadence_emt (k : Nat) (x : Cadence) : (s.setCadence k x).emt = s.emt := rfl
@[simp] theorem setCadence_wct (k : Nat) (x : Cadence) : (s.setCadence k x).wct = s.wct := rfl
@[simp] theorem setCadence_pset (k : Nat) (x : Cadence) : (s.setCadence k x).pset = s.pset := rfl
@[simp] theorem setCadence_pol (k : Nat) (x : Cadence) : (s.setCadence k x).pol = s.pol := rfl
@[simp] theorem setCadence_pwr (k : Nat) (x : Cadence) : (s.setCadence k x).pwr = s.pwr := rfl
@[simp] theorem setCadence_shores (k : Nat) (x : Cadence) : (s.setCadence k x).shores = s.shores := rfl
@[simp] theorem setCadence_mem (k : Nat) (x : Cadence) : (s.setCadence k x).mem = s.mem := rfl
@[simp] theorem setCadence_nor (k : Nat) (x : Cadence) : (s.setCadence k x).nor = s.nor := rfl
@[simp] theorem setCadence_sge (k : Nat) (x : Cadence) : (s.setCadence k x).sge = s.sge := rfl
@[simp] theorem setCadence_fuses (k : Nat) (x : Cadence) : (s.setCadence k x).fuses = s.fuses := rfl
@[simp] theorem setCadence_jwl (k : Nat) (x : Cadence) : (s.setCadence k x).jwl = s.jwl := rfl
@[simp] theorem setCadence_trnReqs (k : Nat) (x : Cadence) : (s.setCadence k x).trnReqs = s.trnReqs := rfl
@[simp] theorem setCadence_vlt (k : Nat) (x : Cadence) : (s.setCadence k x).vlt = s.vlt := rfl
@[simp] theorem setCadence_aue (k : Nat) (x : Cadence) : (s.setCadence k x).aue = s.aue := rfl
@[simp] theorem setCadence_bridges (k : Nat) (x : Cadence) : (s.setCadence k x).bridges = s.bridges := rfl
@[simp] theorem setCadence_trx (k : Nat) (x : Cadence) : (s.setCadence k x).trx = s.trx := rfl
@[simp] theorem setCadence_t1l (k : Nat) (x : Cadence) : (s.setCadence k x).t1l = s.t1l := rfl
@[simp] theorem setCadence_cx (k : Nat) (x : Cadence) : (s.setCadence k x).cx = s.cx := rfl
@[simp] theorem setCadence_nm (k : Nat) (x : Cadence) : (s.setCadence k x).nm = s.nm := rfl
@[simp] theorem setCadence_nmReports (k : Nat) (x : Cadence) : (s.setCadence k x).nmReports = s.nmReports := rfl
@[simp] theorem setCadence_s2s (k : Nat) (x : Cadence) : (s.setCadence k x).s2s = s.s2s := rfl
@[simp] theorem setCadence_emc (k : Nat) (x : Cadence) : (s.setCadence k x).emc = s.emc := rfl
@[simp] theorem setCadence_frer (k : Nat) (x : Cadence) : (s.setCadence k x).frer = s.frer := rfl
@[simp] theorem setCadence_flow (k : Nat) (x : Cadence) : (s.setCadence k x).flow = s.flow := rfl
@[simp] theorem setCadence_wakeFids (k : Nat) (x : Cadence) : (s.setCadence k x).wakeFids = s.wakeFids := rfl
@[simp] theorem setCadence_outlets (k : Nat) (x : Cadence) : (s.setCadence k x).outlets = s.outlets := rfl
@[simp] theorem setCadence_inlets (k : Nat) (x : Cadence) : (s.setCadence k x).inlets = s.inlets := rfl
@[simp] theorem setCadence_irts (k : Nat) (x : Cadence) : (s.setCadence k x).irts = s.irts := rfl
@[simp] theorem setCadence_dmc (k : Nat) (x : Cadence) : (s.setCadence k x).dmc = s.dmc := rfl
@[simp] theorem setCadence_xsp (k : Nat) (x : Cadence) : (s.setCadence k x).xsp = s.xsp := rfl
@[simp] theorem setCadence_crn (k : Nat) (x : Cadence) : (s.setCadence k x).crn = s.crn := rfl
@[simp] theorem setCadence_unnov (k : Nat) (x : Cadence) : (s.setCadence k x).unnov = s.unnov := rfl
@[simp] theorem setCadence_straps (k : Nat) (x : Cadence) : (s.setCadence k x).straps = s.straps := rfl
@[simp] theorem setCadence_twin (k : Nat) (x : Cadence) : (s.setCadence k x).twin = s.twin := rfl
@[simp] theorem setCadence_free (k : Nat) (x : Cadence) : (s.setCadence k x).free = s.free := rfl

/-! `State.post` -/
@[simp] theorem post_pending (p : Post) : (s.post p).pending = s.pending := rfl
@[simp] theorem post_regs (p : Post) : (s.post p).regs = s.regs := rfl
@[simp] theorem post_shad (p : Post) : (s.post p).shad = s.shad := rfl
@[simp] theorem post_wins (p : Post) : (s.post p).wins = s.wins := rfl
@[simp] theorem post_bus (p : Post) : (s.post p).bus = s.bus := rfl
@[simp] theorem post_deferred (p : Post) : (s.post p).deferred = s.deferred := rfl
@[simp] theorem post_shared (p : Post) : (s.post p).shared = s.shared := rfl
@[simp] theorem post_icxLog (p : Post) : (s.post p).icxLog = s.icxLog := rfl
@[simp] theorem post_icxLost (p : Post) : (s.post p).icxLost = s.icxLost := rfl
@[simp] theorem post_sources (p : Post) : (s.post p).sources = s.sources := rfl
@[simp] theorem post_errPin (p : Post) : (s.post p).errPin = s.errPin := rfl
@[simp] theorem post_bal (p : Post) : (s.post p).bal = s.bal := rfl
@[simp] theorem post_trains (p : Post) : (s.post p).trains = s.trains := rfl
@[simp] theorem post_pairs (p : Post) : (s.post p).pairs = s.pairs := rfl
@[simp] theorem post_rsqPeak (p : Post) : (s.post p).rsqPeak = s.rsqPeak := rfl
@[simp] theorem post_pond (p : Post) : (s.post p).pond = s.pond := rfl
@[simp] theorem post_dials (p : Post) : (s.post p).dials = s.dials := rfl
@[simp] theorem post_tms (p : Post) : (s.post p).tms = s.tms := rfl
@[simp] theorem post_ldg (p : Post) : (s.post p).ldg = s.ldg := rfl
@[simp] theorem post_rings (p : Post) : (s.post p).rings = s.rings := rfl
@[simp] theorem post_emt (p : Post) : (s.post p).emt = s.emt := rfl
@[simp] theorem post_wct (p : Post) : (s.post p).wct = s.wct := rfl
@[simp] theorem post_pset (p : Post) : (s.post p).pset = s.pset := rfl
@[simp] theorem post_pol (p : Post) : (s.post p).pol = s.pol := rfl
@[simp] theorem post_cdm (p : Post) : (s.post p).cdm = s.cdm := rfl
@[simp] theorem post_pwr (p : Post) : (s.post p).pwr = s.pwr := rfl
@[simp] theorem post_shores (p : Post) : (s.post p).shores = s.shores := rfl
@[simp] theorem post_mem (p : Post) : (s.post p).mem = s.mem := rfl
@[simp] theorem post_nor (p : Post) : (s.post p).nor = s.nor := rfl
@[simp] theorem post_sge (p : Post) : (s.post p).sge = s.sge := rfl
@[simp] theorem post_fuses (p : Post) : (s.post p).fuses = s.fuses := rfl
@[simp] theorem post_jwl (p : Post) : (s.post p).jwl = s.jwl := rfl
@[simp] theorem post_trnReqs (p : Post) : (s.post p).trnReqs = s.trnReqs := rfl
@[simp] theorem post_vlt (p : Post) : (s.post p).vlt = s.vlt := rfl
@[simp] theorem post_aue (p : Post) : (s.post p).aue = s.aue := rfl
@[simp] theorem post_bridges (p : Post) : (s.post p).bridges = s.bridges := rfl
@[simp] theorem post_trx (p : Post) : (s.post p).trx = s.trx := rfl
@[simp] theorem post_t1l (p : Post) : (s.post p).t1l = s.t1l := rfl
@[simp] theorem post_cx (p : Post) : (s.post p).cx = s.cx := rfl
@[simp] theorem post_nm (p : Post) : (s.post p).nm = s.nm := rfl
@[simp] theorem post_nmReports (p : Post) : (s.post p).nmReports = s.nmReports := rfl
@[simp] theorem post_s2s (p : Post) : (s.post p).s2s = s.s2s := rfl
@[simp] theorem post_emc (p : Post) : (s.post p).emc = s.emc := rfl
@[simp] theorem post_frer (p : Post) : (s.post p).frer = s.frer := rfl
@[simp] theorem post_flow (p : Post) : (s.post p).flow = s.flow := rfl
@[simp] theorem post_wakeFids (p : Post) : (s.post p).wakeFids = s.wakeFids := rfl
@[simp] theorem post_outlets (p : Post) : (s.post p).outlets = s.outlets := rfl
@[simp] theorem post_inlets (p : Post) : (s.post p).inlets = s.inlets := rfl
@[simp] theorem post_irts (p : Post) : (s.post p).irts = s.irts := rfl
@[simp] theorem post_dmc (p : Post) : (s.post p).dmc = s.dmc := rfl
@[simp] theorem post_xsp (p : Post) : (s.post p).xsp = s.xsp := rfl
@[simp] theorem post_crn (p : Post) : (s.post p).crn = s.crn := rfl
@[simp] theorem post_unnov (p : Post) : (s.post p).unnov = s.unnov := rfl
@[simp] theorem post_straps (p : Post) : (s.post p).straps = s.straps := rfl
@[simp] theorem post_twin (p : Post) : (s.post p).twin = s.twin := rfl
@[simp] theorem post_free (p : Post) : (s.post p).free = s.free := rfl

/-! `State.level` -/
@[simp] theorem level_pending (w k loc : Nat) (on : Bool) : (s.level w k loc on).pending = s.pending := rfl
@[simp] theorem level_regs (w k loc : Nat) (on : Bool) : (s.level w k loc on).regs = s.regs := rfl
@[simp] theorem level_shad (w k loc : Nat) (on : Bool) : (s.level w k loc on).shad = s.shad := rfl
@[simp] theorem level_wins (w k loc : Nat) (on : Bool) : (s.level w k loc on).wins = s.wins := rfl
@[simp] theorem level_bus (w k loc : Nat) (on : Bool) : (s.level w k loc on).bus = s.bus := rfl
@[simp] theorem level_deferred (w k loc : Nat) (on : Bool) : (s.level w k loc on).deferred = s.deferred := rfl
@[simp] theorem level_shared (w k loc : Nat) (on : Bool) : (s.level w k loc on).shared = s.shared := rfl
@[simp] theorem level_icxLog (w k loc : Nat) (on : Bool) : (s.level w k loc on).icxLog = s.icxLog := rfl
@[simp] theorem level_icxLost (w k loc : Nat) (on : Bool) : (s.level w k loc on).icxLost = s.icxLost := rfl
@[simp] theorem level_sources (w k loc : Nat) (on : Bool) : (s.level w k loc on).sources = s.sources := rfl
@[simp] theorem level_errPin (w k loc : Nat) (on : Bool) : (s.level w k loc on).errPin = s.errPin := rfl
@[simp] theorem level_bal (w k loc : Nat) (on : Bool) : (s.level w k loc on).bal = s.bal := rfl
@[simp] theorem level_trains (w k loc : Nat) (on : Bool) : (s.level w k loc on).trains = s.trains := rfl
@[simp] theorem level_pairs (w k loc : Nat) (on : Bool) : (s.level w k loc on).pairs = s.pairs := rfl
@[simp] theorem level_rsqPeak (w k loc : Nat) (on : Bool) : (s.level w k loc on).rsqPeak = s.rsqPeak := rfl
@[simp] theorem level_pond (w k loc : Nat) (on : Bool) : (s.level w k loc on).pond = s.pond := rfl
@[simp] theorem level_dials (w k loc : Nat) (on : Bool) : (s.level w k loc on).dials = s.dials := rfl
@[simp] theorem level_tms (w k loc : Nat) (on : Bool) : (s.level w k loc on).tms = s.tms := rfl
@[simp] theorem level_ldg (w k loc : Nat) (on : Bool) : (s.level w k loc on).ldg = s.ldg := rfl
@[simp] theorem level_rings (w k loc : Nat) (on : Bool) : (s.level w k loc on).rings = s.rings := rfl
@[simp] theorem level_emt (w k loc : Nat) (on : Bool) : (s.level w k loc on).emt = s.emt := rfl
@[simp] theorem level_wct (w k loc : Nat) (on : Bool) : (s.level w k loc on).wct = s.wct := rfl
@[simp] theorem level_pset (w k loc : Nat) (on : Bool) : (s.level w k loc on).pset = s.pset := rfl
@[simp] theorem level_pol (w k loc : Nat) (on : Bool) : (s.level w k loc on).pol = s.pol := rfl
@[simp] theorem level_cdm (w k loc : Nat) (on : Bool) : (s.level w k loc on).cdm = s.cdm := rfl
@[simp] theorem level_pwr (w k loc : Nat) (on : Bool) : (s.level w k loc on).pwr = s.pwr := rfl
@[simp] theorem level_shores (w k loc : Nat) (on : Bool) : (s.level w k loc on).shores = s.shores := rfl
@[simp] theorem level_mem (w k loc : Nat) (on : Bool) : (s.level w k loc on).mem = s.mem := rfl
@[simp] theorem level_nor (w k loc : Nat) (on : Bool) : (s.level w k loc on).nor = s.nor := rfl
@[simp] theorem level_sge (w k loc : Nat) (on : Bool) : (s.level w k loc on).sge = s.sge := rfl
@[simp] theorem level_fuses (w k loc : Nat) (on : Bool) : (s.level w k loc on).fuses = s.fuses := rfl
@[simp] theorem level_jwl (w k loc : Nat) (on : Bool) : (s.level w k loc on).jwl = s.jwl := rfl
@[simp] theorem level_trnReqs (w k loc : Nat) (on : Bool) : (s.level w k loc on).trnReqs = s.trnReqs := rfl
@[simp] theorem level_vlt (w k loc : Nat) (on : Bool) : (s.level w k loc on).vlt = s.vlt := rfl
@[simp] theorem level_aue (w k loc : Nat) (on : Bool) : (s.level w k loc on).aue = s.aue := rfl
@[simp] theorem level_bridges (w k loc : Nat) (on : Bool) : (s.level w k loc on).bridges = s.bridges := rfl
@[simp] theorem level_trx (w k loc : Nat) (on : Bool) : (s.level w k loc on).trx = s.trx := rfl
@[simp] theorem level_t1l (w k loc : Nat) (on : Bool) : (s.level w k loc on).t1l = s.t1l := rfl
@[simp] theorem level_cx (w k loc : Nat) (on : Bool) : (s.level w k loc on).cx = s.cx := rfl
@[simp] theorem level_nm (w k loc : Nat) (on : Bool) : (s.level w k loc on).nm = s.nm := rfl
@[simp] theorem level_nmReports (w k loc : Nat) (on : Bool) : (s.level w k loc on).nmReports = s.nmReports := rfl
@[simp] theorem level_s2s (w k loc : Nat) (on : Bool) : (s.level w k loc on).s2s = s.s2s := rfl
@[simp] theorem level_emc (w k loc : Nat) (on : Bool) : (s.level w k loc on).emc = s.emc := rfl
@[simp] theorem level_frer (w k loc : Nat) (on : Bool) : (s.level w k loc on).frer = s.frer := rfl
@[simp] theorem level_flow (w k loc : Nat) (on : Bool) : (s.level w k loc on).flow = s.flow := rfl
@[simp] theorem level_wakeFids (w k loc : Nat) (on : Bool) : (s.level w k loc on).wakeFids = s.wakeFids := rfl
@[simp] theorem level_outlets (w k loc : Nat) (on : Bool) : (s.level w k loc on).outlets = s.outlets := rfl
@[simp] theorem level_inlets (w k loc : Nat) (on : Bool) : (s.level w k loc on).inlets = s.inlets := rfl
@[simp] theorem level_irts (w k loc : Nat) (on : Bool) : (s.level w k loc on).irts = s.irts := rfl
@[simp] theorem level_dmc (w k loc : Nat) (on : Bool) : (s.level w k loc on).dmc = s.dmc := rfl
@[simp] theorem level_xsp (w k loc : Nat) (on : Bool) : (s.level w k loc on).xsp = s.xsp := rfl
@[simp] theorem level_crn (w k loc : Nat) (on : Bool) : (s.level w k loc on).crn = s.crn := rfl
@[simp] theorem level_unnov (w k loc : Nat) (on : Bool) : (s.level w k loc on).unnov = s.unnov := rfl
@[simp] theorem level_straps (w k loc : Nat) (on : Bool) : (s.level w k loc on).straps = s.straps := rfl
@[simp] theorem level_twin (w k loc : Nat) (on : Bool) : (s.level w k loc on).twin = s.twin := rfl
@[simp] theorem level_free (w k loc : Nat) (on : Bool) : (s.level w k loc on).free = s.free := rfl

/-! `State.raise` -/
@[simp] theorem raise_pending (w k loc : Nat) : (s.raise w k loc).pending = s.pending := rfl
@[simp] theorem raise_regs (w k loc : Nat) : (s.raise w k loc).regs = s.regs := rfl
@[simp] theorem raise_shad (w k loc : Nat) : (s.raise w k loc).shad = s.shad := rfl
@[simp] theorem raise_wins (w k loc : Nat) : (s.raise w k loc).wins = s.wins := rfl
@[simp] theorem raise_bus (w k loc : Nat) : (s.raise w k loc).bus = s.bus := rfl
@[simp] theorem raise_deferred (w k loc : Nat) : (s.raise w k loc).deferred = s.deferred := rfl
@[simp] theorem raise_shared (w k loc : Nat) : (s.raise w k loc).shared = s.shared := rfl
@[simp] theorem raise_icxLog (w k loc : Nat) : (s.raise w k loc).icxLog = s.icxLog := rfl
@[simp] theorem raise_icxLost (w k loc : Nat) : (s.raise w k loc).icxLost = s.icxLost := rfl
@[simp] theorem raise_sources (w k loc : Nat) : (s.raise w k loc).sources = s.sources := rfl
@[simp] theorem raise_errPin (w k loc : Nat) : (s.raise w k loc).errPin = s.errPin := rfl
@[simp] theorem raise_bal (w k loc : Nat) : (s.raise w k loc).bal = s.bal := rfl
@[simp] theorem raise_trains (w k loc : Nat) : (s.raise w k loc).trains = s.trains := rfl
@[simp] theorem raise_pairs (w k loc : Nat) : (s.raise w k loc).pairs = s.pairs := rfl
@[simp] theorem raise_rsqPeak (w k loc : Nat) : (s.raise w k loc).rsqPeak = s.rsqPeak := rfl
@[simp] theorem raise_pond (w k loc : Nat) : (s.raise w k loc).pond = s.pond := rfl
@[simp] theorem raise_dials (w k loc : Nat) : (s.raise w k loc).dials = s.dials := rfl
@[simp] theorem raise_tms (w k loc : Nat) : (s.raise w k loc).tms = s.tms := rfl
@[simp] theorem raise_ldg (w k loc : Nat) : (s.raise w k loc).ldg = s.ldg := rfl
@[simp] theorem raise_rings (w k loc : Nat) : (s.raise w k loc).rings = s.rings := rfl
@[simp] theorem raise_emt (w k loc : Nat) : (s.raise w k loc).emt = s.emt := rfl
@[simp] theorem raise_wct (w k loc : Nat) : (s.raise w k loc).wct = s.wct := rfl
@[simp] theorem raise_pset (w k loc : Nat) : (s.raise w k loc).pset = s.pset := rfl
@[simp] theorem raise_pol (w k loc : Nat) : (s.raise w k loc).pol = s.pol := rfl
@[simp] theorem raise_cdm (w k loc : Nat) : (s.raise w k loc).cdm = s.cdm := rfl
@[simp] theorem raise_pwr (w k loc : Nat) : (s.raise w k loc).pwr = s.pwr := rfl
@[simp] theorem raise_shores (w k loc : Nat) : (s.raise w k loc).shores = s.shores := rfl
@[simp] theorem raise_mem (w k loc : Nat) : (s.raise w k loc).mem = s.mem := rfl
@[simp] theorem raise_nor (w k loc : Nat) : (s.raise w k loc).nor = s.nor := rfl
@[simp] theorem raise_sge (w k loc : Nat) : (s.raise w k loc).sge = s.sge := rfl
@[simp] theorem raise_fuses (w k loc : Nat) : (s.raise w k loc).fuses = s.fuses := rfl
@[simp] theorem raise_jwl (w k loc : Nat) : (s.raise w k loc).jwl = s.jwl := rfl
@[simp] theorem raise_trnReqs (w k loc : Nat) : (s.raise w k loc).trnReqs = s.trnReqs := rfl
@[simp] theorem raise_vlt (w k loc : Nat) : (s.raise w k loc).vlt = s.vlt := rfl
@[simp] theorem raise_aue (w k loc : Nat) : (s.raise w k loc).aue = s.aue := rfl
@[simp] theorem raise_bridges (w k loc : Nat) : (s.raise w k loc).bridges = s.bridges := rfl
@[simp] theorem raise_trx (w k loc : Nat) : (s.raise w k loc).trx = s.trx := rfl
@[simp] theorem raise_t1l (w k loc : Nat) : (s.raise w k loc).t1l = s.t1l := rfl
@[simp] theorem raise_cx (w k loc : Nat) : (s.raise w k loc).cx = s.cx := rfl
@[simp] theorem raise_nm (w k loc : Nat) : (s.raise w k loc).nm = s.nm := rfl
@[simp] theorem raise_nmReports (w k loc : Nat) : (s.raise w k loc).nmReports = s.nmReports := rfl
@[simp] theorem raise_s2s (w k loc : Nat) : (s.raise w k loc).s2s = s.s2s := rfl
@[simp] theorem raise_emc (w k loc : Nat) : (s.raise w k loc).emc = s.emc := rfl
@[simp] theorem raise_frer (w k loc : Nat) : (s.raise w k loc).frer = s.frer := rfl
@[simp] theorem raise_flow (w k loc : Nat) : (s.raise w k loc).flow = s.flow := rfl
@[simp] theorem raise_wakeFids (w k loc : Nat) : (s.raise w k loc).wakeFids = s.wakeFids := rfl
@[simp] theorem raise_outlets (w k loc : Nat) : (s.raise w k loc).outlets = s.outlets := rfl
@[simp] theorem raise_inlets (w k loc : Nat) : (s.raise w k loc).inlets = s.inlets := rfl
@[simp] theorem raise_irts (w k loc : Nat) : (s.raise w k loc).irts = s.irts := rfl
@[simp] theorem raise_dmc (w k loc : Nat) : (s.raise w k loc).dmc = s.dmc := rfl
@[simp] theorem raise_xsp (w k loc : Nat) : (s.raise w k loc).xsp = s.xsp := rfl
@[simp] theorem raise_crn (w k loc : Nat) : (s.raise w k loc).crn = s.crn := rfl
@[simp] theorem raise_unnov (w k loc : Nat) : (s.raise w k loc).unnov = s.unnov := rfl
@[simp] theorem raise_straps (w k loc : Nat) : (s.raise w k loc).straps = s.straps := rfl
@[simp] theorem raise_twin (w k loc : Nat) : (s.raise w k loc).twin = s.twin := rfl
@[simp] theorem raise_free (w k loc : Nat) : (s.raise w k loc).free = s.free := rfl

/-! `State.raise0` -/
@[simp] theorem raise0_pending (w k : Nat) : (s.raise0 w k).pending = s.pending := rfl
@[simp] theorem raise0_regs (w k : Nat) : (s.raise0 w k).regs = s.regs := rfl
@[simp] theorem raise0_shad (w k : Nat) : (s.raise0 w k).shad = s.shad := rfl
@[simp] theorem raise0_wins (w k : Nat) : (s.raise0 w k).wins = s.wins := rfl
@[simp] theorem raise0_bus (w k : Nat) : (s.raise0 w k).bus = s.bus := rfl
@[simp] theorem raise0_deferred (w k : Nat) : (s.raise0 w k).deferred = s.deferred := rfl
@[simp] theorem raise0_shared (w k : Nat) : (s.raise0 w k).shared = s.shared := rfl
@[simp] theorem raise0_icxLog (w k : Nat) : (s.raise0 w k).icxLog = s.icxLog := rfl
@[simp] theorem raise0_icxLost (w k : Nat) : (s.raise0 w k).icxLost = s.icxLost := rfl
@[simp] theorem raise0_sources (w k : Nat) : (s.raise0 w k).sources = s.sources := rfl
@[simp] theorem raise0_errPin (w k : Nat) : (s.raise0 w k).errPin = s.errPin := rfl
@[simp] theorem raise0_bal (w k : Nat) : (s.raise0 w k).bal = s.bal := rfl
@[simp] theorem raise0_trains (w k : Nat) : (s.raise0 w k).trains = s.trains := rfl
@[simp] theorem raise0_pairs (w k : Nat) : (s.raise0 w k).pairs = s.pairs := rfl
@[simp] theorem raise0_rsqPeak (w k : Nat) : (s.raise0 w k).rsqPeak = s.rsqPeak := rfl
@[simp] theorem raise0_pond (w k : Nat) : (s.raise0 w k).pond = s.pond := rfl
@[simp] theorem raise0_dials (w k : Nat) : (s.raise0 w k).dials = s.dials := rfl
@[simp] theorem raise0_tms (w k : Nat) : (s.raise0 w k).tms = s.tms := rfl
@[simp] theorem raise0_ldg (w k : Nat) : (s.raise0 w k).ldg = s.ldg := rfl
@[simp] theorem raise0_rings (w k : Nat) : (s.raise0 w k).rings = s.rings := rfl
@[simp] theorem raise0_emt (w k : Nat) : (s.raise0 w k).emt = s.emt := rfl
@[simp] theorem raise0_wct (w k : Nat) : (s.raise0 w k).wct = s.wct := rfl
@[simp] theorem raise0_pset (w k : Nat) : (s.raise0 w k).pset = s.pset := rfl
@[simp] theorem raise0_pol (w k : Nat) : (s.raise0 w k).pol = s.pol := rfl
@[simp] theorem raise0_cdm (w k : Nat) : (s.raise0 w k).cdm = s.cdm := rfl
@[simp] theorem raise0_pwr (w k : Nat) : (s.raise0 w k).pwr = s.pwr := rfl
@[simp] theorem raise0_shores (w k : Nat) : (s.raise0 w k).shores = s.shores := rfl
@[simp] theorem raise0_mem (w k : Nat) : (s.raise0 w k).mem = s.mem := rfl
@[simp] theorem raise0_nor (w k : Nat) : (s.raise0 w k).nor = s.nor := rfl
@[simp] theorem raise0_sge (w k : Nat) : (s.raise0 w k).sge = s.sge := rfl
@[simp] theorem raise0_fuses (w k : Nat) : (s.raise0 w k).fuses = s.fuses := rfl
@[simp] theorem raise0_jwl (w k : Nat) : (s.raise0 w k).jwl = s.jwl := rfl
@[simp] theorem raise0_trnReqs (w k : Nat) : (s.raise0 w k).trnReqs = s.trnReqs := rfl
@[simp] theorem raise0_vlt (w k : Nat) : (s.raise0 w k).vlt = s.vlt := rfl
@[simp] theorem raise0_aue (w k : Nat) : (s.raise0 w k).aue = s.aue := rfl
@[simp] theorem raise0_bridges (w k : Nat) : (s.raise0 w k).bridges = s.bridges := rfl
@[simp] theorem raise0_trx (w k : Nat) : (s.raise0 w k).trx = s.trx := rfl
@[simp] theorem raise0_t1l (w k : Nat) : (s.raise0 w k).t1l = s.t1l := rfl
@[simp] theorem raise0_cx (w k : Nat) : (s.raise0 w k).cx = s.cx := rfl
@[simp] theorem raise0_nm (w k : Nat) : (s.raise0 w k).nm = s.nm := rfl
@[simp] theorem raise0_nmReports (w k : Nat) : (s.raise0 w k).nmReports = s.nmReports := rfl
@[simp] theorem raise0_s2s (w k : Nat) : (s.raise0 w k).s2s = s.s2s := rfl
@[simp] theorem raise0_emc (w k : Nat) : (s.raise0 w k).emc = s.emc := rfl
@[simp] theorem raise0_frer (w k : Nat) : (s.raise0 w k).frer = s.frer := rfl
@[simp] theorem raise0_flow (w k : Nat) : (s.raise0 w k).flow = s.flow := rfl
@[simp] theorem raise0_wakeFids (w k : Nat) : (s.raise0 w k).wakeFids = s.wakeFids := rfl
@[simp] theorem raise0_outlets (w k : Nat) : (s.raise0 w k).outlets = s.outlets := rfl
@[simp] theorem raise0_inlets (w k : Nat) : (s.raise0 w k).inlets = s.inlets := rfl
@[simp] theorem raise0_irts (w k : Nat) : (s.raise0 w k).irts = s.irts := rfl
@[simp] theorem raise0_dmc (w k : Nat) : (s.raise0 w k).dmc = s.dmc := rfl
@[simp] theorem raise0_xsp (w k : Nat) : (s.raise0 w k).xsp = s.xsp := rfl
@[simp] theorem raise0_crn (w k : Nat) : (s.raise0 w k).crn = s.crn := rfl
@[simp] theorem raise0_unnov (w k : Nat) : (s.raise0 w k).unnov = s.unnov := rfl
@[simp] theorem raise0_straps (w k : Nat) : (s.raise0 w k).straps = s.straps := rfl
@[simp] theorem raise0_twin (w k : Nat) : (s.raise0 w k).twin = s.twin := rfl
@[simp] theorem raise0_free (w k : Nat) : (s.raise0 w k).free = s.free := rfl

/-! ### Views after an update elsewhere -/

/-- What a register holds after a write to any register. -/
theorem reg_setReg (w off v w' off' : Nat) (h : off < 0x2000 := by decide) (h' : off' < 0x2000 := by decide) :
    (s.setReg w off v).reg w' off' = if w' = w ∧ off' = off then v % 2 ^ 32 else s.reg w' off' := by
  split
  · rename_i e
    rw [e.1, e.2, reg_setReg_same]
  · rename_i e
    exact reg_setReg_other _ _ _ _ _ _ fun k => e ((regKey_inj _ _ _ _ h' h).mp k)

@[simp] theorem reg_setShadow (w off v : Nat) (x y : Nat) : (s.setShadow w off v).reg x y = s.reg x y := rfl
@[simp] theorem reg_setWin (w : Nat) (v : Win) (x y : Nat) : (s.setWin w v).reg x y = s.reg x y := rfl
@[simp] theorem reg_setSource (w k : Nat) (v : Source) (x y : Nat) : (s.setSource w k v).reg x y = s.reg x y := rfl
@[simp] theorem reg_modPond (f : Pond → Pond) (x y : Nat) : (s.modPond f).reg x y = s.reg x y := rfl
@[simp] theorem reg_modTms (f : Tms → Tms) (x y : Nat) : (s.modTms f).reg x y = s.reg x y := rfl
@[simp] theorem reg_modSge (f : Sge → Sge) (x y : Nat) : (s.modSge f).reg x y = s.reg x y := rfl
@[simp] theorem reg_modEmt (f : Emt → Emt) (x y : Nat) : (s.modEmt f).reg x y = s.reg x y := rfl
@[simp] theorem reg_modPol (f : Pol → Pol) (x y : Nat) : (s.modPol f).reg x y = s.reg x y := rfl
@[simp] theorem reg_modAue (f : Aue → Aue) (x y : Nat) : (s.modAue f).reg x y = s.reg x y := rfl
@[simp] theorem reg_modJwl (f : Jewel → Jewel) (x y : Nat) : (s.modJwl f).reg x y = s.reg x y := rfl
@[simp] theorem reg_modVlt (f : Vault → Vault) (x y : Nat) : (s.modVlt f).reg x y = s.reg x y := rfl
@[simp] theorem reg_modTwin (f : Twin → Twin) (x y : Nat) : (s.modTwin f).reg x y = s.reg x y := rfl
@[simp] theorem reg_modUnnov (f : Unnov → Unnov) (x y : Nat) : (s.modUnnov f).reg x y = s.reg x y := rfl
@[simp] theorem reg_modCrn (f : Crown → Crown) (x y : Nat) : (s.modCrn f).reg x y = s.reg x y := rfl
@[simp] theorem reg_setShore (d : Nat) (v : Shore) (x y : Nat) : (s.setShore d v).reg x y = s.reg x y := rfl
@[simp] theorem reg_setCx (n : Nat) (v : Cx) (x y : Nat) : (s.setCx n v).reg x y = s.reg x y := rfl
@[simp] theorem reg_setTr (n : Nat) (v : Trx) (x y : Nat) : (s.setTr n v).reg x y = s.reg x y := rfl
@[simp] theorem reg_modLine (k : Nat) (f : T1l → T1l) (x y : Nat) : (s.modLine k f).reg x y = s.reg x y := rfl
@[simp] theorem reg_modBridge (d : Nat) (f : Bridge → Bridge) (x y : Nat) : (s.modBridge d f).reg x y = s.reg x y := rfl
@[simp] theorem reg_modUnit (u : Nat) (f : NmUnit → NmUnit) (x y : Nat) : (s.modUnit u f).reg x y = s.reg x y := rfl
@[simp] theorem reg_modMac (k : Nat) (f : Emc → Emc) (x y : Nat) : (s.modMac k f).reg x y = s.reg x y := rfl
@[simp] theorem reg_setRing (r : Nat) (v : Ring) (x y : Nat) : (s.setRing r v).reg x y = s.reg x y := rfl
@[simp] theorem reg_setDial (d : Nat) (v : Dial) (x y : Nat) : (s.setDial d v).reg x y = s.reg x y := rfl
@[simp] theorem reg_setTrain (k : Nat) (v : Train) (x y : Nat) : (s.setTrain k v).reg x y = s.reg x y := rfl
@[simp] theorem reg_setPair (i o : Nat) (v : Pair) (x y : Nat) : (s.setPair i o v).reg x y = s.reg x y := rfl
@[simp] theorem reg_setOutlet (q : Nat) (v : Outlet) (x y : Nat) : (s.setOutlet q v).reg x y = s.reg x y := rfl
@[simp] theorem reg_setInlet (q : Nat) (v : Inlet) (x y : Nat) : (s.setInlet q v).reg x y = s.reg x y := rfl
@[simp] theorem reg_setIrt (r : Nat) (v : Irt) (x y : Nat) : (s.setIrt r v).reg x y = s.reg x y := rfl
@[simp] theorem reg_setWct (i : Nat) (v : WctEntry) (x y : Nat) : (s.setWct i v).reg x y = s.reg x y := rfl
@[simp] theorem reg_setCadence (k : Nat) (v : Cadence) (x y : Nat) : (s.setCadence k v).reg x y = s.reg x y := rfl
@[simp] theorem reg_post (p : Post) (x y : Nat) : (s.post p).reg x y = s.reg x y := rfl
@[simp] theorem reg_level (w k loc : Nat) (on : Bool) (x y : Nat) : (s.level w k loc on).reg x y = s.reg x y := rfl
@[simp] theorem reg_raise (w k loc : Nat) (x y : Nat) : (s.raise w k loc).reg x y = s.reg x y := rfl
@[simp] theorem reg_raise0 (w k : Nat) (x y : Nat) : (s.raise0 w k).reg x y = s.reg x y := rfl

@[simp] theorem shadow_setReg (w off v : Nat) (x y : Nat) : (s.setReg w off v).shadow x y = s.shadow x y := rfl
@[simp] theorem shadow_setWin (w : Nat) (v : Win) (x y : Nat) : (s.setWin w v).shadow x y = s.shadow x y := rfl
@[simp] theorem shadow_setSource (w k : Nat) (v : Source) (x y : Nat) : (s.setSource w k v).shadow x y = s.shadow x y := rfl
@[simp] theorem shadow_modPond (f : Pond → Pond) (x y : Nat) : (s.modPond f).shadow x y = s.shadow x y := rfl
@[simp] theorem shadow_modTms (f : Tms → Tms) (x y : Nat) : (s.modTms f).shadow x y = s.shadow x y := rfl
@[simp] theorem shadow_modSge (f : Sge → Sge) (x y : Nat) : (s.modSge f).shadow x y = s.shadow x y := rfl
@[simp] theorem shadow_modEmt (f : Emt → Emt) (x y : Nat) : (s.modEmt f).shadow x y = s.shadow x y := rfl
@[simp] theorem shadow_modPol (f : Pol → Pol) (x y : Nat) : (s.modPol f).shadow x y = s.shadow x y := rfl
@[simp] theorem shadow_modAue (f : Aue → Aue) (x y : Nat) : (s.modAue f).shadow x y = s.shadow x y := rfl
@[simp] theorem shadow_modJwl (f : Jewel → Jewel) (x y : Nat) : (s.modJwl f).shadow x y = s.shadow x y := rfl
@[simp] theorem shadow_modVlt (f : Vault → Vault) (x y : Nat) : (s.modVlt f).shadow x y = s.shadow x y := rfl
@[simp] theorem shadow_modTwin (f : Twin → Twin) (x y : Nat) : (s.modTwin f).shadow x y = s.shadow x y := rfl
@[simp] theorem shadow_modUnnov (f : Unnov → Unnov) (x y : Nat) : (s.modUnnov f).shadow x y = s.shadow x y := rfl
@[simp] theorem shadow_modCrn (f : Crown → Crown) (x y : Nat) : (s.modCrn f).shadow x y = s.shadow x y := rfl
@[simp] theorem shadow_setShore (d : Nat) (v : Shore) (x y : Nat) : (s.setShore d v).shadow x y = s.shadow x y := rfl
@[simp] theorem shadow_setCx (n : Nat) (v : Cx) (x y : Nat) : (s.setCx n v).shadow x y = s.shadow x y := rfl
@[simp] theorem shadow_setTr (n : Nat) (v : Trx) (x y : Nat) : (s.setTr n v).shadow x y = s.shadow x y := rfl
@[simp] theorem shadow_modLine (k : Nat) (f : T1l → T1l) (x y : Nat) : (s.modLine k f).shadow x y = s.shadow x y := rfl
@[simp] theorem shadow_modBridge (d : Nat) (f : Bridge → Bridge) (x y : Nat) : (s.modBridge d f).shadow x y = s.shadow x y := rfl
@[simp] theorem shadow_modUnit (u : Nat) (f : NmUnit → NmUnit) (x y : Nat) : (s.modUnit u f).shadow x y = s.shadow x y := rfl
@[simp] theorem shadow_modMac (k : Nat) (f : Emc → Emc) (x y : Nat) : (s.modMac k f).shadow x y = s.shadow x y := rfl
@[simp] theorem shadow_setRing (r : Nat) (v : Ring) (x y : Nat) : (s.setRing r v).shadow x y = s.shadow x y := rfl
@[simp] theorem shadow_setDial (d : Nat) (v : Dial) (x y : Nat) : (s.setDial d v).shadow x y = s.shadow x y := rfl
@[simp] theorem shadow_setTrain (k : Nat) (v : Train) (x y : Nat) : (s.setTrain k v).shadow x y = s.shadow x y := rfl
@[simp] theorem shadow_setPair (i o : Nat) (v : Pair) (x y : Nat) : (s.setPair i o v).shadow x y = s.shadow x y := rfl
@[simp] theorem shadow_setOutlet (q : Nat) (v : Outlet) (x y : Nat) : (s.setOutlet q v).shadow x y = s.shadow x y := rfl
@[simp] theorem shadow_setInlet (q : Nat) (v : Inlet) (x y : Nat) : (s.setInlet q v).shadow x y = s.shadow x y := rfl
@[simp] theorem shadow_setIrt (r : Nat) (v : Irt) (x y : Nat) : (s.setIrt r v).shadow x y = s.shadow x y := rfl
@[simp] theorem shadow_setWct (i : Nat) (v : WctEntry) (x y : Nat) : (s.setWct i v).shadow x y = s.shadow x y := rfl
@[simp] theorem shadow_setCadence (k : Nat) (v : Cadence) (x y : Nat) : (s.setCadence k v).shadow x y = s.shadow x y := rfl
@[simp] theorem shadow_post (p : Post) (x y : Nat) : (s.post p).shadow x y = s.shadow x y := rfl
@[simp] theorem shadow_level (w k loc : Nat) (on : Bool) (x y : Nat) : (s.level w k loc on).shadow x y = s.shadow x y := rfl
@[simp] theorem shadow_raise (w k loc : Nat) (x y : Nat) : (s.raise w k loc).shadow x y = s.shadow x y := rfl
@[simp] theorem shadow_raise0 (w k : Nat) (x y : Nat) : (s.raise0 w k).shadow x y = s.shadow x y := rfl

@[simp] theorem win_setReg (w off v : Nat) (x : Nat) : (s.setReg w off v).win x = s.win x := rfl
@[simp] theorem win_setShadow (w off v : Nat) (x : Nat) : (s.setShadow w off v).win x = s.win x := rfl
@[simp] theorem win_setSource (w k : Nat) (v : Source) (x : Nat) : (s.setSource w k v).win x = s.win x := rfl
@[simp] theorem win_modPond (f : Pond → Pond) (x : Nat) : (s.modPond f).win x = s.win x := rfl
@[simp] theorem win_modTms (f : Tms → Tms) (x : Nat) : (s.modTms f).win x = s.win x := rfl
@[simp] theorem win_modSge (f : Sge → Sge) (x : Nat) : (s.modSge f).win x = s.win x := rfl
@[simp] theorem win_modEmt (f : Emt → Emt) (x : Nat) : (s.modEmt f).win x = s.win x := rfl
@[simp] theorem win_modPol (f : Pol → Pol) (x : Nat) : (s.modPol f).win x = s.win x := rfl
@[simp] theorem win_modAue (f : Aue → Aue) (x : Nat) : (s.modAue f).win x = s.win x := rfl
@[simp] theorem win_modJwl (f : Jewel → Jewel) (x : Nat) : (s.modJwl f).win x = s.win x := rfl
@[simp] theorem win_modVlt (f : Vault → Vault) (x : Nat) : (s.modVlt f).win x = s.win x := rfl
@[simp] theorem win_modTwin (f : Twin → Twin) (x : Nat) : (s.modTwin f).win x = s.win x := rfl
@[simp] theorem win_modUnnov (f : Unnov → Unnov) (x : Nat) : (s.modUnnov f).win x = s.win x := rfl
@[simp] theorem win_modCrn (f : Crown → Crown) (x : Nat) : (s.modCrn f).win x = s.win x := rfl
@[simp] theorem win_setShore (d : Nat) (v : Shore) (x : Nat) : (s.setShore d v).win x = s.win x := rfl
@[simp] theorem win_setCx (n : Nat) (v : Cx) (x : Nat) : (s.setCx n v).win x = s.win x := rfl
@[simp] theorem win_setTr (n : Nat) (v : Trx) (x : Nat) : (s.setTr n v).win x = s.win x := rfl
@[simp] theorem win_modLine (k : Nat) (f : T1l → T1l) (x : Nat) : (s.modLine k f).win x = s.win x := rfl
@[simp] theorem win_modBridge (d : Nat) (f : Bridge → Bridge) (x : Nat) : (s.modBridge d f).win x = s.win x := rfl
@[simp] theorem win_modUnit (u : Nat) (f : NmUnit → NmUnit) (x : Nat) : (s.modUnit u f).win x = s.win x := rfl
@[simp] theorem win_modMac (k : Nat) (f : Emc → Emc) (x : Nat) : (s.modMac k f).win x = s.win x := rfl
@[simp] theorem win_setRing (r : Nat) (v : Ring) (x : Nat) : (s.setRing r v).win x = s.win x := rfl
@[simp] theorem win_setDial (d : Nat) (v : Dial) (x : Nat) : (s.setDial d v).win x = s.win x := rfl
@[simp] theorem win_setTrain (k : Nat) (v : Train) (x : Nat) : (s.setTrain k v).win x = s.win x := rfl
@[simp] theorem win_setPair (i o : Nat) (v : Pair) (x : Nat) : (s.setPair i o v).win x = s.win x := rfl
@[simp] theorem win_setOutlet (q : Nat) (v : Outlet) (x : Nat) : (s.setOutlet q v).win x = s.win x := rfl
@[simp] theorem win_setInlet (q : Nat) (v : Inlet) (x : Nat) : (s.setInlet q v).win x = s.win x := rfl
@[simp] theorem win_setIrt (r : Nat) (v : Irt) (x : Nat) : (s.setIrt r v).win x = s.win x := rfl
@[simp] theorem win_setWct (i : Nat) (v : WctEntry) (x : Nat) : (s.setWct i v).win x = s.win x := rfl
@[simp] theorem win_setCadence (k : Nat) (v : Cadence) (x : Nat) : (s.setCadence k v).win x = s.win x := rfl
@[simp] theorem win_post (p : Post) (x : Nat) : (s.post p).win x = s.win x := rfl
@[simp] theorem win_level (w k loc : Nat) (on : Bool) (x : Nat) : (s.level w k loc on).win x = s.win x := rfl
@[simp] theorem win_raise (w k loc : Nat) (x : Nat) : (s.raise w k loc).win x = s.win x := rfl
@[simp] theorem win_raise0 (w k : Nat) (x : Nat) : (s.raise0 w k).win x = s.win x := rfl

@[simp] theorem source_setReg (w off v : Nat) (x y : Nat) : (s.setReg w off v).source x y = s.source x y := rfl
@[simp] theorem source_setShadow (w off v : Nat) (x y : Nat) : (s.setShadow w off v).source x y = s.source x y := rfl
@[simp] theorem source_setWin (w : Nat) (v : Win) (x y : Nat) : (s.setWin w v).source x y = s.source x y := rfl
@[simp] theorem source_modPond (f : Pond → Pond) (x y : Nat) : (s.modPond f).source x y = s.source x y := rfl
@[simp] theorem source_modTms (f : Tms → Tms) (x y : Nat) : (s.modTms f).source x y = s.source x y := rfl
@[simp] theorem source_modSge (f : Sge → Sge) (x y : Nat) : (s.modSge f).source x y = s.source x y := rfl
@[simp] theorem source_modEmt (f : Emt → Emt) (x y : Nat) : (s.modEmt f).source x y = s.source x y := rfl
@[simp] theorem source_modPol (f : Pol → Pol) (x y : Nat) : (s.modPol f).source x y = s.source x y := rfl
@[simp] theorem source_modAue (f : Aue → Aue) (x y : Nat) : (s.modAue f).source x y = s.source x y := rfl
@[simp] theorem source_modJwl (f : Jewel → Jewel) (x y : Nat) : (s.modJwl f).source x y = s.source x y := rfl
@[simp] theorem source_modVlt (f : Vault → Vault) (x y : Nat) : (s.modVlt f).source x y = s.source x y := rfl
@[simp] theorem source_modTwin (f : Twin → Twin) (x y : Nat) : (s.modTwin f).source x y = s.source x y := rfl
@[simp] theorem source_modUnnov (f : Unnov → Unnov) (x y : Nat) : (s.modUnnov f).source x y = s.source x y := rfl
@[simp] theorem source_modCrn (f : Crown → Crown) (x y : Nat) : (s.modCrn f).source x y = s.source x y := rfl
@[simp] theorem source_setShore (d : Nat) (v : Shore) (x y : Nat) : (s.setShore d v).source x y = s.source x y := rfl
@[simp] theorem source_setCx (n : Nat) (v : Cx) (x y : Nat) : (s.setCx n v).source x y = s.source x y := rfl
@[simp] theorem source_setTr (n : Nat) (v : Trx) (x y : Nat) : (s.setTr n v).source x y = s.source x y := rfl
@[simp] theorem source_modLine (k : Nat) (f : T1l → T1l) (x y : Nat) : (s.modLine k f).source x y = s.source x y := rfl
@[simp] theorem source_modBridge (d : Nat) (f : Bridge → Bridge) (x y : Nat) : (s.modBridge d f).source x y = s.source x y := rfl
@[simp] theorem source_modUnit (u : Nat) (f : NmUnit → NmUnit) (x y : Nat) : (s.modUnit u f).source x y = s.source x y := rfl
@[simp] theorem source_modMac (k : Nat) (f : Emc → Emc) (x y : Nat) : (s.modMac k f).source x y = s.source x y := rfl
@[simp] theorem source_setRing (r : Nat) (v : Ring) (x y : Nat) : (s.setRing r v).source x y = s.source x y := rfl
@[simp] theorem source_setDial (d : Nat) (v : Dial) (x y : Nat) : (s.setDial d v).source x y = s.source x y := rfl
@[simp] theorem source_setTrain (k : Nat) (v : Train) (x y : Nat) : (s.setTrain k v).source x y = s.source x y := rfl
@[simp] theorem source_setPair (i o : Nat) (v : Pair) (x y : Nat) : (s.setPair i o v).source x y = s.source x y := rfl
@[simp] theorem source_setOutlet (q : Nat) (v : Outlet) (x y : Nat) : (s.setOutlet q v).source x y = s.source x y := rfl
@[simp] theorem source_setInlet (q : Nat) (v : Inlet) (x y : Nat) : (s.setInlet q v).source x y = s.source x y := rfl
@[simp] theorem source_setIrt (r : Nat) (v : Irt) (x y : Nat) : (s.setIrt r v).source x y = s.source x y := rfl
@[simp] theorem source_setWct (i : Nat) (v : WctEntry) (x y : Nat) : (s.setWct i v).source x y = s.source x y := rfl
@[simp] theorem source_setCadence (k : Nat) (v : Cadence) (x y : Nat) : (s.setCadence k v).source x y = s.source x y := rfl
@[simp] theorem source_post (p : Post) (x y : Nat) : (s.post p).source x y = s.source x y := rfl
@[simp] theorem source_level (w k loc : Nat) (on : Bool) (x y : Nat) : (s.level w k loc on).source x y = s.source x y := rfl
@[simp] theorem source_raise (w k loc : Nat) (x y : Nat) : (s.raise w k loc).source x y = s.source x y := rfl
@[simp] theorem source_raise0 (w k : Nat) (x y : Nat) : (s.raise0 w k).source x y = s.source x y := rfl

end Sys2Proof.Machine
end

