-- ==== Sys2Proof/Laws/Access.lean ====
section
/-! SUPPORT. What an access that reaches its register does: one lemma for writes, one for guarded writes, one for reads. -/
namespace Sys2Proof.Machine
open Reg

theorem blkOf_lt {w : Nat} (h : (blkOf w).isSome) : w < 0x400 := by
  by_cases hw : w < 0x400
  · exact hw
  · exfalso
    rw [blkOf, if_neg (by omega), if_neg hw] at h
    exact absurd h (by decide)

theorem windowOf_winAddr {w off : Nat} (hw : w < 0x400) (ho : off < 0x10000) :
    windowOf (winAddr w off) = some w ∧ winAddr w off % 0x10000 = off := by
  unfold windowOf winAddr
  constructor
  · rw [if_pos (by omega)]
    congr 1
    omega
  · omega

/-- The state in which a write that has crossed meets its window: only the bridge and its count have changed. -/
theorem crossed_frame (i : Initiator) (w : Nat) (s : State) :
    (crossed i w s).wins = s.wins ∧ (crossed i w s).shad = s.shad ∧ (crossed i w s).sources = s.sources
      ∧ (crossed i w s).shores = s.shores ∧ (crossed i w s).tms = s.tms ∧ (crossed i w s).pwr = s.pwr := by
  unfold crossed
  split <;> simp [countWrap_eq]

@[simp] theorem crossed_win (i : Initiator) (w w' : Nat) (s : State) : (crossed i w s).win w' = s.win w' := by
  simp [State.win, (crossed_frame i w s).1]

/-- Crossing takes no time. -/
@[simp] theorem crossed_dieNow (i : Initiator) (w w' : Nat) (s : State) : dieNow (crossed i w s) w' = dieNow s w' := by
  have := crossed_frame i w s
  simp [dieNow, State.now, State.shoreNow, this.2.2.2.2.1, State.shore, this.2.2.2.1]

@[simp] theorem disarm_dieNow (w w' : Nat) (s : State) : dieNow (disarm w s) w' = dieNow s w' := rfl

@[simp] theorem crossed_shadow (i : Initiator) (w w' off : Nat) (s : State) : (crossed i w s).shadow w' off = s.shadow w' off := by
  simp [State.shadow, (crossed_frame i w s).2.1]

@[simp] theorem crossed_source (i : Initiator) (w w' k : Nat) (s : State) : (crossed i w s).source w' k = s.source w' k := by
  simp [State.source, (crossed_frame i w s).2.2.1]

theorem crossed_main (i : Initiator) (w : Nat) (s : State) (h : dieOf w = 0) : crossed i w s = s := by
  unfold crossed
  simp [h]

theorem dieOf_le (w : Nat) : dieOf w = 0 ∨ dieOf w = 1 ∨ dieOf w = 2 := by
  unfold dieOf
  split
  · exact .inl rfl
  · split
    · exact .inr (.inl rfl)
    · exact .inr (.inr rfl)

/-- The bridge's count is in no register that another window reads. -/
theorem crossed_reg (i : Initiator) (w w' off : Nat) (s : State) (h : dieOf w' ≠ 0 ∨ dieOf w = 0) (ho : off < 0x2000) :
    (crossed i w s).reg w' off = s.reg w' off := by
  unfold crossed
  split
  · rename_i hc
    have hd : dieOf w ≠ 0 := by
      intro h0
      simp [h0] at hc
    have hw' : dieOf w' ≠ 0 := by
      rcases h with h | h
      · exact h
      · exact absurd h hd
    have h2 : 0x200 ≤ w' := by
      unfold dieOf at hw'
      split at hw'
      · exact absurd rfl hw'
      · omega
    have hs : shbWin (dieOf w - 1) < 0x200 := by
      unfold shbWin
      rcases dieOf_le w with h | h | h <;> simp [h, W.SHB]
    have key : regKey w' off ≠ regKey (shbWin (dieOf w - 1)) SHB_WR := by
      unfold regKey
      have : SHB_WR < 0x2000 := by decide
      omega
    rw [show ((s.countWrap (shbWin (dieOf w - 1)) SHB_WR 1).modBridge (dieOf w - 1) fun b => { b with bursts := [] }).reg w' off
        = (s.countWrap (shbWin (dieOf w - 1)) SHB_WR 1).reg w' off from rfl, countWrap_eq, reg_setReg_other _ _ _ _ _ _ key]
  · rfl

theorem admitted_crossed (i : Initiator) (w off : Nat) (write : Bool) (s : State) :
    admitted (crossed i w s) i w off write = admitted s i w off write := by
  have h : (crossed i w s).reg w WIN_ACCESS = s.reg w WIN_ACCESS := by
    refine crossed_reg i w w WIN_ACCESS s ?_ (by decide)
    by_cases hd : dieOf w = 0
    · exact .inr hd
    · exact .inl hd
  simp [admitted, State.flag, h]

theorem localMapped_of_blkOf {w d : Nat} (h : (blkOf w).isSome) (hd : dieOf w = d + 1) :
    localMapped (w % 0x100) = true ∧ 0x200 + 0x100 * d + w % 0x100 = w ∧ d < 2 := by
  have hw := blkOf_lt h
  have h2 : ¬ w < 0x200 := by
    intro hlt
    simp [dieOf, hlt] at hd
  have hwd : 0x200 + 0x100 * d + w % 0x100 = w ∧ d < 2 := by
    unfold dieOf at hd
    rw [if_neg h2] at hd
    split at hd <;> omega
  refine ⟨?_, hwd⟩
  have hb : blkOf (0x200 + w % 0x100) = blkOf w := by
    rw [blkOf, if_neg (by omega), if_pos (by omega), blkOf, if_neg h2, if_pos hw]
    rw [show (0x200 + w % 0x100) % 0x100 = w % 0x100 by omega]
  simp only [localMapped, hb, h, Bool.true_and, decide_eq_true_eq]
  exact Nat.mod_lt _ (by decide)

/-- A command's write to a register that it reaches meets the register's window with nothing in between (R6, R34, R35, R63). -/
theorem regWrite_reaches {i : Initiator} {w off data : Nat} {a : Aux} {s : State} (h : reaches s i w off true = true) :
    regWrite i w off data a s
      = winWrite ⟨i, addrFor i w off, 32, true, false, BitVec.ofNat 64 data⟩ w off a (crossed i w s) := by
  simp only [reaches, Bool.and_eq_true, decide_eq_true_eq, Bool.not_eq_true', linked] at h
  obtain ⟨⟨⟨⟨⟨⟨⟨hm, hr, hl⟩, hh⟩, ho⟩, hz⟩, hq⟩, had⟩, hp⟩ := h
  have hw := blkOf_lt hm
  have hbn : (blkOf w).isNone = false := by simpa using hm
  have win : ∀ acc : Access, acc.init = i → acc.size = 32 → acc.write = true →
      winAccess acc w off a (crossed i w s) = winWrite acc w off a (crossed i w s) := by
    intro acc h1 h2 h3
    simp [winAccess, h1, h2, h3, hz, hq, hp, admitted_crossed, had]
  unfold regWrite access reach
  simp only [hr, hh, Bool.not_true, Bool.false_eq_true, if_false]
  cases hs : shcOf i with
  | none =>
    simp only [hs] at hl
    have ha : addrFor i w off = winAddr w off := by simp [addrFor, hs]
    have hx := windowOf_winAddr hw ho
    simp only [mainAccess, ha, hx.1, hx.2, hbn, Bool.false_eq_true, if_false]
    by_cases hd : dieOf w = 0
    · rw [if_pos hd, crossed_main i w s hd] at *
      exact win _ rfl rfl rfl
    · have hlk : (s.bridge (dieOf w - 1)).up = true ∧ shoreRuns s (dieOf w - 1) = true := by simpa [hd] using hl
      rw [if_neg hd]
      simp only [shoreAccess, hlk.1, hlk.2, Bool.not_true, Bool.or_self, Bool.false_eq_true, if_false, if_true]
      have hc : crossed i w s
          = (s.countWrap (shbWin (dieOf w - 1)) SHB_WR 1).modBridge (dieOf w - 1) fun b => { b with bursts := [] } := by
        simp [crossed, hs, hd]
      rw [show ∀ acc : Access, acc.write = true → shoreCross (dieOf w - 1) acc s = crossed i w s from
        fun acc h => by rw [shoreCross, if_pos h, hc]]
      · exact win _ rfl rfl rfl
      · rfl
  | some d =>
    simp only [hs, beq_iff_eq] at hl
    obtain ⟨hlm, hwe, hd2⟩ := localMapped_of_blkOf hm hl
    have ha : addrFor i w off = winAddr (w % 0x100) off := by simp [addrFor, hs, hl]
    have hx := windowOf_winAddr (w := w % 0x100) (by omega) ho
    have hout : ¬ winAddr (w % 0x100) off + 32 / 8 ≤ 0x20000 := by
      unfold winAddr
      omega
    have hc : crossed i w s = s := by simp [crossed, hs]
    simp only [shcAccess, ha, hout, if_false, hx.1, hx.2, hlm, if_true, hwe]
    rw [hc] at win ⊢
    exact win _ rfl rfl rfl

/-- A write to a plain register that takes it: the register's own effect, after the bus has answered (R34, R46). -/
theorem regWrite_plain {i : Initiator} {w off data : Nat} {a : Aux} {s : State} {r : RegRow}
    (h : reaches s i w off true = true) (ho : off < 0x2000) (hr : rowAt w off = some r) (hg : r.gd = 0) (hk : r.kind ≠ .w64)
    (hb : shBlocked (departs w (crossed i w s)) w r = false) :
    regWrite i w off data a s = writeReg w off (data % 2 ^ 32) i a r (busDone 0 (departs w (crossed i w s))) := by
  rw [regWrite_reaches h]
  have hv : viewOf off = 0 := by
    unfold viewOf
    omega
  have hd' : (BitVec.ofNat 64 data).toNat % 2 ^ 32 = data % 2 ^ 32 := by
    rw [BitVec.toNat_ofNat]
    omega
  simp only [winWrite, hv, baseWrite, hr, hg, ne_eq, not_true_eq_false, if_false, hb, Bool.false_eq_true, hd']
  cases hk'' : r.kind <;> simp_all

/-- A command's write with no value armed in the window: `departs` changes nothing. -/
theorem departs_unarmed {w : Nat} {s : State} (h : (s.win w).armed = none) : departs w s = s := by simp [departs, h]

/-! ### The three accesses of commands -/

theorem complete_main {f : State → State} {s : State} (h : mainRuns s = true) : onMain f s = complete s (f s) := by
  simp [onMain, h]

theorem complete_shore {d : Nat} {f : State → State} {s : State} (hd : d < 2) (h : shoreRuns s d = true) :
    onShore d f s = complete s (f s) := by simp [onShore, h, hd]

/-- A write that its register takes. -/
theorem takes_write {i : Initiator} {w off data : Nat} {a : Aux} {s : State} {r : RegRow} (h : takes s i w off = true)
    (ho : off < 0x2000) (hr : rowAt w off = some r) (hg : r.gd = 0) (hk : r.kind ≠ .w64) :
    regWrite i w off data a s = writeReg w off (data % 2 ^ 32) i a r (arrived i w s) := by
  simp only [takes, Bool.and_eq_true, Option.isNone_iff_eq_none, Bool.not_eq_true'] at h
  obtain ⟨⟨h1, h2⟩, h3⟩ := h
  have hd : departs w (crossed i w s) = crossed i w s := departs_unarmed (by simp [h2])
  rw [regWrite_plain h1 ho hr hg hk (by simp [hd, shBlocked, h3]), hd]
  rfl

/-- The twin write that completes a guarded sequence. -/
theorem takes_guard {i : Initiator} {w off v : Nat} {a : Aux} {s : State} {r : RegRow} (h : takesGuarded s i w off v = true)
    (ho : off < 0x2000) (hr : rowAt w off = some r) (hg : r.gd ≠ 0) :
    guardWrite i w off v a s = writeGuarded w off (v % 2 ^ 32) a r (unlocked i w s) := by
  simp only [takesGuarded, Bool.and_eq_true, Bool.not_eq_true'] at h
  obtain ⟨⟨h1, h3⟩, h2⟩ := h
  cases harm : (s.win w).armed with
  | none => simp [harm] at h2
  | some g =>
    simp only [harm, Bool.and_eq_true, beq_iff_eq, decide_eq_true_eq] at h2
    obtain ⟨⟨⟨g1, g2⟩, g3⟩, g4⟩ := h2
    unfold guardWrite
    rw [regWrite_reaches h1]
    have hv : viewOf (off + 0x2000) = 1 := by unfold viewOf; omega
    have hb : (off + 0x2000) % 0x2000 = off := by omega
    have hnow : dieNow (disarm w (crossed i w s)) w = dieNow s w := by simp
    have hval : g.value.toNat = v % 2 ^ 32 := by rw [g3, BitVec.toNat_ofNat]
    have hdat : (BitVec.ofNat 64 (0xFFFFFFFF - v % 2 ^ 32)).toNat % 2 ^ 32 = 0xFFFFFFFF - v % 2 ^ 32 := by
      rw [BitVec.toNat_ofNat]
      have : v % 2 ^ 32 < 2 ^ 32 := Nat.mod_lt _ (by decide)
      omega
    simp only [winWrite, hv, twinWrite, hb, crossed_win, harm, hr, hval, hdat, g1, g2, hnow]
    rw [if_neg (by simp [hg]; omega)]
    have hs : shBlocked (disarm w (crossed i w s)) w r = false := by
      have : ((disarm w (crossed i w s)).win w).upd = (s.win w).upd := by
        simp [disarm, State.setWin, State.win, (crossed_frame i w s).1]
      simp [shBlocked, this, h3]
    rw [hs]
    rfl

theorem asked_frame (i : Initiator) (w : Nat) (s : State) :
    (asked i w s).wins = s.wins ∧ (asked i w s).shad = s.shad ∧ (asked i w s).sources = s.sources := by
  unfold asked
  split <;> simp [countWrap_eq, dropBurst]

theorem asked_main (i : Initiator) (w : Nat) (s : State) (h : dieOf w = 0) : asked i w s = s := by simp [asked, h]

theorem asked_reg (i : Initiator) (w off : Nat) (s : State) (ho : off < 0x2000) : (asked i w s).reg w off = s.reg w off := by
  unfold asked
  split
  · rename_i hc
    have hd : dieOf w ≠ 0 := by
      intro h0
      simp [h0] at hc
    have h2 : 0x200 ≤ w := by
      unfold dieOf at hd
      split at hd
      · exact absurd rfl hd
      · omega
    have hs : shbWin (dieOf w - 1) < 0x200 := by
      unfold shbWin
      rcases dieOf_le w with h | h | h <;> simp [h, W.SHB]
    have key : regKey w off ≠ regKey (shbWin (dieOf w - 1)) SHB_RD := by
      unfold regKey
      have : SHB_RD < 0x2000 := by decide
      omega
    rw [countWrap_eq, reg_setReg_other _ _ _ _ _ _ key]
    rfl
  · rfl

theorem findSome_same {α β : Type} {f g : α → Option β} (l : List α) (h : ∀ x ∈ l, f x = g x) :
    l.findSome? f = l.findSome? g := by
  induction l with
  | nil => rfl
  | cons x t ih => simp [List.findSome?, h x (by simp), ih fun y hy => h y (by simp [hy])]

/-- The count of a bridge's reads is in no region register. -/
theorem prefetchRegion_count (d w off : Nat) (i : Initiator) (s : State) :
    prefetchRegion ((dropBurst d i s).countWrap (shbWin d) SHB_RD 1) d w off = prefetchRegion s d w off := by
  unfold prefetchRegion
  refine findSome_same _ fun k hk => ?_
  have hk8 : k < 8 := List.mem_range.mp hk
  have key : ∀ o, o ≠ SHB_RD → o < 0x2000 →
      ((dropBurst d i s).countWrap (shbWin d) SHB_RD 1).reg (shbWin d) o = s.reg (shbWin d) o := by
    intro o h1 h2
    rw [countWrap_eq, reg_setReg_other]
    · rfl
    · unfold regKey
      have : SHB_RD < 0x2000 := by decide
      omega
  have hr : SHB_REGION + 8 * k ≠ SHB_RD ∧ SHB_REGION + 8 * k < 0x2000 := by simp only [SHB_REGION, SHB_RD]; omega
  have hr4 : SHB_REGION + 8 * k + 4 ≠ SHB_RD ∧ SHB_REGION + 8 * k + 4 < 0x2000 := by simp only [SHB_REGION, SHB_RD]; omega
  rw [key _ hr.1 hr.2, key _ hr4.1 hr4.2]

/-- A read of a register that it reaches, whatever the access meets in a memory. -/
theorem readsPlain_access {i : Initiator} {w off : Nat} {s : State} (h : readsPlain s i w off = true) (ho : off < 0x2000) (a : Aux) :
    access ⟨i, addrFor i w off, 32, false, false, 0⟩ a s = baseRead ⟨i, addrFor i w off, 32, false, false, 0⟩ w off (asked i w s) := by
  simp only [readsPlain, Bool.and_eq_true] at h
  obtain ⟨h, hp⟩ := h
  simp only [reaches, Bool.and_eq_true, decide_eq_true_eq, Bool.not_eq_true', linked] at h
  obtain ⟨⟨⟨⟨⟨⟨⟨hm, hr, hl⟩, hh⟩, ho'⟩, hz⟩, hq⟩, had⟩, hpf⟩ := h
  have hw := blkOf_lt hm
  have hbn : (blkOf w).isNone = false := by simpa using hm
  have hv : viewOf off = 0 := by unfold viewOf; omega
  have hadm : admitted (asked i w s) i w off false = admitted s i w off false := by
    simp [admitted, State.flag, asked_reg i w WIN_ACCESS s (by decide)]
  have hqa : ((asked i w s).win w).resetting = false := by
    rw [← hq]
    simp [State.win, (asked_frame i w s).1]
  have win : ∀ (a : Aux) (acc : Access), acc.init = i → acc.size = 32 → acc.write = false →
      winAccess acc w off a (asked i w s) = baseRead acc w off (asked i w s) := by
    intro a acc h1 h2 h3
    simp [winAccess, winRead, h1, h2, h3, hz, hqa, hpf, hadm, had, hv]
  unfold access reach
  simp only [hr, hh, Bool.not_true, Bool.false_eq_true, if_false]
  cases hs : shcOf i with
  | none =>
    simp only [hs] at hl
    have ha : addrFor i w off = winAddr w off := by simp [addrFor, hs]
    have hx := windowOf_winAddr hw ho'
    simp only [mainAccess, ha, hx.1, hx.2, hbn, Bool.false_eq_true, if_false]
    by_cases hd : dieOf w = 0
    · rw [if_pos hd]
      have hc := asked_main i w s hd
      rw [hc] at win ⊢
      exact win _ _ rfl rfl rfl
    · have hlk : (s.bridge (dieOf w - 1)).up = true ∧ shoreRuns s (dieOf w - 1) = true := by simpa [hd] using hl
      have hp' : (s.bridge (dieOf w - 1)).bursts = [] ∧ prefetchRegion s (dieOf w - 1) w off = none := by
        simpa [hs, hd] using hp
      rw [if_neg hd]
      have hb : burstHit s (dieOf w - 1) i (winAddr w off) = none := by simp [burstHit, hp'.1]
      have hc : asked i w s = (dropBurst (dieOf w - 1) i s).countWrap (shbWin (dieOf w - 1)) SHB_RD 1 := by
        simp [asked, hs, hd]
      have hpr : prefetchRegion ((dropBurst (dieOf w - 1) i s).countWrap (shbWin (dieOf w - 1)) SHB_RD 1) (dieOf w - 1) w off
          = none := by
        rw [← hp'.2]
        exact prefetchRegion_count _ _ _ _ _
      simp only [shoreAccess, hlk.1, hlk.2, Bool.not_true, Bool.or_self, Bool.false_eq_true, if_false, shoreRead, hb,
        show (32 : Nat) ≠ 64 by decide]
      rw [show ∀ acc : Access, acc.write = false → acc.size = 32 → acc.init = i →
          shoreCross (dieOf w - 1) acc s = asked i w s from
        fun acc h1 h2 h3 => by rw [shoreCross, if_neg (by simp [h1]), h2, h3, hc]]
      · simp only [shoreFetch, hc, hpr]
        rw [← hc]
        exact win _ _ rfl rfl rfl
      all_goals rfl
  | some d =>
    simp only [hs, beq_iff_eq] at hl
    obtain ⟨hlm, hwe, hd2⟩ := localMapped_of_blkOf hm hl
    have ha : addrFor i w off = winAddr (w % 0x100) off := by simp [addrFor, hs, hl]
    have hx := windowOf_winAddr (w := w % 0x100) (by omega) ho'
    have hout : ¬ winAddr (w % 0x100) off + 32 / 8 ≤ 0x20000 := by
      unfold winAddr
      omega
    have hc : asked i w s = s := by simp [asked, hs]
    simp only [shcAccess, ha, hout, if_false, hx.1, hx.2, hlm, if_true, hwe]
    rw [hc] at win ⊢
    exact win _ _ rfl rfl rfl

/-- A command's read of a register that it reaches. -/
theorem readsPlain_read {i : Initiator} {w off : Nat} {s : State} (h : readsPlain s i w off = true) (ho : off < 0x2000) :
    regRead i w off s = baseRead ⟨i, addrFor i w off, 32, false, false, 0⟩ w off (asked i w s) :=
  readsPlain_access h ho Aux.plain

/-! ### The own effects of commands, by their scope -/

theorem does_main {c : Instr} {s : State} {f : State → State} {P : State → Prop} (hc : exec c s = .next (onMain f s))
    (h : mainRuns s = true) (hP : P (f s)) : Does c s P := ⟨f s, by rw [Effect, hc, complete_main h], hP⟩

theorem does_one {c : Instr} {s : State} {n k : Nat} {f : State → State} {P : State → Prop}
    (hc : exec c s = .next (onOne n k f s)) (h : mainRuns s = true) (hk : k < n) (hP : P (f s)) : Does c s P :=
  ⟨f s, by rw [Effect, hc, onOne, complete_main h, if_pos hk], hP⟩

theorem does_shore {c : Instr} {s : State} {d : Nat} {f : State → State} {P : State → Prop}
    (hc : exec c s = .next (onShore d f s)) (hd : d < 2) (h : shoreRuns s d = true) (hP : P (f s)) : Does c s P :=
  ⟨f s, by rw [Effect, hc, complete_shore hd h], hP⟩

/-- A command of a window that exists, in a die that runs. -/
theorem onWin_runs {w : Nat} {f : State → State} {s : State} (hb : (blkOf w).isSome)
    (hrun : (if dieOf w = 0 then mainRuns s else shoreRuns s (dieOf w - 1)) = true) : onWin w f s = complete s (f s) := by
  unfold onWin
  rw [if_neg (by cases h : blkOf w <;> simp_all)]
  split at hrun
  · rename_i hd
    rw [if_pos hd, complete_main hrun]
  · rename_i hd
    rw [if_neg hd]
    have : dieOf w - 1 < 2 := by rcases dieOf_le w with h | h | h <;> omega
    rw [complete_shore this hrun]

theorem does_win {c : Instr} {s : State} {w : Nat} {f : State → State} {P : State → Prop} (hc : exec c s = .next (onWin w f s))
    (hb : (blkOf w).isSome) (hrun : (if dieOf w = 0 then mainRuns s else shoreRuns s (dieOf w - 1)) = true) (hP : P (f s)) :
    Does c s P := ⟨f s, by rw [Effect, hc, onWin_runs hb hrun], hP⟩

theorem does_package {c : Instr} {s : State} {f : State → State} {P : State → Prop} (hc : exec c s = .next (onPackage f s))
    (hP : P (f s)) : Does c s P := ⟨f s, hc, hP⟩

theorem does_write {c : Instr} {s : State} {i : Initiator} {w off data : Nat} {a : Aux} {r : RegRow} {P : State → Prop}
    (hc : exec c s = .next (onPackage (regWrite i w off data a) s)) (h : takes s i w off = true) (hr : rowAt w off = some r)
    (hP : P (writeReg w off (data % 2 ^ 32) i a r (arrived i w s))) (ho : off < 0x2000 := by decide)
    (hg : r.gd = 0 := by decide) (hk : r.kind ≠ .w64 := by decide) : Does c s P :=
  ⟨_, by rw [Effect, hc, onPackage, takes_write h ho hr hg hk], hP⟩

theorem does_guard {c : Instr} {s : State} {i : Initiator} {w off v : Nat} {a : Aux} {r : RegRow} {P : State → Prop}
    (hc : exec c s = .next (onPackage (guardWrite i w off v a) s)) (h : takesGuarded s i w off v = true)
    (hr : rowAt w off = some r) (hP : P (writeGuarded w off (v % 2 ^ 32) a r (unlocked i w s)))
    (ho : off < 0x2000 := by decide) (hg : r.gd ≠ 0 := by decide) : Does c s P :=
  ⟨_, by rw [Effect, hc, onPackage, takes_guard h ho hr hg], hP⟩

theorem does_read {c : Instr} {s : State} {i : Initiator} {w off : Nat} {P : State → Prop}
    (hc : exec c s = .next (cmdRead i w off s)) (h : readsPlain s i w off = true)
    (hP : P (baseRead ⟨i, addrFor i w off, 32, false, false, 0⟩ w off (asked i w s))) (ho : off < 0x2000 := by decide) :
    Does c s P := ⟨_, by rw [Effect, hc, cmdRead, onPackage, readsPlain_read h ho], hP⟩

end Sys2Proof.Machine
end

