-- ==== Sys2Proof/Laws/Complete.lean ====
section
/-! SUPPORT. What every meaning ends with: `complete`, the settling of conditions, and ERROR_N. -/
namespace Sys2Proof.Machine

/-! ### The scopes of commands -/

theorem onMain_completes (f : State → State) (s : State) : ∃ t, onMain f s = complete s t := ⟨_, rfl⟩
theorem onShore_completes (d : Nat) (f : State → State) (s : State) : ∃ t, onShore d f s = complete s t := ⟨_, rfl⟩
theorem onPackage_completes (f : State → State) (s : State) : ∃ t, onPackage f s = complete s t := ⟨_, rfl⟩

theorem onChan_completes (n : Nat) (f : State → State) (s : State) : ∃ t, onChan n f s = complete s t := by
  unfold onChan
  split
  · exact onShore_completes _ _ _
  · split
    · exact onMain_completes _ _
    · exact ⟨_, rfl⟩

theorem onWin_completes (w : Nat) (f : State → State) (s : State) : ∃ t, onWin w f s = complete s t := by
  unfold onWin
  split
  · exact ⟨_, rfl⟩
  · split
    · exact onMain_completes _ _
    · exact onShore_completes _ _ _

theorem onTrx_completes (n : Nat) (f : State → State) (s : State) : ∃ t, onTrx n f s = complete s t := by
  unfold onTrx
  split
  · exact onShore_completes _ _ _
  · exact ⟨_, rfl⟩

theorem onSeg_completes (k : Nat) (f : State → State) (s : State) : ∃ t, onSeg k f s = complete s t := by
  unfold onSeg
  split
  · exact onShore_completes _ _ _
  · exact ⟨_, rfl⟩

theorem cmdCtrl_completes (i : Initiator) (w v : Nat) (s : State) : ∃ t, cmdCtrl i w v s = complete s t := by
  unfold cmdCtrl
  split <;> exact ⟨_, rfl⟩

/-! ### ERROR_N (R79) -/

theorem mainRuns_errPin (s : State) (p : ErrPin) : mainRuns { s with errPin := p } = mainRuns s := rfl

theorem pinUpdate_posts (s : State) : (pinUpdate s).posts = s.posts := by
  unfold pinUpdate
  split
  · split <;> rfl
  · rfl

/-- After `pinUpdate` the pin stands as its causes say. -/
theorem pinUpdate_settled (s : State) (h : s.posts = []) : (pinUpdate s).settled = true := by
  unfold State.settled
  rw [pinUpdate_posts, h]
  unfold pinUpdate
  by_cases hm : (mainRuns s || s.pwr.held) = true
  · rw [if_pos hm]
    by_cases hc : pinCause s = true
    · rw [if_pos hc]
      have h1 : pinCause { s with errPin := { s.errPin with low := true, hold := s.errPin.hold || !s.errPin.low } } = true := hc
      simp [h1]
    · have hc' : pinCause s = false := by simpa using hc
      rw [if_neg hc]
      have h1 : pinCause { s with errPin := { s.errPin with low := s.errPin.hold } } = false := hc'
      simp [h1]
  · rw [if_neg hm]
    have h1 : (mainRuns s || s.pwr.held) = false := by simpa using hm
    simp only [mainRuns_errPin, h1]
    rfl

/-! ### Settling -/

theorem settle_posts (n : Nat) (s : State) : (settle n s).posts = [] := by
  induction n generalizing s with
  | zero => rfl
  | succ n ih =>
    unfold settle
    split
    · simpa using ‹s.posts.isEmpty = true›
    · exact ih _

theorem finish_settled (s t : State) : (finish s t).settled = true := by
  unfold finish
  exact pinUpdate_settled _ (settle_posts _ _)

theorem settled_pending (s : State) (q : List Instr) : ({ s with pending := q } : State).settled = s.settled := rfl

theorem ite_settled {b : Bool} {x y : State} (hx : x.settled = true) (hy : y.settled = true) :
    (if b then x else y).settled = true := by cases b <;> assumption

/-- Whatever a command does, its next state is settled. -/
theorem complete_settled (s t : State) : (complete s t).settled = true := by
  unfold complete
  simp only []
  rw [settled_pending]
  exact ite_settled (ite_settled (finish_settled _ _) (finish_settled _ _)) (finish_settled _ _)

/-- A command leaves the queue it was given. -/
theorem complete_pending (s t : State) : (complete s t).pending = s.pending := by
  unfold complete
  rfl

end Sys2Proof.Machine
end

