-- ==== Sys2Proof/Laws/Memory.lean ====
section
/-! SUPPORT. The bytes of memory and flash: what is read after a write, and that every operation keeps the canonical form. -/
namespace Sys2Proof.Machine

/-! ### Memory -/

/-- A write reaches only the bytes it names. -/
theorem memByte_memWrite_outside (l : List Byte) (s : State) (a x : Nat) (h : x < a ∨ a + l.length ≤ x) :
    (s.memWrite a l).memByte x = s.memByte x := by
  induction l generalizing s a with
  | nil => rfl
  | cons b t ih =>
    simp only [List.length_cons] at h
    rw [State.memWrite, ih _ _ (by omega)]
    exact kvGet_kvSet_other 0 0 s.mem a x b (by omega)

/-- A write gives each byte it names its value. -/
theorem memByte_memWrite_inside (l : List Byte) (s : State) (a i : Nat) (h : i < l.length) :
    (s.memWrite a l).memByte (a + i) = l[i] := by
  induction l generalizing s a i with
  | nil => simp at h
  | cons b t ih =>
    cases i with
    | zero =>
      rw [State.memWrite, Nat.add_zero, memByte_memWrite_outside t _ _ _ (.inl (by omega))]
      exact kvGet_kvSet_same 0 s.mem a b
    | succ k =>
      have hk : k < t.length := by simpa using h
      have e : a + (k + 1) = (a + 1) + k := by omega
      rw [State.memWrite, e, ih _ _ _ hk]
      rfl

/-- What was written is read back. -/
theorem memBytes_memWrite (l : List Byte) (s : State) (a : Nat) : (s.memWrite a l).memBytes a l.length = l := by
  apply List.ext_getElem
  · simp [State.memBytes]
  · intro i h1 h2
    simpa [State.memBytes] using memByte_memWrite_inside l s a i h2

/-- A write changes nothing but memory. -/
theorem memWrite_frame (l : List Byte) (s : State) (a : Nat) : ∃ m, s.memWrite a l = { s with mem := m } := by
  induction l generalizing s a with
  | nil => exact ⟨s.mem, rfl⟩
  | cons b t ih =>
    obtain ⟨m, hm⟩ := ih { s with mem := kvSet 0 s.mem a b } (a + 1)
    exact ⟨m, by rw [State.memWrite, hm]⟩

/-- A write keeps the canonical form. -/
theorem memWrite_wf (l : List Byte) (s : State) (a : Nat) (h : Memory.wf s.mem = true) : Memory.wf (s.memWrite a l).mem = true := by
  induction l generalizing s a with
  | nil => exact h
  | cons b t ih => exact ih _ _ (kvSet_wf 0 s.mem a b h)

/-- Memory at reset is in canonical form. -/
theorem reset_memory_wf : Memory.wf State.reset.mem = true := rfl

/-! ### Flash -/

/-- Setting bytes keeps the canonical form. -/
theorem norSet_wf (l : List Byte) (s : State) (a : Nat) (h : Flash.wf s.nor = true) : Flash.wf (s.norSet a l).nor = true := by
  induction l generalizing s a with
  | nil => exact h
  | cons b t ih => exact ih _ _ (kvSet_wf 0xFF s.nor a b h)

/-- Programming keeps the canonical form. -/
theorem norProgram_wf (l : List Byte) (s : State) (a : Nat) (h : Flash.wf s.nor = true) :
    Flash.wf (s.norProgram a l).nor = true := by
  induction l generalizing s a with
  | nil => exact h
  | cons b t ih => exact ih _ _ (kvSet_wf 0xFF s.nor a _ h)

/-- Erasing keeps the canonical form. -/
theorem norErase_wf (s : State) (a n : Nat) (h : Flash.wf s.nor = true) : Flash.wf (s.norErase a n).nor = true := by
  unfold Flash.wf State.norErase
  exact kvFilter_wf 0xFF (fun k => !(decide (a ≤ k) && decide (k < a + n))) s.nor h

/-- Erased bytes read 0xFF, the others as before. -/
theorem norByte_norErase (s : State) (a n x : Nat) :
    (s.norErase a n).norByte x = if a ≤ x ∧ x < a + n then 0xFF else s.norByte x := by
  unfold State.norByte State.norErase
  rw [kvGet_kvFilter]
  by_cases h : a ≤ x ∧ x < a + n
  · simp [h]
  · simp only [h, if_false]
    rw [if_pos]
    simp only [Bool.not_eq_true', Bool.and_eq_false_imp, decide_eq_true_eq, decide_eq_false_iff_not]
    exact fun h1 h2 => h ⟨h1, h2⟩

/-- Setting bytes reaches only the bytes it names. -/
theorem norByte_norSet_outside (l : List Byte) (s : State) (a x : Nat) (h : x < a ∨ a + l.length ≤ x) :
    (s.norSet a l).norByte x = s.norByte x := by
  induction l generalizing s a with
  | nil => rfl
  | cons b t ih =>
    simp only [List.length_cons] at h
    rw [State.norSet, ih _ _ (by omega)]
    exact kvGet_kvSet_other 0xFF 0xFF s.nor a x b (by omega)

/-- Setting bytes gives each byte it names its value. -/
theorem norByte_norSet_inside (l : List Byte) (s : State) (a i : Nat) (h : i < l.length) :
    (s.norSet a l).norByte (a + i) = l[i] := by
  induction l generalizing s a i with
  | nil => simp at h
  | cons b t ih =>
    cases i with
    | zero =>
      rw [State.norSet, Nat.add_zero, norByte_norSet_outside t _ _ _ (.inl (by omega))]
      exact kvGet_kvSet_same 0xFF s.nor a b
    | succ k =>
      have hk : k < t.length := by simpa using h
      have e : a + (k + 1) = (a + 1) + k := by omega
      rw [State.norSet, e, ih _ _ _ hk]
      rfl

/-- The flash at reset is in canonical form. -/
theorem reset_flash_wf : Flash.wf State.reset.nor = true := rfl

end Sys2Proof.Machine
end

