-- ==== Sys2Proof/Tests/Slice0.lean ====
section
/-! SUPPORT. Tests of the model on small states: the spec's worked examples, the ill-formed commands that WellFormed refuses, and
for every obligation with hypotheses a state and operands that meet them. -/
namespace Sys2Proof.Tests
open Sys2Proof Sys2Proof.Machine Sys2Proof.Machine.Reg
set_option maxRecDepth 100000

/-! ### Helpers -/

/-- The state of a next answer. -/
def out (o : Host.Outcome State Fault Refusal) : State :=
  match o with
  | .next t => t
  | .fault _ | .refused _ => State.reset

/-- The state after one command from `s`. -/
def after (c : Instr) (s : State) : State := out (exec c s)

/-- EN of a window is 1. -/
def on (w : Nat) (s : State) : State := s.setFlag w BLK_CTRL 0 true

/-- A window that holds the Crown's armed value. -/
def arm (w off v : Nat) (s : State) : State := s.setWin w { s.win w with armed := some ⟨BitVec.ofNat 32 v, off, .crown, 0⟩ }

/-- A whole frame in the Pond with one copy, at the head of queue 8 * port + class of its tag. -/
def queued (port : Nat) (t : Tag) (p : List Byte) (s : State) : State :=
  let n := cellsOf p.length
  { s with pond := { s.pond with
    frames := [⟨7, 15, t, p, true, none, List.replicate n srcShared, List.replicate n 0, [⟨port, n, false, true, false⟩], true, .learnNotice, []⟩]
    egress := [(8 * port + t.cls, 7)] } }

/-- Both shore links are up and both shores aligned. -/
def linksUp (s : State) : State :=
  [0, 1].foldl (fun s d => (s.modBridge d fun b => { b with up := true, lanes := 0xFF }).modShore d fun h => { h with aligned := true }) s

/-! ### Examples of the spec -/

/-- R164: CRC-32C and CRC-32 of the nine digits (the catalogue's check values) and of the example's key. -/
theorem test_crc_check_values : crc32c (beBytes 9 0x313233343536373839) = 0xE3069283
    ∧ crc32 (beBytes 9 0x313233343536373839) = 0xCBF43926 ∧ crc16 (beBytes 9 0x313233343536373839) = 0x29B1 := by decide

theorem test_key_crcs : crc32c (keyBytes 0x020380FF120000000000000000000000) = 0xEADC03EE
    ∧ crc32 (keyBytes 0x020380FF120000000000000000000000) = 0x24D81468 := by decide

/-- R164: the example's buckets with SEED0 0x0A5C and SEED1 0x1137. -/
theorem test_key_buckets :
    let s := State.reset.setReg W.EMT EMT_SEED 0x11370A5C
    bucketOf s 0 0x020380FF120000000000000000000000 = 0x09B2 ∧ bucketOf s 1 0x020380FF120000000000000000000000 = 0x055F := by decide

/-- R363: the wake-on-LAN example's CRC after each byte. -/
theorem test_wake_crc : crc16 [0x08] = 0x60F8 ∧ crc16 [0x08, 0x42] = 0xFC20 ∧ crc16 [0x08, 0x42, 0xFF] = 0x1063
    ∧ crc16 [0x08, 0x42, 0xFF, 0xFF] = 0x6FC1 := by decide

/-- R222: START 12, LEN 10 over bytes 0xA7 and 0x3C in both orders. -/
theorem test_signal_extract : sigExtract false [0, 0xA7, 0x3C] 12 10 = 0x3CA ∧ sigExtract true [0, 0xA7, 0x3C] 12 10 = 0x1CF
    ∧ toSigned 10 0x3CA = -54 := by decide

/-- R5: the Pond's bank 17, stage 0x2A, bit 9. -/
theorem test_location_code : locCode 0 W.QMG 17 0x2A 9 = 0x01444A89 := by decide

/-- R38: BLK_ID of CX[27]; and the addresses of CX[27], CX[17] and EMT. -/
theorem test_block_ids_and_addresses : State.reset.reg (cxWin 27) BLK_ID = 0x141B0111 ∧ winAddr (cxWin 27) 0 = 0x40330000
    ∧ winAddr (cxWin 17) 0 = 0x43050000 ∧ winAddr W.EMT 0 = 0x401C0000 ∧ trxWin 17 = 0x315 := by decide

/-- R54: after EN of FAB[1] is cleared, its twin reads 0xFFFF_FFFF. -/
theorem test_guarded_clear_of_train_one :
    let s := after (.guardArm .crown (fabWin 1) BLK_CTRL 0) (on (fabWin 0) (on (fabWin 1) State.reset))
    let t := after (.twinWrite .crown (fabWin 1) BLK_CTRL 0xFFFFFFFF) s
    t.flag (fabWin 1) BLK_CTRL 0 = false ∧ t.bus = ⟨0, 0⟩
      ∧ (after (.counterLoRead .crown 0x40112008 32 .ok) t).bus = ⟨0xFFFFFFFF, 0⟩ := by decide

/-- R68, R74: the FLT_CFG[2] example at the window of ETH2. -/
theorem test_fault_config_example :
    let s := after (.registerWrite .crown 0x404A0068 32 0x00000500 .ok) State.reset
    let t := after (.registerWrite .crown 0x404A2068 32 0xFFFFFAFF .ok) s
    fltByte t (emcWin 10) 9 = 5 ∧ effSev t (emcWin 10) 9 = 1 ∧ effReact t (emcWin 10) 9 = 1 := by decide

/-- R369: the ADDEND of a crystal 12 ppm slow. -/
theorem test_addend_example :
    let s := after (.registerWrite .crown (winAddr W.TMS TMS_ADDEND_LO) 32 0x000192A7 .ok) State.reset
    (after (.addendWrite .crown 2) s).tms.addend = 0x2000192A7 := by decide

/-- R375: a step of −3,000 ns holds the vault time, 1 ms later it has moved on, and a step of +5,000 ns moves it 2,000 ns. -/
theorem test_step_example :
    let at_ := fun (ns : Nat) (v : Nat) (d : Int) => { State.reset with tms := { State.reset.tms with acc := ns * 2 ^ 32, voffset := v, step := some d } }
    let t := after .stepApply (at_ 10000000000 0 (-3000))
    let u := after .stepApply (at_ 10000997000 3000 5000)
    t.now = 9999997000 ∧ t.vault = 10000000000 ∧ t.tms.voffset = 3000
      ∧ u.now = 10001002000 ∧ u.vault = 10001002000 ∧ u.tms.voffset = 0 := by decide

/-- R426: the learn notice in Outlet 5: words in both modes. -/
theorem test_outlet_example :
    let t : Tag := { Tag.zero with w0 := 0x162A3C40, w1 := 0x0010FFFF }
    let f : Frame := ⟨t, List.replicate 16 0xAB⟩
    (taggedWords f).length = 10 ∧ (taggedWords f).head? = some 0x17162A3C400010FF
      ∧ ((taggedWords f).getLast?.map fun w => w.toNat / 2 ^ 56) = some 0x32
      ∧ (rawWords f).length = 8 ∧ (rawWords f).head? = some 0x162A3C400010FFFF := by decide

/-- R407: two ranks of 4 GiB per channel give 14 GiB fitted. -/
theorem test_dram_fitted : dramSize (2 * 2 ^ 8 + 3 * 2 ^ 4) = 14 * 2 ^ 30 := by decide

/-- R91: cells of a CAN FD frame, an Ethernet frame and a J1939 transport. -/
theorem test_cells : cellsOf 64 = 2 ∧ cellsOf 1518 = 25 ∧ cellsOf 65535 = 1025 ∧ cellsOf 0 = 1 ∧ cellsOf 16 = 1 ∧ cellsOf 17 = 2 := by decide

/-- R204: the code 0x9C42 is 10 Mbit/s. -/
theorem test_rate_code : rateOf 0x9C42 = 10000 := by decide

/-- R475: block 20,000 of a 64 MiB vault. -/
theorem test_vault_block_address :
    blockAddr (State.reset.setReg W.VLT VLT_SIZE 0x04000000) 20000 = 0x00E20000 := by decide

/-- R499: a classical CAN frame with 8 data bytes is stored as RLEN 80. -/
theorem test_capture_record : (recordOf ⟨Tag.zero, List.replicate 8 1⟩ 2 2048 5 false).length = 80
    ∧ (recordOf ⟨Tag.zero, List.replicate 8 1⟩ 2 2048 5 false).take 4 = [0, 80, 0, 8] := by decide

/-- R504: POST of a 64 MiB ring with PRE 4 is 48 MiB. -/
theorem test_capture_post : ringPost (State.reset.setReg W.CAP (ringReg CAP_RCFG 2) (2 ^ 31 + 4 * 2 ^ 25 + 64 * 2 ^ 15)) 2 = 50331648 := by decide

/-- R225: the J1939 limits of 8 and 16 bits. -/
theorem test_j1939_limits : j1939Lim 8 = 0xFE ∧ j1939Lim 16 = 0xFE00 := by decide

/-- R482: the three readings of a half period, at their bounds. -/
theorem test_fence_reading : [19999, 20000, 30000, 30001, 39999, 40000, 60000, 60001].map
    (fun h => (after (.fenceEdge h) State.reset).twin.fence) = [0, 2, 2, 0, 0, 1, 1, 0] := by decide

/-- R227: the oil-pressure and torque routes of the example write 0x45 0x03 0x0F, and a torque of 0xFF writes 0x80. -/
theorem test_route_example :
    let words : List (Nat × List Nat) := [
      (0x100, [2 ^ 31 + 16 * 2 ^ 22 + 24, 16 * 2 ^ 23 + 1 * 2 ^ 21 + 2 * 2 ^ 19, 0x123, 0x2000, 0, 0, 2000, 0]),
      (0x101, [2 ^ 31 + 8 * 2 ^ 22 + 8, 2 ^ 30 + 8 * 2 ^ 23 + 2 * 2 ^ 19 + 16, 0x123, 0x10000, 2 ^ 32 - 125, 0, 0, 2 ^ 32 - 128])]
    let s := words.foldl (fun s e => ((List.range 8).zip e.2).foldl (fun s kw => s.modSge fun g =>
      { g with live := kvSet 0 g.live (sgeKey 1 e.1 kw.1) (BitVec.ofNat 32 kw.2) }) s) State.reset
    let s := s.setBuf 0x123 { s.sgeBuf 0x123 with data := [0, 0, 0] }
    ((routesRun [] [0xFF, 0x8C, 0xFF, 0x2B, 0x1A, 0xFF, 0xFF, 0xFF] 0x100 2 s).2.sgeBuf 0x123).data.take 3 = [0x45, 0x03, 0x0F]
      ∧ ((routesRun [] [0xFF, 0xFF, 0xFF, 0x2B, 0x1A, 0xFF, 0xFF, 0xFF] 0x100 2 s).2.sgeBuf 0x123).data.take 3 = [0x45, 0x03, 0x80] := by decide

/-- R223: a route whose source reaches past the last byte is counted and leaves its destination. -/
theorem test_short_route :
    let s := State.reset.modSge fun g => { g with live := kvSet 0 g.live (sgeKey 1 0 0) (BitVec.ofNat 32 (2 ^ 31 + 8 * 2 ^ 22 + 1)) }
    (routeExec [0xFF] 0 s).1 = [] ∧ (routeExec [0xFF] 0 s).2.reg W.SGE SGE_SHORT = 1 := by decide

/-! ### WellFormed -/

/-- A classic data frame of no bytes. -/
def can8 : CanFrame := ⟨0, false, false, 0, false, false, 0, false, 0, 0, 0, []⟩

/-- One ill-formed command for each check: it is refused. -/
theorem test_ill_formed_refused : ([
    Instr.registerWrite .crown (2 ^ 40) 32 0 .ok, .registerWrite .crown 0 24 0 .ok, .speculativeRead .crown (2 ^ 40) 32 .ok, .counterLoRead .crown 0 24 .ok, .counterHiRead .crown (2 ^ 40),
    .strobe .crown 0x3FF false, .updateApply 0x3FF true, .guardArm .crown W.SYS 0x2000 0, .twinWrite .crown 0x3FF 0 0, .aliasSet .crown W.SYS 0x2000 0,
    .conditionArises W.SYS 32 0 true, .conditionArises W.SYS 0 (2 ^ 32) true, .conditionEnds 0x3FF 0, .quietTimerExpiry W.SYS 32,
    .fabricRound 3 [], .cellArrival 0 16 true true, .reseqTimeout 16 0, .frameClassify 16 [], .portDown 64, .inletStall 64, .clrpeak .crown 512,
    .dialRound 5 [] .ok, .referenceTrigger 32, .planRehome .crown 64 [], .gateChange 256, .sgeTake 8 [], .srcTimeout 8192 [],
    .cyclicEmission 4096 [], .bundleDeadline 256 [], .tpRxTimeout 64, .remask 514, .integrationDone 32, .rxClaim 0 2049 0, .rxClaim 0 8 (2 ^ 64),
    .slotLoad 0 64, .cancelSlot .crown 32 0, .txdDom 24, .overtemp 2, .laneFail 0 8, .shoreLinkRetrain 0 256, .wakePin 0 4 true,
    .inhOc 0 2, .vbatSample 0 65536, .jabber 8 true, .linkLoss 20, .linkUp 0 8 true true, .ingressCell 0 [] [⟨0, .corrected, 256, 0⟩], .migrationCopyDone [(0, ⟨0, .uncorrectable, 0, 64⟩)], .frerReset 512, .nmTimeout 40, .presenceTimeout 0 256,
    .pnrxTimeout 0 64, .trainingComplete true 2 0, .trainingComplete true 0 2, .irtClaim .crown 2 0, .irtClaim .crown 0 4, .outPop .crown 64,
    .inPush .crown 64 0, .hello 256 [], .twinLinkRetrain 3 0, .recordDone 8, .capTrigger .crown 8, .beaconSeen 8, .pcsError 20,
    .cxRxFrame 0 { can8 with fmt := 3 } 0 0 0 0 [], .cxRxFrame 0 { can8 with id := 2048 } 0 0 0 0 [],
    .cxRxFrame 0 { can8 with dlc := 16 } 0 0 0 0 [], .cxRxFrame 0 { can8 with data := List.replicate 9 0 } 0 0 0 0 [],
    .wrstN { (default : StartInput) with pins := 32 }, .wrstN { (default : StartInput) with linkA := 256 },
    .wrstN { (default : StartInput) with banks := [34] }].all fun c => !wellFormed c) = true := by decide

/-- The same checks at their last allowed value. -/
theorem test_well_formed_accepted : ([
    Instr.registerWrite .crown (2 ^ 40 - 1) 64 0 .ok, .strobe .crown W.SYS false, .guardArm .crown W.SYS 0x1FFF 0, .fabricRound 2 [],
    .frameClassify 15 [], .portDown 63, .dialRound 4 [] .ok, .planRehome .crown 63 [], .gateChange 255, .srcTimeout 8191 [], .ingressCell 0 [] [⟨0, .corrected, 255, 63⟩], .remask 513,
    .rxClaim 31 2048 (2 ^ 64 - 1), .txdDom 23, .wakePin 1 3 true, .linkLoss 19, .nmTimeout 39, .outPop .crown 63, .recordDone 7,
    .cxRxFrame 0 { can8 with id := 2047, dlc := 15, data := List.replicate 8 0 } 0 0 0 0 [],
    .wrstN { (default : StartInput) with pins := 31, linkA := 255, banks := [33] }].all wellFormed) = true := by decide

/-! ### Witnesses: for each obligation, states and operands that meet its hypotheses -/

theorem witness_step : ({ State.reset with pending := [.nmiIn] } : State).pending = .nmiIn :: [] ∧ State.reset.pending = []
    ∧ State.reset.settled = true ∧ (∃ t, step State.reset = .next t) := ⟨rfl, rfl, by decide, _, rfl⟩

/-- A state in which nothing waits: the machine after reset, once the links that are down have been reported. -/
def quiet : State :=
  let live := fun (w k : Nat) (s : State) => s.setSource w k { Source.idle with live := true }
  live (shbWin 0) 2 (live (shbWin 1) 2 (live (srlWin 0) 4 (live (srlWin 1) 4 State.reset)))

theorem witness_quiet_ports : ∀ p, p < 53 → (quiet.port p).cause = portCause quiet p := by decide
theorem witness_quiet_links : ∀ k, k < 20 → noteLink k quiet = quiet := by decide
theorem witness_quiet_lines : sweepLinks quiet = quiet := by decide
theorem witness_quiet_pin : pinUpdate quiet = quiet := by decide
theorem witness_quiet_shed : noteShed quiet = quiet := by decide

/-- Nothing follows the empty effect there. -/
theorem witness_quiet : Quiet quiet quiet where
  asleep := by decide
  service := by decide
  through := by decide
  poison := by decide
  keys := by decide
  learning := by decide
  modes := fun _ _ => rfl
  ports := witness_quiet_ports
  links := witness_quiet_links
  gates := fun _ _ _ h => h
  states := rfl
  requests := fun _ _ => rfl
  sessions := by decide
  twin := by decide
  shed := witness_quiet_shed
  lines := witness_quiet_lines
  posts := rfl
  pin := witness_quiet_pin
  waiting := by decide
  table := by decide
  queue := rfl

/-- Every main-die register that an obligation writes takes a Crown write at reset. -/
theorem witness_main_writes : ([(W.SYS, BLK_CTRL), (W.ICX, BLK_CTRL), (W.ICX, Reg.ICX_LOG_POP), (W.SYS, BLK_UPDATE), (W.SYS, SYS_UPDATE),
    (W.SYS, FLT_STAT), (W.SYS, Reg.FLT_RELEASE), (W.SYS, Reg.FLT_RECOV_CLR), (W.SYS, Reg.FLT_INJECT), (W.BAL, BAL_VSET), (W.BAL, Reg.BAL_HIST_CLR),
    (fabWin 2, FAB_TCTRL), (fabWin 2, FAB_BIST), (W.QMG, Reg.QMG_MIGRATE), (diaWin 0, Reg.DIAL_FREEZE), (diaWin 4, Reg.DIAL_WAITCLR),
    (W.TMS, TMS_ADDEND_HI), (W.TMS, TMS_SLEW), (W.TMS, TMS_CMD), (W.EMT, EMT_CMD), (W.WCT, WCT_CMD), (W.CLS, CLS_PSET_CMD), (W.POL, POL_CMD),
    (W.CDM, CDM_CMD), (W.SGE, SGE_UC_CTRL), (W.SGE, SGE_UC_DATA), (W.SGE, SGE_CMD), (W.AUE, AUE_CMD), (W.JWL, JWL_CMD), (W.VLT, VLT_CMD),
    (cxWin 31, CX_CMD), (cxWin 24, CX_TXCANCEL), (cxWin 31, CX_TXEVT_CLR), (emcWin 19, EMC_WAKE_CLR), (W.EMC, EMC_CMD), (W.SVP, SVP_TXPTR),
    (W.NMU, NMU_CMD), (W.NMU, NMU_NETREQ_LO), (W.NMU, NMU_NETREQ_HI), (W.DMC, DMC_TRAIN), (W.DMC, DMC_SR), (W.DMC, DMC_MR), (W.XSP, XSP_CMD),
    (irtWin 0, Reg.IRT_COMPLETE + 0x30), (irtWin 1, Reg.IRT_COMPLETE), (W.IRTM, IRT_SWI), (W.CQ, Reg.OUT_POP + 0x10 + 0x20 * 63),
    (W.CRN, Reg.CRN_WDT_KICK), (W.CRN, CRN_WDT), (W.CRN, CRN_MOV_RUN), (W.TWL, TWL_BR_DATA), (W.CAP, CAP_CMD), (W.LDG, LDG_CMD)].all
    fun p => takes State.reset .crown p.1 p.2) = true := by decide

/-- A bridge port takes its own initiator's write, once WIN_ACCESS admits it. -/
theorem witness_bridge_port : takes (State.reset.setReg W.TWL WIN_ACCESS 0x1F) .mov3 W.TWL (TWL_BR_DATA + 0x40) = true
    ∧ takes (State.reset.setReg W.TWL WIN_ACCESS 0x1F) .mov3 W.TWL TWL_BR_DATA = false := by decide

/-- Every shore register that an obligation writes takes a Crown write while the link is up. -/
theorem witness_shore_writes : ([(shbWin 0, BLK_CTRL), (cxWin 0, CX_CMD), (cxWin 23, CX_TXCANCEL), (cxWin 0, CX_TXEVT_CLR), (srlWin 1, SRL_CMD),
    (srlWin 0, SRL_ECMD), (swkWin 0, SWK_CMD), (spsWin 0, SPS_VBAT_CLR), (shcWin 1, SHC_CTRL), (shcWin 0, SHC_MEM_DATA),
    (shcWin 0, SHC_WDT_KICK), (shcWin 1, SHC_MBOX_IN_DB), (shcWin 1, SHC_MBOX_OUT_DB)].all
    fun p => takes (linksUp State.reset) .crown p.1 p.2) = true := by decide

/-- A guarded sequence about to complete, for each guarded register of an obligation. -/
theorem witness_guarded_writes : ([(W.CRN, BLK_CTRL, clearMask (ctrlNow State.reset W.CRN) 1), (fabWin 0, BLK_CTRL, 1), (fabWin 2, BLK_CTRL, 0),
    (W.TMS, TMS_VBASE_HI, 5), (W.JWL, JWL_FUSE_PROG, 2 ^ 28), (W.SYS, SYS_PWR_CMD, 0), (W.SYS, SYS_PWR_CMD, 1), (W.SYS, SYS_PWR_CMD, 2),
    (W.SYS, SYS_RST_CMD, 1), (W.SYS, SYS_RST_CMD, 2), (W.TWL, TWL_CMD, 1), (W.TWL, TWL_CMD, 2)].all
    fun p => takesGuarded (arm p.1 p.2.1 p.2.2 State.reset) .crown p.1 p.2.1 p.2.2) = true := by decide

/-- Registers with read side effects are read plainly. -/
theorem witness_reads : ([(W.TRN, TRN_OUT), (cxWin 24, CX_TXEVT_INFO), (emcWin 0, EMC_TSQ_INFO), (irtWin 0, Reg.IRT_CLAIM + 0x30),
    (irtWin 1, IRT_NMI_POP), (W.TWL, TWL_BR_DATA), (W.LDG, LDG_RD_DATA), (W.LDG, LDG_EVT_INFO), (W.TMS, TMS_NOW_LO)].all
    fun p => readsPlain State.reset .crown p.1 p.2) = true
    ∧ ([(cxWin 0, CX_TXEVT_INFO), (shcWin 0, SHC_MEM_DATA)].all fun p => readsPlain (linksUp State.reset) .crown p.1 p.2) = true := by decide

/-- AccessesThatReachNoRegisterEndWithBusErrors: an unmapped window, a wrong size, a refused initiator. -/
theorem witness_bus_errors : windowOf (winAddr 0x0FF 0) = some 0x0FF ∧ blkOf 0x0FF = none ∧ sizeOk W.SYS 1 32 = false
    ∧ sizeOk W.SYS BLK_ID 32 = true ∧ accessBit .mov0 W.SYS = some 1 ∧ State.reset.flag W.SYS WIN_ACCESS 1 = false
    ∧ (shcOf .mov0).isNone = true ∧ mainRuns State.reset = true := by decide

/-- BusErrorLogHoldsSixteenEntries: a log with room, and a full one. -/
theorem witness_bus_log : State.reset.icxLog.length < 16
    ∧ 16 ≤ ({ State.reset with icxLog := List.replicate 16 ⟨0, 1, 0, false, false, 0⟩ } : State).icxLog.length := by decide

/-- WritesStoreAsTheRegisterMapSays: a GPIO register in every view. -/
theorem witness_alias_views : blkOf W.GPIO = some .GPIO ∧ ((rowAt W.GPIO GPIO_OUT).map fun r => (r.gd, r.kind)) = some (0, .plain)
    ∧ ([0, 0x4000, 0x8000, 0xC000].all fun v => takes State.reset .crown W.GPIO (v + GPIO_OUT)) = true := by decide

/-- The guarded sequence: a register to arm; a twin write of a wrong value; another write while a value is armed. -/
theorem witness_guarded : ((rowAt W.SYS SYS_RST_CMD).map (·.gd)) = some 3 ∧ takes State.reset .crown W.SYS SYS_RST_CMD = true
    ∧ reaches State.reset .crown W.SYS (SYS_RST_CMD + 0x2000) true = true
    ∧ (after (.twinWrite .crown W.SYS SYS_RST_CMD 0) (arm W.SYS SYS_RST_CMD 1 State.reset)).bus = ⟨0, 5⟩
    ∧ ((arm W.SYS SYS_RST_CMD 1 State.reset).win W.SYS).armed.isSome = true
    ∧ reaches (arm W.SYS SYS_RST_CMD 1 State.reset) .crown W.SYS FLT_QUIET true = true := by decide

/-- STROBE while an update is pending, one that passes and one that is rejected. -/
theorem witness_strobe :
    let s := State.reset.setUpd W.DMC fun x => { x with pending := true }
    reaches s .crown W.DMC BLK_UPDATE true = true ∧ (s.win W.DMC).armed = none ∧ (s.win W.DMC).upd.pending = true
      ∧ strobeCheck State.reset W.IRTM = 0 ∧ strobeCheck (State.reset.setShadow W.DMC DMC_CFG 7) W.DMC = 1 := by decide

/-- UPDATE_APPLY with an update pending, inside and outside a shared update. -/
theorem witness_apply : ((State.reset.setUpd W.POL fun x => { x with pending := true }).win W.POL).upd.pending = true
    ∧ shoreRuns State.reset 0 = true ∧ shoreRuns State.reset 1 = true ∧ mainRuns State.reset = true
    ∧ W.POL ∈ ({ State.reset with shared := { State.reset.shared with waiting := [W.POL] } } : State).shared.waiting := by decide

/-- Shared updates: one pending, one that selects nothing, one whose block passes, one whose block fails; the pause limit. -/
theorem witness_shared_update :
    let g := fun (w n : Nat) (s : State) => s.setReg w BLK_UPDGROUP n
    let p := g W.IRTM 1 State.reset
    let f := g W.DMC 1 (State.reset.setShadow W.DMC DMC_CFG 7)
    selected State.reset 2 = [] ∧ selected p 2 = [W.IRTM] ∧ sharedVerdict p W.IRTM = 0
      ∧ (selected f 2).find? (fun w => sharedVerdict f w != 0) = some W.DMC
      ∧ ({ State.reset with shared := { State.reset.shared with hold := true } } : State).shared.hold = true := by decide

/-- BLOCK_RESET_END: a window whose reset runs, and one without. -/
theorem witness_block_reset : ((resetBlock W.WCT State.reset).win W.WCT).resetting = true ∧ (State.reset.win W.WCT).resetting = false
    ∧ blkOf W.WCT = some .WCT := by decide

/-- Sources in each state, and each condition. -/
theorem witness_sources :
    let at_ := fun (x : FltState) => State.reset.setSource W.SYS 2 { Source.idle with state := x }
    ((at_ .recovering).source W.SYS 2).state = .recovering ∧ ((at_ .faulted).source W.SYS 2).state = .faulted
      ∧ (State.reset.source W.SYS 2).state = .normal ∧ 2 < nsrc W.SYS ∧ nsrc W.SYS ≤ 31
      ∧ ((at_ .recovering).setReg W.SYS FLT_QUIET 1).reg W.SYS FLT_QUIET = 1 ∧ State.reset.reg W.SYS FLT_QUIET = 0
      ∧ escalated ((at_ .normal).setReg W.SYS FLT_ESCAL 0) W.SYS 2 = false
      ∧ escalated (setRecov W.SYS 2 3 (State.reset.setReg W.SYS FLT_ESCAL 3)) W.SYS 2 = true := by decide

/-- FLT_INJECT open: TEST_MODE strapped and the fuses blank; closed otherwise. -/
theorem witness_inject : lifecycle State.reset = 0 ∧ bit ({ State.reset with straps := 16 } : State).straps 4 = true
    ∧ bit State.reset.straps 4 = false := by decide

/-- WINDOW_END: BAL measures with macro 0 and 1 enabled; readings 900 and 850 select macro 1. -/
theorem witness_window_end :
    let s := (State.reset.setReg W.BAL BAL_MEAS 0x10001).setReg W.BAL BAL_MASK 3
    s.enabled W.BAL = true ∧ s.flag W.BAL BAL_MEAS 16 = true ∧ s.fld W.BAL BAL_MEAS 15 0 ≠ 0 ∧ bit (s.fld W.BAL BAL_MASK 15 0) 1 = true
      ∧ (after (.windowEnd [900, 850] false) s).reg W.BAL BAL_MIN = 0x10000 + 850 := by decide

/-- LOOP_PERIOD and PMBus: regulation enabled, a transaction under way. -/
theorem witness_regulation :
    let s := (((State.reset.setFlag W.BAL BAL_REG_CTRL 31 true).setFld W.BAL BAL_REG_TARGET 15 0 1000).setFld W.BAL BAL_REG_CTRL 27 24 1)
    s.enabled W.BAL = true ∧ s.flag W.BAL BAL_REG_CTRL 31 = true ∧ s.flag W.BAL BAL_VSTAT 1 = false
      ∧ ((after (.loopPeriod false) s).flag W.BAL BAL_VSTAT 1 = true ∧ (after (.loopPeriod false) s).bal.cmdMv < 2 ^ 16)
      ∧ (State.reset.setFlag W.BAL BAL_REG_CTRL 31 false).flag W.BAL BAL_REG_CTRL 31 = false := by decide

/-- Trains: the last one, one of two, one with a cell aboard, one out of service, and a self-test under way. -/
theorem witness_trains :
    let c : Cell := ⟨7, 0, 0, 1, 3, 2, 5, 0, 4⟩
    let two := on (fabWin 0) (on (fabWin 1) State.reset)
    let full := two.setTrain 1 { Train.idle with flight := [c] }
    let frozen := full.setFlag (fabWin 1) FAB_TCTRL 0 true
    (inService (on (fabWin 0) State.reset) 0 && !otherInService (on (fabWin 0) State.reset) 0) = true
      ∧ (inService two 1 && !otherInService two 1) = false ∧ takes two .crown (fabWin 1) FAB_TCTRL = true
      ∧ (frozen.flag (fabWin 1) FAB_TCTRL 0 = true ∧ (frozen.train 1).flight ≠ [] ∧ (frozen.win (fabWin 1)).resetting = false
        ∧ (frozen.source (fabWin 1) 5).live = false ∧ mainRuns frozen = true)
      ∧ ((two.setFlag (fabWin 1) FAB_TCTRL 0 true).train 1).flight = []
      ∧ ((State.reset.setTrain 2 { Train.idle with bistBusy := true }).train 2).bistBusy = true
      ∧ takesGuarded (arm (fabWin 1) BLK_CTRL (clearMask (ctrlNow full (fabWin 1)) 1) full) .crown (fabWin 1) BLK_CTRL
          (clearMask (ctrlNow full (fabWin 1)) 1) = true ∧ full.flag (fabWin 1) BLK_CTRL 0 = true ∧ (full.train 1).stalled = false
      ∧ takesGuarded (arm (fabWin 2) BLK_CTRL (ctrlNow State.reset (fabWin 2) ||| 1) State.reset) .crown (fabWin 2) BLK_CTRL
          (ctrlNow State.reset (fabWin 2) ||| 1) = true ∧ State.reset.flag (fabWin 2) BLK_CTRL 0 = false := by decide

/-- A frame in the Pond with one cell that waits at input 2 for output 5 while train 1 alone runs. -/
def waitingCell (s : State) : State :=
  { on (fabWin 1) (on (fabWin 0) s) with
    pond := { s.pond with voq := [⟨2, 5, 4, 7, 0⟩], frames := [⟨7, 2, Tag.zero, [1], true, none, [8], [0], [⟨41, 0, false, false, false⟩], false, .learnNotice, []⟩] } }

/-- A round with one cell, arrivals in sequence, early and repeated, and a resequencer that waits. -/
theorem witness_cells :
    let s := waitingCell State.reset
    let c : Cell := ⟨7, 0, 0, 1, 1, 2, 5, 4, 4⟩
    let p : Pair := ⟨6, 1, 2, 4, [], 0, none, none, false⟩
    let at_ := fun (x : Cell) => (s.setTrain 1 { Train.idle with flight := [x] }).setPair 2 5 p
    let held := s.setPair 2 5 { p with held := [{ c with cseq := 5 }] }
    mainRuns s = true ∧ inService s 1 = true ∧ s.pond.voq = [⟨2, 5, 4, 7, 0⟩] ∧ (s.frame? 7).isSome = true ∧ (s.pair 2 5).used < 128
      ∧ lowestTrain s = some 0 ∧ grantOf s 1 [] [] 5 = some (2, 4) ∧ inService s 2 = false
      ∧ ((at_ c).train 1).flight.find? (·.dst == 5) = some c ∧ ((at_ c).train 1).leaving = false ∧ c.cseq = p.expect
      ∧ seqDist p.expect { c with cseq := 131 }.cseq = 127 ∧ seqDist p.expect { c with cseq := 132 }.cseq = 128
      ∧ pairRunning p = false ∧ pairRunning (held.pair 2 5) = true
      ∧ (held.pair 2 5).held.find? (fun x => x.cseq == (p.expect + 1) % 65536) = some { c with cseq := 5 } := by decide

/-- A port that is up. -/
def up (p : Nat) (s : State) : State := s.setPort p ⟨false, false, false, false, false⟩

/-- A whole frame of port 33 that waits for admission at input 1, toward port 40. -/
def waitingFrame (s : State) : State :=
  on W.QMG (s.modPond fun p => { p with arrivals := [⟨3, 1, Tag.zero.setSrcPort 33, [1, 2], true, some (2 ^ 40), .port 33⟩] })

/-- Admission: source port down, no destination up, a class with room in its floor, a class without, thresholds at both sides. -/
theorem witness_admission :
    let s := waitingFrame (up 33 (up 40 State.reset))
    let a : Arrival := ⟨3, 1, Tag.zero.setSrcPort 33, [1, 2], true, some (2 ^ 40), .port 33⟩
    let at_ := fun (u : State) => mainRuns u && !u.shared.hold && u.pond.arrivals.find? (fun x => x.fp == 1 && x.dest.isSome) == some a && u.enabled W.QMG
      && !(u.win W.QMG).resetting && u.pwr.state == .run && u.pwr.entering == none
    let poor := s.setFld W.QMG QMG_FLOOR 18 0 0
    let tight := poor.setReg W.QMG QMG_PUSHOUT (2 ^ 19 - 1)
    at_ s = true ∧ portsOf (2 ^ 40) = [40] ∧ s.portDown 33 = false ∧ ethGated s 40 = false ∧ s.portDown 40 = false ∧ s.pickBank.isSome = true
      ∧ s.frame? 3 = none ∧ 256 < s.descFree ∧ s.charged (srcClass 0) < s.clsFloor 0
      ∧ (at_ (waitingFrame (up 40 State.reset)) = true ∧ (waitingFrame (up 40 State.reset)).portDown 33 = true)
      ∧ (at_ (waitingFrame (up 33 State.reset)) = true ∧ (waitingFrame (up 33 State.reset)).portDown 40 = true)
      ∧ (at_ tight = true ∧ tight.clsFloor 0 ≤ tight.charged (srcClass 0) ∧ tight.sharedFree < tight.fld W.QMG QMG_PUSHOUT 18 0
        ∧ tight.flag W.QMG QMG_PUSHOUT 31 = false) := by decide

/-- Admission without free descriptors. -/
theorem witness_no_descriptors (f : PFrame) :
    ({ State.reset with pond := { State.reset.pond with frames := List.replicate 65280 f } } : State).descFree ≤ 256 := by
  show 65536 - (List.replicate 65280 f).length ≤ 256
  have h : (List.replicate 65280 f).length = 65280 := List.length_replicate
  omega

/-- An arriving cell that is charged, and one for which no source has room. -/
theorem witness_ingress_cell :
    let f : PFrame := ⟨7, 1, Tag.zero, [1], true, none, [], [], [⟨41, 0, false, false, false⟩], false, .learnNotice, []⟩
    let s : State := State.reset.modPond fun p => { p with frames := [f] }
    let drained := ((List.range 8).foldl (fun u c => u.setFld W.QMG (QMG_FLOOR + 4 * c) 18 0 0) s).setFld W.QMG QMG_HEADROOM 18 0 0
    let none_ := drained.setFld W.QMG (QMG_FLOOR + 28) 18 0 (2 ^ 19 - 1)
    s.frame? 7 = some f ∧ f.charges.length < cellsAvail f ∧ (s.chargeFor f.eng f.tag.cls).isSome = true ∧ s.pickBank.isSome = true
      ∧ none_.chargeFor f.eng f.tag.cls = none ∧ none_.frame? 7 = some f := by decide

/-- Frames to classify: done by an engine, and one of an Inlet with the classifier on and off. -/
theorem witness_classify :
    let a : Arrival := ⟨3, 14, (Tag.zero.setEngDone true).setDstPort 52, [1], true, none, .inlet 0⟩
    let b : Arrival := ⟨3, 14, Tag.zero, [1], true, none, .inlet 0⟩
    let at_ := fun (x : Arrival) => State.reset.modPond fun p => { p with arrivals := [x] }
    nextToClassify (at_ a) 14 = some a ∧ a.tag.engDone = true ∧ a.tag.dstPort = 52 ∧ cutsThrough (at_ a) a.tag (2 ^ 52) = false
      ∧ nextToClassify (at_ b) 14 = some b ∧ fromPort b.origin = false ∧ profileFor (on (clsOf 14) (on W.CLS (at_ b))) b.tag = none
      ∧ (on (clsOf 14) (on W.CLS (at_ b))).enabled (clsOf 14) = true ∧ (at_ b).enabled (clsOf 14) = false := by decide

/-- Ports that go down, that cannot, and one that waits to come up. -/
theorem witness_ports : ((up 52 State.reset).port 52).down = false ∧ (up 52 State.reset).flag W.QMG (QMG_PORTCTL + 4 * 52) 0 = false
    ∧ ¬53 ≤ 52 ∧ ((State.reset.setPort 0 ⟨true, true, true, false, false⟩).port 0).down = true ∧ mainRuns State.reset = true := by decide

/-- Stalls and migration. -/
theorem witness_stalls_and_migration :
    let f : PFrame := ⟨7, 2, Tag.zero.setCt true, [1], false, none, [8], [0], [⟨51, 1, false, true, false⟩], true, .port 33, []⟩
    let s : State := State.reset.modPond fun p => { p with frames := [f] }
    let g : State := State.reset.modPond fun p => { p with frames := [{ f with tag := Tag.zero }] }
    let m := State.reset.setFlag W.QMG QMG_DRAIN 31 true
    let busy := (m.setFlag W.QMG QMG_MIGSTAT 0 true).modPond fun p => { p with migBank := 31, migSpare := 33 }
    let last := (busy.modPond fun p => { p with migHold := true }).setDial 3 { Dial.idle with drained := true }
    (s.frame? 7 = some f ∧ f.tag.ct = true ∧ (f.copies.find? fun c => c.port == 51 && c.enq).isSome = true)
      ∧ ((g.frame? 7).map fun x => (x.whole, x.tag.ct)) = some (false, false)
      ∧ ((State.reset.setInlet 63 { Inlet.empty with words := [1] }).inlet 63).words ≠ [] ∧ (State.reset.inlet 0).words = []
      ∧ (m.flag W.QMG QMG_DRAIN 31 = true ∧ spareTaken m 33 = false ∧ m.flag W.QMG QMG_MIGSTAT 0 = false)
      ∧ (busy.flag W.QMG QMG_MIGSTAT 0 = true ∧ busy.pond.migHold = false)
      ∧ (last.flag W.QMG QMG_MIGSTAT 0 = true ∧ last.pond.migHold = true ∧ (last.dial (migDial last)).drained = true
        ∧ last.reg W.QMG (QMG_BANKMAP + 4 * 31) < 32) ∧ takes m .crown W.QMG QMG_QSEL = true := by decide

/-- A Dial: enabled, with a slot owner, frozen and not drained. -/
theorem witness_dials :
    let s := on (diaWin 0) (State.reset.setDial 0 { Dial.idle with reqs := [⟨3, 1, 0, false⟩, ⟨4, 1, 2, false⟩] })
    let frozen := s.setFlag (diaWin 0) DIAL_FREEZE 0 true
    s.enabled (diaWin 0) = true ∧ dialFrozen s 0 = false ∧ (dialGrants s 0 (s.dial 0).reqs).length = 1
      ∧ dialFrozen frozen 0 = true ∧ (frozen.dial 0).drained = false ∧ (frozen.source (diaWin 0) 4).live = false
      ∧ slotOwner (s.setReg (diaWin 0) DIAL_TBL0 0x83) 0 = some 3 := by decide

/-- Time: running, held, a step at both ends, and a VBASE above and at the vault time. -/
theorem witness_time :
    let s : State := State.reset.modTms fun t => { t with acc := 5 * 2 ^ 32, step := some (-5) }
    mainTimeRuns s = true ∧ mainTimeRuns { s with pwr := { s.pwr with held := true } } = false ∧ s.tms.step = some (-5)
      ∧ s.now + (-5 : Int) = 0 ∧ s.tms.acc < 2 ^ 96 ∧ s.now + s.tms.voffset < 2 ^ 64 ∧ s.vault = 5
      ∧ (arm W.TMS TMS_VBASE_HI 0 (s.setReg W.TMS TMS_VBASE_LO 6)).vault < 6
      ∧ takesGuarded (arm W.TMS TMS_VBASE_HI 0 s) .crown W.TMS TMS_VBASE_HI 0 = true := by decide

/-- The servo held, a holdover with a limit, and a reference trigger of a shore's channel. -/
theorem witness_holdover :
    let s := on W.TMS ((State.reset.setFlag W.TMS TMS_DOM 28 true).setFld W.TMS TMS_HOLD_CFG 31 16 1)
    let h : State := (s.modTms fun t => { t with holdover := true }).setReg W.TMS TMS_HOLD_LIMIT 1
    let r := (linksUp s).setFlag W.TMS TMS_REF 31 true
    servoHeld s = true ∧ s.tms.holdover = false ∧ servoHeld State.reset = false ∧ h.tms.holdover = true ∧ h.reg W.TMS TMS_HOLD_LIMIT ≠ 0
      ∧ r.enabled W.TMS = true ∧ r.flag W.TMS TMS_REF 31 = true ∧ (r.shore (shoreOf 0)).aligned = true
      ∧ s.flag W.TMS (TMS_REF + 4) 31 = false := by decide

/-! ### Tables, policing, signals, authentication -/

/-- A valid action record: learned, age 3, destination port 33. -/
def act33 : List Word := [0xB0000000, BitVec.ofNat 32 (33 * 2 ^ 19), 0, 0]

/-- The EMT engine: an entry that is found, one that is not, a bad action, reservations of each kind, an occupied stash, flushes. -/
theorem witness_emt_commands :
    let k := 0x020380FF120000000000000000000000
    let s := ((State.reset.setReg W.EMT EMT_CMD_KEY 0x020380FF).setReg W.EMT (EMT_CMD_KEY + 4) 0x12000000).setReg W.EMT EMT_CMD_ACT 0xB0000000
    let a := slotAddr 0 (bucketOf s 0 k) 0
    let f := s.setEmt a (EmtEntry.ofAct k act33)
    let r : Resv := ⟨.insert, [a], k, act33, [], [], 0, false⟩
    let st := (s.setEmt (stashAddr 63) (EmtEntry.ofAct k act33))
    cmdKey s = k ∧ emtFind [] k f = some a ∧ emtFind [] k s = none ∧ s.emt.resv = none ∧ s.emt.flush = none
      ∧ badAction (cmdAct s) = false ∧ badAction (cmdAct (s.setReg W.EMT (EMT_CMD_ACT + 8) 1)) = true
      ∧ freeOf s (slotsOf 0 (bucketOf s 0 k)) = some a
      ∧ (s.emtAt (stashAddr 63)).valid = false ∧ (st.emtAt (stashAddr 63)).valid = true
      ∧ (freeOf st (slotsOf 0 (bucketOf st 0 (st.emtAt (stashAddr 63)).key))).isSome = true
      ∧ (EmtEntry.ofAct r.key r.act).valid = true ∧ areaOf (stashAddr 63) = 2 ∧ areaOf a = 0
      ∧ takes (s.modEmt fun e => { e with resv := some r }) .crown W.EMT EMT_CMD = true
      ∧ fwFlushing (s.modEmt fun e => { e with flush := some (255, false, true) }) = true ∧ s.fld W.EMT EMT_RSV 15 0 ≠ 0
      ∧ (s.win W.EMT).resetting = false := by decide

/-- Learning queue items of each kind, aging at both ages, and the scrubber on and off. -/
theorem witness_learning :
    let k := 0x020380FF120000000000000000000000
    let s := on W.EMT State.reset
    let a := slotAddr 0 (bucketOf s 0 k) 0
    let f := s.setEmt a (EmtEntry.ofAct k act33)
    let still := s.setEmt a (EmtEntry.ofAct k (0xF0000000 :: act33.drop 1))
    let old := s.setEmt a (EmtEntry.ofAct k (0x80000000 :: act33.drop 1))
    emtFind [] k s = none ∧ freeOf s (candidates s k) = some a
      ∧ emtFind [] k f = some a ∧ (f.emtAt a).static = false ∧ (f.emtAt a).pset = false ∧ (f.emtAt a).dest % 256 = 33
      ∧ emtFind [] k still = some a ∧ (still.emtAt a).static = true
      ∧ f.emt.entries = [(a, EmtEntry.ofAct k act33)] ∧ (EmtEntry.ofAct k act33).learned = true ∧ (EmtEntry.ofAct k act33).age = 3
      ∧ (old.emtAt a).learned = true ∧ (old.emtAt a).age = 0 ∧ (f.setReg W.EMT EMT_AGE 1).fld W.EMT EMT_AGE 15 0 ≠ 0
      ∧ (s.setReg W.EMT EMT_AGE 0).fld W.EMT EMT_AGE 15 0 = 0
      ∧ (s.setFlag W.EMT Reg.EMT_SCRUB 31 true).flag W.EMT Reg.EMT_SCRUB 31 = true
      ∧ (s.setFlag W.EMT Reg.EMT_SCRUB 31 false).flag W.EMT Reg.EMT_SCRUB 31 = false
      ∧ (s.modEmt fun e => { e with scrubPos := 16398 }).emt.scrubPos + 1 < 16400
      ∧ takes s .crown W.WCT WCT_CMD = true ∧ takes s .crown W.CLS CLS_PSET_CMD = true ∧ (s.wctAt 1023).hits < 2 ^ 32 := by decide

/-- POL and CDM: policers 1 and 8,191, gates 0 and 255, GCL entries in use and free, a cadence entry at its bound. -/
theorem witness_policing :
    let c : GateCfg := ⟨BitVec.ofNat 32 (2 ^ 31 + 4095 * 2 ^ 12 + 1), 1, 0, 0, 0, 0⟩
    let s := State.reset.setGate 255 { Gate.zero with pend := some c }
    let x : Cadence := ⟨BitVec.ofNat 32 (2 ^ 31 + 1), 0, .running, 0, 0, 0, 0⟩
    let at_ := fun (ns : Nat) => (on W.CDM { State.reset with cdm := [(5, x)] }).modTms fun t => { t with acc := ns * 2 ^ 32 }
    policerBad 0 0 0 0 = false ∧ policerBad 1 0 0 0 = true ∧ gateBad c = false ∧ wf c.d0 31 31 = 1 ∧ (s.gate 255).pend.isSome = true
      ∧ (s.gate 0).pend = none ∧ gclInUse s 4095 = true ∧ gclInUse s 4094 = false ∧ (s.policer 8191).green < 2 ^ 32
      ∧ cadPeriod x + cadLate x = 1000 ∧ (at_ 1000).now ≤ x.last + cadPeriod x + cadLate x ∧ x.last + cadPeriod x + cadLate x < (at_ 1001).now
      ∧ (at_ 1001).enabled W.CDM = true ∧ wf x.d0 31 31 = 1 ∧ (at_ 1001).cdm = [(5, x)] ∧ State.reset.enabled W.CDM = false
      ∧ takes State.reset .crown W.CDM CDM_CMD = true ∧ wf (0x00FFFFFF : Word) 28 24 = 0 := by decide

/-- A word of the live signal tables. -/
def sgeSet (obj i k v : Nat) (s : State) : State := s.modSge fun g => { g with live := kvSet 0 g.live (sgeKey obj i k) (BitVec.ofNat 32 v) }

/-- The signal engine: a frame at port 56 with the gate open and shut, a definition that times out, buffers, bundles, sessions. -/
theorem witness_signals :
    let q := queued 56 (Tag.zero.setCls 7) [1] State.reset
    let d := sgeSet 0 8191 0 (2 ^ 28) (sgeSet 0 8191 2 (2 ^ 16) State.reset)
    let sess : Session := ⟨63, 0, true, 0, 0, 0, false, false, .txBam, 0, 0, 14, 2, [], 2, 2, none, none, 0, false⟩
    let with_ := fun (x : Session) => State.reset.modSge fun g => { g with sessions := [x] }
    let c : Option (PFrame × Copy) := q.headOf (448 + 7)
    (c.map fun e => (decide (q.engGate (min e.1.tag.passes 1) ≤ q.engFree (min e.1.tag.passes 1)), e.2.cm)) = some (true, false)
      ∧ ((q.setFld W.QMG QMG_ENGFLOOR 31 16 65535).engFree 0 < (q.setFld W.QMG QMG_ENGFLOOR 31 16 65535).engGate 0)
      ∧ sgeRunning q = false ∧ q.headOf 448 = none
      ∧ bits (d.sgeW 0 8191 0) 31 28 = 1 ∧ bits (d.sgeW 0 8191 2) 31 16 ≠ 0
      ∧ ((d.setDef 8191 ⟨some 0, false⟩).sgeDef 8191).last.isSome = true ∧ ((d.setDef 8191 ⟨some 0, true⟩).sgeDef 8191).out = true
      ∧ bufMode (sgeSet 2 4095 0 (2 ^ 31) State.reset) 4095 = 2 ∧ bufMode State.reset 0 < 2
      ∧ ((State.reset.setBuf 4095 { BufRun.reset with pend := some 0 }).sgeBuf 4095).pend.isSome = true
      ∧ (kvGet none (State.reset.modSge fun g => { g with bundles := [(255, some ⟨0, []⟩)] }).sge.bundles 255).isSome = true
      ∧ (with_ sess).sess? 63 = some sess ∧ pktsOf sess.size ≤ sess.next ∧ (with_ { sess with next := 1 }).sess? 63 = some { sess with next := 1 }
      ∧ 1 < pktsOf sess.size ∧ (with_ { sess with tx := false }).sess? 63 = some { sess with tx := false }
      ∧ (with_ { sess with state := .txWait }).sess? 63 = some { sess with state := .txWait } := by decide

/-- Microcode: a count in range, and SGE table commands at the last index of each object. -/
theorem witness_sge_commands :
    let s := State.reset.setFld W.SGE SGE_UC_STAT 14 0 16384
    takes s .crown W.SGE SGE_UC_CTRL = true ∧ s.flag W.SGE BLK_CTRL 0 = false ∧ s.fld W.SGE SGE_UC_STAT 14 0 = 16384
      ∧ s.flag W.SGE SGE_UC_STAT 31 = false ∧ (sgeCount 0, sgeCount 1, sgeCount 2) = (8192, 32768, 4096)
      ∧ takes s .crown W.SGE SGE_CMD = true
      ∧ crc32c ((List.range 1).flatMap fun k => leBytes 4 (kvGet 0 State.reset.sge.ucode k).toNat) = 0x48674BC7 := by decide

/-- The authentication engine: a frame whose entry is off, one that generates, one at the last counter; a good and a bad entry. -/
theorem witness_authentication :
    let x : Fresh := ⟨0xC0000000, BitVec.ofNat 32 (2 ^ 25 + 3 * 2 ^ 20), 1, 0, 0, 0⟩
    let q := on W.AUE (queued 57 ((Tag.zero.setKind 4).setFreshIdx 16383) [1] State.reset)
    let e := fun (s : State) => (s.headOf 456).map fun e => (e.1.tag.kind, e.1.tag.freshIdx, e.2.cm, decide (s.engGate 2 ≤ s.engFree 2))
    let key := on W.JWL ((q.setFresh 16383 x).modJwl fun j => { j with slots := kvSet Slot.empty [] 0 ⟨BitVec.ofNat 32 (2 ^ 31 + 2 ^ 28 + 1), [1]⟩ })
    e q = some (4, 16383, false, true) ∧ q.enabled W.AUE = true ∧ freshFlag (q.freshAt 16383) 31 = false
      ∧ freshFlag ((q.setFresh 16383 x).freshAt 16383) 31 = true ∧ freshFlag x 30 = true ∧ freshF x = 1
      ∧ freshBad State.reset = false ∧ freshBad (State.reset.setReg W.AUE AUE_DATA (2 ^ 31)) = true
      ∧ takes State.reset .crown W.AUE AUE_CMD = true ∧ q.headOf 457 = none ∧ keyLoad [] key 0 0 = some [1] := by decide

/-! ### CAN, shores, Ethernet, network management and power -/

/-- A controller in mode `m` with its transceiver in Normal. -/
def canOn (n m : Nat) (s : State) : State :=
  on (cxWin n) ((s.setReg (cxWin n) CX_MODE m).modTr n fun x => { x with state := 1 })

/-- A slot of class 4. -/
def slot4 (idx : Nat) : CxSlot := newSlot idx (.cls 4) ⟨Tag.zero, [1]⟩

/-- Reception: a controller that receives, a claim at the limit, FD and XL off, automatic rate detection, and one off the bus. -/
theorem witness_can_reception :
    let s := canOn 23 1 State.reset
    let w := cxWin 23
    let cand := fun (g : Nat) => (canOn 23 4 State.reset).modCx 23 fun x => { x with abrCand := some 3, abrGood := g }
    let dwell := ((cand 0).setFld w CX_ABR_CFG 15 0 1).setFld w CX_ABR_CFG 20 16 4
    let off := s.modCx 23 fun x => { x with busoff := true }
    shoreRuns s (shoreOf 23) = true ∧ mainRuns s = true ∧ receives s 23 = true ∧ (s.cxs 23).claim = none ∧ pathOf s 23 0 = none
      ∧ ingressHeld s 23 + cellsOf 2048 ≤ 192 ∧ cxMode s 23 = 1 ∧ s.flag w CX_MODE 9 = false
      ∧ 192 < ingressHeld (s.modPond fun p => { p with arrivals := (List.range 6).map fun j => ⟨j, 0, Tag.zero, List.replicate 2040 0, true, none, .port 23⟩ }) 23
        + cellsOf 64
      ∧ (pathOf (s.modRelay (shoreOf 23) fun r => { r with state := .early }) 23 0).isSome = true
      ∧ receives (cand 1) 23 = true ∧ cxMode (cand 1) 23 = 4 ∧ receives State.reset 23 = false
      ∧ (dwell.fld w CX_ABR_CFG 15 0 ≠ 0 ∧ dwell.enabled w = true ∧ (dwell.cxs 23).abrCand = some 3 ∧ dwell.fld w CX_ABR_CFG 20 16 = 3 + 1
        ∧ 3 + 1 < (dwell.setFld w CX_ABR_CFG 20 16 5).fld w CX_ABR_CFG 20 16)
      ∧ (off.cxs 23).busoff = true ∧ (off.cxs 23).recovering = false ∧ takes (linksUp off) .crown w CX_CMD = true
      ∧ errCounter .bit0 = some (CX_ERR_BIT, 5) ∧ (s.setFlag w CX_MODE 8 true).flag w CX_MODE 8 = true
      ∧ ((s.modCx 23 fun x => { x with recovering := true }).cxs 23).recovering = true := by decide

/-- Slot load: suppressed, blocked, from the relay queue in each outcome, and from a class queue in each outcome. -/
theorem witness_slot_load :
    let ms := fun (n : Nat) (s : State) => s.modTms fun t => { t with acc := n * 1000000 * 2 ^ 32 }
    let base := fun (m : Nat) (t : Tag) => (canOn 24 m (queued 24 (t.setCls 4) [1] State.reset)).setReg (cxWin 24) (CX_TXCLASS + 16) (1 * 2 ^ 16 + 1)
    let room := fun (s : State) (c : Nat) => decide ((s.cxs 24).slots.countP (fun y => y.src == .cls c) < s.fld (cxWin 24) (CX_TXCLASS + 4 * c) 22 16)
    let r := (canOn 0 1 State.reset).modCx 0 fun x => { x with relayQ := [(⟨Tag.zero, [1]⟩, 0)] }
    let aged := ((r.setReg (srlWin 0) SRL_CFG 1).modShore 0 fun h => { h with time := 1000001 * 2 ^ 32 })
    let s := base 1 Tag.zero
    let get := fun (u : State) => (u.headOf (8 * 24 + 4)).map fun e => (badFormat u 24 (frameOf e.1 e.2), agedClass u 24 4 (frameOf e.1 e.2).tag)
    headClass (base 2 Tag.zero) 24 (fun _ => true) = some 4 ∧ headClass State.reset 24 (fun _ => true) = none
      ∧ s.enabled (cxWin 24) = true ∧ cxMode s 24 = 1 ∧ cxDown s 24 = false ∧ cxMode (base 2 Tag.zero) 24 = 2
      ∧ (s.cxs 24).slots.any (·.idx == 63) = false ∧ headClass s 24 (room s) = some 4
      ∧ get s = some (false, false) ∧ get (base 1 (Tag.zero.setKind 3)) = some (true, false)
      ∧ get (ms 1 s) = some (false, false) ∧ get (ms 2 s) = some (false, true)
      ∧ (r.cxs 0).relayQ = [(⟨Tag.zero, [1]⟩, 0)] ∧ relayPart r 0 = true ∧ agedRelay r 0 0 = false ∧ agedRelay aged 0 0 = true
      ∧ r.flag (cxWin 0) CX_MODE 9 = false := by decide

/-- Transmission: the best of two slots, one on the bus in each state, events with room and a full queue, a reference round. -/
theorem witness_transmission :
    let s := (canOn 24 1 State.reset).modCx 24 fun x => { x with slots := [slot4 5, slot4 3] }
    let bus := fun (b : CxSlot) => (canOn 24 1 State.reset).modCx 24 fun x => { x with slots := [b] }
    let b := { slot4 3 with committed := true }
    let old := (bus b).setReg (cxWin 24) (CX_TXCLASS + 16) 1 |>.modTms fun t => { t with acc := 1000001 * 2 ^ 32 }
    let fd : Frame := ⟨Tag.zero.setKind 1, [1]⟩
    s.enabled (cxWin 24) = true ∧ (s.cxs 24).busoff = false ∧ cxMode s 24 = 1 ∧ onBus s 24 = none ∧ bestSlot s 24 = some (slot4 3)
      ∧ tdcOn s 24 (busFrame s 24 (slot4 3).frame) = false
      ∧ tdcOn (s.setFlag (cxWin 24) CX_TDC 31 true) 24 (busFrame s 24 fd) = true
      ∧ onBus (bus b) 24 = some b ∧ refSlot b = false ∧ b.cancelled = false ∧ b.orphan = false ∧ slotAged (bus b) 24 b = false
      ∧ slotAged old 24 b = true ∧ onBus (bus { b with cancelled := true }) 24 = some { b with cancelled := true }
      ∧ onBus (bus { b with orphan := true }) 24 = some { b with orphan := true }
      ∧ refSlot { b with src := .sync } = true ∧ onBus (bus { b with src := .followUp }) 24 = some { b with src := .followUp }
      ∧ ((bus b).cxs 24).events.length < 32 ∧ cxDown (bus b) 24 = false
      ∧ ((s.modCx 24 fun x => { x with refStep := 1 }).cxs 24).refStep ≠ 0
      ∧ cancelSelects s 24 (2 ^ 30 + 3) (slot4 3) = true ∧ cancelSelects s 24 (2 ^ 30 + 4) (slot4 3) = false := by decide

/-- Shore power and links: a shore off, off without a clock, the other off, the link up at its minimum of lanes, requests. -/
theorem witness_shores :
    let off := State.reset.modShore 0 fun h => { h with powered := false }
    let dark := State.reset.modShore 1 fun h => { h with clocked := false }
    let s := linksUp State.reset
    let acc : Access := ⟨.crown, winAddr (cxWin 0) 0x100, 32, false, false, 0⟩
    let req := fun (e : Bool) => s.modBridge 0 fun b => { b with reqs := [⟨acc, e⟩] }
    let hit := s.modBridge 0 fun b => { b with bursts := [⟨.crown, acc.addr, [7], 0⟩] }
    (off.shore 0).powered = false ∧ (off.shore 0).clocked = true ∧ (dark.shore 1).clocked = false ∧ (off.shore 1).powered = true
      ∧ (State.reset.shore 0).powered = true ∧ s.s2s = false ∧ shoreRuns s 0 = true ∧ shoreRuns s 1 = true
      ∧ (s.bridge 0).up = true ∧ (State.reset.bridge 0).up = false ∧ bit (s.bridge 0).lanes 7 = true ∧ s.enabled (shbWin 0) = true
      ∧ State.reset.enabled (shbWin 0) = true ∧ lanesCarry 0xE9 = true ∧ lanesCarry 0xE8 = false
      ∧ (on W.TMS s).enabled W.TMS = true ∧ shoreTarget acc = some (0, cxWin 0) ∧ readsOut s 0 .crown < 8
      ∧ ((req true).bridge 0).reqs.find? (·.acc.init == .crown) = some ⟨acc, true⟩
      ∧ ((req false).bridge 0).reqs.find? (fun r => r.acc.init == .crown && !r.ended) = some ⟨acc, false⟩
      ∧ readsOut (s.modBridge 0 fun b => { b with reqs := List.replicate 8 ⟨acc, false⟩ }) 0 .crown = 8
      ∧ (burstHit hit 0 .crown acc.addr).isSome = true := by decide

/-- Relays: running with and without limp, a takeover that waits, a frame that crosses, table entries good and bad. -/
theorem witness_relays :
    let s := linksUp State.reset
    let run := s.modRelay 0 fun r => { r with state := .run, takeover := some 5 }
    let f : CanFrame := can8
    let cross := ((canOn 1 1 (linksUp State.reset)).modRelay 1 fun r => { r with crossing := [(2, f, 0)] }).modRelay 0 fun r => { r with state := .early }
    (run.shore 0).relay.state = .run ∧ (run.shore 0).relay.takeover = some 5 ∧ shoreRuns run 0 = true
      ∧ (s.setFlag (srlWin 0) SRL_CFG 30 true).flag (srlWin 0) SRL_CFG 30 = true
      ∧ (s.setFld (srlWin 0) SRL_CFG 23 16 1).fld (srlWin 0) SRL_CFG 23 16 ≠ 0 ∧ (cross.shore (1 - 0)).relay.crossing = [(2, f, 0)]
      ∧ relayPart cross 1 = true ∧ shoreOf 1 = 0 ∧ bit 2 1 = true ∧ (cross.cxs 1).relayQ.length < 16
      ∧ takes s .crown (srlWin 1) SRL_CMD = true ∧ takes s .crown (srlWin 1) SRL_ECMD = true
      ∧ shoreOf 23 = 1 ∧ bits (s.reg (srlWin 0) (SRL_EDATA + 8)) 28 24 = 0 ∧ shoreOf 0 = 0 := by decide

/-- Transceivers: every move, a wake-up pattern, decode errors at both sides of the limit, a frame that matches. -/
theorem witness_transceivers :
    let at_ := fun (st c : Nat) => (State.reset.modTr 23 fun x => { x with state := st }).setReg (trxWin 23) TRX_CFG c
    let f := { can8 with id := 0x123 }
    let w := (at_ 3 (2 ^ 9 + 3)).setReg (trxWin 23) TRX_WUF (2 ^ 31 + 0x123) |>.setReg (trxWin 23) (TRX_WUF + 4) 0x7FF
    trxChosen (at_ 1 1) 23 = 1 ∧ trxChosen (at_ 3 1) 23 = 1 ∧ trxChosen (at_ 1 4) 23 = 4 ∧ trxChosen (at_ 1 0) 23 = 0 ∧ trxChosen (at_ 4 2) 23 = 2
      ∧ wakeArmed ((at_ 4 (2 ^ 8)).tr 23) = true ∧ (at_ 4 (2 ^ 8)).flag (trxWin 23) TRX_CFG 8 = true
      ∧ ((State.reset.modTr 0 fun x => { x with resume := some 1 }).tr 0).resume = some 1
      ∧ decodes w 23 = true ∧ wufMatches w 23 0 f = true ∧ wufMatches w 23 1 f = false ∧ wufMatches w 23 0 can8 = false
      ∧ ((w.modTr 23 fun x => { x with decErr := 31 }).tr 23).decErr = 31 ∧ shoreRuns w (shoreOf 23) = true := by decide

/-- Shore services: a PLCA segment, bus activity at its limit, an INH release, a WAKE pin edge, timer, partner, controller. -/
theorem witness_shore_services :
    let s := linksUp State.reset
    let t := (s.setReg (t1lWin 7) T1L_CTRL (256 * 5 + 2))
    let p := (s.setReg (t1lWin 7) T1L_CTRL 1).setFlag (t1lWin 7) T1L_PLCA_CTRL 31 true
    let rel := (s.setFlag (spsWin 0) BLK_CTRL 0 false).modShore 0 fun h => { h with releasing := true }
    let pin := s.setReg (swkWin 1) (SWK_PIN + 12) (2 ^ 31 + 2 ^ 28)
    let run := (s.setReg (shcWin 0) SHC_WDT 1).modCtl 0 fun c => { c with running := true }
    t1lState t 7 = 2 ∧ t.fld (t1lWin 7) T1L_CTRL 15 8 = 5 ∧ plcaOn p 7 = true ∧ plcaOn s 7 = false
      ∧ (rel.shore 0).releasing = true ∧ rel.spsEn 0 = false ∧ (on (spsWin 0) s).spsEn 0 = true ∧ rel.pwr.state = .run
      ∧ bit (pin.reg (swkWin 1) (SWK_PIN + 12)) 31 = true ∧ bit (pin.shore 1).pins 3 = false ∧ bits (pin.reg (swkWin 1) (SWK_PIN + 12)) 29 28 = 1
      ∧ (rel.setReg (swkWin 0) SWK_TIMER 1).fld (swkWin 0) SWK_TIMER 23 0 ≠ 0 ∧ springWakes s 0 8 = true ∧ springWakes s 0 4 = false
      ∧ (({ s with s2s := true }.modShore 0 fun h => { h with partner := true }).shore 0).partner = true
      ∧ (run.fld (shcWin 0) SHC_WDT 15 0 ≠ 0 ∧ (run.shore 0).ctl.running = true)
      ∧ takesGuarded (arm (spsWin 0) BLK_CTRL (clearMask (ctrlNow s (spsWin 0)) 1) s) .crown (spsWin 0) BLK_CTRL (clearMask (ctrlNow s (spsWin 0)) 1) = true
      ∧ pendingWake s 0 = none ∧ pendingWake (s.modShore 0 fun h => { h with seen := 2 ^ 8 }) 0 ≠ none
      ∧ takes (s.setReg (shcWin 0) WIN_ACCESS 0x11) .shcA (shcWin 0) SHC_MBOX_OUT_DB = true ∧ crc32c (imageBytes s 0) = 0 := by decide

/-- Ethernet ports: links, reception in each outcome, verification, schedules, streams, and table commands. -/
theorem witness_ethernet :
    let up := fun (k : Nat) (s : State) => (on (emcWin k) (s.setReg (emcWin k) EMC_CFG (2 ^ 31 + 2 ^ 30 + 1522))).modMac k fun m => { m with up := true, speed := 2 }
    let s := up 19 State.reset
    let rx := fun (r : MacRx) => s.modMac 19 fun m => { m with rx := [r] }
    let r : MacRx := ⟨false, none, List.replicate 20 0, 0, false⟩
    let sch : Schedule := ⟨[(0, 1), (1, 2)], 10, 0⟩
    emcReceives s 19 = true ∧ (s.mac 19).rx.any (·.pre == false) = false ∧ emcHeld s 19 + 2000 ≤ emcBuffer 19
      ∧ holdsFrame s 19 (List.replicate 20 0) = false ∧ holdsFrame s 19 (List.replicate 12 0 ++ [0x88, 0x08]) = true
      ∧ emcReceives State.reset 19 = false ∧ (s.mac 19).up = true ∧ speedOk 19 5 = true ∧ speedOk 19 1 = false
      ∧ (s.setFlag (emcWin 19) EMC_CFG 26 true).flag (emcWin 19) EMC_CFG 26 = true ∧ s.flag (emcWin 19) EMC_CFG 26 = false
      ∧ ((rx r).mac 19).rx.find? (·.pre == false) = some r ∧ etherType r.held = 0 ∧ (rx r).enabled W.AUE = false
      ∧ s.fld (emcWin 19) EMC_CFG 13 0 = 1522 ∧ (rx r).pwr.state = .run ∧ emcHeld (dropRx 19 false (rx r)) 19 + 20 ≤ emcBuffer 19
      ∧ wakePattern (rx r) 19 r.held = none ∧ emcDown s 19 = false ∧ (s.mac 19).sending = none
      ∧ ((s.modMac 19 fun m => { m with oper := some sch, pend := some sch, verify := 1, tries := 3 }).mac 19).oper = some sch
      ∧ readsPlain s .crown (emcWin 19) EMC_TSQ_INFO = true ∧ takes s .crown W.EMC EMC_CMD = true := by decide

/-- A frame that is selected: of the Ethernet kind, and of another kind. -/
theorem witness_ethernet_select :
    let up := fun (k : Nat) (s : State) => (on (emcWin k) (s.setReg (emcWin k) EMC_CFG (2 ^ 31 + 2 ^ 30 + 1522))).modMac k fun m => { m with up := true, speed := 2 }
    let s := fun (kind : Nat) => up 19 (queued 51 (Tag.zero.setKind kind) (List.replicate 64 0) State.reset)
    selectClass (creditsNow 19 (s 3)) 19 = some 0 ∧ ((creditsNow 19 (s 3)).headOf (8 * 51)).map (fun e => e.1.tag.kind) = some 3
      ∧ selectClass (creditsNow 19 (s 4)) 19 = some 0 ∧ ((creditsNow 19 (s 4)).headOf (8 * 51)).map (fun e => e.1.tag.kind) = some 4
      ∧ selectClass (creditsNow 19 (up 19 State.reset)) 19 = none := by decide

/-- The service port: a sound frame that fits, one that finds the ring full, lengths 59, 60, 1,518 and 1,519. -/
theorem witness_service_port :
    let s := on W.SVP (State.reset.setReg W.SVP SVP_RINGLEN (2 ^ 16 + 2))
    let full := s.setReg W.SVP SVP_RXPTR (1 * 2 ^ 8)
    s.enabled W.SVP = true ∧ svpAccepts s (List.replicate 60 1) = true ∧ svpAccepts s (List.replicate 60 2) = false
      ∧ ¬(s.fld W.SVP SVP_RINGLEN 7 0 = 0 ∨ (0 + 1) % 2 = s.fld W.SVP SVP_RXPTR 7 0 % 2)
      ∧ (full.fld W.SVP SVP_RXPTR 15 8 + 1) % 2 = full.fld W.SVP SVP_RXPTR 7 0 % 2
      ∧ s.fld W.SVP SVP_RINGLEN 23 16 = 1 ∧ takes s .crown W.SVP SVP_TXPTR = true := by decide

/-- NM units: 0 and 39 in each state, a report, presence of node 255. -/
theorem witness_network_units :
    let at_ := fun (u st : Nat) (d : Bool) => ((on W.NMU State.reset).setReg W.NMU (uoff NMU_UCFG u) (2 ^ 31 + 2 ^ 30)).modUnit u fun x => { x with state := st, descent := d }
    nmActive (at_ 39 5 false) 39 = true ∧ ((at_ 39 5 false).unit 39).state = 5 ∧ nmActive State.reset 0 = false
      ∧ nmDescends ((at_ 0 1 true).unit 0) = true ∧ nmDescends ((at_ 0 2 false).unit 0) = true ∧ nmDescends ((at_ 0 1 false).unit 0) = false
      ∧ (at_ 0 1 false).uflag NMU_UCFG 0 30 = true ∧ nmRequest (at_ 0 4 false) 0 = false
      ∧ nmRequest ((at_ 0 4 false).setReg W.NMU NMU_NETREQ_LO 1) 0 = true ∧ nmRequest ((at_ 39 4 false).setReg W.NMU NMU_NETREQ_HI 128) 39 = true
      ∧ ({ at_ 39 1 false with nmReports := [39] } : State).nmReports.contains 39 = true
      ∧ busAsleep (((at_ 0 1 true).setReg (trxWin 0) TRX_CFG (4 * 16)).modTr 0 fun x => { x with state := 4 }) 0 = true
      ∧ busAsleep (((at_ 0 1 true).setReg (trxWin 0) TRX_CFG (3 * 16)).modTr 0 fun x => { x with state := 4 }) 0 = false
      ∧ takes (at_ 0 1 false) .crown W.NMU NMU_CMD = true := by decide

/-- Power and memory: each state and request, a Standby entry under way, training and restore. -/
theorem witness_power_and_memory :
    let doze := { State.reset with pwr := { State.reset.pwr with state := .doze } }
    let enter := { State.reset with pwr := { State.reset.pwr with entering := some 2 }, dmc := ⟨true, true⟩ }
    takesGuarded (arm W.SYS SYS_PWR_CMD 0 doze) .crown W.SYS SYS_PWR_CMD 0 = true ∧ doze.pwr.entering = none
      ∧ takesGuarded (arm W.SYS SYS_PWR_CMD 2 enter) .crown W.SYS SYS_PWR_CMD 2 = true ∧ mainRuns enter = true
      ∧ pendingWake State.reset 0 = none ∧ pendingWake (State.reset.modShore 1 fun h => { h with seen := 2 ^ 8 }) 1 = some 8
      ∧ enter.dmc.entering = true ∧ enter.dmc.restoring = true
      ∧ (State.reset.setReg W.DMC DMC_TRAIN_STAT (2 ^ 31)).flag W.DMC DMC_TRAIN_STAT 31 = true
      ∧ (State.reset.setFlag W.DMC DMC_STAT 2 true).flag W.DMC DMC_STAT 2 = true ∧ State.reset.flag W.DMC DMC_STAT 2 = false
      ∧ dmcInit (State.reset.setFlag W.DMC DMC_STAT 0 true) = true ∧ dmcInit State.reset = false := by decide

/-- FRER streams: 511 with individual recovery and a reset time, and an idle one. -/
theorem witness_streams :
    let x : Frer := { Frer.zero with d0 := BitVec.ofNat 32 (2 ^ 31 + 2 ^ 29 + 1) }
    wf x.d0 31 31 = 1 ∧ wf x.d0 29 29 = 1 ∧ wf x.d0 15 0 = 1 ∧ wf (State.reset.frerOf 0).d0 31 31 = 0
      ∧ bits (2 ^ 31 + 2 ^ 28 + 32 * 2 ^ 22) 27 22 = 32 := by decide

/-! ### Core queues, start, Unnov, keys, twin pair, capture -/

/-- Flash reads while a chip select is polled and while not; an Outlet and Inlets in each state; a router's full NMI queue. -/
theorem witness_queues :
    let s := (on W.XSP (on W.CQ State.reset)).setReg W.XSP XSP_CFG 0
    let poll := s.setFlag W.XSP XSP_STAT 29 true
    let q := s.setOutlet 63 { Outlet.empty with frames := [7] }
    let fr : State := { q with pond := (queued 60 Tag.zero [1] q).pond }
    let inl := fun (x : Inlet) => s.setInlet 63 x
    let raw := Inlet.mk (List.replicate 5 0) false none 0 [] false []
    let data := (inl ⟨[], false, some 3, 9, [1], false, []⟩).modPond fun p => { p with arrivals := [⟨3, 12, Tag.zero, [], false, none, .inlet 63⟩] }
    (s.enabled W.CQ = true ∧ poll.flag W.XSP XSP_STAT 29 = true ∧ xspBusy s = false ∧ takes s .crown W.XSP XSP_CMD = true)
      ∧ (fr.outlet 63).frames ≠ [] ∧ (outLeft fr 63).length = 7 ∧ outLeft s 63 = []
      ∧ ((List.range 8).findSome? fun k => fr.headOf (8 * 60 + (7 - k))).isSome = true
      ∧ inSpace s 63 = 512 ∧ (s.inlet 63).fid = none ∧ s.flag W.CQ (CQ_ICFG + 4 * 63) 31 = false ∧ tagValid 0x10000000 = true ∧ tagValid 0x18000000 = false
      ∧ ((inl raw).inlet 63).words.length = 5 ∧ undecided data 3 = true ∧ data.frame? 3 = none
      ∧ admitted s .crown W.CQ (Reg.IN_PUSH + 0x20 * 63) true = true ∧ admitted s .crown W.CQ (Reg.OUT_POP + 0x20 * 63) false = true
      ∧ (kvGet [] ((State.reset.setIrt 1 { Irt.reset with nmi := kvSet [] [] 0 (List.replicate 8 1) }).irt 1).nmi 0).length = 8
      ∧ irtTargets 0 = 4 ∧ irtTargets 1 = 1 := by decide

/-- An Inlet that is full: 512 words of one frame are staged. -/
theorem witness_inlet_full : inSpace (State.reset.setInlet 0 { Inlet.empty with words := List.replicate 512 0 }) 0 = 0 := by decide

/-- The xSPI window: a read inside the region, and one outside. -/
theorem witness_flash_window :
    let s := State.reset.setReg W.XSP XSP_CFG 0
    (List.range 16).any (fun k => regionAt (s.setReg W.XSP XSP_CFG k) xspiBase 4 == some .flash) = true
      ∧ regionAt s 0 4 = some .rom ∧ regionAdmits s .flash .crown false = true := by decide

/-- Starts: cold and not, each package state, held; the watchdog on and off. -/
theorem witness_starts :
    let x : StartInput := ⟨0, 255, 255, false, false, false, [], true⟩
    let kept := [0, 1].foldl (fun s d => s.modShore d fun h => { h with fresh := false }) State.reset
    let wdt := kept.setFlag W.CRN CRN_WDT 31 true
    let trains := fun (s : State) (d m : Nat) => (s.shore d).powered && (s.shore d).clocked && lanesCarry m
    ((State.reset.shore 0).fresh = true) ∧ (!trains kept 0 x.linkA || !trains kept 1 x.linkB) = false ∧ (kept.shore 1).fresh = false
      ∧ kept.pwr.state = .run ∧ kept.pwr.held = false ∧ wdtOn wdt = true ∧ wdtOn kept = false ∧ mainRuns kept = true
      ∧ mainRuns { kept with pwr := { kept.pwr with held := true } } = false ∧ takes kept .crown W.CRN CRN_WDT = true := by decide

/-- An Unnov message of the session 9 with its TAG. -/
def sealed (typ seq : Nat) (body : List Byte) : List Byte :=
  let h := beBytes 2 0x554E ++ [1, BitVec.ofNat 8 typ] ++ beBytes 4 9 ++ beBytes 4 seq ++ beBytes 2 body.length ++ [0, 0] ++ body
  h ++ unTag [5] h

/-- A device with session 9 of host 3 open at SEQ 4. -/
def open9 (s : State) : State := s.modUnnov fun u => { u with host := some 3, opened := true, key := [5], session := 9, seq := 4 }

/-- Requests of the session: the next one, a repeat, one that skips a number, one of another session, each with its TAG. -/
theorem witness_unnov_requests :
    let m := sealed 0x10 5 []
    let s := open9 State.reset
    s.unnov.host = some 3 ∧ s.unnov.opened = true ∧ unSession m = s.unnov.session ∧ m.length = 32
      ∧ m.drop (m.length - 16) = unTag s.unnov.key (m.take (m.length - 16)) ∧ unSeq m = s.unnov.seq + 1 ∧ unType m = 0x10
      ∧ unFormed m true = true ∧ unBody m = [] ∧ recovery s = false ∧ mainRuns s = true ∧ s.crn.halted = false :=
  ⟨rfl, rfl, by decide, rfl, rfl, by decide, by decide, by decide, rfl, by decide, by decide, rfl⟩

/-- Requests whose bodies meet their clauses: the lengths at which the clauses divide. -/
theorem witness_unnov_bodies :
    unBody (sealed 0x7F 5 []) = [] ∧ (unBody (sealed 0x11 5 (List.replicate 512 0))).length = 512
      ∧ hdrType (unBody (sealed 0x11 5 (List.replicate 512 0))) = 0 ∧ (unBody (sealed 0x14 5 [0, 5])).length = 2
      ∧ beNat (unBody (sealed 0x14 5 [0, 5])) = 5 ∧ beNat (unBody (sealed 0x16 5 [2])) = 2
      ∧ (unBody (sealed 0x20 5 [0, 0, 0, 0, 4, 0])).length = 6 ∧ (unBody (sealed 0x12 5 (List.replicate 5 0))).length = 5
      ∧ unSeq (sealed 0x10 4 []) = 4 ∧ unSeq (sealed 0x10 6 []) = 6 ∧ unFormed (sealed 0x22 5 (List.replicate 34 0)) true = true := by decide

/-- HELLO and PROVE: a first HELLO of 128 bytes, and a PROVE of 96 after it. -/
theorem witness_unnov_opening :
    let h := fun (typ seq n : Nat) => beBytes 2 0x554E ++ [1, BitVec.ofNat 8 typ] ++ beBytes 4 0 ++ beBytes 4 seq ++ beBytes 2 n ++ [0, 0] ++ List.replicate n 7
    let p := State.reset.modUnnov fun u => { u with host := some 3, seq := 1 }
    unType (h 1 1 128) = 1 ∧ unFormed (h 1 1 128) false = true ∧ unLength (h 1 1 128) = 128 ∧ unSession (h 1 1 128) = 0 ∧ unSeq (h 1 1 128) = 1
      ∧ State.reset.unnov.opened = false ∧ unType (h 2 2 96) = 2 ∧ unFormed (h 2 2 96) false = true ∧ unLength (h 2 2 96) = 96
      ∧ unSeq (h 2 2 96) = p.unnov.seq + 1 ∧ p.unnov.opened = false ∧ p.unnov.host = some 3 := by decide

/-- Keys: a device past Blank with JWL on, free and used slots, a fuse request of each kind. -/
theorem witness_keys :
    let s := on W.JWL { State.reset with fuses := { Fuses.blank with life := 1 } }
    let a := 0x40000000 + 8
    let k := s.modJwl fun j => { j with slots := kvSet Slot.empty [] 511 ⟨BitVec.ofNat 32 (0x40000000 + 12), List.replicate 32 1⟩ }
    lifecycle s = 1 ∧ s.flag W.JWL BLK_CTRL 0 = true ∧ takes s .crown W.JWL JWL_CMD = true ∧ slotFree [] s 511 (BitVec.ofNat 32 a) = 0
      ∧ slotFree [] s 512 (BitVec.ofNat 32 a) = 1 ∧ slotFree [] k 511 (BitVec.ofNat 32 a) = 3 ∧ trnFailed s = false
      ∧ attrType (slotOf [] k 511).attr = 4 ∧ bit (attrUsage (slotOf [] k 511).attr) 3 = true ∧ bit (attrUsage (slotOf [] k 511).attr) 2 = true
      ∧ attrType (slotOf [] k 510).attr = 0 ∧ (parentKey [] k 511 4).1 ≠ 0
      ∧ State.reset.jwl.fuseReq = none ∧ takesGuarded (arm W.JWL JWL_FUSE_PROG (3 * 2 ^ 28 + 16) s) .crown W.JWL JWL_FUSE_PROG (3 * 2 ^ 28 + 16) = true
      ∧ trnFailed (s.setFlag W.TRN TRN_STAT 31 true) = true := by decide

/-- The vault: opened and not, a block open and none, a block being written, each command's condition. -/
theorem witness_vault :
    let s := State.reset.setFlag W.VLT VLT_STAT 30 true
    let o := s.modVlt fun v => { v with records := some (List.replicate 61 []) }
    vltOpened s = true ∧ vltOpened State.reset = false ∧ s.vlt.writing = none ∧ typeRefused 0 = true ∧ typeRefused 1 = false ∧ typeRefused 0x8000 = false
      ∧ typeRefused 0x7FFF = true ∧ (openRecords o).length + 1 = 62 ∧ o.vlt.records.isSome = true
      ∧ (s.modVlt fun v => { v with writing := some [1] }).vlt.writing = some [1] ∧ takes s .crown W.VLT VLT_CMD = true
      ∧ vltCtr s 0 < (s.setReg W.VLT VLT_CTR_SET_LO 1).reg64 W.VLT VLT_CTR_SET_LO ∧ (o.setFld W.VLT VLT_SEAL_CFG 15 0 1).fld W.VLT VLT_SEAL_CFG 15 0 ≠ 0 := by decide

/-- The twin pair: a Lead that may lead, a Mate that takes over and yields, the link, a message of each type. -/
theorem witness_twin :
    let s := (on W.TWL State.reset).setFlag W.CRN CRN_WDT 31 true
    let mate := { s with straps := 4, twin := { s.twin with misses := s.fld W.TWL TWL_CTRL 19 16 } }
    let up := { s with twin := { s.twin with lanes := 2, reqs := [⟨.crown, false, 0x40000000, 0⟩] } }
    let m := fun (t vc n : Nat) => [BitVec.ofNat 8 t, BitVec.ofNat 8 (64 * vc)] ++ beBytes 2 n ++ [0, 1, 0, 0] ++ List.replicate n (0 : Byte)
    let good := fun (x : List Byte) (t : Nat) => byteAt x 0 == t && vcOf t == some (byteAt x 1 / 64) && beNat (slice x 2 2) == (x.drop 8).length
      && twinLenOk t (x.drop 8).length && decide (8 ≤ x.length)
    mayLead s = true ∧ twinMate s = false ∧ mayLead mate = true ∧ twinMate mate = true
      ∧ mate.fld W.TWL TWL_CTRL 19 16 ≤ mate.twin.misses
      ∧ ({ mate with twin := { mate.twin with active := true, fence := 2 } } : State).twin.fence = 2 ∧ twinUp up = true ∧ twinUp s = false
      ∧ good (m 1 0 16) 1 = true ∧ good (m 2 3 20) 2 = true ∧ good (m 3 3 28) 3 = true ∧ good (m 4 3 48) 4 = true ∧ good (m 5 1 16) 5 = true
      ∧ good (m 6 1 20) 6 = true ∧ good (m 7 2 8) 7 = true ∧ good (m 1 0 15) 1 = false
      ∧ up.twin.reqs.find? (·.init == .crown) = some ⟨.crown, false, 0x40000000, 0⟩
      ∧ bridgeAddrOk s 0x40000000 = true ∧ bridgeAddrOk s 0x40000002 = false ∧ up.emt.queue.length < 256
      ∧ readsPlain s .crown W.TWL TWL_BR_DATA = true := by decide

/-- Capture: a ring in each state with a frame at port 58, a record that ends a trigger's extent, the ledger with an event. -/
theorem witness_capture :
    let s := on W.CAP (((queued 58 Tag.zero (List.replicate 8 1) State.reset).setReg W.CAP CAP_PORTRING 8).setReg W.CAP (ringReg CAP_RCFG 0) (2 ^ 31 + 2 ^ 25 + 2 ^ 15))
    let run := fun (x : RingState) => s.setRing 0 { Ring.idle with state := x }
    ((List.range 8).findSome? fun k => s.headOf (8 * 58 + (7 - k))).map (fun e => portRing s (frameOf e.1 e.2).tag.srcPort) = some 8
      ∧ s.enabled W.CAP = true ∧ ((run .running).ring 0).writing = none ∧ ((run .triggered).ring 0).state = .triggered ∧ ringSize s 0 = 2 ^ 20
      ∧ recordCost (run .running) 0 80 ≤ ringPost s 0 ∧ portRing State.reset 0 < 8
      ∧ ((s.setRing 0 { Ring.idle with state := .triggered, writing := some (0, 80, true) }).ring 0).cmds = []
      ∧ ((s.setRing 7 { Ring.idle with state := .frozen, sealing := true }).ring 7).sealing = true ∧ takes s .crown W.CAP CAP_CMD = true
      ∧ readsPlain s .crown W.LDG LDG_EVT_INFO = true ∧ s.ldg.events = []
      ∧ ({ s with ldg := { s.ldg with events := [⟨5, List.replicate 36 0⟩] } } : State).ldg.events ≠ [] := by decide

/-! ### Witnesses of the clauses about instants, safe points and second cases -/

/-- A device time of `ns` on the main die. -/
def at_ns (ns : Nat) (s : State) : State := s.modTms fun t => { t with acc := ns * 2 ^ 32 }

/-- Updates: a window at its safe point and one that waits for it; one that applies at once; a held shared update at its limit. -/
theorem witness_safe_points :
    safePoint State.reset W.BAL = true ∧ safePoint (State.reset.setFlag W.BAL BAL_VSTAT 1 true) W.BAL = false
      ∧ safePoint (State.reset.setDial 3 { Dial.idle with slot := 1 }) (diaWin 3) = false ∧ appliesAtOnce State.reset (shcWin 1) = true
      ∧ appliesAtOnce State.reset W.BAL = false ∧ holdsWrite State.reset .crown = false
      ∧ ({ State.reset with shared := { State.reset.shared with hold := true, rounds := 0 } } : State).shared.rounds = 0
      ∧ (State.reset.win W.SYS).svc ≠ .on ∧ State.reset.flag W.SYS BLK_CTRL 2 = false := by decide

/-- Regulation: the fifteenth period at VMAX, a queued voltage, PACE_LOW that rises with the bus free and with it busy. -/
theorem witness_regulation_waits :
    let s := (State.reset.setFlag W.BAL BAL_REG_CTRL 31 true).setReg W.BAL BAL_THRESH (900 * 2 ^ 16)
    let q := (s.setFlag W.BAL BAL_VSTAT 1 true).setFld W.BAL BAL_VSTAT 31 16 800
    let b : State := { q with bal := { q.bal with queue := [810, 820], cmdMv := 800, vmaxPeriods := 15 } }
    b.bal.queue = 810 :: [820] ∧ b.bal.raise = false ∧ b.bal.cmdMv < 2 ^ 16 ∧ b.bal.vmaxPeriods = 15 ∧ 899 < s.fld W.BAL BAL_THRESH 31 16
      ∧ (s.source W.BAL 3).live = false ∧ s.flag W.BAL BAL_VSTAT 1 = false ∧ q.flag W.BAL BAL_VSTAT 1 = true
      ∧ (s.win W.BAL).resetting = false := by decide

/-- Resequencer timers: due and not; a copy the resequencer ended; a service train asked for and not. -/
theorem witness_resequencer_due :
    let c : Cell := ⟨7, 0, 0, 1, 1, 2, 5, 4, 4⟩
    let p : Pair := ⟨6, 1, 2, 4, [{ c with cseq := 6 }], 3, some 3, none, false⟩
    pairDue State.reset p = true ∧ pairDue State.reset { p with timer := 2 } = false ∧ pairDue State.reset { p with broken := true } = false
      ∧ (∀ x ∈ p.held, x.cseq ≠ (p.expect + 1) % 65536) ∧ (1 : Nat) < 3 ∧ pairDue State.reset Pair.idle = false
      ∧ (7, 51) ∈ (State.reset.modPond fun q => { q with ended := [(7, 51)] }).pond.ended ∧ State.reset.pond.voq = [] := by decide

/-- Admission: an engine return with its floor, Doze that refuses, an Inlet that is alive and one whose frame is gone. -/
theorem witness_admission_cases :
    let a : Arrival := ⟨3, 10, Tag.zero.setPasses 1, [1, 2], true, some (2 ^ 40), .port 33⟩
    let doze : State := { State.reset with pwr := { State.reset.pwr with state := .doze } }
    let s := (State.reset.setInlet 5 { Inlet.empty with fid := some 3 }).modPond fun p => { p with arrivals := [{ a with dest := some 0 }] }
    engFloorOf a = some 0 ∧ engFloorOf { a with fp := 9 } = none ∧ 0 < State.reset.engFree 0 ∧ dozeRefuses doze a (2 ^ 40) = true
      ∧ dozeRefuses doze a (2 ^ 60) = false ∧ inDead s 5 = false
      ∧ inDead (State.reset.setInlet 5 { Inlet.empty with fid := some 3 }) 5 = true := by decide

/-- A cell of a bank that is migrated, and a Dial's silent, asking and frozen requesters. -/
theorem witness_dial_requesters :
    dialSilent State.reset 0 24 = false ∧ dialSilent State.reset 0 25 = true ∧ dialSilent State.reset 0 16 = true
      ∧ dialSilent (on (fabWin 0) State.reset) 0 16 = false ∧ dialSilent State.reset 4 8 = false ∧ dialSilent State.reset 4 9 = true
      ∧ ((State.reset.setSource (diaWin 2) 4 { Source.idle with live := true }).source (diaWin 2) 4).live = true
      ∧ cellErrOk ⟨0, .uncorrectable, 255, 63⟩ = true := by decide

/-- Time: holdover that is due and not, a limit that is reached and not, a reference trigger that is due and not. -/
theorem witness_time_due :
    let s := State.reset.setFld W.TMS TMS_HOLD_CFG 31 16 1
    let k := fun (n : Nat) => s.modTms fun t => { t with kickTicks := n }
    let r := at_ns 2000000 ((State.reset.setFlag W.TMS TMS_REF 31 true).setFld W.TMS TMS_REF 14 0 1)
    s.fld W.TMS TMS_HOLD_CFG 31 16 * 500000 ≤ (k 500000).tms.kickTicks ∧ (k 499999).tms.kickTicks < s.fld W.TMS TMS_HOLD_CFG 31 16 * 500000
      ∧ ¬(State.reset.reg W.TMS TMS_HOLD_LIMIT ≠ 0) ∧ refDue State.reset 24 = none
      ∧ (refInstant (r.setReg W.TMS (TMS_REF + 4 * 24) (r.reg W.TMS TMS_REF)) 24 2000000).isSome = true := by decide

/-- Tables: a slot found bad, a hardware flush, a pending gate set before and at its instant. -/
theorem witness_table_cases :
    let k := 0x020380FF120000000000000000000000
    let c : GateCfg := ⟨BitVec.ofNat 32 (2 ^ 31), 100, 0, 0, 0, 1000⟩
    let s := State.reset.setGate 255 { Gate.zero with pend := some c, pendAt := 1000 }
    slotAddr 0 (bucketOf State.reset 0 k) 0 ∈ candidates State.reset k ∧ hwFlushing (State.reset.modEmt fun e => { e with flush := some (3, false, false) }) = true
      ∧ hwFlushing (State.reset.modEmt fun e => { e with flush := some (3, false, true) }) = false
      ∧ (s.gate 255).pend = some c ∧ (at_ns 999 s).now < (s.gate 255).pendAt ∧ (s.gate 255).pendAt ≤ (at_ns 1000 s).now
      ∧ (BadEntry.gcl 4095) ∈ [BadEntry.gcl 4095] ∧ 0 < c.d1.toNat := by decide

/-- Sessions, keys and the egress pipeline: a timer that is due and not, a loaded key that is kept, replaced and not there. -/
theorem witness_timers_and_keys :
    let x : Session := ⟨63, 0, false, 0, 0, 0, false, false, .bam, 0, 0, 14, 2, [], 2, 2, none, none, 0, false⟩
    let s := (State.reset.setFld W.SGE SGE_TP_T12 15 0 750)
    let run := (on W.SGE s).setFlag W.SGE SGE_UC_STAT 31 true
    let y : Loaded := ⟨5, [1], 0⟩
    let l := fun (ns : Nat) => at_ns ns (State.reset.modAue fun a => { a with cores := kvSet none a.cores 1 (some y) })
    sessLimit s x = 750 ∧ x.since + sessLimit s x * 1000000 ≤ (at_ns 750000000 run).vault
      ∧ (at_ns 749999999 run).vault < x.since + sessLimit s x * 1000000 ∧ sgeRunning run = true ∧ sgeRunning s = false
      ∧ kvGet none (l 0).aue.cores 1 = some y ∧ (l 100000).now ≤ y.last + 100000 ∧ y.last + 100000 < (l 100001).now
      ∧ kvGet none State.reset.aue.cores 1 = none ∧ genFits 0 8 = true ∧ genFits 0 9 = false := by decide

/-- CAN: a controller in loopback with its own frame on the bus; a transmitter that drives and one that is off. -/
theorem witness_can_drive :
    let b := { slot4 3 with committed := true }
    let s := (canOn 24 5 State.reset).modCx 24 fun x => { x with slots := [b] }
    loops s 24 = true ∧ loops (canOn 24 1 State.reset) 24 = false ∧ drives s 24 = true ∧ drives State.reset 0 = false
      ∧ drives (canOn 0 5 State.reset) 0 = true := by decide

/-- Shore requests: one that waits behind a write, one that has ended and one that is awaited. -/
theorem witness_shore_waits :
    let s := linksUp State.reset
    let w : Access := ⟨.crown, winAddr (cxWin 0) 0x100, 32, true, false, 0⟩
    let req := fun (e : Bool) => s.modBridge 0 fun b => { b with reqs := [⟨w, e⟩] }
    requestWaits (req false) 0 w = true ∧ requestWaits s 0 w = false ∧ requestWaits (req false) 0 { w with write := false } = false
      ∧ holdsWrite (req false) .crown = true ∧ holdsWrite (req true) .crown = false
      ∧ ((req true).bridge 0).reqs.find? (reqOf .crown true) = some ⟨w, true⟩ ∧ ((req true).bridge 0).reqs.find? (reqOf .crown false) = none
      ∧ readsOut (req false) 0 .crown = 0 := by decide

/-- Ethernet: a schedule before and at its instant, a FRER stream before and at its reset time, a head frame by cut-through. -/
theorem witness_ethernet_instants :
    let x : Frer := { Frer.zero with d0 := BitVec.ofNat 32 (2 ^ 31 + 2 ^ 29 + 1), timer := some 5 }
    let s := fun (ns : Nat) => at_ns ns (setFrer 511 x (on W.EMC State.reset))
    let q := queued 51 (Tag.zero.setCt true) (List.replicate 64 0) State.reset
    let ct : State := { q with pond := { q.pond with frames := q.pond.frames.map fun f =>
      { f with whole := false, copies := [⟨51, 1, false, true, false⟩] } } }
    (s 1000004).now < 5 + wf x.d0 15 0 * 1000000 ∧ 5 + wf x.d0 15 0 * 1000000 ≤ (s 1000005).now ∧ (s 0).frerOf 511 = x
      ∧ (ctHead ct (8 * 51)).isSome = true ∧ ct.headOf (8 * 51) = none ∧ wakePattern State.reset 8 [] = none := by decide

/-- Outlets: the head frame young, at the limit and older; vault seals due and not; a block that is full. -/
theorem witness_ages :
    let s := fun (ns : Nat) => at_ns ns (State.reset.setOutlet 0 { Outlet.empty with frames := [7], since := [0] })
    let v := (State.reset.setFld W.VLT VLT_SEAL_CFG 15 0 1).modVlt fun v => { v with records := some (List.replicate 3 (List.replicate 64 0)) }
    let due := fun (u : State) => ((openRecords u)[2]?).any fun r => decide (beNat (slice r 12 8) + u.fld W.VLT VLT_SEAL_CFG 15 0 * 1000000 ≤ u.vault)
    ((s 0).outlet 0).since.head? = some 0 ∧ due (at_ns 1000000 v) = true ∧ due (at_ns 999999 v) = false
      ∧ 62 ≤ (openRecords (v.modVlt fun v => { v with records := some (List.replicate 62 []) })).length := by decide

/-- The watchdog: half of TIMEOUT, all of it and less; the output levels in reset and in Sleep. -/
theorem witness_watchdog :
    let s := (State.reset.setFlag W.CRN CRN_WDT 31 true).setFld W.CRN CRN_WDT 15 0 2
    let t := fun (n : Nat) => s.modCrn fun c => { c with wdtTicks := n }
    wdtLimit s = 1000000 ∧ wdtLimit (t 500000) ≤ 2 * (t 500000).crn.wdtTicks ∧ 2 * (t 499999).crn.wdtTicks < wdtLimit (t 499999)
      ∧ wdtLimit (t 1000000) ≤ (t 1000000).crn.wdtTicks ∧ (t 999999).crn.wdtTicks < wdtLimit (t 999999)
      ∧ ballLevel (after .porstNAssert State.reset) (.ctxd 31) = .high
      ∧ ballLevel ({ State.reset with pwr := { State.reset.pwr with state := .sleep } } : State) .fence = .floating := by decide

/-! ### Published vectors of the algorithms (FIPS 180-4, RFC 4493) -/

/-- SHA-256 of "abc". -/
theorem test_sha256_abc : sha256 [0x61, 0x62, 0x63] = beBytes 32 0xBA7816BF8F01CFEA414140DE5DAE2223B00361A396177A9CB410FF61F20015AD := by
  decide

/-- AES-CMAC of the empty message under the key of RFC 4493. -/
theorem test_cmac_empty : aesCmac (beBytes 16 0x2B7E151628AED2A6ABF7158809CF4F3C) [] = beBytes 16 0xBB1D6929E95937287FA37D129B756746 := by
  decide


end Sys2Proof.Tests
end

section
/-! PROOFS. The register file at reset, accesses that end with a bus error, and what a stored write does through the views of a
window. -/
namespace Sys2Proof.Proofs
open Sys2Proof Sys2Proof.Machine Sys2Proof.Machine.Reg

/-! ### Registers at reset (R14, R37, R63) -/

theorem reg_reset (w off : Nat) : State.reset.reg w off = resetOf w off % 2 ^ 32 := BitVec.toNat_ofNat ..

theorem shadow_reset (w off : Nat) : State.reset.shadow w off = resetOf w off % 2 ^ 32 := BitVec.toNat_ofNat ..

set_option maxRecDepth 4000 in
theorem blkOf_of_mem_allWindows : ∀ w ∈ allWindows, (blkOf w).isSome := by decide

/-- WIN_ACCESS is a row of the common header, whose reset value admits the Crown alone. -/
theorem resetOf_winAccess {w : Nat} (h : (blkOf w).isSome) : resetOf w WIN_ACCESS = 1 := by
  have hrow : ∃ r, rowAt w WIN_ACCESS = some r ∧ r.reset = 1 := by
    obtain ⟨b, hb⟩ := Option.isSome_iff_exists.mp h
    exact ⟨_, by rw [rowAt, hb]; rfl, rfl⟩
  obtain ⟨r, hr, hreset⟩ := hrow
  simp [resetOf, hr, hreset, WIN_ACCESS, BLK_ID, BLK_CAPS, BLK_CTRL, FLT_SRCBASE]

/-- Settles O8: the register file and the shadows are empty at reset, so every read gives `resetOf`. -/
theorem registersAtReset : Obligations.RegistersAtReset := by
  refine ⟨fun w off => ⟨reg_reset w off, shadow_reset w off⟩, fun w hw => ?_, ?_, fun _ => rfl, fun _ _ => rfl⟩
  · simp [reg_reset, resetOf_winAccess (blkOf_of_mem_allWindows w hw)]
  · rw [reg_reset]
    decide

/-! ### The stored write (R14, R42) -/

section
variable (w off data : Nat) (r : RegRow) (s : State)

theorem storeRow_reg_same :
    (storeRow w off data r s).reg w off % 2 ^ 32 = (if r.rw = 0 ∧ r.w1c = 0 then s.reg w off
        else clearMask (mixBits r.rw (s.reg w off) data) (data &&& r.w1c)) % 2 ^ 32 := by
  unfold storeRow
  by_cases hlive : r.rw = 0 ∧ r.w1c = 0
  · by_cases hsh : r.sh = 0 <;> simp [hlive, hsh]
  · by_cases hsh : r.sh = 0 <;> simp [hlive, hsh]

theorem storeRow_shadow_same :
    (storeRow w off data r s).shadow w off % 2 ^ 32
      = (if r.sh = 0 then s.shadow w off else mixBits r.sh (s.shadow w off) data) % 2 ^ 32 := by
  unfold storeRow
  by_cases hsh : r.sh = 0
  · by_cases hlive : r.rw = 0 ∧ r.w1c = 0 <;> simp [hlive, hsh]
  · by_cases hlive : r.rw = 0 ∧ r.w1c = 0 <;> simp [hlive, hsh]

theorem storeRow_other {w' o : Nat} (h : regKey w' o ≠ regKey w off) :
    (storeRow w off data r s).reg w' o = s.reg w' o ∧ (storeRow w off data r s).shadow w' o = s.shadow w' o := by
  unfold storeRow
  by_cases hlive : r.rw = 0 ∧ r.w1c = 0 <;> by_cases hsh : r.sh = 0 <;>
    simp [hlive, hsh, reg_setReg_other, shadow_setShadow_other, h]

theorem storeRow_frame : { storeRow w off data r s with regs := s.regs, shad := s.shad } = s := by
  unfold storeRow
  dsimp only
  split <;> split <;> rfl

end

/-- Settles O12: a stored write is at most one register write and one shadow write, both at its own key. -/
theorem storedRegisterFrame : Obligations.StoredRegisterFrame := fun w off data r s =>
  ⟨storeRow_reg_same w off data r s, storeRow_shadow_same w off data r s,
    fun _ _ h => storeRow_other w off data r s h, storeRow_frame w off data r s⟩

/-! ### Writes through the four views (R14, R42, R55) -/

/-- The blocks whose registers beyond the header have no effect of their own when they are written. -/
theorem writeReg_stores {w off : Nat} (hb : blkOf w ∈ [some .SHB, some .GPIO, some .TRX, some .T1L]) (ho : 0x100 ≤ off)
    (data : Nat) (i : Initiator) (a : Aux) (r : RegRow) (s : State) :
    writeReg w off data i a r s = storeRow w off data r s := by
  have hoff : ¬ off < 0x100 := by omega
  simp only [List.mem_cons, List.not_mem_nil, or_false] at hb
  rcases hb with hb | hb | hb | hb <;> simp only [writeReg, hb, hoff, if_false, writeShore]

/-- An alias write that its register takes acts on the RW bits of the live set and the SH bits of the shadow. -/
theorem takes_alias {i : Initiator} {w off view : Nat} {d : Word} {s : State} {r : RegRow}
    (hv : view = 2 ∨ view = 4 ∨ view = 6) (ho : off < 0x2000) (h : takes s i w (view * 0x2000 + off) = true)
    (hr : rowAt w off = some r) (hg : r.gd = 0) (hk : r.kind = .plain) (a : Aux) :
    regWrite i w (view * 0x2000 + off) d.toNat a s
      = if r.rw ||| r.sh = 0 then arrived i w s
        else writeReg w off
          (aliasValue view ((s.reg w off &&& r.rw) ||| (s.shadow w off &&& r.sh)) d.toNat (r.rw ||| r.sh)) i a r
          (arrived i w s) := by
  simp only [takes, Bool.and_eq_true, Option.isNone_iff_eq_none, Bool.not_eq_true'] at h
  obtain ⟨⟨hreach, harm⟩, hpend⟩ := h
  have hdep : departs w (crossed i w s) = crossed i w s := departs_unarmed (by simp [harm])
  have hview : viewOf (view * 0x2000 + off) = view := by unfold viewOf; omega
  have hbase : (view * 0x2000 + off) % 0x2000 = off := by omega
  have hblk : shBlocked (crossed i w s) w r = false := by simp [shBlocked, hpend]
  have hreg : (crossed i w s).reg w off = s.reg w off := crossed_reg i w w off s (Decidable.em (dieOf w = 0)).symm ho
  have hd : (BitVec.ofNat 64 d.toNat).toNat % 2 ^ 32 = d.toNat := by
    have := d.isLt
    rw [BitVec.toNat_ofNat]
    omega
  have hwin : ∀ acc : Access, winWrite acc w (view * 0x2000 + off) a (crossed i w s)
      = aliasWrite acc w off view a (crossed i w s) := by
    intro acc
    rcases hv with rfl | rfl | rfl <;> simp only [winWrite, hview, hbase, hdep]
  rw [regWrite_reaches hreach, hwin]
  simp only [aliasWrite, hr, hg, hk, hblk, hreg, hd, crossed_shadow, ne_eq, not_true_eq_false, or_false, if_false,
    Bool.false_eq_true]
  rfl

/-- REGISTER_WRITE by a main-die initiator names the register by its address. -/
theorem exec_registerWrite_winAddr {i : Initiator} (hi : shcOf i = none) (w off : Nat) (d : Word) (e : Ecc) (s : State) :
    exec (.registerWrite i (winAddr w off) 32 (d.setWidth 64) e) s
      = .next (complete s (regWrite i w off d.toNat { Aux.plain with ecc := e } s)) := by
  have haddr : addrFor i w off = winAddr w off := by simp [addrFor, hi]
  have hdata : d.setWidth 64 = BitVec.ofNat 64 d.toNat := BitVec.eq_of_toNat_eq (by simp)
  rw [regWrite, haddr, ← hdata]
  rfl

/-- Settles O11: a write of the base view meets `takes_write`, one of an alias view `takes_alias`; both end in `storeRow`. -/
theorem writesStoreAsTheRegisterMapSays : Obligations.WritesStoreAsTheRegisterMapSays := by
  intro i w off r d e s hb hlo hhi hr hg hk old m stored masked
  have hstored : ∀ (v : Nat) (a : Aux), writeReg w off v i a r (arrived i w s) = stored v :=
    fun v a => writeReg_stores hb hlo v i a r _
  have hbase : off % 0x2000 = off := Nat.mod_eq_of_lt hhi
  have halias : ∀ c view, exec c s = .next (complete s (regWrite i w (view * 0x2000 + off % 0x2000) d.toNat Aux.plain s)) →
      view = 2 ∨ view = 4 ∨ view = 6 → takes s i w (view * 0x2000 + off) = true →
      Effect c s (masked (aliasValue view old d.toNat m)) := by
    intro c view hc hv ht
    rw [Effect, hc, hbase, takes_alias hv hhi ht hr hg hk, hstored]
  refine ⟨fun ht hi => ?_, fun ht => ?_, fun ht => ?_, fun ht => ?_⟩
  · have hi : shcOf i = none := by simpa using hi
    have hd : d.toNat % 2 ^ 32 = d.toNat := Nat.mod_eq_of_lt d.isLt
    rw [Effect, exec_registerWrite_winAddr hi, takes_write ht hhi hr hg (by simp [hk]), hd, hstored]
  · exact halias _ 2 rfl (by decide) ht
  · exact halias _ 4 rfl (by decide) ht
  · exact halias _ 6 rfl (by decide) ht

/-! ### Accesses that reach no register (R6, R35, R61, R63) -/

/-- What the bus answers a main-die initiator with an error: the access is logged. -/
theorem busErr_main {acc : Access} (h : shcOf acc.init = none) (reason loc : Nat) (s : State) :
    busErr acc reason loc s
      = logBusErr ⟨acc.addr, reason, acc.init.code, acc.spec, acc.write, loc⟩ { s with bus := ⟨0, reason⟩ } := by
  simp only [busErr, h]
  rfl

/-- With no write outstanding, an access of a main-die initiator goes straight to its target. -/
theorem access_main {acc : Access} {s : State} (hi : shcOf acc.init = none) (hm : mainRuns s = true)
    (hh : holdsWrite s acc.init = false) (a : Aux) : access acc a s = mainAccess acc a false s := by
  simp [access, initRuns, reach, hi, hm, hh]

theorem mainAccess_unmapped {acc : Access} {w : Nat} (hw : windowOf acc.addr = some w) (hb : (blkOf w).isNone)
    (a : Aux) (sent : Bool) (s : State) : mainAccess acc a sent s = busErr acc 1 noTarget s := by
  simp only [mainAccess, hw, hb, if_true]

theorem mainAccess_window {acc : Access} {w : Nat} (hw : windowOf acc.addr = some w) (hb : (blkOf w).isSome)
    (hd : dieOf w = 0) (a : Aux) (sent : Bool) (s : State) :
    mainAccess acc a sent s = winAccess acc w (acc.addr % 0x10000) a s := by
  have hn : (blkOf w).isNone = false := by simpa using hb
  simp only [mainAccess, hw, hn, hd, if_true, Bool.false_eq_true, if_false]

theorem winAccess_size {acc : Access} {w off : Nat} (h : sizeOk w off acc.size = false) (a : Aux) (s : State) :
    winAccess acc w off a s = busErr acc 3 (locSelf w) s := by
  simp [winAccess, h]

theorem winAccess_refused {acc : Access} {w off : Nat} {s : State} (hz : sizeOk w off acc.size = true)
    (hq : (s.win w).resetting = false) (had : admitted s acc.init w off acc.write = false) (a : Aux) :
    winAccess acc w off a s = busErr acc 2 (locSelf w) s := by
  simp [winAccess, hz, hq, had]

/-- Without its WIN_ACCESS bit an initiator other than the Crown is admitted nowhere in the window. -/
theorem not_admitted_of_ne_crown {i : Initiator} {w : Nat} {s : State} (hi : i ≠ .crown)
    (hb : ∀ k, accessBit i w = some k → s.flag w WIN_ACCESS k = false) (off : Nat) (write : Bool) :
    admitted s i w off write = false := by
  have hbit : (accessBit i w).any (fun k => s.flag w WIN_ACCESS k) = false := by
    cases hk : accessBit i w with
    | none => rfl
    | some k => simpa using hb k hk
  simp [admitted, hbit, hi]

/-- Without its WIN_ACCESS bit the Crown writes WIN_ACCESS alone. -/
theorem crown_write_not_admitted {w off : Nat} {s : State}
    (hb : ∀ k, accessBit .crown w = some k → s.flag w WIN_ACCESS k = false) (ho : off % 0x2000 ≠ WIN_ACCESS) :
    admitted s .crown w off true = false := by
  have hbit := hb 0 rfl
  simp [admitted, accessBit, hbit, ho]

/-- A register write that the bus answers with an error. -/
theorem registerWrite_fails {i : Initiator} {addr size : Nat} {data : DWord} {e : Ecc} {s : State} {reason loc : Nat}
    (hi : shcOf i = none) (hm : mainRuns s = true) (hh : holdsWrite s i = false)
    (h : ∀ a, mainAccess ⟨i, addr, size, true, false, data⟩ a false s = busErr ⟨i, addr, size, true, false, data⟩ reason loc s) :
    Effect (.registerWrite i addr size data e) s
      (logBusErr ⟨addr, reason, i.code, false, true, loc⟩ { s with bus := ⟨0, reason⟩ }) := by
  have hx : exec (.registerWrite i addr size data e) s
      = .next (complete s (access ⟨i, addr, size, true, false, data⟩ { Aux.plain with ecc := e } s)) := rfl
  rw [Effect, hx, access_main hi hm hh, h, busErr_main hi]

/-- A speculative read that the bus answers with an error. -/
theorem speculativeRead_fails {i : Initiator} {addr size : Nat} {e : Ecc} {s : State} {reason loc : Nat}
    (hi : shcOf i = none) (hm : mainRuns s = true) (hh : holdsWrite s i = false)
    (h : ∀ a, mainAccess ⟨i, addr, size, false, true, 0⟩ a false s = busErr ⟨i, addr, size, false, true, 0⟩ reason loc s) :
    Effect (.speculativeRead i addr size e) s
      (logBusErr ⟨addr, reason, i.code, true, false, loc⟩ { s with bus := ⟨0, reason⟩ }) := by
  have hx : exec (.speculativeRead i addr size e) s
      = .next (complete s (access ⟨i, addr, size, false, true, 0⟩ { Aux.plain with ecc := e } s)) := rfl
  rw [Effect, hx, access_main hi hm hh, h, busErr_main hi]

/-- Settles O9: each of the three checks stands before the register's own view, in the order window, size, WIN_ACCESS. -/
theorem accessesThatReachNoRegisterEndWithBusErrors : Obligations.AccessesThatReachNoRegisterEndWithBusErrors := by
  intro i addr size data e s w hi hm hh hw hd
  have hi : shcOf i = none := by simpa using hi
  refine ⟨fun hb => ?_, fun hb hz => ?_, fun hb hz hq hbit => ⟨fun hne => ?_, ?_⟩⟩
  · exact ⟨registerWrite_fails hi hm hh fun a => mainAccess_unmapped hw hb a false s,
      speculativeRead_fails hi hm hh fun a => mainAccess_unmapped hw hb a false s⟩
  · exact ⟨registerWrite_fails hi hm hh fun a => (mainAccess_window hw hb hd a false s).trans (winAccess_size hz a s),
      speculativeRead_fails hi hm hh fun a => (mainAccess_window hw hb hd a false s).trans (winAccess_size hz a s)⟩
  · have hno := not_admitted_of_ne_crown hne hbit (addr % 0x10000)
    exact ⟨registerWrite_fails hi hm hh fun a =>
        (mainAccess_window hw hb hd a false s).trans (winAccess_refused hz hq (hno true) a),
      speculativeRead_fails hi hm hh fun a =>
        (mainAccess_window hw hb hd a false s).trans (winAccess_refused hz hq (hno false) a)⟩
  · rintro rfl ho
    have hno : admitted s .crown w (addr % 0x10000) true = false :=
      crown_write_not_admitted hbit (by rwa [Nat.mod_mod_of_dvd addr (by decide : 0x2000 ∣ 0x10000)])
    exact registerWrite_fails hi hm hh fun a =>
      (mainAccess_window hw hb hd a false s).trans (winAccess_refused hz hq hno a)

end Sys2Proof.Proofs
end

section
/-! PROOFS. The frame of the cancel command fails (O60).

`cancelSlot` takes any channel number. The window of channel 16,360 would stand in the DRAM, so its command writes memory, which the frame
says it leaves. `Does` asks only that SOME state with the memory as it was comes to the same end as the command, and a waiting access
could write the word in its place. The counterexample excludes that: a chip reset in the command's first round takes every waiting access
away, and its record names a source that does not exist (a ghost). Only a condition that waits before that round can leave this record, so
whatever state is taken, either the reset came before anything could write the word, or the record is another.

The proof follows the few parts of the state that matter (`Core`) through all that `complete` does. -/
namespace Sys2Proof.Proofs.LastReset
open Sys2Proof Sys2Proof.Machine Sys2Proof.Machine.Reg
variable {s : State}

/-! ### The core of a state -/

/-- A condition of a source that its window does not have. `State.post` drops such a condition, so none ever joins those that wait. -/
def ghost (p : Post) : Bool := decide (nsrc p.win ≤ p.src)

/-- An access of the main die to an address that no window holds. -/
def memBound (a : Access) : Bool := (shcOf a.init).isNone && (windowOf a.addr).isNone

/-- The part of the state that the argument follows: the ghosts that wait, the record of the last reset, memory, the straps, the accesses
to memory that wait, the TABLE_IMAGE, and the sources of the main die (by their keys) with a severity above 3. -/
structure Core where
  ghosts : List Post
  reason : Nat
  flt : Nat
  mem : KV Byte
  straps : Nat
  held : List Access
  table : Option TableRun
  wild : Nat → Bool

/-- The core of a state; what almost every function of the model leaves as it was. -/
def core (s : State) : Core where
  ghosts := s.posts.filter ghost
  reason := s.reg W.SYS SYS_RST_REASON
  flt := s.reg W.SYS SYS_RST_FLT
  mem := s.mem
  straps := s.straps
  held := (s.deferred.map (·.acc) ++ s.xsp.waiting).filter memBound
  table := s.crn.table
  wild := fun k => mainWin (k / 32) && decide (3 < (kvGet Source.idle s.sources k).sev)

@[simp] theorem core_ite {p : Prop} [Decidable p] (a b : State) : core (if p then a else b) = if p then core a else core b := by
  split <;> rfl

theorem core_foldl_mem {α : Type} {f : State → α → State} {l : List α} (h : ∀ x ∈ l, ∀ s, core (f s x) = core s) :
    core (l.foldl f s) = core s := by
  induction l generalizing s with
  | nil => rfl
  | cons x l ih => rw [List.foldl_cons, ih fun y hy => h y (List.mem_cons_of_mem x hy), h x List.mem_cons_self]

@[simp] theorem core_foldl {α : Type} {f : State → α → State} (h : ∀ s x, core (f s x) = core s) (l : List α) :
    core (l.foldl f s) = core s := by
  induction l generalizing s with
  | nil => rfl
  | cons x l ih => rw [List.foldl_cons, ih, h]

/-! The parts of the state outside the core. -/

@[simp] theorem core_with_pending (x : List Instr) : core { s with pending := x } = core s := rfl
@[simp] theorem core_with_shad (x : KV Word) : core { s with shad := x } = core s := rfl
@[simp] theorem core_with_wins (x : KV Win) : core { s with wins := x } = core s := rfl
@[simp] theorem core_with_bus (x : BusAnswer) : core { s with bus := x } = core s := rfl
@[simp] theorem core_with_shared (x : Shared) : core { s with shared := x } = core s := rfl
@[simp] theorem core_with_icxLog (x : List BusErr) : core { s with icxLog := x } = core s := rfl
@[simp] theorem core_with_icxLost (x : Nat) : core { s with icxLost := x } = core s := rfl
@[simp] theorem core_with_errPin (x : ErrPin) : core { s with errPin := x } = core s := rfl
@[simp] theorem core_with_bal (x : Bal) : core { s with bal := x } = core s := rfl
@[simp] theorem core_with_trains (x : KV Train) : core { s with trains := x } = core s := rfl
@[simp] theorem core_with_pairs (x : KV Pair) : core { s with pairs := x } = core s := rfl
@[simp] theorem core_with_rsqPeak (x : KV Nat) : core { s with rsqPeak := x } = core s := rfl
@[simp] theorem core_with_pond (x : Pond) : core { s with pond := x } = core s := rfl
@[simp] theorem core_with_dials (x : KV Dial) : core { s with dials := x } = core s := rfl
@[simp] theorem core_with_tms (x : Tms) : core { s with tms := x } = core s := rfl
@[simp] theorem core_with_ldg (x : Ldg) : core { s with ldg := x } = core s := rfl
@[simp] theorem core_with_rings (x : KV Ring) : core { s with rings := x } = core s := rfl
@[simp] theorem core_with_emt (x : Emt) : core { s with emt := x } = core s := rfl
@[simp] theorem core_with_wct (x : KV WctEntry) : core { s with wct := x } = core s := rfl
@[simp] theorem core_with_pset (x : KV DWord) : core { s with pset := x } = core s := rfl
@[simp] theorem core_with_pol (x : Pol) : core { s with pol := x } = core s := rfl
@[simp] theorem core_with_cdm (x : KV Cadence) : core { s with cdm := x } = core s := rfl
@[simp] theorem core_with_pwr (x : Pwr) : core { s with pwr := x } = core s := rfl
@[simp] theorem core_with_shores (x : KV Shore) : core { s with shores := x } = core s := rfl
@[simp] theorem core_with_nor (x : KV Byte) : core { s with nor := x } = core s := rfl
@[simp] theorem core_with_sge (x : Sge) : core { s with sge := x } = core s := rfl
@[simp] theorem core_with_fuses (x : Fuses) : core { s with fuses := x } = core s := rfl
@[simp] theorem core_with_jwl (x : Jewel) : core { s with jwl := x } = core s := rfl
@[simp] theorem core_with_trnReqs (x : Nat) : core { s with trnReqs := x } = core s := rfl
@[simp] theorem core_with_vlt (x : Vault) : core { s with vlt := x } = core s := rfl
@[simp] theorem core_with_aue (x : Aue) : core { s with aue := x } = core s := rfl
@[simp] theorem core_with_bridges (x : KV Bridge) : core { s with bridges := x } = core s := rfl
@[simp] theorem core_with_trx (x : KV Trx) : core { s with trx := x } = core s := rfl
@[simp] theorem core_with_t1l (x : KV T1l) : core { s with t1l := x } = core s := rfl
@[simp] theorem core_with_cx (x : KV Cx) : core { s with cx := x } = core s := rfl
@[simp] theorem core_with_nm (x : KV NmUnit) : core { s with nm := x } = core s := rfl
@[simp] theorem core_with_nmReports (x : List Nat) : core { s with nmReports := x } = core s := rfl
@[simp] theorem core_with_s2s (x : Bool) : core { s with s2s := x } = core s := rfl
@[simp] theorem core_with_emc (x : KV Emc) : core { s with emc := x } = core s := rfl
@[simp] theorem core_with_frer (x : KV Frer) : core { s with frer := x } = core s := rfl
@[simp] theorem core_with_flow (x : KV Nat) : core { s with flow := x } = core s := rfl
@[simp] theorem core_with_wakeFids (x : List Nat) : core { s with wakeFids := x } = core s := rfl
@[simp] theorem core_with_outlets (x : KV Outlet) : core { s with outlets := x } = core s := rfl
@[simp] theorem core_with_inlets (x : KV Inlet) : core { s with inlets := x } = core s := rfl
@[simp] theorem core_with_irts (x : KV Irt) : core { s with irts := x } = core s := rfl
@[simp] theorem core_with_dmc (x : Dmc) : core { s with dmc := x } = core s := rfl
@[simp] theorem core_with_unnov (x : Unnov) : core { s with unnov := x } = core s := rfl
@[simp] theorem core_with_twin (x : Twin) : core { s with twin := x } = core s := rfl
@[simp] theorem core_with_free (x : Nat) : core { s with free := x } = core s := rfl

/-- A ghost is not posted. -/
@[simp] theorem core_post (p : Post) : core (s.post p) = core s := by
  unfold State.post
  have h : (if (s.win p.win).resetting ∨ nsrc p.win ≤ p.src then s.posts else s.posts ++ [p]).filter ghost
      = s.posts.filter ghost := by
    split
    · rfl
    · rename_i hp
      have : ghost p = false := by simp only [ghost]; simp; omega
      simp [this]
  simp only [core, h]
  rfl

@[simp] theorem core_level (w src loc : Nat) (on : Bool) : core (s.level w src loc on) = core s := by
  unfold State.level
  split
  · rfl
  · exact core_post _

/-! Of the registers only SYS_RST_REASON (0x260) and SYS_RST_FLT (0x230) are in the core. -/

theorem core_setReg {w off v : Nat} (h : w ≠ 0 ∨ off ≠ 0x260 ∧ off ≠ 0x230) : core (s.setReg w off v) = core s := by
  have h1 : regKey 0 0x260 ≠ regKey w off := by unfold regKey; omega
  have h2 : regKey 0 0x230 ≠ regKey w off := by unfold regKey; omega
  have e1 := reg_setReg_other s w off v _ _ h1
  have e2 := reg_setReg_other s w off v _ _ h2
  simp only [core, e1, e2]
  rfl

@[simp] theorem cxWin_ne_zero (n : Nat) : cxWin n ≠ 0 := by unfold cxWin; split; omega; split <;> omega
@[simp] theorem emcWin_ne_zero (k : Nat) : emcWin k ≠ 0 := by simp only [emcWin, W.EMC]; omega
@[simp] theorem swkWin_ne_zero (d : Nat) : swkWin d ≠ 0 := by simp only [swkWin]; omega
@[simp] theorem shcWin_ne_zero (d : Nat) : shcWin d ≠ 0 := by simp only [shcWin]; omega
@[simp] theorem srlWin_ne_zero (d : Nat) : srlWin d ≠ 0 := by simp only [srlWin]; omega
@[simp] theorem spsWin_ne_zero (d : Nat) : spsWin d ≠ 0 := by simp only [spsWin]; omega
@[simp] theorem fabWin_ne_zero (t : Nat) : fabWin t ≠ 0 := by simp only [fabWin, W.FAB]; omega
@[simp] theorem diaWin_ne_zero (d : Nat) : diaWin d ≠ 0 := by simp only [diaWin, W.DIA]; omega
@[simp] theorem shbWin_ne_zero (d : Nat) : shbWin d ≠ 0 := by simp only [shbWin, W.SHB]; omega

@[simp] theorem core_setReg_of_ne {w off v : Nat} (h : w ≠ 0) : core (s.setReg w off v) = core s := core_setReg (.inl h)
@[simp] theorem core_setReg_of_off {w off v : Nat} (h : off ≠ 0x260) (h' : off ≠ 0x230) :
    core (s.setReg w off v) = core s := core_setReg (.inr ⟨h, h'⟩)
@[simp] theorem core_setFld_of_ne {w off hi lo v : Nat} (h : w ≠ 0) :
    core (s.setFld w off hi lo v) = core s := core_setReg (.inl h)
@[simp] theorem core_setFld_of_off {w off hi lo v : Nat} (h : off ≠ 0x260) (h' : off ≠ 0x230) :
    core (s.setFld w off hi lo v) = core s := core_setReg (.inr ⟨h, h'⟩)
@[simp] theorem core_setFlag_of_ne {w off i : Nat} {b : Bool} (h : w ≠ 0) :
    core (s.setFlag w off i b) = core s := core_setReg (.inl h)
@[simp] theorem core_setFlag_of_off {w off i : Nat} {b : Bool} (h : off ≠ 0x260) (h' : off ≠ 0x230) :
    core (s.setFlag w off i b) = core s := core_setReg (.inr ⟨h, h'⟩)
@[simp] theorem core_countBy_of_ne {w off k : Nat} (h : w ≠ 0) : core (s.countBy w off k) = core s := core_setReg (.inl h)
@[simp] theorem core_count_of_ne {w off : Nat} (h : w ≠ 0) : core (s.count w off) = core s := core_setReg (.inl h)
@[simp] theorem core_count_of_off {w off : Nat} (h : off ≠ 0x260) (h' : off ≠ 0x230) :
    core (s.count w off) = core s := core_setReg (.inr ⟨h, h'⟩)
@[simp] theorem core_countWrap_of_ne {w off k : Nat} (h : w ≠ 0) : core (s.countWrap w off k) = core s := core_setReg (.inl h)
@[simp] theorem core_setReg64_of_ne {w off v : Nat} (h : w ≠ 0) :
    core (s.setReg64 w off v) = core s := (core_setReg (.inl h)).trans (core_setReg (.inl h))
@[simp] theorem core_count64By_of_ne {w off k : Nat} (h : w ≠ 0) :
    core (s.count64By w off k) = core s := (core_setReg (.inl h)).trans (core_setReg (.inl h))
@[simp] theorem core_count64_of_ne {w off : Nat} (h : w ≠ 0) :
    core (s.count64 w off) = core s := (core_setReg (.inl h)).trans (core_setReg (.inl h))
@[simp] theorem core_foldRange {f : State → Nat → State} (h : ∀ s k, core (f s k) = core s) (a n : Nat) :
    core (foldRange f s a n) = core s := by
  induction n generalizing s a with
  | zero => rfl
  | succ n ih => rw [foldRange, ih, h]
theorem core_foldRange_mem {f : State → Nat → State} {a n : Nat} (h : ∀ k, a ≤ k → k < a + n → ∀ s, core (f s k) = core s) :
    core (foldRange f s a n) = core s := by
  induction n generalizing s a with
  | zero => rfl
  | succ n ih =>
    rw [foldRange, ih fun k h1 h2 => h k (by omega) (by omega), h a (by omega) (by omega)]

/-! ### What leaves the core as it was

One lemma per function of the model, in the order of the definitions, so that each proof cites those of the functions it calls. -/

theorem nsrc_le (w : Nat) : nsrc w ≤ 14 := by
  unfold nsrc
  split
  · decide
  · split <;> (try split) <;> decide
@[simp] theorem core_raise (w src loc : Nat) : core (s.raise w src loc) = core s := by simp [State.raise]
@[simp] theorem core_raise0 (w src : Nat) : core (s.raise0 w src) = core s := by simp [State.raise0]
@[simp] theorem core_ledgerRetire (b : Nat) : core (ledgerRetire b s) = core s := by simp [ledgerRetire]
@[simp] theorem core_retireBank (phys : Nat) : core (retireBank phys s) = core s := by simp [retireBank]
@[simp] theorem core_remapBank (b k : Nat) : core (remapBank b k s) = core s := by simp [remapBank]

@[simp] theorem core_retireAtEnable : core (retireAtEnable s) = core s := by
  unfold retireAtEnable
  rw [core_foldRange]
  · simp
  · intro s k
    (repeat' split) <;> simp

@[simp] theorem core_setCx (n : Nat) (x : Cx) : core (s.setCx n x) = core s := by simp [State.setCx]
@[simp] theorem core_modCx (n : Nat) (f : Cx → Cx) : core (s.modCx n f) = core s := by simp [State.modCx]
@[simp] theorem core_noteCx (n : Nat) : core (noteCx n s) = core s := by simp [noteCx]
@[simp] theorem core_cxJoin (n : Nat) : core (cxJoin n s) = core s := by simp [cxJoin]
@[simp] theorem core_abrStart (n : Nat) : core (abrStart n s) = core s := by simp [abrStart]
@[simp] theorem core_countLinkDown (k : Nat) : core (countLinkDown k s) = core s := by simp [countLinkDown]
@[simp] theorem core_modMac (k : Nat) (f : Emc → Emc) : core (s.modMac k f) = core s := by simp [State.modMac]
@[simp] theorem core_noteLink (k : Nat) : core (noteLink k s) = core s := by simp [noteLink]
@[simp] theorem core_modPond (f : Pond → Pond) : core (s.modPond f) = core s := by simp [State.modPond]
@[simp] theorem core_setPort (p : Nat) (x : PortSt) : core (s.setPort p x) = core s := by simp [State.setPort]
@[simp] theorem core_askPortFlush (p : Nat) : core (askPortFlush p s) = core s := by simp [askPortFlush]
@[simp] theorem core_modFrame (fid : Nat) (f : PFrame → PFrame) : core (s.modFrame fid f) = core s := by simp [State.modFrame]
@[simp] theorem core_noteDesc : core (noteDesc s) = core s := by simp [noteDesc]
@[simp] theorem core_freeFrame (fid : Nat) : core (freeFrame fid s) = core s := by simp [freeFrame]
@[simp] theorem core_dropCopy (fid port : Nat) : core (dropCopy fid port s) = core s := by
  unfold dropCopy
  simp
  (repeat' split) <;> simp
@[simp] theorem core_flushPort (p : Nat) : core (flushPort p s) = core s := by simp [flushPort]
@[simp] theorem core_endCopy (fid p : Nat) : core (endCopy fid p s) = core s := by simp [endCopy]
@[simp] theorem core_endFrame (fid : Nat) : core (endFrame fid s) = core s := by
  unfold endFrame
  split <;> simp
@[simp] theorem core_dropPartial (p : Nat) : core (dropPartial p s) = core s := by simp [dropPartial]
@[simp] theorem core_portGoesDown (p : Nat) : core (portGoesDown p s) = core s := by simp [portGoesDown]
@[simp] theorem core_portTryUp (p : Nat) : core (portTryUp p s) = core s := by simp [portTryUp]
@[simp] theorem core_portCauseGone (p : Nat) : core (portCauseGone p s) = core s := by simp [portCauseGone]
@[simp] theorem core_setPortCause (p : Nat) (down : Bool) : core (setPortCause p down s) = core s := by simp [setPortCause]
@[simp] theorem core_syncPort (p : Nat) : core (syncPort p s) = core s := by simp [syncPort]
@[simp] theorem core_refMissed (n : Nat) : core (refMissed n s) = core s := by simp [refMissed]
@[simp] theorem core_pushEvent (n : Nat) (e : TxEvent) : core (pushEvent n e s) = core s := by simp [pushEvent]
@[simp] theorem core_slotOutcome (n : Nat) (x : CxSlot) (out eofd : Nat) : core (slotOutcome n x out eofd s) = core s := by
  unfold slotOutcome
  split <;> simp
@[simp] theorem core_freeSlot (n : Nat) (x : CxSlot) : core (freeSlot n x s) = core s := by simp [freeSlot]
@[simp] theorem core_dropSlots (n : Nat) : core (dropSlots n s) = core s := by simp [dropSlots]
@[simp] theorem core_cxSettle (n : Nat) : core (cxSettle n s) = core s := by simp [cxSettle]
@[simp] theorem core_cxEnabled (n : Nat) (x1 : Bool) : core (cxEnabled n x1 s) = core s := by simp [cxEnabled]
@[simp] theorem core_noteLine (k : Nat) : core (noteLine k s) = core s := by simp [noteLine]
@[simp] theorem core_modTwin (f : Twin → Twin) : core (s.modTwin f) = core s := by simp [State.modTwin]
@[simp] theorem core_logBusErr (e : BusErr) : core (logBusErr e s) = core s := by simp [logBusErr]
@[simp] theorem core_busFail (i : Initiator) (addr reason : Nat) (spec write : Bool) (loc : Nat) :
    core (busFail i addr reason spec write loc s) = core s := by
  simp [busFail]
@[simp] theorem core_bridgeEnd (r : BridgeReq) : core (bridgeEnd r s) = core s := by simp [bridgeEnd]
@[simp] theorem core_twinLevels : core (twinLevels s) = core s := by simp [twinLevels]
@[simp] theorem core_twinLinkOff : core (twinLinkOff s) = core s := by simp [twinLinkOff]
@[simp] theorem core_setShore (d : Nat) (h : Shore) : core (s.setShore d h) = core s := by simp [State.setShore]
@[simp] theorem core_modShore (d : Nat) (f : Shore → Shore) : core (s.modShore d f) = core s := by simp [State.modShore]
@[simp] theorem core_sendGate (d : Nat) : core (sendGate d s) = core s := by simp [sendGate]
@[simp] theorem core_sendGates : core (sendGates s) = core s := by simp [sendGates]
@[simp] theorem core_twlEnabled (x0 : Bool) : core (twlEnabled x0 s) = core s := by simp [twlEnabled]
@[simp] theorem core_modSge (f : Sge → Sge) : core (s.modSge f) = core s := by simp [State.modSge]
@[simp] theorem core_sgeBegins : core (sgeBegins s) = core s := by simp [sgeBegins]
@[simp] theorem core_tpAborted : core (tpAborted s) = core s := by simp [tpAborted]
@[simp] theorem core_dropSess (sid : Nat) : core (s.dropSess sid) = core s := by simp [State.dropSess]
@[simp] theorem core_takeArrival (fid : Nat) : core (takeArrival fid s) = core s := rfl
@[simp] theorem core_discardFrame (fid : Nat) : core (discardFrame fid s) = core s := by simp [discardFrame]
@[simp] theorem core_sessFree (x : Session) : core (sessFree x s) = core s := by
  unfold sessFree
  split <;> simp
@[simp] theorem core_sgeDisabled : core (sgeDisabled s) = core s := by simp [sgeDisabled]
@[simp] theorem core_modTms (f : Tms → Tms) : core (s.modTms f) = core s := by simp [State.modTms]
@[simp] theorem core_refGovern : core (refGovern s) = core s := by simp [refGovern]
@[simp] theorem core_noteHold : core (noteHold s) = core s := by simp [noteHold]
@[simp] theorem core_holdGone : core (holdGone s) = core s := by simp [holdGone]
@[simp] theorem core_uSat (o u hi lo : Nat) : core (uSat o u hi lo s) = core s := by simp [uSat]
@[simp] theorem core_ledgerCount (off : Nat) : core (ledgerCount off s) = core s := by simp [ledgerCount]
@[simp] theorem core_ledgerDescentAbort : core (ledgerDescentAbort s) = core s := by simp [ledgerDescentAbort]
@[simp] theorem core_ledgerLost : core (ledgerLost s) = core s := by simp [ledgerLost]
@[simp] theorem core_noteLdgPending : core (noteLdgPending s) = core s := by simp [noteLdgPending]
@[simp] theorem core_ledgerEvent (typ : Nat) (payload : List Byte) : core (ledgerEvent typ payload s) = core s := by
  simp [ledgerEvent]
@[simp] theorem core_modUnit (u : Nat) (f : NmUnit → NmUnit) : core (s.modUnit u f) = core s := by simp [State.modUnit]
@[simp] theorem core_nmEnter (u st : Nat) : core (nmEnter u st s) = core s := by simp [nmEnter]
@[simp] theorem core_offerTo (fp : Nat) (dest : BitVec 64) (f : Frame) (o : Origin) : core (offerTo fp dest f o s) = core s := by
  simp [offerTo]
@[simp] theorem core_nmSend (u : Nat) : core (nmSend u s) = core s := by simp [nmSend]
@[simp] theorem core_autoRun (cfgBit : Nat) : core (autoRun cfgBit s) = core s := by simp [autoRun]
@[simp] theorem core_nmRepeat (u cause : Nat) (rmr aw : Bool) : core (nmRepeat u cause rmr aw s) = core s := by simp [nmRepeat]
@[simp] theorem core_nmAbort (u cause : Nat) : core (nmAbort u cause s) = core s := by simp [nmAbort]
@[simp] theorem core_nmEval (u : Nat) : core (nmEval u s) = core s := by simp [nmEval]
@[simp] theorem core_nmRefresh (u : Nat) : core (nmRefresh u s) = core s := by simp [nmRefresh]
@[simp] theorem core_nmuChanged : core (nmuChanged s) = core s := by simp [nmuChanged]
@[simp] theorem core_doSvpTx (data : Nat) : core (doSvpTx data s) = core s := by simp [doSvpTx]
@[simp] theorem core_modBridge (d : Nat) (f : Bridge → Bridge) : core (s.modBridge d f) = core s := by simp [State.modBridge]
@[simp] theorem core_shoreAbort (acc : Access) : core (shoreAbort s acc) = core s := by simp [shoreAbort]

/-- What a link down ends was bound for a window of the shore, so no access to memory is lost. -/
@[simp] theorem core_shoreAbortAll (d : Nat) : core (shoreAbortAll d s) = core s := by
  unfold shoreAbortAll
  rw [core_foldl fun s a => by simp]
  have hfar : ∀ x : Waiting, memBound x.acc = true → atShore d x.acc.init x.acc.addr = false := by
    intro x hx
    simp only [memBound, Bool.and_eq_true, Option.isNone_iff_eq_none] at hx
    simp [atShore, hx.2]
  have hheld : ((s.deferred.filter fun x => !(x.sent && atShore d x.acc.init x.acc.addr)).map (·.acc)).filter memBound
      = (s.deferred.map (·.acc)).filter memBound := by
    induction s.deferred with
    | nil => rfl
    | cons x l ih =>
      cases hx : memBound x.acc with
      | true => simp only [List.filter_cons, hfar x hx, Bool.and_false, Bool.not_false, if_true, List.map_cons, hx, ih]
      | false =>
        by_cases hy : (!(x.sent && atShore d x.acc.init x.acc.addr)) = true
        · simp only [List.filter_cons, hy, if_true, List.map_cons, hx, ih, Bool.false_eq_true, if_false]
        · simp only [List.filter_cons, hy, if_false, List.map_cons, hx, ih, Bool.false_eq_true]
  simp only [core, List.filter_append, hheld]
  rfl

@[simp] theorem core_syncShore (d : Nat) : core (syncShore d s) = core s := by simp [syncShore]
@[simp] theorem core_noteLinkDown (d : Nat) : core (noteLinkDown d s) = core s := by simp [noteLinkDown]
@[simp] theorem core_linkDown (d : Nat) : core (linkDown d s) = core s := by simp [linkDown]
@[simp] theorem core_enHook (b : Blk) (w : Nat) (x2 : Bool) : core (enHook b w x2 s) = core s := by
  unfold enHook
  split <;> simp

@[simp] theorem core_aroundEnable (w : Nat) (f : State → State) (h : core (f s) = core s) :
    core (aroundEnable w f s) = core s := by
  unfold aroundEnable
  split
  · exact h
  · simp [h]

@[simp] theorem core_setWin (w : Nat) (x : Win) : core (s.setWin w x) = core s := by simp [State.setWin]
@[simp] theorem core_setSvc (w : Nat) (v : Service) : core (s.setSvc w v) = core s := by simp [State.setSvc]
@[simp] theorem core_askService (w : Nat) (x1 : Bool) : core (askService w x1 s) = core s := by simp [askService]
@[simp] theorem core_setTrain (t : Nat) (x : Train) : core (s.setTrain t x) = core s := by simp [State.setTrain]
@[simp] theorem core_noteAutoFrozen : core (noteAutoFrozen s) = core s := by
  unfold noteAutoFrozen
  split <;> simp
@[simp] theorem core_doTrainEnable (t : Nat) : core (doTrainEnable t s) = core s := by simp [doTrainEnable]
@[simp] theorem core_ledgerTrainRemoved (t : Nat) : core (ledgerTrainRemoved t s) = core s := by simp [ledgerTrainRemoved]
@[simp] theorem core_doTrainDrained (t : Nat) : core (doTrainDrained t s) = core s := by simp [doTrainDrained]
@[simp] theorem core_doTrainDisable (t : Nat) : core (doTrainDisable t s) = core s := by simp [doTrainDisable]
@[simp] theorem core_inhUpdate (d : Nat) : core (inhUpdate d s) = core s := by simp [inhUpdate]
@[simp] theorem core_spsEnabled (d : Nat) : core (spsEnabled d s) = core s := by simp [spsEnabled]
@[simp] theorem core_noteLimp (d : Nat) : core (noteLimp d s) = core s := by simp [noteLimp]
@[simp] theorem core_modRelay (d : Nat) (f : Relay → Relay) : core (s.modRelay d f) = core s := by simp [State.modRelay]
@[simp] theorem core_setRelay (d : Nat) (r : RelayState) : core (setRelay d r s) = core s := by simp [setRelay]
@[simp] theorem core_relayPowerOff (d : Nat) : core (relayPowerOff d s) = core s := by simp [relayPowerOff]
@[simp] theorem core_relayWake (d : Nat) : core (relayWake d s) = core s := by simp [relayWake]
@[simp] theorem core_wakeShore (d c idx : Nat) : core (wakeShore d c idx s) = core s := by simp [wakeShore]
@[simp] theorem core_doInhReleaseCommand (d : Nat) : core (doInhReleaseCommand d s) = core s := by
  unfold doInhReleaseCommand
  simp
  (repeat' split) <;> simp
@[simp] theorem core_pauseExpired : core (pauseExpired s) = core s := by simp [pauseExpired]
@[simp] theorem core_sharedFinish : core (sharedFinish s) = core s := by simp [sharedFinish]
@[simp] theorem core_sharedDrop (w : Nat) : core (sharedDrop w s) = core s := by simp [sharedDrop]
@[simp] theorem core_tmsReset : core (tmsReset s) = core s := by simp [tmsReset]
@[simp] theorem core_pondReset : core (pondReset s) = core s := rfl
@[simp] theorem core_modEmt (f : Emt → Emt) : core (s.modEmt f) = core s := by simp [State.modEmt]
@[simp] theorem core_emtReset : core (emtReset s) = core s := by simp [emtReset]
@[simp] theorem core_modPol (f : Pol → Pol) : core (s.modPol f) = core s := by simp [State.modPol]
@[simp] theorem core_cadencesUnsynced : core (cadencesUnsynced s) = core s := by simp [cadencesUnsynced]

@[simp] theorem core_sgeReset : core (sgeReset s) = core s := by
  unfold sgeReset
  rw [core_with_sge]
  refine core_foldl (fun s x => ?_) _
  split <;> simp

@[simp] theorem core_modJwl (f : Jewel → Jewel) : core (s.modJwl f) = core s := by simp [State.modJwl]
@[simp] theorem core_modVlt (f : Vault → Vault) : core (s.modVlt f) = core s := by simp [State.modVlt]

@[simp] theorem core_dropIngress (p : Nat) : core (dropIngress p s) = core s := by
  unfold dropIngress
  exact core_foldl (fun s (a : Arrival) => core_takeArrival a.fid) _

@[simp] theorem core_frersTakeAny : core (frersTakeAny s) = core s := by simp [frersTakeAny]

@[simp] theorem core_cqReset : core (cqReset s) = core s := by
  show core (List.foldl _ (List.foldl _ (List.foldl _ s _) _) _) = _
  rw [core_foldl, core_foldl fun s a => by simp, core_foldl fun s e => by simp]
  intro s e
  split <;> simp

@[simp] theorem core_twlReset : core (twlReset s) = core s := by simp [twlReset]
@[simp] theorem core_bridgeReset (d : Nat) : core (bridgeReset d s) = core s := by simp [bridgeReset]
@[simp] theorem core_setTr (n : Nat) (x : Trx) : core (s.setTr n x) = core s := by simp [State.setTr]
@[simp] theorem core_modLine (k : Nat) (f : T1l → T1l) : core (s.modLine k f) = core s := by simp [State.modLine]
@[simp] theorem core_forgetSpacing (d : Nat) : core (forgetSpacing d s) = core s := by simp [forgetSpacing]

/-! The blocks at a reset. -/

@[simp] theorem core_resetState (b : Blk) (w : Nat) : core (resetState b w s) = core s := by
  cases b
  case XSP =>
    simp only [core, resetState, List.map_append, List.map_map, List.append_nil]
    rw [show ((fun x : Waiting => x.acc) ∘ fun x => (⟨x, Aux.plain, true⟩ : Waiting)) = id from rfl, List.map_id]
    rfl
  case ICX | CRN | NMU => rfl
  all_goals simp [resetState]

@[simp] theorem core_trainReset (t : Nat) (x1 : State) : core (trainReset t x1 s) = core s := by simp [trainReset]
@[simp] theorem core_noteStash : core (noteStash s) = core s := by simp [noteStash]
@[simp] theorem core_noteS2sOf (d : Nat) : core (noteS2sOf d s) = core s := by simp [noteS2sOf]
@[simp] theorem core_noteS2s : core (noteS2s s) = core s := by simp [noteS2s]
@[simp] theorem core_noteVbat (d : Nat) : core (noteVbat d s) = core s := by simp [noteVbat]
@[simp] theorem core_noteInhOc (d : Nat) : core (noteInhOc d s) = core s := by simp [noteInhOc]
@[simp] theorem core_noteMbox (d : Nat) : core (noteMbox d s) = core s := by simp [noteMbox]
@[simp] theorem core_doOvertemp (d : Nat) (x1 : Bool) : core (doOvertemp d x1 s) = core s := by simp [doOvertemp]
@[simp] theorem core_rejudge (b : Blk) (w : Nat) : core (rejudge b w s) = core s := by
  unfold rejudge
  split <;> simp
@[simp] theorem core_modCtl (d : Nat) (f : ShoreCtl → ShoreCtl) : core (s.modCtl d f) = core s := by simp [State.modCtl]
/-! Bus answers and free values. -/

@[simp] theorem core_busErr (acc : Access) (reason loc : Nat) : core (busErr acc reason loc s) = core s := by
  unfold busErr
  split <;> simp
@[simp] theorem core_drawBytes (n : Nat) : core (s.drawBytes n).2 = core s := by simp [State.drawBytes]
@[simp] theorem core_busDone (v : Nat) : core (busDone v s) = core s := by simp [busDone]
@[simp] theorem core_drawWord : core (s.drawWord).2 = core s := by simp [State.drawWord]
@[simp] theorem core_ledgerDramEcc : core (ledgerDramEcc s) = core s := by simp [ledgerDramEcc]
@[simp] theorem core_dramReport (e : Ecc) (addr : Nat) : core (dramReport e addr s).2 = core s := by
  unfold dramReport
  simp
  (repeat' split) <;> simp
@[simp] theorem core_mismatch (w : Nat) : core (mismatch w s) = core s := by simp [mismatch]
@[simp] theorem core_disarm (w : Nat) : core (disarm w s) = core s := by simp [disarm]

theorem core_writeFltCfg {w off data : Nat} (h : off < 0x100) : core (writeFltCfg w off data s) = core s := by
  unfold writeFltCfg
  dsimp only
  refine core_foldRange (fun s b => ?_) _ _
  split
  · exact core_setFld_of_off (by omega) (by omega)
  · rfl

@[simp] theorem core_leaveSelfRefresh : core (leaveSelfRefresh s) = core s := by simp [leaveSelfRefresh]
@[simp] theorem core_doPwrRun : core (doPwrRun s) = core s := by simp [doPwrRun]

@[simp] theorem core_doPwrDoze : core (doPwrDoze s) = core s := by
  unfold doPwrDoze
  split <;> rfl

@[simp] theorem core_doPwrStandby : core (doPwrStandby s) = core s := by
  unfold doPwrStandby
  dsimp only
  split
  · rfl
  · rw [core_modShore, core_modShore, core_pondReset]
    rfl

@[simp] theorem core_doPwrCmd (data : Nat) : core (doPwrCmd data s) = core s := by
  unfold doPwrCmd
  split <;> simp
@[simp] theorem core_drawStart : core (drawStart s).2 = core s := by simp [drawStart]

@[simp] theorem core_modCrn (f : Crown → Crown) (h : ∀ c, (f c).table = c.table) : core (s.modCrn f) = core s := by
  simp only [core, State.modCrn, h]
  rfl

@[simp] theorem core_romHalt : core (romHalt s) = core s := by simp [romHalt]
@[simp] theorem core_bootError (e : Nat) : core (bootError e s) = core s := by simp +decide [bootError]
@[simp] theorem core_limpCondition (d : Nat) : core (limpCondition d s) = core s := by simp [limpCondition]

@[simp] theorem core_unlockWindow (w : Nat) : core (unlockWindow w s) = core s := by
  unfold unlockWindow
  refine (core_foldl_mem fun b hb s => ?_).trans (by simp +decide)
  have hb : b < 32 := List.mem_range.mp hb
  have hcfg : FLT_CFG + 4 * (b / 4) < 0x230 := by simp only [FLT_CFG]; omega
  dsimp only
  split
  · exact core_setFld_of_off (by omega) (by omega)
  · rfl

@[simp] theorem core_chipNotice (d : Nat) : core (chipNotice d s) = core s := by simp [chipNotice]
@[simp] theorem core_doRetrain (d lanes : Nat) : core (doRetrain d lanes s) = core s := by simp [doRetrain]
@[simp] theorem core_romLinks (x : StartInput) : core (romLinks x s) = core s := by simp [romLinks]
@[simp] theorem core_nameBanks (banks : List Nat) : core (nameBanks banks s) = core s := by simp [nameBanks]
@[simp] theorem core_deriveRoot : core (deriveRoot s) = core s := by simp [deriveRoot]
@[simp] theorem core_noticeShore (d : Nat) : core (noticeShore d s) = core s := by simp [noticeShore]
@[simp] theorem core_ledgerTimeStep : core (ledgerTimeStep s) = core s := by simp [ledgerTimeStep]
@[simp] theorem core_doVbase (data : Nat) : core (doVbase data s) = core s := by simp [doVbase]
@[simp] theorem core_fuseErr (e : Nat) : core (fuseErr e s) = core s := by simp [fuseErr]
@[simp] theorem core_doFuseProg (data : Nat) : core (doFuseProg data s) = core s := by simp [doFuseProg]
@[simp] theorem core_setActive (b : Bool) : core (setActive b s) = core s := by simp [setActive]
@[simp] theorem core_doTwlCmd (data : Nat) : core (doTwlCmd data s) = core s := by
  unfold doTwlCmd
  simp
  (repeat' split) <;> simp
@[simp] theorem core_doSpsInh (d data : Nat) : core (doSpsInh d data s) = core s := by simp [doSpsInh]
@[simp] theorem core_setInlet (q : Nat) (x : Inlet) : core (s.setInlet q x) = core s := by simp [State.setInlet]
@[simp] theorem core_inIdle (n : Nat) : core (inIdle n s) = core s := by simp [inIdle]
@[simp] theorem core_inAbort (n : Nat) : core (inAbort n s) = core s := by
  unfold inAbort
  split <;> simp
@[simp] theorem core_inBad (n : Nat) : core (inBad n s) = core s := by simp [inBad]
@[simp] theorem core_linkCell (f : PFrame) (idx : Nat) : core (linkCell f idx s) = core s := by simp [linkCell]
@[simp] theorem core_linkAll (fid : Nat) : core (linkAll fid s) = core s := by
  unfold linkAll
  split <;> simp
@[simp] theorem core_endKnown (fid n : Nat) : core (endKnown fid n s) = core s := by
  unfold endKnown
  split <;> simp
@[simp] theorem core_afterCell (fid : Nat) : core (afterCell fid s) = core s := by
  unfold afterCell
  split <;> simp
@[simp] theorem core_notePeaks (fid : Nat) : core (notePeaks fid s) = core s := by
  unfold notePeaks
  split <;> simp
@[simp] theorem core_noteEngReturn (o : Origin) (passes : Nat) : core (noteEngReturn o passes s) = core s := by
  unfold noteEngReturn
  split <;> simp
@[simp] theorem core_midframeDrop (fid : Nat) : core (midframeDrop fid s) = core s := by
  unfold midframeDrop
  split <;> simp
@[simp] theorem core_chargeCell (fid : Nat) : core (chargeCell fid s) = core s := by
  unfold chargeCell
  (repeat' split) <;> simp

@[simp] theorem core_chargeUpTo (fid n k : Nat) : core (chargeUpTo fid n k s) = core s := by
  induction k generalizing s with
  | zero => rfl
  | succ k ih =>
    unfold chargeUpTo
    split
    · rfl
    · simp [ih]

@[simp] theorem core_feedFrame (fid : Nat) (payload : List Byte) (whole : Bool) (g : Tag → Tag) :
    core (feedFrame fid payload whole g s) = core s := by
  unfold feedFrame
  simp
  (repeat' split) <;> simp
@[simp] theorem core_inData (n : Nat) (l : List Byte) : core (inData n l s) = core s := by
  unfold inData
  simp
  (repeat' split) <;> simp
@[simp] theorem core_inCommit (n : Nat) : core (inCommit n s) = core s := by
  unfold inCommit
  simp
  (repeat' split) <;> simp
@[simp] theorem core_noticeOffer (code ans : Nat) (tag : Option Tag) (port index loc : Nat) :
    core (noticeOffer code ans tag port index loc s) = core s := by
  simp [noticeOffer]
@[simp] theorem core_inOrphan : core (inOrphan s) = core s := by simp [inOrphan]
@[simp] theorem core_offerFrame (fp : Nat) (f : Frame) (whole : Bool) (o : Origin) :
    core (offerFrame fp f whole o s) = core s := by
  simp [offerFrame]
@[simp] theorem core_inTagDone (n : Nat) (bytes : List Byte) (words : Nat) : core (inTagDone n bytes words s) = core s := by
  simp [inTagDone]
@[simp] theorem core_inTagged (n : Nat) (w : DWord) : core (inTagged n w s) = core s := by
  unfold inTagged
  simp
  (repeat' split) <;> simp
@[simp] theorem core_inRaw (n : Nat) (w : DWord) : core (inRaw n w s) = core s := by
  unfold inRaw
  simp
  (repeat' split) <;> simp
@[simp] theorem core_doInPush (n : Nat) (w : DWord) : core (doInPush n w s) = core s := by simp [doInPush]
/-! Shadows, updates and strobes. -/

@[simp] theorem core_setShadow (w off v : Nat) : core (s.setShadow w off v) = core s := by simp [State.setShadow]
@[simp] theorem core_revertWin (w : Nat) : core (revertWin w s) = core s := by simp [revertWin]
@[simp] theorem core_forgetStuck : core (forgetStuck s) = core s := by simp [forgetStuck]
@[simp] theorem core_pmbusSend (mv : Nat) : core (pmbusSend mv s) = core s := by simp [pmbusSend]
@[simp] theorem core_loopCommand (alert : Bool) (v : Nat) : core (loopCommand alert v s) = core s := by simp [loopCommand]
@[simp] theorem core_balanceApplied (alert : Bool) : core (balanceApplied alert s) = core s := by simp [balanceApplied]
@[simp] theorem core_fabApplied (o : State) : core (fabApplied o s) = core s := by simp [fabApplied]
@[simp] theorem core_noteEccRising : core (noteEccRising s) = core s := by simp [noteEccRising]
@[simp] theorem core_setDial (d : Nat) (x : Dial) : core (s.setDial d x) = core s := by simp [State.setDial]
@[simp] theorem core_dialApplied (d : Nat) (o : State) : core (dialApplied d o s) = core s := by simp [dialApplied]
@[simp] theorem core_setBuf (b : Nat) (x : BufRun) : core (s.setBuf b x) = core s := by simp [State.setBuf]
@[simp] theorem core_setDef (d : Nat) (x : DefRun) : core (s.setDef d x) = core s := by simp [State.setDef]
@[simp] theorem core_sgeApplied : core (sgeApplied s) = core s := by simp [sgeApplied]
@[simp] theorem core_setCredit (k c : Nat) (v : Int) : core (setCredit k c v s) = core s := by simp [setCredit]
@[simp] theorem core_noteVerify (k : Nat) : core (noteVerify k s) = core s := by simp [noteVerify]
@[simp] theorem core_verifyStart (k : Nat) : core (verifyStart k s) = core s := by simp [verifyStart]
@[simp] theorem core_emcApplied (k : Nat) (o : State) : core (emcApplied k o s) = core s := by simp [emcApplied]
@[simp] theorem core_t1lApplied (k : Nat) : core (t1lApplied k s) = core s := by simp [t1lApplied]
@[simp] theorem core_setRing (r : Nat) (x : Machine.Ring) : core (s.setRing r x) = core s := by simp [State.setRing]
@[simp] theorem core_capApplied : core (capApplied s) = core s := by simp [capApplied]
@[simp] theorem core_twlApplied : core (twlApplied s) = core s := by simp [twlApplied]
@[simp] theorem core_applyHook (b : Blk) (w : Nat) (alert : Bool) (o : State) : core (applyHook b w alert o s) = core s := by
  unfold applyHook
  split <;> simp

@[simp] theorem core_applyRegs (w : Nat) : core (applyRegs w s) = core s := by
  refine core_foldl_mem fun o ho s => core_setReg (Decidable.byContradiction fun hno => ?_)
  have hsh : shMask w o ≠ 0 := by
    intro h0
    simp [dirtyOffs, h0] at ho
  obtain ⟨rfl, ho | ho⟩ : w = 0 ∧ (o = 0x260 ∨ o = 0x230) := by omega
  · exact hsh (by rw [ho]; decide)
  · exact hsh (by rw [ho]; decide)

@[simp] theorem core_setUpd (w : Nat) (f : Upd → Upd) : core (s.setUpd w f) = core s := by simp [State.setUpd]
@[simp] theorem core_applyWin (w : Nat) (alert : Bool) : core (applyWin w alert s) = core s := by
  unfold applyWin
  split <;> simp
@[simp] theorem core_applyAtOnce (w : Nat) : core (applyAtOnce w s) = core s := by simp [applyAtOnce]
@[simp] theorem core_accept (w : Nat) : core (accept w s) = core s := by simp [accept]
@[simp] theorem core_reject (w reason : Nat) : core (reject w reason s) = core s := by simp [reject]
@[simp] theorem core_doStrobe (w : Nat) : core (doStrobe w s) = core s := by simp [doStrobe]
@[simp] theorem core_doBlkUpdate (w data : Nat) : core (doBlkUpdate w data s) = core s := by simp [doBlkUpdate]
@[simp] theorem core_mirrorWindow (d w : Nat) : core (mirrorWindow d w s) = core s := by simp [mirrorWindow]
@[simp] theorem core_writeFltStat (w data : Nat) : core (writeFltStat w data s) = core s := by simp +decide [writeFltStat]

/-- A source that keeps its severity. -/
theorem core_setSource {w src : Nat} {x : Source} (h : x.sev = (s.source w src).sev) : core (s.setSource w src x) = core s := by
  have hw : ∀ k, (kvGet Source.idle (s.setSource w src x).sources k).sev = (kvGet Source.idle s.sources k).sev := by
    intro k
    by_cases hk : k = srcKey w src
    · rw [hk]
      simpa [State.setSource, State.source] using h
    · simp [State.setSource, kvGet_kvSet_other _ _ _ _ _ _ hk]
  simp only [core, hw]
  rfl

@[simp] theorem core_writeFltRelease (w data : Nat) : core (writeFltRelease w data s) = core s := by
  refine core_foldRange (fun s k => ?_) _ _
  dsimp only
  split
  · exact core_setSource rfl
  · rfl

theorem core_setRecov {w src v : Nat} (h : src < 32) : core (setRecov w src v s) = core s := by
  have hoff : recovReg src < 0x230 := by simp only [recovReg, FLT_RECOV]; omega
  exact core_setFld_of_off (by omega) (by omega)

@[simp] theorem core_writeFltRecovClr (w data : Nat) : core (writeFltRecovClr w data s) = core s := by
  refine core_foldRange_mem fun k _ hk s => ?_
  split
  · exact core_setRecov (by have := nsrc_le w; omega)
  · rfl

@[simp] theorem core_escalate (w : Nat) (o : State) : core (escalate w o s) = core s := by simp [escalate]

/-- A row of SYS that leaves the record of the last reset alone. -/
def Plain (w off : Nat) (r : RegRow) : Prop := w = 0 → off = 0x260 ∨ off = 0x230 → r.rw = 0 ∧ r.w1c = 0

@[simp] theorem core_storeRow {w off : Nat} (data : Nat) {r : RegRow} (h : Plain w off r) :
    core (storeRow w off data r s) = core s := by
  have hlive : core (if r.rw = 0 ∧ r.w1c = 0 then s
      else s.setReg w off (clearMask (mixBits r.rw (s.reg w off) data) (data &&& r.w1c))) = core s := by
    split
    · rfl
    · rename_i hr
      exact core_setReg (Decidable.byContradiction fun hno => hr (h (by omega) (by omega)))
  unfold storeRow
  dsimp only
  split
  · exact hlive
  · rw [core_setShadow, hlive]

@[simp] theorem core_writeFltInject (w data : Nat) : core (writeFltInject w data s) = core s := by simp [writeFltInject]
@[simp] theorem core_sharedReject (vs : List (Nat × Nat)) : core (sharedReject vs s) = core s := by
  unfold sharedReject
  split <;> simp
@[simp] theorem core_sharedAccept (ws : List Nat) (pause : Bool) : core (sharedAccept ws pause s) = core s := by
  simp [sharedAccept]
@[simp] theorem core_doSharedUpdate (data : Nat) : core (doSharedUpdate data s) = core s := by simp [doSharedUpdate]
@[simp] theorem core_writeSysUpdate (i : Initiator) (data : Nat) : core (writeSysUpdate i data s) = core s := by
  simp [writeSysUpdate]

@[simp] theorem core_doVsetWrite (d : Nat) : core (doVsetWrite d s) = core s := by
  unfold doVsetWrite
  split
  · rfl
  · dsimp only
    split
    · exact (core_with_bal _).trans (by simp)
    · simp

@[simp] theorem core_doHistClr (data : Nat) : core (doHistClr data s) = core s := by simp [doHistClr]
@[simp] theorem core_doSnap : core (doSnap s) = core s := by simp [doSnap]
/-! Commands of the blocks. -/

@[simp] theorem core_setIrt (r : Nat) (x : Irt) : core (s.setIrt r x) = core s := by simp [State.setIrt]
@[simp] theorem core_doIrtComplete (r t data : Nat) : core (doIrtComplete r t data s) = core s := by simp [doIrtComplete]
@[simp] theorem core_doAddendWrite (data : Nat) : core (doAddendWrite data s) = core s := by simp [doAddendWrite]
@[simp] theorem core_noteDrift (ns : Int) : core (noteDrift ns s) = core s := by simp [noteDrift]
@[simp] theorem core_doSlew (data : Nat) : core (doSlew data s) = core s := by simp [doSlew]
@[simp] theorem core_doStep : core (doStep s) = core s := by simp [doStep]
@[simp] theorem core_doKick : core (doKick s) = core s := by simp [doKick]
@[simp] theorem core_doTmsCmd (data : Nat) : core (doTmsCmd data s) = core s := by simp [doTmsCmd]
@[simp] theorem core_triggerRing (r off : Nat) : core (triggerRing r off s) = core s := by simp [triggerRing]
@[simp] theorem core_triggerNow (r : Nat) : core (triggerNow r s) = core s := by
  unfold triggerNow
  split <;> simp
@[simp] theorem core_freezeRing (r : Nat) : core (freezeRing r s) = core s := by simp [freezeRing]
@[simp] theorem core_ringCommand (r op : Nat) : core (ringCommand r op s) = core s := by
  unfold ringCommand
  split <;> simp
@[simp] theorem core_doCapCmd (data : Nat) : core (doCapCmd data s) = core s := by simp [doCapCmd]
@[simp] theorem core_noteWarn : core (noteWarn s) = core s := by simp [noteWarn]
@[simp] theorem core_doCrnWdt (data : Nat) : core (doCrnWdt data s) = core s := by simp [doCrnWdt]
@[simp] theorem core_doWdtKick (data : Nat) : core (doWdtKick data s) = core s := by simp [doWdtKick]
@[simp] theorem core_doMovRun (data : Nat) : core (doMovRun data s) = core s := by simp [doMovRun]
@[simp] theorem core_nmEvalAll : core (nmEvalAll s) = core s := by simp [nmEvalAll]
@[simp] theorem core_doNetreq (off data : Nat) : core (doNetreq off data s) = core s := by simp [doNetreq]
@[simp] theorem core_nmRmr (u : Nat) : core (nmRmr u s) = core s := by simp [nmRmr]
@[simp] theorem core_nmWake (u : Nat) : core (nmWake u s) = core s := by simp [nmWake]
@[simp] theorem core_nmClrPres (u : Nat) : core (nmClrPres u s) = core s := by simp [nmClrPres]
@[simp] theorem core_doNmuCmd (data : Nat) : core (doNmuCmd data s) = core s := by
  unfold doNmuCmd
  split <;> simp
@[simp] theorem core_twinSend (vc : Nat) : core (twinSend vc s) = core s := by simp [twinSend]
@[simp] theorem core_doBridge (i : Initiator) (write : Bool) (data : Nat) : core (doBridge i write data s) = core s := by
  simp [doBridge]

@[simp] theorem core_writeTwl {w off : Nat} (data : Nat) (i : Initiator) {r : RegRow} (h : Plain w off r) :
    core (writeTwl w off data i r s) = core s := by
  unfold writeTwl
  (repeat' split) <;> simp +decide [h]

@[simp] theorem core_writeSystem (b : Blk) {w off : Nat} (data : Nat) (i : Initiator) {r : RegRow} (h : Plain w off r) :
    core (writeSystem b w off data i r s) = core s := by
  unfold writeSystem
  (repeat' split) <;> simp +decide [h]

@[simp] theorem core_freezeTrain (t : Nat) : core (freezeTrain t s) = core s := by simp [freezeTrain]
@[simp] theorem core_unfreezeTrain (t : Nat) : core (unfreezeTrain t s) = core s := by simp [unfreezeTrain]
@[simp] theorem core_doTctrl (t data : Nat) : core (doTctrl t data s) = core s := by simp [doTctrl]
@[simp] theorem core_doBistStart (t data : Nat) : core (doBistStart t data s) = core s := by simp [doBistStart]
@[simp] theorem core_doQsel (data : Nat) : core (doQsel data s) = core s := by simp [doQsel]
@[simp] theorem core_doMigrateStart (data : Nat) : core (doMigrateStart data s) = core s := by simp [doMigrateStart]
@[simp] theorem core_portForced (p : Nat) (was : Bool) : core (portForced p was s) = core s := by simp [portForced]
@[simp] theorem core_doDialFreeze (d data : Nat) : core (doDialFreeze d data s) = core s := by simp [doDialFreeze]
@[simp] theorem core_doWaitClr (d data : Nat) : core (doWaitClr d data s) = core s := by simp [doWaitClr]
@[simp] theorem core_dialActiveWrite (d : Nat) : core (dialActiveWrite d s) = core s := by simp [dialActiveWrite]

@[simp] theorem core_writeDialTable {w off : Nat} (data : Nat) {r : RegRow} (h : Plain w off r) :
    core (writeDialTable w off data r s) = core s := by
  unfold writeDialTable
  (repeat' split) <;> simp +decide [h]

@[simp] theorem core_setOutlet (q : Nat) (x : Outlet) : core (s.setOutlet q x) = core s := by simp [State.setOutlet]
@[simp] theorem core_outAge (q : Nat) : core (outAge q s) = core s := by simp [outAge]
@[simp] theorem core_outShift (q : Nat) : core (outShift q s) = core s := by
  unfold outShift
  split <;> simp
@[simp] theorem core_doOutDrop (q data : Nat) : core (doOutDrop q data s) = core s := by simp [doOutDrop]
@[simp] theorem core_doDmcTrain (data : Nat) : core (doDmcTrain data s) = core s := by simp [doDmcTrain]
@[simp] theorem core_doDmcSr (data : Nat) : core (doDmcSr data s) = core s := by simp [doDmcSr]
@[simp] theorem core_drawAddr : core (s.drawAddr).2 = core s := by simp [State.drawAddr]
@[simp] theorem core_dramEcc (e : Ecc) : core (dramEcc e s) = core s := by
  unfold dramEcc
  split <;> simp
@[simp] theorem core_doMrAccess (data : Nat) (e : Ecc) : core (doMrAccess data e s) = core s := by simp [doMrAccess]

@[simp] theorem core_norSet (a : Nat) (l : List Byte) : core (s.norSet a l) = core s := by
  induction l generalizing s a with
  | nil => rfl
  | cons b l ih => rw [State.norSet, ih, core_with_nor]

@[simp] theorem core_setXspBuf (l : List Byte) : core (setXspBuf l s) = core s := by simp [setXspBuf]

@[simp] theorem core_doXspCmd (data : Nat) (answer : List Byte) (changes : List (Nat × List Byte)) :
    core (doXspCmd data answer changes s) = core s := by
  have hcs : ∀ (t : State) (k : Nat), core { t with xsp := { t.xsp with cs := k } } = core t := fun _ _ => rfl
  unfold doXspCmd
  split
  · rfl
  · dsimp only
    split
    · exact (hcs _ _).trans (by simp)
    · simp

@[simp] theorem core_writeXsp (off data : Nat) (a : Aux) (r : RegRow) : core (writeXsp off data a r s) = core s := by
  have hrow : Plain W.XSP off r := fun h => absurd h (by decide)
  unfold writeXsp
  (repeat' split) <;> simp +decide [hrow]

@[simp] theorem core_writeFlow (b : Blk) {w off : Nat} (data : Nat) (a : Aux) {r : RegRow} (h : Plain w off r) :
    core (writeFlow b w off data a r s) = core s := by
  unfold writeFlow
  (repeat' split) <;> simp +decide [h]

@[simp] theorem core_emtStatus (st : Nat) : core (emtStatus st s) = core s := by simp [emtStatus]
@[simp] theorem core_emtReads (bad : List BadEntry) (l : List Nat) : core (emtReads bad l s) = core s := by simp [emtReads]
@[simp] theorem core_emtLookup (bad : List BadEntry) (k : BitVec 128) : core (emtLookup bad k s).2 = core s := by simp [emtLookup]
@[simp] theorem core_emtReport (a : Nat) : core (emtReport a s) = core s := by simp [emtReport]

@[simp] theorem core_emtWith (bad : List BadEntry) (f : Nat → State → State) (h : ∀ a s, core (f a s) = core s) :
    core (emtWith bad s f) = core s := by
  unfold emtWith
  dsimp only
  split
  · simp
  · split <;> simp +decide [h]

@[simp] theorem core_bumpRr (g : Nat) : core (bumpRr g s) = core s := by simp [bumpRr]
@[simp] theorem core_setEmt (a : Nat) (e : EmtEntry) : core (s.setEmt a e) = core s := by simp [State.setEmt]

@[simp] theorem core_planMoves (x : List Nat) : core (planMoves x s) = core s :=
  core_foldl (fun s p => by simp) _

@[simp] theorem core_stashRefill (keep : List Nat) (a : Nat) : core (stashRefill keep a s) = core s := by
  unfold stashRefill
  (repeat' split) <;> simp
@[simp] theorem core_emtDelete (keep : List Nat) (a : Nat) : core (emtDelete keep a s) = core s := by simp [emtDelete]
@[simp] theorem core_execPlan (r : Resv) : core (execPlan r s) = core s := by
  unfold execPlan
  split <;> simp
@[simp] theorem core_emtExec (bad : List BadEntry) : core (emtExec bad s) = core s := by
  unfold emtExec
  split <;> simp
@[simp] theorem core_emtAbort : core (emtAbort s) = core s := by
  unfold emtAbort
  split <;> simp
@[simp] theorem core_reserve (r : Resv) : core (reserve r s) = core s := by simp [reserve]
@[simp] theorem core_putPlan (x : List Nat) : core (putPlan x s) = core s := by simp [putPlan]
@[simp] theorem core_emtPlanInsert (bad : List BadEntry) : core (emtPlanInsert bad s) = core s := by
  unfold emtPlanInsert
  simp
  (repeat' split) <;> simp
@[simp] theorem core_emtPlanRehome (i : Nat) (bad : List BadEntry) : core (emtPlanRehome i bad s) = core s := by
  simp [emtPlanRehome]

@[simp] theorem core_flushWalk (port : Nat) (all : Bool) : core (flushWalk port all s) = core s := by
  unfold flushWalk
  refine core_foldl (fun s k => ?_) _
  split <;> simp

@[simp] theorem core_emtFlush (port : Nat) (all : Bool) : core (emtFlush port all s) = core s := by simp [emtFlush]
@[simp] theorem core_doEmtCmd (data : Nat) (bad : List BadEntry) : core (doEmtCmd data bad s) = core s := by simp [doEmtCmd]
@[simp] theorem core_setWct (i : Nat) (e : WctEntry) : core (s.setWct i e) = core s := by simp [State.setWct]
@[simp] theorem core_stage128 (off : Nat) (v : BitVec 128) : core (stage128 off v s) = core s := by simp [stage128]
@[simp] theorem core_doWctCmd (data : Nat) : core (doWctCmd data s) = core s := by simp [doWctCmd]
@[simp] theorem core_doPsetCmd (data : Nat) : core (doPsetCmd data s) = core s := by simp [doPsetCmd]
@[simp] theorem core_polStatus (st : Nat) : core (polStatus st s) = core s := by simp [polStatus]
@[simp] theorem core_setPolicer (k : Nat) (x : Policer) : core (s.setPolicer k x) = core s := by simp [State.setPolicer]
@[simp] theorem core_setGate (g : Nat) (x : Gate) : core (s.setGate g x) = core s := by simp [State.setGate]
@[simp] theorem core_polWrite (obj index : Nat) (keep : Bool) : core (polWrite obj index keep s) = core s := by simp [polWrite]
@[simp] theorem core_putPol (k v : Nat) : core (putPol k v s) = core s := by simp [putPol]
@[simp] theorem core_polRead (obj index : Nat) : core (polRead obj index s) = core s := by simp [polRead]
@[simp] theorem core_polClear (obj index : Nat) : core (polClear obj index s) = core s := by simp [polClear]
@[simp] theorem core_doPolCmd (data : Nat) (bad : List BadEntry) : core (doPolCmd data bad s) = core s := by simp [doPolCmd]
@[simp] theorem core_setCadence (k : Nat) (x : Cadence) : core (s.setCadence k x) = core s := by simp [State.setCadence]
@[simp] theorem core_doCdmCmd (data : Nat) (bad : List BadEntry) : core (doCdmCmd data bad s) = core s := by simp [doCdmCmd]
@[simp] theorem core_sgeStatus (st : Nat) : core (sgeStatus st s) = core s := by simp [sgeStatus]
@[simp] theorem core_sgeWrite (obj idx : Nat) : core (sgeWrite obj idx s) = core s := by simp [sgeWrite]
@[simp] theorem core_sgeRead (bad : List BadEntry) (obj idx : Nat) : core (sgeRead bad obj idx s).2 = core s := by
  unfold sgeRead
  (repeat' split) <;> simp
@[simp] theorem core_putSge (k v : Nat) : core (putSge k v s) = core s := by simp [putSge]
@[simp] theorem core_sgeReadEntry (obj idx : Nat) : core (sgeReadEntry obj idx s) = core s := by
  unfold sgeReadEntry
  simp
  (repeat' split) <;> simp
@[simp] theorem core_setClaim (c a : Nat) (n : Option DWord) : core (s.setClaim c a n) = core s := by simp [State.setClaim]
@[simp] theorem core_doSgeCmd (data : Nat) (bad : List BadEntry) : core (doSgeCmd data bad s) = core s := by simp [doSgeCmd]
@[simp] theorem core_doUcCtrl (data : Nat) : core (doUcCtrl data s) = core s := by simp [doUcCtrl]
@[simp] theorem core_doUcData (data : Nat) : core (doUcData data s) = core s := by simp [doUcData]
@[simp] theorem core_aueStatus (st : Nat) : core (aueStatus st s) = core s := by simp [aueStatus]
@[simp] theorem core_modAue (f : Aue → Aue) : core (s.modAue f) = core s := by simp [State.modAue]
@[simp] theorem core_setFresh (i : Nat) (x : Fresh) : core (s.setFresh i x) = core s := by simp [State.setFresh]
@[simp] theorem core_putAue (k v : Nat) : core (putAue k v s) = core s := by simp [putAue]
@[simp] theorem core_notePnLimit (m : Nat) (o : State) : core (notePnLimit m o s) = core s := by simp [notePnLimit]
@[simp] theorem core_setSecW (obj i k v : Nat) : core (s.setSecW obj i k v) = core s := by simp [State.setSecW]
@[simp] theorem core_doAueCmd (data : Nat) (bad : List BadEntry) : core (doAueCmd data bad s) = core s := by simp [doAueCmd]
@[simp] theorem core_jwlStatus (st : Nat) : core (jwlStatus st s) = core s := by simp [jwlStatus]
@[simp] theorem core_keyEcc (bad : List BadEntry) (h : Nat) : core (keyEcc bad h s) = core s := by simp [keyEcc]
@[simp] theorem core_trnDraw (n : Nat) : core (trnDraw n s).2 = core s := by simp [trnDraw]
@[simp] theorem core_keyEvent (h op : Nat) (attr : Word) : core (keyEvent h op attr s) = core s := by simp [keyEvent]
@[simp] theorem core_dropLoaded (h : Nat) : core (dropLoaded h s) = core s := by simp [dropLoaded]
@[simp] theorem core_setSlot (h : Nat) (k : Slot) (mask : List Byte) : core (setSlot h k mask s) = core s := by simp [setSlot]
@[simp] theorem core_fillSlot (h op : Nat) (attr : Word) (origin : Nat) (key : List Byte) :
    core (fillSlot h op attr origin key s) = core s := by
  simp [fillSlot]
@[simp] theorem core_jwlGenerate (h : Nat) (bad : List BadEntry) : core (jwlGenerate h bad s) = core s := by simp [jwlGenerate]
@[simp] theorem core_jwlImport (h p : Nat) (bad : List BadEntry) : core (jwlImport h p bad s) = core s := by
  unfold jwlImport
  simp
  (repeat' split) <;> simp
@[simp] theorem core_jwlDerive (h p : Nat) (bad : List BadEntry) : core (jwlDerive h p bad s) = core s := by simp [jwlDerive]
@[simp] theorem core_jwlDelete (h : Nat) (bad : List BadEntry) : core (jwlDelete h bad s) = core s := by simp [jwlDelete]
@[simp] theorem core_jwlOut (b : List Byte) : core (jwlOut b s) = core s := by simp [jwlOut]
@[simp] theorem core_jwlInfo (h : Nat) (bad : List BadEntry) : core (jwlInfo h bad s) = core s := by simp [jwlInfo]
@[simp] theorem core_jwlSave (h : Nat) (bad : List BadEntry) : core (jwlSave h bad s) = core s := by simp [jwlSave]
@[simp] theorem core_jwlRestore (h : Nat) (bad : List BadEntry) : core (jwlRestore h bad s) = core s := by
  unfold jwlRestore
  simp
  (repeat' split) <;> simp
@[simp] theorem core_signWith (k : Slot) (digest : List Byte) : core (signWith k digest s).2 = core s := by simp [signWith]
@[simp] theorem core_attestStatement (h : Nat) (nonce : List Byte) : core (attestStatement h nonce s).2 = core s := by
  simp [attestStatement]
@[simp] theorem core_jwlAttest (h : Nat) (bad : List BadEntry) : core (jwlAttest h bad s) = core s := by simp [jwlAttest]
@[simp] theorem core_jwlSign (h : Nat) (bad : List BadEntry) : core (jwlSign h bad s) = core s := by simp [jwlSign]
@[simp] theorem core_jwlHmac (h : Nat) (bad : List BadEntry) : core (jwlHmac h bad s) = core s := by simp [jwlHmac]
@[simp] theorem core_doJwlCmd (data : Nat) (bad : List BadEntry) : core (doJwlCmd data bad s) = core s := by
  unfold doJwlCmd
  simp
  (repeat' split) <;> simp
@[simp] theorem core_vltStatus (st : Nat) : core (vltStatus st s) = core s := by simp [vltStatus]
@[simp] theorem core_setVltCtr (k v : Nat) : core (setVltCtr k v s) = core s := by simp [setVltCtr]
@[simp] theorem core_takeCounters (r : List Byte) : core (takeCounters r s) = core s := by simp [takeCounters]
@[simp] theorem core_vltOpen : core (vltOpen s) = core s := by
  unfold vltOpen
  simp
  (repeat' split) <;> simp
@[simp] theorem core_vltSeal : core (vltSeal s) = core s := by
  unfold vltSeal
  split <;> simp
@[simp] theorem core_sealIfFull : core (sealIfFull s) = core s := by simp [sealIfFull]
@[simp] theorem core_putRecord (typ flags : Nat) (payload : List Byte) : core (putRecord typ flags payload s) = core s := by
  simp [putRecord]
@[simp] theorem core_putSnapshot (k : Nat) : core (putSnapshot k s) = core s := by simp [putSnapshot]
@[simp] theorem core_openBlock : core (openBlock s) = core s := by
  unfold openBlock
  split <;> simp
@[simp] theorem core_vltAppend : core (vltAppend s) = core s := by simp [vltAppend]
@[simp] theorem core_vltRaise (k : Nat) : core (vltRaise k s) = core s := by simp [vltRaise]
@[simp] theorem core_doVltCmd (data : Nat) : core (doVltCmd data s) = core s := by simp [doVltCmd]

@[simp] theorem core_writeEngine (b : Blk) {w off : Nat} (data : Nat) (a : Aux) {r : RegRow} (h : Plain w off r) :
    core (writeEngine b w off data a r s) = core s := by
  unfold writeEngine
  (repeat' split) <;> simp +decide [h]

@[simp] theorem core_doRecover (n : Nat) : core (doRecover n s) = core s := by simp [doRecover]
@[simp] theorem core_doCancel (n data : Nat) : core (doCancel n data s) = core s := by simp [doCancel]
@[simp] theorem core_doTxEvtClr (n data : Nat) : core (doTxEvtClr n data s) = core s := by simp [doTxEvtClr]
@[simp] theorem core_doWakeClr (k data : Nat) : core (doWakeClr k data s) = core s := by simp [doWakeClr]
@[simp] theorem core_emcDone (st : Nat) : core (emcDone st s) = core s := by simp [emcDone]
@[simp] theorem core_setFrer (i : Nat) (x : Frer) : core (setFrer i x s) = core s := by simp [setFrer]

@[simp] theorem core_doEmcCmd (data : Nat) (bad : List BadEntry) : core (doEmcCmd data bad s) = core s := by
  unfold doEmcCmd
  dsimp only
  split
  case h_1 => exact (core_emcDone _).trans (core_foldl (fun _ _ => core_with_flow _) _)
  all_goals (repeat' split) <;> simp

@[simp] theorem core_doMdio (data : Nat) : core (doMdio data s) = core s := by simp [doMdio]

@[simp] theorem core_writePort (b : Blk) {w off : Nat} (data : Nat) (a : Aux) {r : RegRow} (h : Plain w off r) :
    core (writePort b w off data a r s) = core s := by
  unfold writePort
  (repeat' split) <;> simp +decide [h]

@[simp] theorem core_doSwkClr (d : Nat) : core (doSwkClr d s) = core s := by simp [doSwkClr]
@[simp] theorem core_spring (d c idx : Nat) : core (spring d c idx s) = core s := by simp [spring]
@[simp] theorem core_doSwkCmd (d data : Nat) : core (doSwkCmd d data s) = core s := by simp [doSwkCmd]
@[simp] theorem core_doShcRun (d : Nat) (run : Bool) : core (doShcRun d run s) = core s := by simp [doShcRun]
@[simp] theorem core_doShcLoad (d : Nat) : core (doShcLoad d s) = core s := by simp [doShcLoad]
@[simp] theorem core_doShcCtrl (d data : Nat) : core (doShcCtrl d data s) = core s := by simp [doShcCtrl]
@[simp] theorem core_shcAdvance (d : Nat) : core (shcAdvance d s) = core s := by simp [shcAdvance]
@[simp] theorem core_setSram (d k v : Nat) : core (setSram d k v s) = core s := by simp [setSram]
@[simp] theorem core_doShcMemWrite (d data : Nat) : core (doShcMemWrite d data s) = core s := by simp [doShcMemWrite]
@[simp] theorem core_doMboxIn (d data : Nat) : core (doMboxIn d data s) = core s := by simp [doMboxIn]
@[simp] theorem core_doMboxOut (d data : Nat) : core (doMboxOut d data s) = core s := by simp [doMboxOut]
@[simp] theorem core_doMboxClear (d data : Nat) : core (doMboxClear d data s) = core s := by simp [doMboxClear]
@[simp] theorem core_doRelayOff (d : Nat) : core (doRelayOff d s) = core s := by simp [doRelayOff]
@[simp] theorem core_doHandover (d : Nat) : core (doHandover d s) = core s := by simp [doHandover]
@[simp] theorem core_doSrlCmd (d data : Nat) : core (doSrlCmd d data s) = core s := by simp [doSrlCmd]
@[simp] theorem core_srlDone (d st : Nat) : core (srlDone d st s) = core s := by simp [srlDone]
@[simp] theorem core_setRelayEntry (d e : Nat) (x : RelayEntry) : core (setRelayEntry d e x s) = core s := by simp [setRelayEntry]
@[simp] theorem core_doSrlEcmd (d data : Nat) (bad : List BadEntry) : core (doSrlEcmd d data bad s) = core s := by
  unfold doSrlEcmd
  split <;> simp
@[simp] theorem core_doVbatClr (d data : Nat) : core (doVbatClr d data s) = core s := by simp [doVbatClr]

@[simp] theorem core_writeShore (b : Blk) {w off : Nat} (data : Nat) (i : Initiator) (a : Aux) {r : RegRow} (h : Plain w off r) :
    core (writeShore b w off data i a r s) = core s := by
  unfold writeShore
  (repeat' split) <;> simp +decide [h]

/-! Reads. -/

@[simp] theorem core_departs (w : Nat) : core (departs w s) = core s := by simp [departs]

theorem core_bridgeRead {acc : Access} {w off : Nat} {t : State} (h : bridgeRead acc w off s = some t) : core t = core s := by
  unfold bridgeRead at h
  revert h
  (repeat' split) <;> rintro ⟨⟩ <;> simp +decide

@[simp] theorem core_doOutPop (q : Nat) : core (doOutPop q s).2 = core s := by
  unfold doOutPop
  (repeat' split) <;> simp
@[simp] theorem core_balVstat : core (balVstat s).2 = core s := by simp [balVstat]
@[simp] theorem core_doTrnOut : core (doTrnOut s).2 = core s := by
  unfold doTrnOut
  split <;> simp
@[simp] theorem core_cxRecov (n : Nat) : core (cxRecov n s).2 = core s := by
  unfold cxRecov
  simp
  (repeat' split) <;> simp
@[simp] theorem core_cxErrReg (n : Nat) : core (cxErrReg n s).2 = core s := by simp [cxErrReg]
@[simp] theorem core_gpioIn : core (gpioIn s).2 = core s := by simp [gpioIn]
@[simp] theorem core_readPair (w off : Nat) (spec : Bool) : core (readPair w off spec s).2 = core s := by simp +decide [readPair]
@[simp] theorem core_latchFrac : core (latchFrac s) = core s := by simp [latchFrac]
@[simp] theorem core_readLo (w off : Nat) : core (readLo w off s).2 = core s := by simp [readLo]
@[simp] theorem core_readHi (w off : Nat) : core (readHi w off s).2 = core s := by
  unfold readHi
  split <;> simp
@[simp] theorem core_doLdgRdData : core (doLdgRdData s).2 = core s := by simp [doLdgRdData]
@[simp] theorem core_doLdgEvtPop : core (doLdgEvtPop s).2 = core s := by
  unfold doLdgEvtPop
  split <;> simp
@[simp] theorem core_doIrtClaim (r t : Nat) : core (doIrtClaim r t s).2 = core s := by
  unfold doIrtClaim
  split <;> simp
@[simp] theorem core_doNmiPop (r t : Nat) : core (doNmiPop r t s).2 = core s := by simp [doNmiPop]
@[simp] theorem core_doTxEvtPop (n : Nat) : core (doTxEvtPop n s).2 = core s := by
  unfold doTxEvtPop
  split <;> simp
@[simp] theorem core_doTsqPop (k : Nat) : core (doTsqPop k s).2 = core s := by
  unfold doTsqPop
  split <;> simp
@[simp] theorem core_doShcMemRead (d : Nat) : core (doShcMemRead d s).2 = core s := by simp [doShcMemRead]
@[simp] theorem core_readEffect (w off : Nat) : core (readEffect w off s).2 = core s := by
  unfold readEffect
  (repeat' split) <;> simp
@[simp] theorem core_readDraws (w off : Nat) : core (readDraws w off s) = core s := by
  unfold readDraws
  split <;> simp
@[simp] theorem core_readPlain (w off : Nat) (r : RegRow) : core (readPlain w off r s).2 = core s := by simp [readPlain]
@[simp] theorem core_readReg (w off : Nat) (r : RegRow) (spec : Bool) : core (readReg w off r spec s).2 = core s := by
  unfold readReg
  (repeat' split) <;> simp +decide

@[simp] theorem core_baseRead (acc : Access) (w off : Nat) : core (baseRead acc w off s) = core s := by
  unfold baseRead
  split
  · simp
  · split
    · exact core_bridgeRead ‹_›
    · (repeat' split) <;> simp +decide

@[simp] theorem core_twinRead (w off : Nat) : core (twinRead w off s) = core s := by
  unfold twinRead
  split <;> simp
@[simp] theorem core_aliasRead (acc : Access) (w off : Nat) : core (aliasRead acc w off s) = core s := by
  unfold aliasRead
  split <;> simp
@[simp] theorem core_winRead (acc : Access) (w off : Nat) : core (winRead acc w off s) = core s := by
  unfold winRead
  split <;> simp
@[simp] theorem core_dropBurst (d : Nat) (i : Initiator) : core (dropBurst d i s) = core s := by simp [dropBurst]
@[simp] theorem core_shoreCross (d : Nat) (acc : Access) : core (shoreCross d acc s) = core s := by simp [shoreCross]

@[simp] theorem core_burstWords (w n off : Nat) : core (burstWords w n off s).2 = core s := by
  induction n generalizing off s with
  | zero => rfl
  | succ n ih =>
    simp only [burstWords, ih]
    split <;> simp

@[simp] theorem core_doShcEcc (d : Nat) : core (doShcEcc d s) = core s := by simp [doShcEcc]
@[simp] theorem core_sramAccess (d : Nat) (acc : Access) (e : Ecc) : core (sramAccess d acc e s) = core s := by simp [sramAccess]
/-! What goes on by itself. -/

@[simp] theorem core_enterService (w : Nat) : core (enterService w s) = core s := by simp [enterService]
@[simp] theorem core_sweepService : core (sweepService s) = core s := by simp [sweepService]
@[simp] theorem core_sweepLearn : core (sweepLearn s) = core s := by simp [sweepLearn]
@[simp] theorem core_sweepCores : core (sweepCores s) = core s := by simp [sweepCores]

@[simp] theorem core_confineFrame (fid : Nat) : core (confineFrame fid s) = core s := by
  unfold confineFrame
  dsimp only
  split
  · simp
  · refine (core_foldl (fun s c => ?_) _).trans (by simp)
    split
    · rfl
    · rename_i w r h
      have hw : w ≠ 0 := by
        revert h
        unfold confinedReg
        split
        · rintro ⟨⟩; simp
        · split
          · rintro ⟨⟩; simp
          · split
            · rintro ⟨⟩; decide
            · split
              · rintro ⟨⟩; decide
              · split
                · rintro ⟨⟩; decide
                · rintro ⟨⟩
      simp [hw]

@[simp] theorem core_sweepPoison : core (sweepPoison s) = core s := by simp [sweepPoison]
@[simp] theorem core_violate (code : Nat) (dropped : Bool) (index loc : Nat) (t : Tag) :
    core (violate code dropped index loc t s).2 = core s := by
  simp [violate]
@[simp] theorem core_secRefused (m : Nat) (t : Tag) : core (secRefused m t s) = core s := by simp [secRefused]
@[simp] theorem core_secCount (m k : Nat) : core (secCount m k s) = core s := by simp [secCount]
@[simp] theorem core_setSaPn (i v : Nat) : core (setSaPn i v s) = core s := by simp [setSaPn]
@[simp] theorem core_takePn (m sa pn : Nat) : core (takePn m sa pn s) = core s := by simp [takePn]
@[simp] theorem core_macsecOut (plan : SecPlan) (m maxLen : Nat) (t : Tag) (p : List Byte) :
    core (macsecOut plan m maxLen t p s).2 = core s := by
  unfold macsecOut
  (repeat' split) <;> simp

@[simp] theorem core_egressBytes (k prof : Nat) (plan : SecPlan) (f : Frame) : core (egressBytes k prof plan f s).2 = core s := by
  unfold egressBytes
  dsimp only
  split
  all_goals
    rename_i t hsec
    have hcore : core t = core s := by
      refine (congrArg (fun r => core r.2) hsec).symm.trans ((core_macsecOut ..).trans ?_)
      split <;> simp
  · exact hcore
  · rw [← hcore]
    split <;> simp

@[simp] theorem core_creditsSend (k x ns : Nat) : core (creditsSend k x ns s) = core s := by simp [creditsSend]
@[simp] theorem core_ctFinish (k : Nat) : core (ctFinish s k) = core s := by
  unfold ctFinish
  simp
  (repeat' split) <;> simp
@[simp] theorem core_ctSweep : core (ctSweep s) = core s := by simp [ctSweep]
@[simp] theorem core_cxModeChanged (n m0 : Nat) : core (cxModeChanged n m0 s) = core s := by simp [cxModeChanged]
@[simp] theorem core_sweepModes (s0 : State) : core (sweepModes s0 s) = core s := by simp [sweepModes]
@[simp] theorem core_sweepPorts : core (sweepPorts s) = core s := by simp [sweepPorts]
@[simp] theorem core_sweepGates (s0 : State) : core (sweepGates s0 s) = core s := by simp [sweepGates]
@[simp] theorem core_twinDelta (bitn : Nat) : core (twinDelta bitn s) = core s := by simp [twinDelta]
@[simp] theorem core_sweepNm (s0 : State) : core (sweepNm s0 s) = core s := by simp [sweepNm]
@[simp] theorem core_sweepLinks : core (sweepLinks s) = core s := by simp [sweepLinks]
@[simp] theorem core_noteShed : core (noteShed s) = core s := by simp [noteShed]

@[simp] theorem core_twinSweep : core (twinSweep s) = core s := by
  unfold twinSweep
  split
  · rfl
  · refine core_foldl (fun s k => core_foldl (fun s x => ?_) _) _
    split <;> simp

@[simp] theorem core_sgeOps (n : Nat) : core (sgeOps n s) = core s := by simp [sgeOps]
@[simp] theorem core_offerWhole (fp : Nat) (f : Frame) (o : Origin) : core (offerWhole fp f o s) = core s := by simp [offerWhole]
@[simp] theorem core_sgeCreate (f : Frame) : core (sgeCreate f s) = core s := by simp [sgeCreate]
@[simp] theorem core_sgeSendCan (chan cls id : Nat) (data : List Byte) : core (sgeSendCan chan cls id data s) = core s := by
  simp [sgeSendCan]
@[simp] theorem core_sgeSendCm (d chan prio : Nat) (etp : Bool) (da sa : Nat) (data : List Byte) :
    core (sgeSendCm d chan prio etp da sa data s) = core s := by
  simp [sgeSendCm]
@[simp] theorem core_sgeSendAbort (d chan : Nat) (etp : Bool) (da sa reason pgn : Nat) :
    core (sgeSendAbort d chan etp da sa reason pgn s) = core s := by
  simp [sgeSendAbort]
@[simp] theorem core_sendEoma (x : Session) : core (sendEoma x s) = core s := by simp [sendEoma]

@[simp] theorem core_sgeSweep : core (sgeSweep s) = core s := by
  unfold sgeSweep
  refine core_foldl (fun s x => ?_) _
  split
  · rfl
  · simp +decide

@[simp] theorem core_pinUpdate : core (pinUpdate s) = core s := by simp [pinUpdate]
/-! Reactions to a fault. -/

@[simp] theorem core_nmiTo (g r t : Nat) : core (nmiTo g r s t) = core s := by simp [nmiTo]
@[simp] theorem core_deliverNmi (g : Nat) : core (deliverNmi g s) = core s := by simp [deliverNmi]
@[simp] theorem core_fltNmi (w : Nat) (e : FltEntry) : core (fltNmi w e s) = core s := by simp [fltNmi]
@[simp] theorem core_fltInform (w : Nat) (es : List FltEntry) : core (fltInform w es s) = core s := by
  unfold fltInform
  split <;> simp +decide
@[simp] theorem core_capFault (g : Nat) : core (capFault g s) = core s := by simp [capFault]
@[simp] theorem core_autoFreeze (w src : Nat) : core (autoFreeze w src s) = core s := by simp +decide [autoFreeze]
@[simp] theorem core_ledgerFault (w sev : Nat) : core (ledgerFault w sev s) = core s := by simp [ledgerFault]
@[simp] theorem core_brstReport (g loc : Nat) : core (brstReport g loc s) = core s := by simp +decide [brstReport]

/-! ### Block resets -/

/-- The core is as before, but for the record of the last reset; and no source has come to a severity above 3. -/
structure Loose (c c' : Core) : Prop where
  ghosts : c'.ghosts = c.ghosts
  mem : c'.mem = c.mem
  straps : c'.straps = c.straps
  held : c'.held = c.held
  table : c'.table = c.table
  wild : ∀ k, c'.wild k = true → c.wild k = true

/-- No source of the main die holds a severity above 3. -/
def Core.tame (c : Core) : Prop := ∀ k, c.wild k = false

/-- As `Loose`; the record of the last reset too, where no severity above 3 can put a fault count (FLT_CNT) over it. -/
structure Near (c c' : Core) : Prop extends Loose c c' where
  kept : c.tame → c'.reason = c.reason ∧ c'.flt = c.flt

theorem Loose.refl (c : Core) : Loose c c := ⟨rfl, rfl, rfl, rfl, rfl, fun _ h => h⟩

theorem Loose.trans {a b c : Core} (h : Loose a b) (h' : Loose b c) : Loose a c :=
  ⟨h'.ghosts.trans h.ghosts, h'.mem.trans h.mem, h'.straps.trans h.straps, h'.held.trans h.held, h'.table.trans h.table,
    fun k hk => h.wild k (h'.wild k hk)⟩

theorem Loose.tame {a b : Core} (h : Loose a b) (ha : a.tame) : b.tame := fun k => by
  cases hk : b.wild k with
  | false => rfl
  | true => exact absurd (h.wild k hk) (by simp [ha k])

theorem Near.refl (c : Core) : Near c c := ⟨.refl c, fun _ => ⟨rfl, rfl⟩⟩

theorem Near.of_eq {a b : Core} (h : b = a) : Near a b := h ▸ .refl a

theorem Near.trans {a b c : Core} (h : Near a b) (h' : Near b c) : Near a c :=
  ⟨h.toLoose.trans h'.toLoose, fun ha =>
    have h1 := h.kept ha
    have h2 := h'.kept (h.toLoose.tame ha)
    ⟨h2.1.trans h1.1, h2.2.trans h1.2⟩⟩

/-- Writes of a window's registers after which a register of SYS reads as it did. -/
theorem reg_foldl_setReg {w : Nat} {l : List (Nat × Nat)} {off v : Nat} (hv : ∀ p ∈ l, p.1 = off → p.2 % 2 ^ 32 = v)
    (ho : off < 0x2000) (hl : ∀ p ∈ l, p.1 < 0x2000) (h : s.reg w off = v ∨ ∃ p ∈ l, p.1 = off) :
    (l.foldl (fun s p => s.setReg w p.1 p.2) s).reg w off = v := by
  induction l generalizing s with
  | nil => simpa using h
  | cons p l ih =>
    rw [List.foldl_cons]
    refine ih (fun q hq => hv q (List.mem_cons_of_mem p hq)) (fun q hq => hl q (List.mem_cons_of_mem p hq)) ?_
    by_cases hp : p.1 = off
    · left
      rw [hp, reg_setReg_same, hv p List.mem_cons_self hp]
    · have hk : regKey w off ≠ regKey w p.1 := fun hk => hp ((regKey_inj w off w p.1 ho (hl p List.mem_cons_self)).mp hk).2.symm
      rw [reg_setReg_other _ _ _ _ _ _ hk]
      rcases h with h | ⟨q, hq, hqo⟩
      · exact .inl h
      · rcases List.mem_cons.mp hq with rfl | hq
        · exact absurd hqo hp
        · exact .inr ⟨q, hq, hqo⟩

theorem core_setReg_any (w off v : Nat) : core (s.setReg w off v)
    = { core s with reason := (s.setReg w off v).reg W.SYS SYS_RST_REASON, flt := (s.setReg w off v).reg W.SYS SYS_RST_FLT } := rfl

theorem Loose.setReg (w off v : Nat) : Loose (core s) (core (s.setReg w off v)) := ⟨rfl, rfl, rfl, rfl, rfl, fun _ h => h⟩

theorem Loose.foldl {α : Type} {f : State → α → State} (h : ∀ s x, Loose (core s) (core (f s x))) (l : List α) :
    Loose (core s) (core (l.foldl f s)) := by
  induction l generalizing s with
  | nil => exact .refl _
  | cons x l ih => exact (h s x).trans ih

/-- The registers of the last reset, which a block reset of SYS keeps. -/
def lastReset (o : Nat) : Prop := o = 0x260 ∨ o = 0x230

theorem resetRegs_reg {w : Nat} {kept : List Nat} (hk : w = 0 → ∀ o, lastReset o → o ∈ kept) (hlt : ∀ o ∈ kept, o < 0x2000)
    {o : Nat} (ho : lastReset o) : (resetRegs w kept s).reg 0 o = s.reg 0 o := by
  have ho2 : o < 0x2000 := by unfold lastReset at ho; omega
  unfold resetRegs
  dsimp only
  by_cases hw : w = 0
  · subst hw
    refine reg_foldl_setReg ?_ ho2 ?_ (.inr ⟨(o, s.reg 0 o), ?_, rfl⟩)
    · rintro ⟨a, v⟩ hp rfl
      rcases List.mem_append.mp hp with hp | hp
      · obtain ⟨b, -, hb⟩ := List.mem_map.mp hp
        cases hb
        exact Nat.mod_eq_of_lt (reg_lt s 0 _)
      · obtain ⟨k, hk, hb⟩ := List.mem_map.mp hp
        have hk := List.mem_range.mp hk
        simp only [Prod.mk.injEq, FLT_CFG] at hb
        unfold lastReset at ho
        omega
    · intro p hp
      rcases List.mem_append.mp hp with hp | hp
      · obtain ⟨b, hb, rfl⟩ := List.mem_map.mp hp
        rcases List.mem_cons.mp hb with rfl | hb
        · exact (by decide : WIN_ACCESS < 0x2000)
        · exact hlt b hb
      · obtain ⟨k, hk, rfl⟩ := List.mem_map.mp hp
        have hk := List.mem_range.mp hk
        simp only [FLT_CFG]
        omega
    · exact List.mem_append_left _ (List.mem_map.mpr ⟨o, List.mem_cons_of_mem _ (hk rfl o ho), rfl⟩)
  · have hset : ∀ (l : List (Nat × Nat)) (s : State), (l.foldl (fun s p => s.setReg w p.1 p.2) s).reg 0 o = s.reg 0 o := by
      intro l
      induction l with
      | nil => exact fun _ => rfl
      | cons p l ih =>
        intro s
        have key : regKey 0 o ≠ regKey w p.1 := by unfold regKey; omega
        rw [List.foldl_cons, ih, reg_setReg_other _ _ _ _ _ _ key]
    have hkey : (!decide (regKey 0 o / 0x2000 = w)) = true := by
      have : regKey 0 o / 0x2000 = 0 := by unfold regKey; omega
      simp [this, Ne.symm hw]
    rw [hset]
    simp only [State.reg, kvGet_kvFilter, hkey, if_true]

theorem near_resetRegs {w : Nat} {kept : List Nat} (hk : w = 0 → ∀ o, lastReset o → o ∈ kept)
    (hlt : ∀ o ∈ kept, o < 0x2000) : Near (core s) (core (resetRegs w kept s)) := by
  refine ⟨?_, fun _ => ⟨resetRegs_reg hk hlt (.inl rfl), resetRegs_reg hk hlt (.inr rfl)⟩⟩
  unfold resetRegs
  refine Loose.trans ?_ (Loose.foldl (fun s p => Loose.setReg _ _ _) _)
  refine ⟨rfl, rfl, rfl, rfl, rfl, fun k hwild => ?_⟩
  simp only [core, kvGet_kvFilter] at hwild ⊢
  split at hwild
  · exact hwild
  · exact absurd hwild (by simp [Source.idle])

theorem mem_keptRegs {w : Nat} {b : Blk} (hb : blkOf w = some b) :
    (w = 0 → ∀ o, lastReset o → o ∈ keptRegs b) ∧ ∀ o ∈ keptRegs b, o < 0x2000 := by
  constructor
  · rintro rfl o ho
    cases hb
    rcases ho with rfl | rfl <;> decide
  · cases b <;> decide

theorem near_resetBlock (w : Nat) : Near (core s) (core (resetBlock w s)) := by
  unfold resetBlock
  split
  · exact .refl _
  · rename_i b hb
    obtain ⟨hk, hlt⟩ := mem_keptRegs hb
    refine (near_resetRegs hk hlt).trans (.of_eq ?_)
    dsimp only
    split <;> simp

/-! ### Register writes -/

theorem Near.ite {c : Core} {p : Prop} [Decidable p] {a b : State} (ha : Near c (core a)) (hb : Near c (core b)) :
    Near c (core (if p then a else b)) := by
  split
  · exact ha
  · exact hb

theorem near_writeCtrl (w data : Nat) : Near (core s) (core (writeCtrl w data s)) := by
  unfold writeCtrl
  split
  · exact .refl _
  · have hen : ∀ f : State → State, core (f s) = core s → Near (core s) (core (aroundEnable w f s)) :=
      fun f hf => .of_eq (core_aroundEnable w f hf)
    have hres : ∀ t, Near (core s) (core t) → Near (core s) (core (if bit data 1 then resetBlock w t else t)) :=
      fun t ht => .ite (ht.trans (near_resetBlock w)) ht
    refine hres _ (hen _ ?_)
    (repeat' split) <;> simp +decide

theorem near_writeHdr {w off : Nat} (data : Nat) {r : RegRow} (h : Plain w off r) :
    Near (core s) (core (writeHdr w off data r s)) := by
  unfold writeHdr
  split
  · exact near_writeCtrl w data
  · refine .of_eq ?_
    (repeat' split) <;> simp [h]

theorem near_writeReg {w off : Nat} (data : Nat) (i : Initiator) (a : Aux) {r : RegRow} (h : Plain w off r) :
    Near (core s) (core (writeReg w off data i a r s)) := by
  unfold writeReg
  split
  · exact .refl _
  · split
    · exact near_writeHdr data h
    · refine .of_eq ?_
      (repeat' split) <;> simp [h]

/-- SYS_RST_REASON and SYS_RST_FLT are read-only. -/
theorem rowAt_lastReset {o : Nat} {r : RegRow} (ho : lastReset o) (hr : rowAt 0 o = some r) : r.rw = 0 ∧ r.w1c = 0 ∧ r.gd = 0 := by
  rcases ho with rfl | rfl <;> (cases hr; decide)

theorem plain_rowAt {w off : Nat} {r : RegRow} (hr : rowAt w off = some r) : Plain w off r := by
  rintro rfl ho
  obtain ⟨hrw, hw1c, -⟩ := rowAt_lastReset ho hr
  exact ⟨hrw, hw1c⟩

theorem near_baseWrite (acc : Access) (w off : Nat) (a : Aux) : Near (core s) (core (baseWrite acc w off a s)) := by
  have hw : ∀ r, rowAt w off = some r → ∀ data, Near (core s) (core (writeReg w off data acc.init a r (busDone 0 s))) :=
    fun r hr data => (Near.of_eq (core_busDone 0)).trans (near_writeReg data acc.init a (plain_rowAt hr))
  unfold baseWrite
  split
  · exact .of_eq (by simp)
  · rename_i r hr
    dsimp only
    refine .ite (.of_eq (by simp)) (.ite (.of_eq (by simp)) ?_)
    split
    · exact .of_eq (by simp)
    · exact .ite (.of_eq (by simp)) (hw r hr _)
    · exact hw r hr _

theorem near_aliasWrite (acc : Access) (w off view : Nat) (a : Aux) : Near (core s) (core (aliasWrite acc w off view a s)) := by
  unfold aliasWrite
  split
  · exact .of_eq (by simp)
  · rename_i r hr
    dsimp only
    refine .ite (.of_eq (by simp)) (.ite (.of_eq (by simp)) (.ite (.of_eq (by simp)) ?_))
    exact (Near.of_eq (core_busDone 0)).trans (near_writeReg _ _ _ (plain_rowAt hr))

/-! ### Chip resets -/

/-- What a chip reset leaves of the core. -/
def Core.restart (k : StartKind) (r : Nat) (c : Core) : Core where
  ghosts := c.ghosts.filter fun p => !mainWin p.win
  reason := (k.code * 256 + r) % 2 ^ 32
  flt := if k == .warm then c.flt else 0
  mem := if k.keeps then kvFilter retainedByte c.mem else []
  straps := c.straps
  held := []
  table := none
  wild := fun _ => false

theorem core_setReg_reason (v : Nat) : core (s.setReg W.SYS SYS_RST_REASON v) = { core s with reason := v % 2 ^ 32 } := by
  rw [core_setReg_any, reg_setReg_same, reg_setReg_other _ _ _ _ _ _ (by decide)]
  rfl

theorem core_setReg_flt (v : Nat) : core (s.setReg W.SYS SYS_RST_FLT v) = { core s with flt := v % 2 ^ 32 } := by
  rw [core_setReg_any, reg_setReg_same, reg_setReg_other _ _ _ _ _ _ (by decide)]
  rfl

/-- The registers, sources and waiting accesses of the main die are gone. -/
theorem core_of_cleared {k : StartKind} {o t : State} (hregs : t.regs = kvFilter (fun x => !mainWin (x / 0x2000)) o.regs)
    (hsrc : t.sources = kvFilter (fun x => !mainWin (x / 32)) o.sources) (hposts : t.posts = o.posts.filter fun p => !mainWin p.win)
    (hmem : t.mem = if k.keeps then kvFilter retainedByte o.mem else [])
    (hdef : t.deferred = o.deferred.filter fun x => (shcOf x.acc.init).isSome) (hstraps : t.straps = o.straps)
    (hxsp : t.xsp = ⟨0, []⟩) (htab : t.crn.table = none) :
    core t = { (core o).restart k 1 with reason := 0x101, flt := 0 } := by
  have hreg : ∀ x < 0x2000, t.reg 0 x = resetOf 0 x % 2 ^ 32 := by
    intro x hx
    have hmain : mainWin (regKey 0 x / 0x2000) = true := by
      have : regKey 0 x / 0x2000 = 0 := by unfold regKey; omega
      rw [this]
      decide
    rw [State.reg, hregs, kvGet_kvFilter, hmain]
    exact BitVec.toNat_ofNat ..
  have hheld : ((t.deferred.map (·.acc)) ++ t.xsp.waiting).filter memBound = [] := by
    rw [hdef, hxsp, List.append_nil, List.filter_eq_nil_iff]
    intro a ha
    obtain ⟨x, hx, rfl⟩ := List.mem_map.mp ha
    have := (List.mem_filter.mp hx).2
    simp only [memBound]
    cases h : shcOf x.acc.init <;> simp_all
  have hwild : (fun k => mainWin (k / 32) && decide (3 < (kvGet Source.idle t.sources k).sev)) = fun _ => false := by
    funext k
    rw [hsrc, kvGet_kvFilter]
    cases mainWin (k / 32) <;> simp [Source.idle]
  have hgh : t.posts.filter ghost = (o.posts.filter ghost).filter fun p => !mainWin p.win := by
    rw [hposts, List.filter_filter, List.filter_filter]
    simp only [Bool.and_comm]
  simp only [core, Core.restart, hheld, hwild, hgh, hmem, hstraps, htab]
  rw [hreg _ (by decide), hreg _ (by decide)]
  rfl

theorem core_mainReset {k : StartKind} (hk : k = .warm ∨ k = .cold) :
    core (mainReset k s) = { (core s).restart k 1 with reason := 0x101 } := by
  have hn : core (noticeShore 1 (noticeShore 0 s)) = core s := by simp
  rw [← hn]
  unfold mainReset
  generalize noticeShore 1 (noticeShore 0 s) = o
  have hdig : ∀ (t : State) (l : KV (List Byte)), core (t.modCrn fun c => { c with digests := l }) = core t :=
    fun t l => core_modCrn _ fun _ => rfl
  have hdmc : ∀ (t : State) (b : Bool), core ((t.setFlag W.DMC DMC_STAT 2 true).setFlag W.DMC DMC_STAT 3 b) = core t :=
    fun t b => by simp
  have hkeep : StartKind.warm.keeps = true ∧ StartKind.cold.keeps = false := ⟨rfl, rfl⟩
  have hkind : (StartKind.warm == .standby) = false ∧ (StartKind.cold == .standby) = false ∧ (StartKind.warm == .warm) = true
      ∧ (StartKind.cold == .warm) = false := by decide
  rcases hk with rfl | rfl
  · have hflt : o.reg W.SYS SYS_RST_FLT % 2 ^ 32 = o.reg W.SYS SYS_RST_FLT := Nat.mod_eq_of_lt (reg_lt o 0 _)
    simp only [hkeep, hkind, Bool.true_and, if_true, Bool.false_eq_true, if_false, core_ite, hdmc, ite_self]
    rw [core_setReg (.inr (by decide)), core_setReg_flt, hdig, core_modShore, core_modShore, hflt, core_of_cleared (k := .warm) (o := o)]
    all_goals rfl
  · simp only [hkeep, hkind, Bool.false_and, Bool.false_eq_true, if_false]
    rw [core_modShore, core_modShore, core_of_cleared (k := .cold) (o := o)]
    all_goals rfl

theorem straps_of_core {a b : State} (h : core a = core b) : a.straps = b.straps := congrArg Core.straps h

/-- A start with the straps at 3 halts, whatever its inputs. -/
theorem core_romStart {k : StartKind} {r : Nat} (x : StartInput) (hr : r ≠ 1) (h3 : bits s.straps 1 0 = 3) :
    core (romStart k r x s) = { core s with reason := (k.code * 256 + r) % 2 ^ 32 } := by
  unfold romStart
  rw [← core_setReg_reason]
  have h3 : bits (s.setReg W.SYS SYS_RST_REASON (k.code * 256 + r)).straps 1 0 = 3 := h3
  generalize s.setReg W.SYS SYS_RST_REASON (k.code * 256 + r) = o at h3 ⊢
  simp only [hr, if_false]
  have hm : core (if (k == .cold && x.margin2) = true then o.raise0 W.SYS 3 else o) = core o := by simp
  generalize (if (k == .cold && x.margin2) = true then o.raise0 W.SYS 3 else o) = t at hm ⊢
  rw [core_ite, core_ite, core_romHalt, core_bootError, hm, core_romHalt, core_bootError]
  generalize (if bistRuns k r (romLinks x t) = true then x.banks else []) = banks
  have hb : core (if bistRuns k r (romLinks x t) = true then nameBanks banks ((romLinks x t).setFlag W.SYS SYS_BOOT_STAT 20 true)
      else romLinks x t) = core o := by simp +decide [hm]
  generalize (if bistRuns k r (romLinks x t) = true then nameBanks banks ((romLinks x t).setFlag W.SYS SYS_BOOT_STAT 20 true)
      else romLinks x t) = u at hb ⊢
  have hd : core (if (k == .warm) = true then u else deriveRoot u) = core o := by simp [hb]
  generalize (if (k == .warm) = true then u else deriveRoot u) = v at hd ⊢
  rw [straps_of_core hd, h3, hb]
  simp [hd]

theorem core_doReset {k : StartKind} {r : Nat} (x : StartInput) (hk : k = .warm ∨ k = .cold) (hr : r ≠ 1)
    (h3 : bits s.straps 1 0 = 3) : core (doReset k r x s) = (core s).restart k r := by
  have hstraps : (core (mainReset k s)).straps = s.straps := by rw [core_mainReset hk]; rfl
  rw [doReset, core_romStart x hr (by rw [← h3, ← hstraps]; rfl), core_mainReset hk]
  rfl

/-! ### Accesses to windows -/

/-- From `c` to `c'` with at most one chip reset, and that by SYS_RST_CMD. -/
inductive Goes (c c' : Core) : Prop where
  | on (h : Near c c') : Goes c c'
  | reset {k : StartKind} {r : Nat} {a : Core} (hk : k = .warm ∧ r = 3 ∨ k = .cold ∧ r = 4) (h : Near c a)
      (h' : Near (a.restart k r) c') : Goes c c'

theorem Goes.of_eq {c c' : Core} (h : c' = c) : Goes c c' := .on (.of_eq h)

theorem Goes.near {a b c : Core} (h : Near a b) (h' : Goes b c) : Goes a c := by
  cases h' with
  | on h' => exact .on (h.trans h')
  | reset hk h1 h2 => exact .reset hk (h.trans h1) h2

theorem Goes.ite {c : Core} {p : Prop} [Decidable p] {a b : State} (ha : Goes c (core a)) (hb : Goes c (core b)) :
    Goes c (core (if p then a else b)) := by
  split
  · exact ha
  · exact hb

theorem goes_doRstCmd (data : Nat) (x : StartInput) (h3 : bits s.straps 1 0 = 3) : Goes (core s) (core (doRstCmd data x s)) := by
  unfold doRstCmd
  split
  · exact .reset (.inl ⟨rfl, rfl⟩) (.refl _) (.of_eq (core_doReset x (.inl rfl) (by decide) h3))
  · exact .reset (.inr ⟨rfl, rfl⟩) (.refl _) (.of_eq (core_doReset x (.inr rfl) (by decide) h3))
  · exact .on (.refl _)

theorem goes_withStart (a : Aux) (data : Nat) (h3 : bits s.straps 1 0 = 3) :
    Goes (core s) (core (withStart a (fun x s => doRstCmd data x s) s)) := by
  unfold withStart
  split
  · exact goes_doRstCmd data _ h3
  · exact .near (.of_eq (core_drawStart)) (goes_doRstCmd data _ h3)

theorem goes_writeGuarded {w off : Nat} (data : Nat) (a : Aux) {r : RegRow} (hr : rowAt w off = some r) (hg : r.gd ≠ 0)
    (h3 : bits s.straps 1 0 = 3) : Goes (core s) (core (writeGuarded w off data a r s)) := by
  have hoff : w ≠ 0 ∨ off ≠ 0x260 ∧ off ≠ 0x230 := by
    refine (Decidable.em (w = 0)).elim (fun h => .inr ?_) .inl
    subst h
    exact ⟨fun h => hg (rowAt_lastReset (.inl h) hr).2.2, fun h => hg (rowAt_lastReset (.inr h) hr).2.2⟩
  have hset : ∀ v, core (s.setReg w off v) = core s := fun v => core_setReg hoff
  unfold writeGuarded
  dsimp only
  refine .ite (.on (near_writeCtrl w data)) (.ite (.of_eq ?_) ?_)
  · simp [hset]
  split
  · exact .of_eq (core_writeFltCfg ‹off < 0x100›)
  · split
    · refine .ite (.of_eq (by simp [hset])) (.ite ?_ (.of_eq (hset _)))
      exact .near (.of_eq (hset _)) (goes_withStart a data h3)
    all_goals exact .of_eq (by simp [hset])

theorem goes_twinWrite (acc : Access) (w off : Nat) (a : Aux) (h3 : bits s.straps 1 0 = 3) :
    Goes (core s) (core (twinWrite acc w off a s)) := by
  unfold twinWrite
  dsimp only
  split
  · exact .of_eq (by simp)
  · exact .of_eq (by simp)
  · exact .of_eq (by simp)
  · rename_i g r _ hr
    split
    · exact .of_eq (by simp)
    · rename_i hg
      refine .ite (.of_eq (by simp)) (.near (.of_eq ?_) (goes_writeGuarded _ a hr (fun h => hg (.inl h)) ?_))
      · simp
      · exact h3

theorem goes_winWrite (acc : Access) (w off : Nat) (a : Aux) (h3 : bits s.straps 1 0 = 3) :
    Goes (core s) (core (winWrite acc w off a s)) := by
  have hd : Near (core s) (core (departs w s)) := .of_eq (core_departs w)
  unfold winWrite
  split
  · exact goes_twinWrite acc w off a h3
  · exact .on (hd.trans (near_baseWrite acc w off a))
  · exact .on (hd.trans (near_aliasWrite acc w _ _ a))
  · exact .on (hd.trans (near_aliasWrite acc w _ _ a))
  · exact .on (hd.trans (near_aliasWrite acc w _ _ a))
  · exact .of_eq (by simp)

theorem core_with_deferred (l : List Waiting) :
    core { s with deferred := l } = { core s with held := (l.map (·.acc) ++ s.xsp.waiting).filter memBound } := rfl

theorem core_defer {acc : Access} (h : memBound acc = false) (a : Aux) (sent : Bool) : core (s.defer acc a sent) = core s := by
  rw [State.defer, core_with_deferred]
  simp only [List.map_append, List.filter_append, List.map_cons, List.map_nil, List.filter_cons, h, List.filter_nil,
    Bool.false_eq_true, if_false, List.append_nil]
  rw [← List.filter_append]
  rfl

theorem goes_winAccess {acc : Access} (hb : memBound acc = false) (w off : Nat) (a : Aux) (h3 : bits s.straps 1 0 = 3) :
    Goes (core s) (core (winAccess acc w off a s)) := by
  unfold winAccess
  refine .ite (.of_eq (by simp)) (.ite (.of_eq (core_defer hb a true)) (.ite (.of_eq (by simp)) (.ite ?_ (.of_eq (by simp)))))
  exact goes_winWrite acc w off a h3

/-- A read changes nothing of the core. -/
theorem core_winAccess_read {acc : Access} (hb : memBound acc = false) (hw : acc.write = false) (w off : Nat) (a : Aux) :
    core (winAccess acc w off a s) = core s := by
  unfold winAccess
  simp [hw, core_defer hb]

theorem core_shoreFetch (d : Nat) {acc : Access} (hb : memBound acc = false) (hw : acc.write = false) (w off : Nat) :
    core (shoreFetch d acc w off s) = core s := by
  unfold shoreFetch
  split
  · exact core_winAccess_read hb hw w off _
  · dsimp only
    split
    · exact core_winAccess_read hb hw w off _
    · simp

theorem core_shoreRead (d : Nat) {acc : Access} (hb : memBound acc = false) (hw : acc.write = false) (w off : Nat) (sent : Bool) :
    core (shoreRead d acc w off sent s) = core s := by
  unfold shoreRead
  split
  · exact core_shoreFetch d hb hw w off
  · split
    · simp
    · simp [core_shoreFetch d hb hw w off]

theorem windowOf_add_four {addr : Nat} (h : addr % 8 = 0) : windowOf (addr + 4) = windowOf addr := by
  unfold windowOf
  have h1 : (0x40000000 ≤ addr + 4 ∧ addr + 4 < 0x44000000) ↔ (0x40000000 ≤ addr ∧ addr < 0x44000000) := by omega
  have h2 : 0x40000000 ≤ addr → (addr + 4 - 0x40000000) / 0x10000 = (addr - 0x40000000) / 0x10000 := by omega
  simp only [h1]
  split
  · rename_i h
    rw [h2 h.1]
  · rfl

theorem core_shoreRead64 (d : Nat) {acc : Access} (hb : memBound acc = false) (hw : acc.write = false) (w : Nat) {off : Nat}
    (hoff : off = acc.addr % 0x10000) (sent : Bool) : core (shoreRead64 d acc w off sent s) = core s := by
  unfold shoreRead64
  dsimp only
  split
  · simp
  · rename_i hsize
    have h8 : acc.addr % 8 = 0 := by
      simp [sizeOk] at hsize
      omega
    have hlo : ∀ t : State, core (shoreRead d { acc with size := 32 } w off sent t) = core t :=
      fun t => core_shoreRead d (by exact hb) (by exact hw) w off sent
    have hhi : ∀ t : State, core (shoreRead d { acc with size := 32, addr := acc.addr + 4 } w (off + 4) sent t) = core t :=
      fun t => core_shoreRead d (by simpa [memBound, windowOf_add_four h8] using hb) (by exact hw) w (off + 4) sent
    simp [core_defer hb, hlo, hhi]

theorem goes_shoreAccess (d : Nat) {acc : Access} (hb : memBound acc = false) (w : Nat) {off : Nat} (hoff : off = acc.addr % 0x10000)
    (a : Aux) (sent : Bool) (h3 : bits s.straps 1 0 = 3) : Goes (core s) (core (shoreAccess d acc w off a sent s)) := by
  have hc : core (if sent = true then s else shoreCross d acc s) = core s := by simp
  unfold shoreAccess
  refine .ite (.of_eq (by simp)) ?_
  split
  · exact .near (.of_eq hc) (goes_winAccess hb w off a (by rw [straps_of_core hc]; exact h3))
  · rename_i hw
    have hw : acc.write = false := by simpa using hw
    exact .ite (.of_eq (core_shoreRead64 d hb hw w hoff sent)) (.of_eq (core_shoreRead d hb hw w off sent))

theorem goes_shcAccess (d : Nat) {acc : Access} (hb : memBound acc = false) (a : Aux) (h3 : bits s.straps 1 0 = 3) :
    Goes (core s) (core (shcAccess d acc a s)) := by
  unfold shcAccess
  refine .ite (.of_eq (by simp)) ?_
  split
  · exact .of_eq (by simp)
  · exact .ite (goes_winAccess hb _ _ a h3) (.of_eq (by simp))

/-- An access that reaches no memory. -/
theorem goes_reach {acc : Access} (hb : memBound acc = false) (a : Aux) (sent : Bool) (h3 : bits s.straps 1 0 = 3) :
    Goes (core s) (core (reach acc a sent s)) := by
  unfold reach
  split
  · rename_i hi
    have hw : windowOf acc.addr ≠ none := fun h => by simp [memBound, hi, h] at hb
    unfold mainAccess
    split
    · exact absurd ‹_› hw
    · exact .ite (.of_eq (by simp)) (.ite (goes_winAccess hb _ _ a h3) (goes_shoreAccess _ hb _ rfl a sent h3))
  · exact goes_shcAccess _ hb a h3

/-! ### Accesses to memory -/

/-! ### Rounds of conditions -/

/-- A condition gives its source a severity that it had, or one of the four. -/
theorem effSev_le (w src : Nat) : effSev s w src ≤ 3 := by
  unfold effSev
  dsimp only
  split <;> omega

theorem fltEnds_sev (x : Source) : (fltEnds x).sev = x.sev := by
  unfold fltEnds
  split <;> rfl

/-- The severity of the source after a condition, and of the record it made: an old one, or one of the four. -/
theorem fltArises_sev (p : Post) (x : Source) :
    (3 < (fltArises s p x).2.sev → 3 < x.sev) ∧ ∀ e, (fltArises s p x).1 = some e → e.src = p.src ∧ (3 < e.sev → 3 < x.sev) := by
  have hle := effSev_le (s := s) p.win p.src
  unfold fltArises
  split
  · exact ⟨id, by simp⟩
  · exact ⟨id, fun e he => by cases he; exact ⟨rfl, id⟩⟩
  · exact ⟨fun h => absurd h (by simpa using hle), fun e he => by cases he; exact ⟨rfl, fun h => absurd h (by simpa using hle)⟩⟩

theorem fltPost_sev (p : Post) : (3 < (fltPost s p).2.sev → 3 < (s.source p.win p.src).sev)
    ∧ ∀ e, (fltPost s p).1 = some e → e.src = p.src ∧ (3 < e.sev → 3 < (s.source p.win p.src).sev) := by
  obtain ⟨hs, he⟩ := fltArises_sev (s := s) p (s.source p.win p.src)
  unfold fltPost
  dsimp only
  split
  · exact ⟨by rw [fltEnds_sev]; exact hs, he⟩
  · refine ⟨?_, he⟩
    split <;> exact hs
  · refine ⟨?_, by simp⟩
    rw [fltEnds_sev]
    split <;> exact id

/-- A source whose severity is an old one or one of the four. -/
theorem Loose.setSource {w src : Nat} {x : Source} (h : 3 < x.sev → 3 < (s.source w src).sev) :
    Loose (core s) (core (s.setSource w src x)) := by
  refine ⟨rfl, rfl, rfl, rfl, rfl, fun k hk => ?_⟩
  by_cases hkey : k = srcKey w src
  · subst hkey
    simp only [core, State.setSource, kvGet_kvSet_same, Bool.and_eq_true, decide_eq_true_eq] at hk ⊢
    exact ⟨hk.1, h hk.2⟩
  · simpa only [core, State.setSource, kvGet_kvSet_other _ _ _ _ _ _ hkey] using hk

theorem Near.setSource {w src : Nat} {x : Source} (h : 3 < x.sev → 3 < (s.source w src).sev) :
    Near (core s) (core (s.setSource w src x)) := ⟨.setSource h, fun _ => ⟨rfl, rfl⟩⟩

/-- The faults that the conditions of one window make: its state table, first part of a round. -/
def tabled (w : Nat) (l : List Post) (es : List FltEntry) (s : State) : List FltEntry × State :=
  l.foldl (fun acc p => (acc.1 ++ (fltPost acc.2 p).1.toList, acc.2.setSource w p.src (fltPost acc.2 p).2)) (es, s)

/-- The second part: records, what informs of them, NMI. -/
def recorded (w : Nat) (es : List FltEntry) (s : State) : State :=
  es.foldl (fun s e => fltNmi w e s) (fltInform w es (es.foldl (fun s e => fltRecord w e s) s))

theorem settleWin_eq (ps : List Post) (w : Nat) (s : State) :
    settleWin ps w s = ((tabled w (ps.filter fun p => p.win == w) [] s).1,
      recorded w (tabled w (ps.filter fun p => p.win == w) [] s).1 (tabled w (ps.filter fun p => p.win == w) [] s).2) := rfl

/-- What the state table makes of genuine conditions: records of the window's own sources, with one of the four severities where no
source held another. -/
def Real (w : Nat) (c : Core) (e : FltEntry) : Prop := e.src < nsrc w ∧ (c.tame → w ≠ 0 ∨ e.sev ≤ 3)

theorem Real.of_loose {w : Nat} {c c' : Core} {e : FltEntry} (h : Loose c c') (he : Real w c' e) : Real w c e :=
  ⟨he.1, fun ht => he.2 (h.tame ht)⟩

/-- A condition of source `p.src`, which the window has. -/
theorem real_fltPost {p : Post} (hg : ghost p = false) {e : FltEntry} (he : (fltPost s p).1 = some e) : Real p.win (core s) e := by
  obtain ⟨hsrc, hsev⟩ := (fltPost_sev (s := s) p).2 e he
  have hn : p.src < nsrc p.win := by simpa [ghost] using hg
  refine ⟨hsrc ▸ hn, fun ht => ?_⟩
  refine (Decidable.em (p.win = 0)).elim (fun h0 => .inr (Decidable.byContradiction fun h => ?_)) .inl
  have h4 : nsrc 0 = 4 := rfl
  have hwin : mainWin (srcKey p.win p.src / 32) = true := by
    have : srcKey p.win p.src / 32 = 0 := by
      rw [h0] at hn ⊢
      unfold srcKey
      omega
    rw [this]
    rfl
  have := ht (srcKey p.win p.src)
  simp only [core, hwin, Bool.true_and, decide_eq_false_iff_not] at this
  exact this (hsev (by omega))

theorem near_tabled {w : Nat} {l : List Post} (hl : ∀ p ∈ l, p.win = w) (es : List FltEntry) :
    Near (core s) (core (tabled w l es s).2) := by
  induction l generalizing s es with
  | nil => exact .refl _
  | cons p l ih =>
    have hp : p.win = w := hl p List.mem_cons_self
    exact (Near.setSource (hp ▸ (fltPost_sev p).1)).trans (ih (fun q hq => hl q (List.mem_cons_of_mem p hq)) _)

theorem real_tabled {w : Nat} {l : List Post} (hl : ∀ p ∈ l, p.win = w ∧ ghost p = false) {es : List FltEntry} {c : Core}
    (hc : Loose c (core s)) (hes : ∀ e ∈ es, Real w c e) : ∀ e ∈ (tabled w l es s).1, Real w c e := by
  induction l generalizing s es with
  | nil => exact hes
  | cons p l ih =>
    obtain ⟨hp, hg⟩ := hl p List.mem_cons_self
    refine ih (fun q hq => hl q (List.mem_cons_of_mem p hq))
      (hc.trans (Loose.setSource (hp ▸ (fltPost_sev p).1))) fun e he => ?_
    rcases List.mem_append.mp he with he | he
    · exact hes e he
    · exact hp ▸ (real_fltPost hg (Option.mem_toList.mp he)).of_loose hc

theorem loose_fltRecord (w : Nat) (e : FltEntry) : Loose (core s) (core (fltRecord w e s)) := by
  have h : core (fltRecord w e s) = core ((s.setFlag w FLT_STAT e.src true).count w (FLT_CNT + 4 * e.sev)) := by simp [fltRecord]
  rw [h]
  exact (Loose.setReg w FLT_STAT _).trans (Loose.setReg w _ _)

theorem core_fltRecord {w : Nat} {e : FltEntry} (h : w ≠ 0 ∨ e.sev ≤ 3) : core (fltRecord w e s) = core s := by
  have hcnt : w ≠ 0 ∨ FLT_CNT + 4 * e.sev ≠ 0x260 ∧ FLT_CNT + 4 * e.sev ≠ 0x230 := h.imp_right fun h => by
    unfold FLT_CNT
    omega
  have h : ∀ t : State, core (t.count w (FLT_CNT + 4 * e.sev)) = core t := fun t => core_setReg hcnt
  simp +decide [fltRecord, h]

theorem loose_recorded (w : Nat) (es : List FltEntry) : Loose (core s) (core (recorded w es s)) := by
  unfold recorded
  rw [core_foldl fun _ _ => core_fltNmi _ _, core_fltInform]
  exact Loose.foldl (fun _ e => loose_fltRecord w e) es

theorem core_recorded {w : Nat} {es : List FltEntry} (h : ∀ e ∈ es, w ≠ 0 ∨ e.sev ≤ 3) : core (recorded w es s) = core s := by
  unfold recorded
  rw [core_foldl fun _ _ => core_fltNmi _ _, core_fltInform, core_foldl_mem fun e he t => core_fltRecord (h e he)]

theorem win_of_mem_filter {w : Nat} {ps : List Post} {p : Post} (h : p ∈ ps.filter fun p => p.win == w) : p.win = w :=
  beq_iff_eq.mp (List.mem_filter.mp h).2

theorem loose_settleWin (ps : List Post) (w : Nat) : Loose (core s) (core (settleWin ps w s).2) := by
  rw [settleWin_eq]
  exact (near_tabled (fun _ => win_of_mem_filter) []).toLoose.trans (loose_recorded w _)

theorem real_settleWin {ps : List Post} (hps : ∀ p ∈ ps, ghost p = false) (w : Nat) {c : Core} (hc : Loose c (core s)) :
    ∀ e ∈ (settleWin ps w s).1, Real w c e :=
  real_tabled (fun p hp => ⟨win_of_mem_filter hp, hps p (List.mem_filter.mp hp).1⟩) hc (by simp)

theorem near_settleWin {ps : List Post} (hps : ∀ p ∈ ps, ghost p = false) (w : Nat) : Near (core s) (core (settleWin ps w s).2) := by
  refine ⟨loose_settleWin ps w, fun ht => ?_⟩
  have hreal := real_settleWin hps w (.refl (core s))
  rw [settleWin_eq] at hreal ⊢
  dsimp only at hreal ⊢
  rw [core_recorded fun e he => (hreal e he).2 ht]
  exact (near_tabled (fun _ => win_of_mem_filter) []).kept ht

/-- The conditions of window `w`, met after those of the windows before it. -/
def met (ps : List Post) (acc : List (Nat × List FltEntry) × State) (w : Nat) : List (Nat × List FltEntry) × State :=
  (acc.1 ++ [(w, (settleWin ps w acc.2).1)], (settleWin ps w acc.2).2)

/-- The conditions of the windows `ws`, met in order. -/
def metAll (ps : List Post) (ws : List Nat) (acc : List (Nat × List FltEntry) × State) : List (Nat × List FltEntry) × State :=
  ws.foldl (met ps) acc

theorem loose_metAll (ps : List Post) (ws : List Nat) (acc : List (Nat × List FltEntry) × State) :
    Loose (core acc.2) (core (metAll ps ws acc).2) := by
  induction ws generalizing acc with
  | nil => exact .refl _
  | cons w ws ih => exact (loose_settleWin ps w).trans (ih (met ps acc w))

theorem near_metAll {ps : List Post} (hps : ∀ p ∈ ps, ghost p = false) (ws : List Nat) (acc : List (Nat × List FltEntry) × State) :
    Near (core acc.2) (core (metAll ps ws acc).2) := by
  induction ws generalizing acc with
  | nil => exact .refl _
  | cons w ws ih => exact (near_settleWin hps w).trans (ih (met ps acc w))

/-- The records of window `x.1` that name sources it has. -/
def Own (x : Nat × List FltEntry) : Prop := x.1 ∈ allWindows ∧ ∀ e ∈ x.2, e.src < nsrc x.1

theorem own_metAll {ps : List Post} (hps : ∀ p ∈ ps, ghost p = false) {ws : List Nat} (hws : ∀ w ∈ ws, w ∈ allWindows)
    {acc : List (Nat × List FltEntry) × State} (h : ∀ x ∈ acc.1, Own x) : ∀ x ∈ (metAll ps ws acc).1, Own x := by
  induction ws generalizing acc with
  | nil => exact h
  | cons w ws ih =>
    refine ih (fun v hv => hws v (List.mem_cons_of_mem w hv)) fun x hx => ?_
    rcases List.mem_append.mp hx with hx | hx
    · exact h x hx
    · rw [List.mem_singleton.mp hx]
      exact ⟨hws w List.mem_cons_self, fun e he => (real_settleWin hps w (.refl _) e he).1⟩

/-- A round's records, window by window, and the state with them recorded. -/
def noted (s : State) : List (Nat × List FltEntry) × State := metAll s.posts (postWins s.posts) ([], { s with posts := [] })

/-- A round up to its chip reset. -/
def reacted (s : State) : State := (noted s).1.foldl (fun s x => fltBrst x.1 x.2 s) (pinUpdate (noted s).2)

theorem settleRound_eq (s : State) : settleRound s = fltCrst (noted s).1 (reacted s) := rfl

theorem core_no_posts : core { s with posts := [] } = { core s with ghosts := [] } := rfl

theorem near_fltBrst (w : Nat) (es : List FltEntry) : Near (core s) (core (fltBrst w es s)) := by
  unfold fltBrst
  split
  · refine .ite (.refl _) (Near.trans (.of_eq ?_) (near_resetBlock w))
    simp
  · exact .refl _

theorem near_foldl {α : Type} {f : State → α → State} (h : ∀ s x, Near (core s) (core (f s x))) (l : List α) :
    Near (core s) (core (l.foldl f s)) := by
  induction l generalizing s with
  | nil => exact .refl _
  | cons x l ih => exact (h s x).trans ih

theorem near_reacted : Near (core (noted s).2) (core (reacted s)) :=
  (Near.of_eq core_pinUpdate).trans (near_foldl (fun _ (x : Nat × List FltEntry) => near_fltBrst x.1 x.2) _)

theorem ghost_of_core (h : (core s).ghosts = []) : ∀ p ∈ s.posts, ghost p = false := fun p hp => by
  simpa using List.filter_eq_nil_iff.mp h p hp

theorem fltWith_mem {k : Nat} {es : List FltEntry} {e : FltEntry} (h : fltWith k es = some e) : e ∈ es := by
  have hfold : ∀ (l : List FltEntry) (a : FltEntry), l.foldl fltWorse a ∈ a :: l := by
    intro l
    induction l with
    | nil => exact fun a => List.mem_cons_self
    | cons b l ih =>
      intro a
      rw [List.foldl_cons]
      have hw : fltWorse a b = a ∨ fltWorse a b = b := by
        unfold fltWorse
        split
        · exact .inr rfl
        · exact .inl rfl
      rcases List.mem_cons.mp (ih (fltWorse a b)) with h | h
      · rw [h]
        rcases hw with hw | hw <;> rw [hw] <;> simp
      · exact List.mem_cons_of_mem _ (List.mem_cons_of_mem _ h)
  unfold fltWith at h
  split at h
  · simp at h
  · rename_i a l hl
    cases h
    have := hfold l a
    rw [← hl] at this
    exact (List.mem_filter.mp this).1

set_option maxRecDepth 4000 in
/-- Number 5 is that of no source: SYS has four, and the next window begins at 16. -/
theorem srcBase_or {w : Nat} (h : w ∈ allWindows) : (srcBase w = 0 ∧ nsrc w = 4 ∨ 16 ≤ srcBase w) ∧ srcBase w + nsrc w < 2000 := by
  revert w
  decide

/-- What a round does after its records: nothing, or a fault number and the chip reset of reason 7. -/
theorem core_fltCrst {ws : List (Nat × List FltEntry)} (h3 : bits s.straps 1 0 = 3) :
    core (fltCrst ws s) = core s ∨ ∃ x ∈ ws, ∃ e ∈ x.2, ∃ c, c = { core s with flt := (2 ^ 31 + (srcBase x.1 + e.src)) % 2 ^ 32 }
      ∧ (core (fltCrst ws s) = c ∨ core (fltCrst ws s) = c.restart .warm 7) := by
  unfold fltCrst
  split
  · exact .inl rfl
  · rename_i w e hf
    obtain ⟨x, hx, hxe⟩ := List.exists_of_findSome?_eq_some hf
    split at hxe
    · obtain ⟨e', he', heq⟩ := Option.map_eq_some_iff.mp hxe
      cases heq
      refine .inr ⟨x, hx, e, fltWith_mem he', _, rfl, ?_⟩
      unfold crstReset
      dsimp only
      have hc : core (((drawStart s).2.setReg W.SYS SYS_RST_FLT (2 ^ 31 + (srcBase x.1 + e.src))).setReg W.SYS SYS_RST_FLT_LOC e.loc)
          = { core s with flt := (2 ^ 31 + (srcBase x.1 + e.src)) % 2 ^ 32 } := by
        rw [core_setReg (.inr (by decide)), core_setReg_flt, core_drawStart]
      split
      · right
        rw [core_doReset _ (.inl rfl) (by decide) (by exact h3), hc]
      · exact .inl hc
    · cases hxe

/-- What a round does to the core: its ghosts go; there may be a chip reset of reason 7, after which SYS_RST_FLT names no ghost where
there was none. -/
theorem core_settleRound (h3 : bits s.straps 1 0 = 3) : ∃ c, Loose { core s with ghosts := [] } c
    ∧ ((core s).ghosts = [] → Near (core s) c)
    ∧ (core (settleRound s) = c ∨ ∃ f, ((core s).ghosts = [] → f ≠ 2 ^ 31 + 5)
      ∧ (core (settleRound s) = { c with flt := f } ∨ core (settleRound s) = ({ c with flt := f } : Core).restart .warm 7)) := by
  have hl : Loose { core s with ghosts := [] } (core (noted s).2) := loose_metAll s.posts (postWins s.posts) ([], { s with posts := [] })
  have hr : Loose { core s with ghosts := [] } (core (reacted s)) := hl.trans near_reacted.toLoose
  have h3' : bits (reacted s).straps 1 0 = 3 := by
    rw [show (reacted s).straps = s.straps from hr.straps]
    exact h3
  refine ⟨core (reacted s), hr, fun hg => ?_, ?_⟩
  · have hn : Near (core { s with posts := [] }) (core (noted s).2) :=
      near_metAll (ghost_of_core hg) (postWins s.posts) ([], { s with posts := [] })
    have he : core { s with posts := [] } = core s := by
      rw [core_no_posts, ← hg]
    exact he ▸ hn.trans near_reacted
  · rw [settleRound_eq]
    rcases core_fltCrst (ws := (noted s).1) h3' with h | ⟨x, hx, e, he, c, rfl, h⟩
    · exact .inl h
    · refine .inr ⟨_, fun hg => ?_, h⟩
      obtain ⟨hw, hown⟩ := own_metAll (ghost_of_core hg) (fun w hw => (List.mem_filter.mp hw).1) (by simp) x hx
      have hsrc := hown e he
      obtain ⟨hb, hlt⟩ := srcBase_or hw
      omega

/-! ### The marks of the counterexample -/

/-- A byte of the stack, which a chip reset does not keep. -/
def Core.low (c : Core) : Byte := kvGet 0 c.mem 5

/-- The last byte of the word that the cancel command writes past the CAN windows. -/
def Core.hit (c : Core) : Byte := kvGet 0 c.mem 0x80000157

/-- The last reset was one of CRST, for source 5, which no block has. -/
def Core.Signed (c : Core) : Prop := c.reason = 0x207 ∧ c.flt = 2 ^ 31 + 5

/-- No reset has been since the start, or the last one had another cause. -/
structure Unsigned (c : Core) : Prop where
  ghosts : c.ghosts = []
  straps : c.straps = 3
  mark : c.low ≠ 0 ∨ ¬ c.Signed ∧ c.tame

/-- Nothing is left that could write memory. -/
structure Dry (c : Core) : Prop where
  ghosts : c.ghosts = []
  straps : c.straps = 3
  hit : c.hit = 0
  held : c.held = []
  table : c.table = none

/-- What the frame claims of the state before `complete`, as far as the rounds keep it. -/
structure Framed (c : Core) : Prop where
  straps : c.straps = 3
  hit : c.hit = 0
  table : c.table = none
  mark : c.low ≠ 0 ∨ c.held = []

theorem low_restart (k : StartKind) (r : Nat) (c : Core) : (c.restart k r).low = 0 := by
  simp only [Core.low, Core.restart]
  split
  · rw [kvGet_kvFilter]
    rfl
  · rfl

theorem hit_restart {k : StartKind} {r : Nat} {c : Core} (h : c.hit = 0) : (c.restart k r).hit = 0 := by
  simp only [Core.hit, Core.restart] at h ⊢
  split
  · rw [kvGet_kvFilter, h]
    exact ite_self _
  · rfl

theorem Unsigned.near {c c' : Core} (hc : Unsigned c) (h : Near c c') : Unsigned c' where
  ghosts := h.ghosts.trans hc.ghosts
  straps := h.straps.trans hc.straps
  mark := by
    refine hc.mark.imp (fun hl => ?_) fun ⟨hs, ht⟩ => ⟨?_, h.tame ht⟩
    · rwa [Core.low, h.mem]
    · obtain ⟨hreason, hflt⟩ := h.kept ht
      rwa [Core.Signed, hreason, hflt]

theorem Dry.loose {c c' : Core} (hc : Dry c) (h : Loose c c') : Dry c' where
  ghosts := h.ghosts.trans hc.ghosts
  straps := h.straps.trans hc.straps
  hit := by rw [Core.hit, h.mem]; exact hc.hit
  held := h.held.trans hc.held
  table := h.table.trans hc.table

theorem Framed.loose {c c' : Core} (hc : Framed c) (h : Loose { c with ghosts := [] } c') : Framed c' where
  straps := h.straps.trans hc.straps
  hit := by rw [Core.hit, h.mem]; exact hc.hit
  table := h.table.trans hc.table
  mark := hc.mark.imp (fun hl => by rw [Core.low, h.mem]; exact hl) fun hh => h.held.trans hh

/-- After a reset that is not signed. -/
theorem unsigned_restart {k : StartKind} {r : Nat} {c : Core} (hg : c.ghosts = []) (h3 : c.straps = 3)
    (hs : ¬ (c.restart k r).Signed) : Unsigned (c.restart k r) where
  ghosts := by rw [Core.restart, hg]; rfl
  straps := h3
  mark := .inr ⟨hs, fun _ => rfl⟩

theorem framed_restart {c : Core} {k : StartKind} {r : Nat} (hc : Framed c) : Framed (c.restart k r) where
  straps := hc.straps
  hit := hit_restart hc.hit
  table := rfl
  mark := .inr rfl

theorem not_signed_rstCmd {k : StartKind} {r : Nat} (hk : k = .warm ∧ r = 3 ∨ k = .cold ∧ r = 4) (c : Core) :
    ¬ (c.restart k r).Signed := by
  rintro ⟨hreason, -⟩
  rcases hk with ⟨rfl, rfl⟩ | ⟨rfl, rfl⟩
  · exact absurd hreason (by decide : (StartKind.warm.code * 256 + 3) % 2 ^ 32 ≠ 0x207)
  · exact absurd hreason (by decide : (StartKind.cold.code * 256 + 4) % 2 ^ 32 ≠ 0x207)

/-- After the reset command, all is unsigned. -/
theorem Unsigned.goes {c c' : Core} (hc : Unsigned c) (h : Goes c c') : Unsigned c' := by
  cases h with
  | on h => exact hc.near h
  | reset hk h h' =>
    have ha := hc.near h
    exact (unsigned_restart ha.ghosts ha.straps (not_signed_rstCmd hk _)).near h'

theorem Dry.goes {c c' : Core} (hc : Dry c) (h : Goes c c') : Dry c' ∨ Unsigned c' := by
  cases h with
  | on h => exact .inl (hc.loose h.toLoose)
  | reset hk h h' =>
    have ha := hc.loose h.toLoose
    exact .inr ((unsigned_restart ha.ghosts ha.straps (not_signed_rstCmd hk _)).near h')

theorem bits_straps {c : Core} (h : c.straps = 3) : bits c.straps 1 0 = 3 := by
  rw [h]
  rfl

/-! ### Rounds keep the marks -/

theorem framed_settleRound (h : Framed (core s)) : Framed (core (settleRound s)) := by
  obtain ⟨c, hl, -, hc | ⟨f, -, hc | hc⟩⟩ := core_settleRound (s := s) (bits_straps h.straps)
  · exact hc ▸ h.loose hl
  · have hf := h.loose hl
    exact hc ▸ ⟨hf.straps, hf.hit, hf.table, hf.mark⟩
  · have hf := h.loose hl
    exact hc ▸ framed_restart ⟨hf.straps, hf.hit, hf.table, hf.mark⟩

theorem unsigned_settleRound (h : Unsigned (core s)) : Unsigned (core (settleRound s)) := by
  obtain ⟨c, -, hn, hc⟩ := core_settleRound (s := s) (bits_straps h.straps)
  have hu := h.near (hn h.ghosts)
  rcases hc with hc | ⟨f, hf, hc | hc⟩
  · exact hc ▸ hu
  · exact hc ▸ ⟨hu.ghosts, hu.straps, hu.mark.imp id fun ht => ⟨fun hs => hf h.ghosts hs.2, ht.2⟩⟩
  · exact hc ▸ unsigned_restart hu.ghosts hu.straps fun hs => hf h.ghosts hs.2

theorem dry_settleRound (h : Dry (core s)) : Dry (core (settleRound s)) := by
  obtain ⟨c, -, hn, hc⟩ := core_settleRound (s := s) (bits_straps h.straps)
  have hd := h.loose (hn h.ghosts).toLoose
  rcases hc with hc | ⟨f, -, hc | hc⟩
  · exact hc ▸ hd
  · exact hc ▸ ⟨hd.ghosts, hd.straps, hd.hit, hd.held, hd.table⟩
  · refine hc ▸ ⟨?_, hd.straps, hit_restart hd.hit, rfl, rfl⟩
    rw [Core.restart, hd.ghosts]
    rfl

/-- What every round keeps, the rounds together keep. -/
theorem settle_keeps {P : Core → Prop} (hp : ∀ s : State, P (core s) → P (core { s with posts := [] }))
    (hr : ∀ s : State, P (core s) → P (core (settleRound s))) (n : Nat) (h : P (core s)) : P (core (settle n s)) := by
  induction n generalizing s with
  | zero => exact hp s h
  | succ n ih =>
    rw [settle]
    split
    · exact h
    · exact ih (hr s h)

/-- `finish` up to its rounds. -/
def swept (s0 s : State) : State :=
  let s := sweepService (if s0.pwr.state == .doze && s.pwr.state == .run then leaveSelfRefresh s else s)
  let s := sweepLearn (sweepCores (sweepPoison (ctSweep s)))
  sweepLinks (noteShed (twinSweep (sgeSweep (sweepNm s0 (sweepGates s0 (sweepPorts (sweepModes s0 s)))))))

theorem finish_eq (s0 s : State) : finish s0 s = pinUpdate (settle 64 (swept s0 s)) := rfl

theorem core_swept (s0 : State) : core (swept s0 s) = core s := by simp [swept]

theorem finish_keeps {P : Core → Prop} (hp : ∀ s : State, P (core s) → P (core { s with posts := [] }))
    (hr : ∀ s : State, P (core s) → P (core (settleRound s))) (s0 : State) (h : P (core s)) : P (core (finish s0 s)) := by
  rw [finish_eq, core_pinUpdate]
  exact settle_keeps hp hr 64 (by rwa [core_swept])

theorem unsigned_finish (s0 : State) (h : Unsigned (core s)) : Unsigned (core (finish s0 s)) :=
  finish_keeps (fun _ h => ⟨rfl, h.straps, h.mark⟩) (fun _ => unsigned_settleRound) s0 h

theorem dry_finish (s0 : State) (h : Dry (core s)) : Dry (core (finish s0 s)) :=
  finish_keeps (fun _ h => ⟨rfl, h.straps, h.hit, h.held, h.table⟩) (fun _ => dry_settleRound) s0 h

/-- After the first rounds, no ghost is left. -/
theorem framed_finish (s0 : State) (h : Framed (core s)) : Dry (core (finish s0 s)) ∨ Unsigned (core (finish s0 s)) := by
  have hf : Framed (core (finish s0 s)) :=
    finish_keeps (fun _ h => ⟨h.straps, h.hit, h.table, h.mark⟩) (fun _ => framed_settleRound) s0 h
  have hp : (finish s0 s).posts = [] := by rw [finish_eq, pinUpdate_posts, settle_posts]
  have hg : (core (finish s0 s)).ghosts = [] := by simp only [core, hp, List.filter_nil]
  rcases hf.mark with hm | hm
  · exact .inr ⟨hg, hf.straps, .inl hm⟩
  · exact .inl ⟨hg, hf.straps, hf.hit, hm, hf.table⟩

/-! ### Accesses to memory -/

/-- From `c` to `c'` with writes to memory above the stack byte, waiting accesses and the TABLE_IMAGE aside. -/
structure Stores (c c' : Core) : Prop where
  ghosts : c'.ghosts = c.ghosts
  straps : c'.straps = c.straps
  reason : c'.reason = c.reason
  flt : c'.flt = c.flt
  wild : c'.wild = c.wild
  low : c'.low = c.low

theorem Stores.refl (c : Core) : Stores c c := ⟨rfl, rfl, rfl, rfl, rfl, rfl⟩

theorem Stores.of_eq {c c' : Core} (h : c' = c) : Stores c c' := h ▸ .refl c

theorem Unsigned.stores {c c' : Core} (hc : Unsigned c) (h : Stores c c') : Unsigned c' where
  ghosts := h.ghosts.trans hc.ghosts
  straps := h.straps.trans hc.straps
  mark := by
    unfold Core.Signed Core.tame
    rw [h.low, h.reason, h.flt, h.wild]
    exact hc.mark

theorem stores_deferred (l : List Waiting) : Stores (core s) (core { s with deferred := l }) := ⟨rfl, rfl, rfl, rfl, rfl, rfl⟩

theorem stores_defer (acc : Access) (a : Aux) (sent : Bool) : Stores (core s) (core (s.defer acc a sent)) := stores_deferred _

theorem stores_setTable (t : Option TableRun) : Stores (core s) (core (s.setTable t)) := ⟨rfl, rfl, rfl, rfl, rfl, rfl⟩

theorem stores_memWrite {a : Nat} (h : 5 < a) (l : List Byte) : Stores (core s) (core (s.memWrite a l)) := by
  have hlow : (core (s.memWrite a l)).low = (core s).low := memByte_memWrite_outside l s a 5 (.inl h)
  obtain ⟨m, hm⟩ := memWrite_frame l s a
  rw [hm] at hlow ⊢
  exact ⟨rfl, rfl, rfl, rfl, rfl, hlow⟩

theorem regionAt_above {addr n : Nat} {r : Region} (h : regionAt s addr n = some r) (hr : r ≠ .rom) : 5 < addr := by
  refine Decidable.byContradiction fun hle => hr ?_
  have h1 : ¬ 0x10000000 ≤ addr := by omega
  have h2 : ¬ 0x20000000 ≤ addr := by omega
  have h3 : ¬ dramBase ≤ addr := by
    unfold dramBase
    omega
  have h4 : ¬ xspiBase ≤ addr := by
    unfold xspiBase
    omega
  simp only [regionAt, State.inDram, h1, h2, h3, h4, decide_false, Bool.false_and, Bool.false_eq_true, if_false] at h
  split at h
  · exact (Option.some.inj h).symm
  · simp at h

theorem stores_bytesAccess {acc : Access} (h : 5 < acc.addr) : Stores (core s) (core (bytesAccess acc s)) := by
  unfold bytesAccess
  split
  · rw [core_busDone]
    exact stores_memWrite h _
  · exact .of_eq (core_busDone _)

theorem stores_dramAccess {acc : Access} (h : 5 < acc.addr) (e : Ecc) : Stores (core s) (core (dramAccess acc e s)) := by
  unfold dramAccess
  split
  · exact stores_bytesAccess h
  · have hr : core (dramReport e acc.addr s).2 = core s := core_dramReport e acc.addr
    dsimp only
    split
    · exact hr ▸ stores_bytesAccess h
    · exact .of_eq ((core_busErr acc _ _).trans hr)

theorem stores_flashRead (acc : Access) : Stores (core s) (core (flashRead acc s)) := by
  unfold flashRead
  dsimp only
  split
  · exact ⟨rfl, rfl, rfl, rfl, rfl, rfl⟩
  · exact .of_eq (core_busDone _)

theorem stores_memAccess (acc : Access) (a : Aux) : Stores (core s) (core (memAccess acc a s)) := by
  unfold memAccess
  split
  · exact .of_eq (core_busErr acc _ _)
  · rename_i r hr
    split
    · exact .of_eq (core_busErr acc _ _)
    · split
      · exact .of_eq (by simp)
      · exact stores_flashRead acc
      · split
        · exact stores_dramAccess (regionAt_above hr (by decide)) a.ecc
        · exact stores_defer acc a true
      all_goals exact stores_bytesAccess (regionAt_above hr (by decide))

theorem unsigned_reach (acc : Access) (a : Aux) (sent : Bool) (h : Unsigned (core s)) : Unsigned (core (reach acc a sent s)) := by
  cases hb : memBound acc with
  | false => exact h.goes (goes_reach hb a sent (bits_straps h.straps))
  | true =>
    simp only [memBound, Bool.and_eq_true, Option.isNone_iff_eq_none] at hb
    have he : reach acc a sent s = memAccess acc a s := by simp only [reach, mainAccess, hb]
    exact he ▸ h.stores (stores_memAccess acc a)

theorem unsigned_access (acc : Access) (a : Aux) (h : Unsigned (core s)) : Unsigned (core (access acc a s)) := by
  unfold access
  split
  · exact h
  · split
    · exact h.stores (stores_defer acc a false)
    · exact unsigned_reach acc a false h

/-! ### The accesses that waited -/

/-- A waiting access meets its turn. -/
def resumed (s : State) (x : Waiting) : State :=
  if !initRuns s x.acc.init then s
  else if accessReady s x then reach x.acc x.aux x.sent s
  else { s with deferred := s.deferred ++ [x] }

theorem runDeferred_eq (s : State) : runDeferred s = s.deferred.foldl resumed { s with deferred := [] } := rfl

theorem unsigned_resumed (x : Waiting) (h : Unsigned (core s)) : Unsigned (core (resumed s x)) := by
  unfold resumed
  split
  · exact h
  · split
    · exact unsigned_reach _ _ _ h
    · exact h.stores (stores_deferred _)

theorem dry_resumed {x : Waiting} (hx : memBound x.acc = false) (h : Dry (core s)) :
    Dry (core (resumed s x)) ∨ Unsigned (core (resumed s x)) := by
  unfold resumed
  split
  · exact .inl h
  · split
    · exact h.goes (goes_reach hx _ _ (bits_straps h.straps))
    · have hd : core { s with deferred := s.deferred ++ [x] } = core s := core_defer hx x.aux x.sent
      exact .inl (hd ▸ h)

theorem unsigned_foldl_resumed (l : List Waiting) (h : Unsigned (core s)) : Unsigned (core (l.foldl resumed s)) := by
  induction l generalizing s with
  | nil => exact h
  | cons x l ih => exact ih (unsigned_resumed x h)

theorem dry_foldl_resumed {l : List Waiting} (hl : ∀ x ∈ l, memBound x.acc = false) (h : Dry (core s)) :
    Dry (core (l.foldl resumed s)) ∨ Unsigned (core (l.foldl resumed s)) := by
  induction l generalizing s with
  | nil => exact .inl h
  | cons x l ih =>
    rcases dry_resumed (hl x List.mem_cons_self) h with hd | hu
    · exact ih (fun y hy => hl y (List.mem_cons_of_mem x hy)) hd
    · exact .inr (unsigned_foldl_resumed l hu)

theorem unsigned_runDeferred (h : Unsigned (core s)) : Unsigned (core (runDeferred s)) := by
  rw [runDeferred_eq]
  exact unsigned_foldl_resumed _ (h.stores (stores_deferred []))

theorem dry_runDeferred (h : Dry (core s)) : Dry (core (runDeferred s)) ∨ Unsigned (core (runDeferred s)) := by
  have hheld : (s.deferred.map (·.acc)).filter memBound = [] ∧ s.xsp.waiting.filter memBound = [] := by
    have := h.held
    simpa only [core, List.filter_append, List.append_eq_nil_iff] using this
  rw [runDeferred_eq]
  refine dry_foldl_resumed (fun x hx => ?_) ⟨h.ghosts, h.straps, h.hit, hheld.2, h.table⟩
  simpa using List.filter_eq_nil_iff.mp hheld.1 x.acc (List.mem_map.mpr ⟨x, hx, rfl⟩)

/-! ### The TABLE_IMAGE -/

theorem unsigned_tableFails (h : Unsigned (core s)) : Unsigned (core (tableFails s)) := by
  unfold tableFails
  rw [core_raise0]
  exact (h.stores (stores_setTable none)).near (near_foldl (fun _ w => near_writeCtrl w _) _)

theorem unsigned_tableStep (t : TableRun) (h : Unsigned (core s)) : Unsigned (core (tableStep t s).1) := by
  have hset : ∀ {u : State} (o : Option TableRun), Unsigned (core u) → Unsigned (core (u.setTable o)) :=
    fun o hu => hu.stores (stores_setTable o)
  have hacc : ∀ acc, Unsigned (core (access acc Aux.plain s)) := fun acc => unsigned_access acc Aux.plain h
  unfold tableStep
  split
  · exact unsigned_tableFails h
  · rename_i r _
    split
    · split
      · exact hset _ h
      · split
        · exact unsigned_tableFails h
        · dsimp only
          split
          · exact h
          · split
            · exact unsigned_tableFails (hacc _)
            · exact hset _ (hacc _)
    · split
      · exact unsigned_tableFails h
      · rename_i hin
        have hdram : dramBase ≤ r.addr := by
          simp [State.inDram] at hin
          exact hin.2.1
        exact hset _ (h.stores (stores_memWrite (Nat.lt_of_lt_of_le (by decide) hdram) _))
    · dsimp only
      split
      · exact h
      · split
        · exact hset _ (hacc _)
        · split
          · exact unsigned_tableFails (hacc _)
          · exact hset _ (hacc _)
    · exact hset _ h
    · exact unsigned_tableFails h

theorem unsigned_tableRun (n : Nat) (h : Unsigned (core s)) : Unsigned (core (tableRun n s)) := by
  induction n generalizing s with
  | zero => exact h
  | succ n ih =>
    rw [tableRun]
    split
    · exact h
    · rename_i t _
      dsimp only
      split
      · exact ih (unsigned_tableStep t h)
      · exact unsigned_tableStep t h

theorem unsigned_sweepTable (h : Unsigned (core s)) : Unsigned (core (sweepTable s)) := by
  unfold sweepTable
  split
  · exact h
  · split
    · exact unsigned_tableRun _ h
    · exact h

/-! ### All that follows a command -/

theorem complete_eq (s0 s : State) : complete s0 s =
    let a := finish s0 s
    let b := if a.deferred.isEmpty then a else finish a (runDeferred a)
    let c := if b.crn.table.isNone then b else finish b (sweepTable b)
    { c with pending := s0.pending } := rfl

/-- No command's rounds sign the last reset, unless the ghost waited before them. -/
theorem not_bad_complete (s0 : State) (h : Framed (core s)) : let c := core (complete s0 s)
    c.hit = 0 ∨ c.low ≠ 0 ∨ ¬ c.Signed := by
  rw [complete_eq]
  dsimp only
  rw [core_with_pending]
  generalize ha : finish s0 s = a
  have h1 : Dry (core a) ∨ Unsigned (core a) := ha ▸ framed_finish s0 h
  generalize hb : (if a.deferred.isEmpty = true then a else finish a (runDeferred a)) = b
  have h2 : Dry (core b) ∨ Unsigned (core b) := by
    rw [← hb]
    split
    · exact h1
    · rcases h1 with h1 | h1
      · exact (dry_runDeferred h1).imp (dry_finish a) (unsigned_finish a)
      · exact .inr (unsigned_finish a (unsigned_runDeferred h1))
  rcases h2 with h2 | h2
  · have ht : b.crn.table.isNone = true := by rw [show b.crn.table = none from h2.table]; rfl
    rw [if_pos ht]
    exact .inl h2.hit
  · have h3 : Unsigned (core (if b.crn.table.isNone = true then b else finish b (sweepTable b))) := by
      split
      · exact h2
      · exact unsigned_finish b (unsigned_sweepTable h2)
    exact .inr (h3.mark.imp id And.left)

/-! ### A start that raises nothing -/

/-- No condition and no access waits, and both shores are off. -/
structure Quiet (s : State) : Prop where
  posts : s.posts = []
  deferred : s.deferred = []
  shoreA : (s.shore 0).powered = false
  shoreB : (s.shore 1).powered = false

theorem Quiet.setReg (h : Quiet s) (w off v : Nat) : Quiet (s.setReg w off v) := ⟨h.posts, h.deferred, h.shoreA, h.shoreB⟩

theorem Quiet.modCrn (h : Quiet s) (f : Crown → Crown) : Quiet (s.modCrn f) := ⟨h.posts, h.deferred, h.shoreA, h.shoreB⟩

theorem Quiet.ite {p : Prop} [Decidable p] {a b : State} (ha : Quiet a) (hb : Quiet b) : Quiet (if p then a else b) := by
  split
  · exact ha
  · exact hb

theorem Quiet.halt (h : Quiet s) (e : Nat) : Quiet (romHalt (bootError e s)) :=
  Quiet.modCrn (.ite (h.setReg ..) h) _

theorem Quiet.romLinks (h : Quiet s) (x : StartInput) : Quiet (romLinks x s) := by
  have ha : doRetrain 0 x.linkA s = s := by simp [doRetrain, h.shoreA]
  have hb : doRetrain 1 x.linkB s = s := by simp [doRetrain, h.shoreB]
  rwa [Machine.romLinks, ha, hb]

theorem Quiet.nameBanks (h : Quiet s) (banks : List Nat) : Quiet (nameBanks banks s) := by
  unfold Machine.nameBanks
  induction banks generalizing s with
  | nil => exact h
  | cons b banks ih => exact ih (.ite (h.setReg ..) (.ite (h.setReg ..) h))

/-- A warm start with the straps at 3 halts without a condition, whatever its inputs. -/
theorem Quiet.romStart (h : Quiet s) (h3 : bits s.straps 1 0 = 3) (x : StartInput) : Quiet (romStart .warm 7 x s) := by
  unfold Machine.romStart
  have h3 : bits (s.setReg W.SYS SYS_RST_REASON (StartKind.warm.code * 256 + 7)).straps 1 0 = 3 := h3
  have h := h.setReg W.SYS SYS_RST_REASON (StartKind.warm.code * 256 + 7)
  generalize s.setReg W.SYS SYS_RST_REASON (StartKind.warm.code * 256 + 7) = o at h h3 ⊢
  have h7 : (7 : Nat) ≠ 1 := by decide
  have hk : (StartKind.warm == .cold) = false ∧ (StartKind.warm == .warm) = true := by decide
  simp only [h7, hk, if_false, Bool.false_and, Bool.false_eq_true, if_true]
  have hl := h.romLinks x
  generalize (if bistRuns .warm 7 (Machine.romLinks x o) = true then x.banks else []) = banks
  have hu : Quiet (if bistRuns .warm 7 (Machine.romLinks x o) = true
      then Machine.nameBanks banks ((Machine.romLinks x o).setFlag W.SYS SYS_BOOT_STAT 20 true) else Machine.romLinks x o) :=
    .ite (Quiet.nameBanks (hl.setReg ..) banks) hl
  have hc : core (if bistRuns .warm 7 (Machine.romLinks x o) = true
      then Machine.nameBanks banks ((Machine.romLinks x o).setFlag W.SYS SYS_BOOT_STAT 20 true) else Machine.romLinks x o) = core o := by
    simp +decide
  generalize (if bistRuns .warm 7 (Machine.romLinks x o) = true
      then Machine.nameBanks banks ((Machine.romLinks x o).setFlag W.SYS SYS_BOOT_STAT 20 true) else Machine.romLinks x o) = u at hu hc ⊢
  rw [straps_of_core hc, h3]
  exact .ite (h.halt 1) (.ite (hu.halt 2) (hu.halt 8))

/-! ### A round that ends with the reset for a ghost -/

/-- A state with the fault number of the ghost, as CRST resets it. -/
def signed (s : State) : State :=
  ((drawStart s).2.setReg W.SYS SYS_RST_FLT (2 ^ 31 + 5)).setReg W.SYS SYS_RST_FLT_LOC 0

theorem core_signed : core (signed s) = { core s with flt := 2 ^ 31 + 5 } := by
  refine (core_setReg (.inr (by decide))).trans ((core_setReg_flt _).trans ?_)
  exact congrArg (fun c : Core => { c with flt := 2 ^ 31 + 5 }) core_drawStart

/-- The records of the ghost and of the two shore links, which are down. -/
def ghostRecords : List (Nat × List FltEntry) :=
  [(0, [⟨5, 0, 8, 0, false⟩]), (128, [⟨2, 0, 8, 135266303, false⟩]), (129, [⟨2, 0, 8, 136314879, false⟩])]

theorem fltCrst_ghostRecords (h : mainRuns (signed s) = true) :
    fltCrst ghostRecords s = doReset .warm 7 (drawStart s).1 (signed s) := if_pos h

/-- A round whose records are those, in a main die that runs with the straps at 3 and whose shores are off. -/
structure Haunted (s : State) : Prop where
  records : (noted s).1 = ghostRecords
  runs : mainRuns (signed (reacted s)) = true
  straps : (reacted s).straps = 3
  quiet : Quiet (mainReset .warm (signed (reacted s)))

theorem Haunted.settleRound (h : Haunted s) :
    settleRound s = doReset .warm 7 (drawStart (reacted s)).1 (signed (reacted s)) := by
  rw [settleRound_eq, h.records, fltCrst_ghostRecords h.runs]

theorem Haunted.straps_signed (h : Haunted s) : (core (signed (reacted s))).straps = 3 := by
  rw [core_signed]
  exact h.straps

theorem Haunted.core_settleRound (h : Haunted s) :
    core (Machine.settleRound s) = ({ core (reacted s) with flt := 2 ^ 31 + 5 } : Core).restart .warm 7 := by
  rw [h.settleRound, core_doReset _ (.inl rfl) (by decide) (bits_straps h.straps_signed), core_signed]

theorem Haunted.quiet_settleRound (h : Haunted s) : Quiet (Machine.settleRound s) := by
  rw [h.settleRound]
  refine h.quiet.romStart (bits_straps (c := core (mainReset .warm (signed (reacted s)))) ?_) _
  rw [core_mainReset (.inl rfl)]
  exact h.straps_signed

theorem settle_of_no_posts (n : Nat) (h : s.posts = []) : settle (n + 1) s = s := by
  rw [settle, h]
  rfl

theorem Quiet.pinUpdate (h : Quiet s) : Quiet (pinUpdate s) := by
  unfold Machine.pinUpdate
  exact .ite (.ite ⟨h.posts, h.deferred, h.shoreA, h.shoreB⟩ ⟨h.posts, h.deferred, h.shoreA, h.shoreB⟩)
    ⟨h.posts, h.deferred, h.shoreA, h.shoreB⟩

/-- `finish` ends with that round. -/
theorem Haunted.finish {s0 : State} (h : Haunted (swept s0 s)) (hp : (swept s0 s).posts.isEmpty = false) :
    finish s0 s = Machine.pinUpdate (Machine.settleRound (swept s0 s)) := by
  rw [finish_eq, settle, hp, if_neg Bool.false_ne_true, settle_of_no_posts 62 h.quiet_settleRound.posts]

/-- `complete` too: no access waits, and there is no TABLE_IMAGE. -/
theorem Haunted.core_complete {s0 : State} (h : Haunted (swept s0 s)) (hp : (swept s0 s).posts.isEmpty = false) :
    core (complete s0 s) = ({ core (reacted (swept s0 s)) with flt := 2 ^ 31 + 5 } : Core).restart .warm 7 := by
  have hd : (Machine.finish s0 s).deferred = [] := by
    rw [h.finish hp]
    exact h.quiet_settleRound.pinUpdate.deferred
  have hc : core (Machine.finish s0 s) = ({ core (reacted (swept s0 s)) with flt := 2 ^ 31 + 5 } : Core).restart .warm 7 := by
    rw [h.finish hp, core_pinUpdate, h.core_settleRound]
  rw [complete_eq]
  dsimp only
  generalize Machine.finish s0 s = a at hd hc ⊢
  have ht : a.crn.table = none := (congrArg Core.table hc : (core a).table = none)
  rw [core_with_pending, ← hc]
  simp [hd, ht]

/-! ### The counterexample -/

/-- A condition of a source that SYS does not have waits, and the reaction to it is CRST; a byte of the stack is set; the straps let no
start go on; the memory is trained. -/
def ghostState : State :=
  { ((State.reset.setReg W.SYS SYS_FLT_FLOOR 8).setReg W.DMC DMC_STAT 1).setReg W.DMC DMC_CFG 0x100 with
    mem := [(5, 1)]
    straps := 3
    posts := [⟨W.SYS, 5, .event, 0, false⟩]
    shores := [(0, { Shore.reset with powered := false }), (1, { Shore.reset with powered := false })] }

/-- The cancel command of channel 16,360, whose window would stand in memory. -/
def cancelled : State := regWrite .crown (cxWin 16360) CX_TXCANCEL (2 ^ 30 + 0) Aux.plain ghostState

theorem exec_cancelSlot_ghostState : exec (.cancelSlot .crown 16360 0) ghostState = .next (complete ghostState cancelled) := rfl

set_option maxRecDepth 20000 in
theorem haunted_cancelled : Haunted (swept ghostState cancelled) where
  records := by decide +kernel
  runs := by decide +kernel
  straps := by decide +kernel
  quiet := ⟨by decide +kernel, by decide +kernel, by decide +kernel, by decide +kernel⟩

set_option maxRecDepth 20000 in
theorem posts_cancelled : (swept ghostState cancelled).posts.isEmpty = false := by decide +kernel

set_option maxRecDepth 20000 in
theorem hit_cancelled : kvGet 0 (kvFilter retainedByte (reacted (swept ghostState cancelled)).mem) 0x80000157 = (64 : Byte) := by
  decide +kernel

theorem hit_restart_warm (r : Nat) (c : Core) : (c.restart .warm r).hit = kvGet 0 (kvFilter retainedByte c.mem) 0x80000157 := rfl

theorem bad_cancelled : let c := core (complete ghostState cancelled)
    c.hit ≠ 0 ∧ c.low = 0 ∧ c.Signed := by
  rw [haunted_cancelled.core_complete posts_cancelled]
  have hit := hit_cancelled
  generalize reacted (swept ghostState cancelled) = r at hit ⊢
  refine ⟨?_, low_restart _ _ _, rfl, rfl⟩
  rw [hit_restart_warm]
  exact hit.symm ▸ (by decide : (64 : Byte) ≠ 0)

theorem framed_ghostState {t : State} (hmem : t.mem = ghostState.mem) (hcrn : t.crn = ghostState.crn)
    (hstraps : t.straps = ghostState.straps) : Framed (core t) where
  straps := hstraps
  hit := by
    rw [Core.hit, show (core t).mem = ghostState.mem from hmem]
    rfl
  table := congrArg Crown.table hcrn
  mark := .inl (by
    rw [Core.low, show (core t).mem = ghostState.mem from hmem]
    decide)

/-- Refutes O60: `cancelSlot` of channel 16,360 writes memory. In a state where that command's first round takes the reset of a condition
that no source of SYS has, no other state with the memory as it was comes to the same end. -/
theorem not_commandFamiliesKeepTheStateOfTheOthers : ¬ Obligations.CommandFamiliesKeepTheStateOfTheOthers := by
  unfold Obligations.CommandFamiliesKeepTheStateOfTheOthers
  intro h
  obtain ⟨-, -, -, -, -, hlast⟩ := h .crown 16360 0 0 0 0 false false [] [] [] ghostState
  obtain ⟨t, heff, -, ⟨hcrn, -, hstraps⟩, hmem, -⟩ := hlast (.cancelSlot .crown 16360 0) (by simp)
  have heq : complete ghostState cancelled = complete ghostState t := by
    rw [Effect, exec_cancelSlot_ghostState] at heff
    exact Host.Outcome.next.inj heff
  obtain ⟨hhit, hlow, hsigned⟩ := bad_cancelled
  rw [heq] at hhit hlow hsigned
  rcases not_bad_complete ghostState (framed_ghostState hmem hcrn hstraps) with h | h | h
  · exact hhit h
  · exact h hlow
  · exact h hsigned

end Sys2Proof.Proofs.LastReset
end

section
/-! PROOFS. The Balance: the end of a measurement window (O31), the regulation loop (O32), and PMBus transactions, manual requests and
the histogram clear (O33). -/
namespace Sys2Proof.Proofs.Balance
open Sys2Proof Sys2Proof.Machine Sys2Proof.Machine.Reg
variable {s t : State}

/-! ### Registers, fields and arrays of one window -/

@[simp] theorem setFld_bal (w off hi lo v : Nat) : (s.setFld w off hi lo v).bal = s.bal := rfl
@[simp] theorem setFld_posts (w off hi lo v : Nat) : (s.setFld w off hi lo v).posts = s.posts := rfl
@[simp] theorem setFld_win (w off hi lo v x : Nat) : (s.setFld w off hi lo v).win x = s.win x := rfl
@[simp] theorem setFlag_bal (w off i : Nat) (b : Bool) : (s.setFlag w off i b).bal = s.bal := rfl
@[simp] theorem setFlag_posts (w off i : Nat) (b : Bool) : (s.setFlag w off i b).posts = s.posts := rfl
@[simp] theorem setFlag_win (w off i x : Nat) (b : Bool) : (s.setFlag w off i b).win x = s.win x := rfl

/-- The other registers of the window that is written. -/
theorem reg_setReg_apart {w off o : Nat} (v : Nat) (h : o ≠ off) (ho : o < 0x2000 := by decide) (hoff : off < 0x2000 := by decide) :
    (s.setReg w off v).reg w o = s.reg w o := by
  rw [reg_setReg _ _ _ _ _ _ hoff ho, if_neg fun e => h e.2]

theorem flag_setFld_apart {w off hi lo j : Nat} (v : Nat) (h : j < lo ∨ hi < j) (hj : j < 32 := by decide) :
    (s.setFld w off hi lo v).flag w off j = s.flag w off j := by
  rw [State.flag, setFld_eq, reg_setReg_same, bit_mod _ _ _ hj, bit_putBits, if_neg (by omega), State.flag]

theorem flag_of_reg {w off i : Nat} (h : s.reg w off = t.reg w off) : s.flag w off i = t.flag w off i := by
  rw [State.flag, State.flag, h]

theorem fld_of_reg {w off hi lo : Nat} (h : s.reg w off = t.reg w off) : s.fld w off hi lo = t.fld w off hi lo := by
  rw [State.fld, State.fld, h]

/-- A wrapping 64-bit counter writes its own two registers. -/
theorem reg_count64_apart {w off o : Nat} (hlo : o ≠ off) (hhi : o ≠ off + 4) (ho : o < 0x2000 := by decide)
    (hoff : off + 4 < 0x2000 := by decide) : (s.count64 w off).reg w o = s.reg w o := by
  rw [State.count64, State.count64By, State.setReg64, reg_setReg_apart _ hhi ho hoff, reg_setReg_apart _ hlo ho (by omega)]

/-- A wrapping 64-bit counter counts one (R15). -/
theorem reg64_count64 {w off : Nat} (hoff : off + 4 < 0x2000 := by decide) :
    (s.count64 w off).reg64 w off = (s.reg64 w off + 1) % 2 ^ 64 := by
  rw [State.count64, State.count64By, State.setReg64]
  generalize s.reg64 w off + 1 = v
  rw [State.reg64, reg_setReg_same, reg_setReg_apart _ (by omega) (by omega) hoff, reg_setReg_same, Nat.shiftRight_eq_div_pow]
  omega

/-- Writing a run of registers four bytes apart writes the register file alone. -/
theorem foldRange_setReg_frame (w base : Nat) (f : Nat → Nat) (a n : Nat) :
    ∃ m, foldRange (fun s k => s.setReg w (base + 4 * k) (f k)) s a n = { s with regs := m } := by
  induction n generalizing s a with
  | zero => exact ⟨s.regs, rfl⟩
  | succ n ih =>
    obtain ⟨m, hm⟩ := ih (s := s.setReg w (base + 4 * a) (f a)) (a + 1)
    exact ⟨m, by rw [foldRange, hm]; rfl⟩

/-- Writing a run of registers leaves the others of the window. -/
theorem reg_foldRange_apart {w base o : Nat} (f : Nat → Nat) {a n : Nat} (h : ∀ k, a ≤ k → k < a + n → o ≠ base + 4 * k)
    (ho : o < 0x2000) (hn : base + 4 * (a + n) < 0x2000) :
    (foldRange (fun s k => s.setReg w (base + 4 * k) (f k)) s a n).reg w o = s.reg w o := by
  induction n generalizing s a with
  | zero => rfl
  | succ n ih =>
    rw [foldRange, ih (fun k hlo hhi => h k (by omega) (by omega)) (by omega),
      reg_setReg_apart _ (h a (by omega) (by omega)) ho (by omega)]

/-- Writing a run of registers gives each its value. -/
theorem reg_foldRange_in {w base k : Nat} (f : Nat → Nat) {a n : Nat} (hk : a ≤ k ∧ k < a + n) (hn : base + 4 * (a + n) < 0x2000) :
    (foldRange (fun s k => s.setReg w (base + 4 * k) (f k)) s a n).reg w (base + 4 * k) = f k % 2 ^ 32 := by
  induction n generalizing s a with
  | zero => omega
  | succ n ih =>
    rw [foldRange]
    by_cases h : k = a
    · subst h
      rw [reg_foldRange_apart f (fun j _ _ => by omega) (by omega) (by omega), reg_setReg_same]
    · exact ih ⟨by omega, by omega⟩ (by omega)

/-- A condition joins those that wait, in a block that runs. -/
theorem posts_post {p : Post} (hw : (s.win p.win).resetting = false) (hp : p.src < nsrc p.win) : (s.post p).posts = s.posts ++ [p] := by
  simp [State.post, hw, hp]

/-- The own effect of a command of the main die, while it runs. -/
theorem effect_main {c : Instr} {f : State → State} (hc : exec c s = .next (onMain f s)) (h : mainRuns s = true) :
    Effect c s (f s) := by
  rw [Effect, hc, complete_main h]

/-! ### One VOUT_COMMAND (R26, R31) -/

theorem clampMv_of_reg (h : s.reg W.BAL BAL_REG_GUARD = t.reg W.BAL BAL_REG_GUARD) (v : Nat) : clampMv s v = clampMv t v := by
  simp only [clampMv, fld_of_reg h]

/-- In a guard set whose limits are in order, the clamp stays between them. -/
theorem clampMv_mem (v : Nat) (h : s.fld W.BAL BAL_REG_GUARD 15 0 ≤ s.fld W.BAL BAL_REG_GUARD 31 16) :
    s.fld W.BAL BAL_REG_GUARD 15 0 ≤ clampMv s v ∧ clampMv s v ≤ s.fld W.BAL BAL_REG_GUARD 31 16 := by
  unfold clampMv
  omega

@[simp] theorem pmbusSend_posts (mv : Nat) : (pmbusSend mv s).posts = s.posts := rfl
@[simp] theorem pmbusSend_bal (mv : Nat) : (pmbusSend mv s).bal = { s.bal with cmdMv := mv } := rfl

theorem pmbusSend_regs (mv : Nat) :
    (pmbusSend mv s).regs = ((s.count64 W.BAL BAL_PMB_TXN_LO).setFlag W.BAL BAL_VSTAT 1 true).regs := rfl

/-- A command writes BAL_VSTAT and the transaction count. -/
theorem reg_pmbusSend (mv : Nat) {o : Nat} (h : o < BAL_VSTAT ∨ BAL_PMB_TXN_HI < o) (ho : o < 0x2000) :
    (pmbusSend mv s).reg W.BAL o = s.reg W.BAL o := by
  obtain ⟨hstat, hlo, hhi⟩ : o ≠ BAL_VSTAT ∧ o ≠ BAL_PMB_TXN_LO ∧ o ≠ BAL_PMB_TXN_LO + 4 := by
    simp only [BAL_VSTAT, BAL_PMB_TXN_LO, BAL_PMB_TXN_HI] at *
    omega
  rw [reg_congr (pmbusSend_regs mv), setFlag_eq, reg_setReg_apart _ hstat ho, reg_count64_apart hlo hhi ho]

/-- The command sets BUSY. -/
theorem busy_pmbusSend (mv : Nat) : (pmbusSend mv s).flag W.BAL BAL_VSTAT 1 = true := by
  rw [flag_congr (pmbusSend_regs mv), flag_setFlag_same _ _ _ _ _ (by decide)]

/-- LAST_MV waits for the transaction's end. -/
theorem lastMv_pmbusSend (mv : Nat) : (pmbusSend mv s).fld W.BAL BAL_VSTAT 31 16 = s.fld W.BAL BAL_VSTAT 31 16 := by
  rw [fld_congr (pmbusSend_regs mv), State.setFlag, fld_setFld_apart _ _ _ _ _ _ _ _ (by decide) (by decide),
    fld_of_reg (reg_count64_apart (by decide) (by decide))]

/-- One transaction is counted. -/
theorem txn_pmbusSend (mv : Nat) :
    (pmbusSend mv s).reg64 W.BAL BAL_PMB_TXN_LO = (s.reg64 W.BAL BAL_PMB_TXN_LO + 1) % 2 ^ 64 := by
  rw [← reg64_count64, reg64_congr (pmbusSend_regs mv), setFlag_eq, State.reg64, reg_setReg_apart _ (by decide),
    reg_setReg_apart _ (by decide), State.reg64]

/-! ### The loop's command (R26, R27, R29) -/

theorem loopCommand_sends {v : Nat} (hbusy : s.flag W.BAL BAL_VSTAT 1 = false) (hv : clampMv s v ≠ s.fld W.BAL BAL_VSTAT 31 16) :
    loopCommand false v s = pmbusSend (clampMv s v) s := by
  simp [loopCommand, hbusy, hv]

theorem loopCommand_holds {alert : Bool} {v : Nat} (h : alert = true ∨ clampMv s v = s.fld W.BAL BAL_VSTAT 31 16) :
    loopCommand alert v s = s := by
  rcases h with h | h <;> simp [loopCommand, h]

/-- What the loop's command can do: nothing, or one transaction. -/
theorem loopCommand_cases (alert : Bool) (v : Nat) : loopCommand alert v s = s ∨ loopCommand alert v s = pmbusSend (clampMv s v) s := by
  unfold loopCommand
  dsimp only
  split
  · exact .inl rfl
  · exact .inr rfl

@[simp] theorem loopCommand_posts (alert : Bool) (v : Nat) : (loopCommand alert v s).posts = s.posts := by
  rcases loopCommand_cases alert v with h | h <;> rw [h]
  rfl

@[simp] theorem loopCommand_vmaxPeriods (alert : Bool) (v : Nat) :
    (loopCommand alert v s).bal.vmaxPeriods = s.bal.vmaxPeriods := by
  rcases loopCommand_cases alert v with h | h <;> rw [h]
  rfl

theorem reg_loopCommand (alert : Bool) (v : Nat) {o : Nat} (h : o < BAL_VSTAT ∨ BAL_PMB_TXN_HI < o) (ho : o < 0x2000) :
    (loopCommand alert v s).reg W.BAL o = s.reg W.BAL o := by
  rcases loopCommand_cases alert v with hc | hc <;> rw [hc]
  exact reg_pmbusSend _ h ho

/-- The voltage that the loop's raise at PACE_LOW asks for, before the clamp (R27). -/
def raiseTarget (s : State) : Nat := s.fld W.BAL BAL_VSTAT 31 16 + 5 * s.fld W.BAL BAL_REG_CTRL 27 24

theorem loopRaise_busy (alert : Bool) (h : s.flag W.BAL BAL_VSTAT 1 = true) :
    loopRaise alert s = { s with bal := { s.bal with raise := true } } := by
  simp [loopRaise, h]

theorem loopRaise_idle (alert : Bool) (h : s.flag W.BAL BAL_VSTAT 1 = false) :
    loopRaise alert s = loopCommand alert (raiseTarget s) s := by
  simp [loopRaise, h, raiseTarget]

@[simp] theorem loopRaise_posts (alert : Bool) : (loopRaise alert s).posts = s.posts := by
  cases h : s.flag W.BAL BAL_VSTAT 1
  · rw [loopRaise_idle alert h, loopCommand_posts]
  · rw [loopRaise_busy alert h]

theorem reg_loopRaise (alert : Bool) {o : Nat} (h : o < BAL_VSTAT ∨ BAL_PMB_TXN_HI < o) (ho : o < 0x2000) :
    (loopRaise alert s).reg W.BAL o = s.reg W.BAL o := by
  cases hbusy : s.flag W.BAL BAL_VSTAT 1
  · rw [loopRaise_idle alert hbusy, reg_loopCommand _ _ h ho]
  · rw [loopRaise_busy alert hbusy]
    rfl

/-! ### The loop period (R26, R28, R29) -/

/-- The consecutive periods at VMAX_MV with the pace too low, this one included (R28). -/
def stuckPeriods (s : State) : Nat := if loopStuck s then s.bal.vmaxPeriods + 1 else 0

/-- The period as the loop meets it: the periods at VMAX_MV counted, and REG_LIMIT raised at the sixteenth (R28). -/
def periodCounted (s : State) : State :=
  let s' := { s with bal := { s.bal with vmaxPeriods := stuckPeriods s } }
  if stuckPeriods s = 16 then s'.raise0 W.BAL 4 else s'

@[simp] theorem periodCounted_regs : (periodCounted s).regs = s.regs := by
  unfold periodCounted
  split <;> rfl

@[simp] theorem periodCounted_cmdMv : (periodCounted s).bal.cmdMv = s.bal.cmdMv := by
  unfold periodCounted
  split <;> rfl

/-- The sixteenth period at VMAX_MV with the pace too low (R28). -/
theorem periodCounted_sixteenth (hstuck : loopStuck s = true) (hn : s.bal.vmaxPeriods = 15) (hw : (s.win W.BAL).resetting = false) :
    (periodCounted s).bal.vmaxPeriods = 16 ∧ (periodCounted s).posts = s.posts ++ [⟨W.BAL, 4, .event, locSelf W.BAL, false⟩] := by
  have h16 : stuckPeriods s = 16 := by rw [stuckPeriods, if_pos hstuck, hn]
  rw [periodCounted, if_pos h16, raise0_eq]
  exact ⟨h16, posts_post hw (by decide)⟩

theorem loopTarget_congr (h : s.regs = t.regs) : loopTarget s = loopTarget t := by
  simp only [loopTarget, fld_congr h]

/-- A period of the running loop: it is counted, and the loop commands its target. -/
theorem doLoopPeriod_running (alert : Bool) (hen : s.enabled W.BAL = true) (hloop : s.flag W.BAL BAL_REG_CTRL 31 = true) :
    doLoopPeriod alert s = loopCommand alert (loopTarget s) (periodCounted s) := by
  rw [← loopTarget_congr (periodCounted_regs (s := s))]
  simp only [doLoopPeriod, hen, hloop, Bool.not_true, Bool.or_self, Bool.false_eq_true, if_false, beq_iff_eq]
  rfl

/-- Settles O32: a period acts as `loopCommand` on `loopTarget`, in the state of `periodCounted`, which has the registers of `s`. -/
theorem regulationLoopStepsWithinTheGuard : Obligations.RegulationLoopStepsWithinTheGuard := by
  intro s hrun hen hloop hbusy p tgt band last v
  have hregs : (periodCounted s).regs = s.regs := periodCounted_regs
  have hbusy' : (periodCounted s).flag W.BAL BAL_VSTAT 1 = false := (flag_congr hregs ..).trans hbusy
  have hlast : (periodCounted s).fld W.BAL BAL_VSTAT 31 16 = last := fld_congr hregs ..
  have hv : clampMv (periodCounted s) (loopTarget s) = v := clampMv_of_reg (reg_congr hregs ..) _
  have does : ∀ {a : Bool} {P : State → Prop}, P (loopCommand a (loopTarget s) (periodCounted s)) → Does (.loopPeriod a) s P :=
    fun {a} _ hP => does_main rfl hrun (by rwa [doLoopPeriod_running a hen hloop])
  refine ⟨does ?_, fun hne => does ?_, fun heq => does ?_, fun hlow hmax hn hw a => does ?_, fun _ => clampMv_mem _⟩
  · rw [loopCommand_holds (.inl rfl)]
    exact ⟨hbusy', periodCounted_cmdMv, reg64_congr hregs ..⟩
  · rw [loopCommand_sends hbusy' (by rwa [hv, hlast]), hv]
    exact ⟨busy_pmbusSend v, rfl, (lastMv_pmbusSend v).trans hlast, by rw [txn_pmbusSend, reg64_congr hregs]⟩
  · rw [loopCommand_holds (.inr (by rwa [hv, hlast]))]
    exact ⟨hbusy', periodCounted_cmdMv⟩
  · have hstuck : loopStuck s = true := by
      simp only [loopStuck, Bool.and_eq_true, decide_eq_true_eq, beq_iff_eq]
      exact ⟨hlow, hmax⟩
    obtain ⟨hcount, hpost⟩ := periodCounted_sixteenth hstuck hn hw
    rw [loopCommand_vmaxPeriods, loopCommand_posts, hcount, hpost]
    exact ⟨rfl, List.mem_append_right _ (List.mem_singleton.mpr rfl)⟩

/-! ### Transactions that end (R29, R31) -/

/-- Nothing waits for the PMBus. -/
theorem pmbusNext_idle (alert : Bool) (hq : s.bal.queue = []) (hr : s.bal.raise = false) : pmbusNext alert s = s := by
  simp [pmbusNext, hq, hr]

/-- A manual request waits: the oldest is sent. -/
theorem pmbusNext_queued (alert : Bool) {v : Nat} {rest : List Nat} (hq : s.bal.queue = v :: rest) :
    pmbusNext alert s = pmbusSend v { s with bal := { s.bal with queue := rest } } := by
  simp only [pmbusNext, hq]

/-- The end of a transaction as it stands before the next one is sent: BUSY clears, LAST_MV and FAILS follow the outcome. -/
def pmbusEnded (ok : Bool) (s : State) : State :=
  let t := s.setFlag W.BAL BAL_VSTAT 1 false
  if ok then (t.setFld W.BAL BAL_VSTAT 31 16 s.bal.cmdMv).setFld W.BAL BAL_VSTAT 15 8 0 else pmbusFailed t

theorem doPmbusEnd_busy (ok alert : Bool) (h : s.flag W.BAL BAL_VSTAT 1 = true) :
    doPmbusEnd ok alert s = pmbusNext alert (pmbusEnded ok s) := by
  simp only [doPmbusEnd, h, Bool.not_true, Bool.false_eq_true, if_false]
  rfl

theorem doPmbusEnd_idle (ok alert : Bool) (h : s.flag W.BAL BAL_VSTAT 1 = false) : doPmbusEnd ok alert s = s := by
  simp [doPmbusEnd, h]

/-- A success: LAST_MV takes the commanded voltage, FAILS becomes 0. -/
theorem pmbusEnded_success (hmv : s.bal.cmdMv < 2 ^ 16) :
    (pmbusEnded true s).flag W.BAL BAL_VSTAT 1 = false ∧ (pmbusEnded true s).fld W.BAL BAL_VSTAT 31 16 = s.bal.cmdMv
      ∧ (pmbusEnded true s).fld W.BAL BAL_VSTAT 15 8 = 0 := by
  simp only [pmbusEnded, if_true]
  refine ⟨?_, ?_, ?_⟩
  · rw [flag_setFld_apart _ (by decide), flag_setFld_apart _ (by decide), flag_setFlag_same _ _ _ _ _ (by decide)]
  · rw [fld_setFld_apart _ _ _ _ _ _ _ _ (by decide) (by decide), fld_setFld_same _ _ _ _ _ _ (by decide)]
    exact Nat.mod_eq_of_lt hmv
  · rw [fld_setFld_same _ _ _ _ _ _ (by decide), Nat.zero_mod]

theorem pmbusEnded_success_bal : (pmbusEnded true s).bal = s.bal := by
  rw [pmbusEnded, if_pos rfl, setFld_bal, setFld_bal, setFlag_bal]

theorem pmbusEnded_success_posts : (pmbusEnded true s).posts = s.posts := by
  rw [pmbusEnded, if_pos rfl, setFld_posts, setFld_posts, setFlag_posts]

/-- A failure as it is counted and reported (R29). -/
def failureCounted (s : State) : State :=
  (s.setFld W.BAL BAL_VSTAT 15 8 (satAdd 8 (s.fld W.BAL BAL_VSTAT 15 8) 1)).raise0 W.BAL 5

/-- The loop is stopped, in the live set and in the shadow. -/
def loopStopped (s : State) : State :=
  forgetStuck ((s.setFlag W.BAL BAL_REG_CTRL 31 false).setShadow W.BAL BAL_REG_CTRL (putBit (s.shadow W.BAL BAL_REG_CTRL) 31 false))

theorem pmbusFailed_eq : pmbusFailed s
    = if s.fld W.BAL BAL_VSTAT 15 8 + 1 < 3 then failureCounted s else loopStopped (failureCounted s) := by
  have hfails : 3 ≤ satAdd 8 (s.fld W.BAL BAL_VSTAT 15 8) 1 ↔ ¬s.fld W.BAL BAL_VSTAT 15 8 + 1 < 3 := by
    unfold satAdd
    omega
  simp only [pmbusFailed, hfails, ite_not]
  rfl

theorem forgetStuck_regs : (forgetStuck s).regs = s.regs := rfl

theorem loopStopped_regs : (loopStopped s).regs = (s.setFlag W.BAL BAL_REG_CTRL 31 false).regs := by
  rw [loopStopped, forgetStuck_regs, setShadow_regs]

theorem failureCounted_regs : (failureCounted s).regs
    = (s.setFld W.BAL BAL_VSTAT 15 8 (satAdd 8 (s.fld W.BAL BAL_VSTAT 15 8) 1)).regs := by
  rw [failureCounted, raise0_regs]

/-- The status after a failure is the one that `failureCounted` leaves. -/
theorem vstat_pmbusFailed : (pmbusFailed s).reg W.BAL BAL_VSTAT = (failureCounted s).reg W.BAL BAL_VSTAT := by
  rw [pmbusFailed_eq]
  split
  · rfl
  · rw [reg_congr loopStopped_regs, setFlag_eq, reg_setReg_apart _ (by decide)]

theorem posts_pmbusFailed : (pmbusFailed s).posts = (failureCounted s).posts := by
  rw [pmbusFailed_eq]
  split <;> rfl

/-- What waits for the PMBus goes on waiting. -/
theorem waiting_pmbusFailed : (pmbusFailed s).bal.queue = s.bal.queue ∧ (pmbusFailed s).bal.raise = s.bal.raise := by
  rw [pmbusFailed_eq]
  split <;> exact ⟨rfl, rfl⟩

/-- The third failure in a row stops the loop. -/
theorem loop_pmbusFailed : (pmbusFailed s).flag W.BAL BAL_REG_CTRL 31
    = (s.flag W.BAL BAL_REG_CTRL 31 && decide (s.fld W.BAL BAL_VSTAT 15 8 + 1 < 3)) := by
  have hkept : (failureCounted s).flag W.BAL BAL_REG_CTRL 31 = s.flag W.BAL BAL_REG_CTRL 31 := by
    rw [flag_congr failureCounted_regs, setFld_eq]
    exact flag_of_reg (reg_setReg_apart _ (by decide))
  rw [pmbusFailed_eq]
  by_cases hfew : s.fld W.BAL BAL_VSTAT 15 8 + 1 < 3
  · simp [hfew, hkept]
  · rw [if_neg hfew, flag_congr loopStopped_regs, flag_setFlag_same _ _ _ _ _ (by decide)]
    simp [hfew]

theorem pmbusEnded_false : pmbusEnded false s = pmbusFailed (s.setFlag W.BAL BAL_VSTAT 1 false) := by
  rw [pmbusEnded, if_neg Bool.false_ne_true]

/-- FAILS as the failure meets it, with BUSY cleared. -/
theorem fails_clearBusy : (s.setFlag W.BAL BAL_VSTAT 1 false).fld W.BAL BAL_VSTAT 15 8 = s.fld W.BAL BAL_VSTAT 15 8 :=
  fld_setFld_apart _ _ _ _ _ _ _ _ (by decide) (by decide)

/-- A failure: LAST_MV stays, FAILS counts, saturating. -/
theorem pmbusEnded_failure :
    (pmbusEnded false s).flag W.BAL BAL_VSTAT 1 = false
      ∧ (pmbusEnded false s).fld W.BAL BAL_VSTAT 31 16 = s.fld W.BAL BAL_VSTAT 31 16
      ∧ (pmbusEnded false s).fld W.BAL BAL_VSTAT 15 8 = min (s.fld W.BAL BAL_VSTAT 15 8 + 1) 255 := by
  rw [pmbusEnded_false, flag_of_reg vstat_pmbusFailed, fld_of_reg vstat_pmbusFailed, fld_of_reg vstat_pmbusFailed,
    flag_congr failureCounted_regs, fld_congr failureCounted_regs, fld_congr failureCounted_regs, fails_clearBusy]
  refine ⟨?_, ?_, ?_⟩
  · rw [flag_setFld_apart _ (by decide), flag_setFlag_same _ _ _ _ _ (by decide)]
  · rw [fld_setFld_apart _ _ _ _ _ _ _ _ (by decide) (by decide)]
    exact fld_setFld_apart _ _ _ _ _ _ _ _ (by decide) (by decide)
  · rw [fld_setFld_same _ _ _ _ _ _ (by decide)]
    unfold satAdd
    omega

theorem waiting_pmbusEnded_failure :
    (pmbusEnded false s).bal.queue = s.bal.queue ∧ (pmbusEnded false s).bal.raise = s.bal.raise := by
  rw [pmbusEnded_false, waiting_pmbusFailed.1, waiting_pmbusFailed.2, setFlag_bal]
  exact ⟨rfl, rfl⟩

theorem posts_pmbusEnded_failure (hw : (s.win W.BAL).resetting = false) :
    (pmbusEnded false s).posts = s.posts ++ [⟨W.BAL, 5, .event, locSelf W.BAL, false⟩] := by
  rw [pmbusEnded_false, posts_pmbusFailed, failureCounted, raise0_eq,
    posts_post (by rwa [setFld_win, setFlag_win]) (show 5 < nsrc W.BAL by decide), setFld_posts, setFlag_posts]

theorem loop_pmbusEnded_failure : (pmbusEnded false s).flag W.BAL BAL_REG_CTRL 31
    = (s.flag W.BAL BAL_REG_CTRL 31 && decide (s.fld W.BAL BAL_VSTAT 15 8 + 1 < 3)) := by
  have hctrl : (s.setFlag W.BAL BAL_VSTAT 1 false).flag W.BAL BAL_REG_CTRL 31 = s.flag W.BAL BAL_REG_CTRL 31 :=
    flag_of_reg (reg_setReg_apart _ (by decide))
  rw [pmbusEnded_false, loop_pmbusFailed, hctrl, fails_clearBusy]

/-! ### Writes of BAL_VSET and BAL_HIST_CLR (R25, R31) -/

/-- A write reaches the Balance with only the bus's answer before it. -/
theorem arrived_bal (i : Initiator) : arrived i W.BAL s = busDone 0 s := by
  rw [arrived, crossed_main i W.BAL s rfl]

theorem effect_balVsetWrite {i : Initiator} {d : Word} (h : takes s i W.BAL BAL_VSET = true) :
    Effect (.balVsetWrite i d) s (doVsetWrite d.toNat (busDone 0 s)) := by
  obtain ⟨t, heff, rfl⟩ : Does (.balVsetWrite i d) s fun t => t = doVsetWrite (d.toNat % 2 ^ 32) (arrived i W.BAL s) :=
    does_write rfl h rfl rfl
  rwa [arrived_bal, Nat.mod_eq_of_lt d.isLt] at heff

theorem effect_balHistClr {i : Initiator} {d : Word} (h : takes s i W.BAL Reg.BAL_HIST_CLR = true) :
    Effect (.balHistClr i d) s (doHistClr d.toNat (busDone 0 s)) := by
  obtain ⟨t, heff, rfl⟩ : Does (.balHistClr i d) s fun t => t = doHistClr (d.toNat % 2 ^ 32) (arrived i W.BAL s) :=
    does_write rfl h rfl rfl
  rwa [arrived_bal, Nat.mod_eq_of_lt d.isLt] at heff

/-- A manual request is stored and, with no transaction in progress, sent. -/
theorem doVsetWrite_sends {d : Nat} (hloop : s.flag W.BAL BAL_REG_CTRL 31 = false) (hbusy : s.flag W.BAL BAL_VSTAT 1 = false) :
    doVsetWrite d s = pmbusSend (clampMv s (d % 2 ^ 16)) (s.setReg W.BAL BAL_VSET (d % 2 ^ 16)) := by
  have hbits : bits d 15 0 = d % 2 ^ 16 := rfl
  have hbusy' : (s.setReg W.BAL BAL_VSET (d % 2 ^ 16)).flag W.BAL BAL_VSTAT 1 = false :=
    (flag_of_reg (reg_setReg_apart _ (by decide))).trans hbusy
  simp only [doVsetWrite, hloop, hbits, hbusy', Bool.false_eq_true, if_false]
  rw [clampMv_of_reg (reg_setReg_apart _ (by decide))]

/-- A manual request that meets a transaction in progress waits behind the others. -/
theorem doVsetWrite_waits {d : Nat} (hloop : s.flag W.BAL BAL_REG_CTRL 31 = false) (hbusy : s.flag W.BAL BAL_VSTAT 1 = true) :
    (doVsetWrite d s).bal = { s.bal with queue := s.bal.queue ++ [clampMv s (d % 2 ^ 16)] }
      ∧ (doVsetWrite d s).regs = (s.setReg W.BAL BAL_VSET (d % 2 ^ 16)).regs := by
  have hbits : bits d 15 0 = d % 2 ^ 16 := rfl
  have hbusy' : (s.setReg W.BAL BAL_VSET (d % 2 ^ 16)).flag W.BAL BAL_VSTAT 1 = true :=
    (flag_of_reg (reg_setReg_apart _ (by decide))).trans hbusy
  simp only [doVsetWrite, hloop, hbits, hbusy', Bool.false_eq_true, if_false, if_true]
  rw [clampMv_of_reg (reg_setReg_apart _ (by decide)), setReg_bal]
  exact ⟨rfl, trivial⟩

theorem doVsetWrite_ignored {d : Nat} (hloop : s.flag W.BAL BAL_REG_CTRL 31 = true) : doVsetWrite d s = s := by
  simp [doVsetWrite, hloop]

/-- A clear of the histogram empties the 16 bins and leaves BAL_MIN. -/
theorem doHistClr_set {d : Nat} (h : bit d 0 = true) :
    (∀ k, k < 16 → (doHistClr d s).reg W.BAL (BAL_HIST + 4 * k) = 0)
      ∧ (doHistClr d s).reg W.BAL BAL_MIN = s.reg W.BAL BAL_MIN := by
  rw [doHistClr, if_pos h]
  exact ⟨fun k hk => reg_foldRange_in (fun _ => 0) ⟨Nat.zero_le k, by omega⟩ (by decide),
    reg_foldRange_apart (fun _ => 0) (fun k _ _ => by simp only [BAL_MIN, BAL_HIST]; omega) (by decide) (by decide)⟩

/-- Settles O33: the end of a transaction is `pmbusEnded` and then what `pmbusNext` sends; the writes are `doVsetWrite` and `doHistClr` in
the state that the write arrives in. -/
theorem pmbusTransactionsMoveTheVoltage : Obligations.PmbusTransactionsMoveTheVoltage := by
  refine ⟨fun a s hrun hbusy hw => ⟨fun hq hr => ⟨fun hmv => does_main rfl hrun ?_, does_main rfl hrun ?_⟩,
      fun v rest hq hmv => does_main rfl hrun ?_⟩, fun s hrun hidle ok a => ?_,
    fun i d s htakes => ⟨fun hloop => ?_, fun hloop hbusy => ⟨_, effect_balVsetWrite htakes, ?_⟩,
      fun hloop hbusy => ⟨_, effect_balVsetWrite htakes, ?_⟩⟩, fun i d s htakes hclr => ⟨_, effect_balHistClr htakes, ?_⟩⟩
  · obtain ⟨hend, hlast, hfails⟩ := pmbusEnded_success hmv
    rw [doPmbusEnd_busy true a hbusy, pmbusNext_idle a (by rwa [pmbusEnded_success_bal]) (by rwa [pmbusEnded_success_bal])]
    exact ⟨hend, hlast, hfails, pmbusEnded_success_posts⟩
  · obtain ⟨hend, hlast, hfails⟩ := pmbusEnded_failure (s := s)
    obtain ⟨hqueue, hraise⟩ := waiting_pmbusEnded_failure (s := s)
    rw [doPmbusEnd_busy false a hbusy, pmbusNext_idle a (hqueue.trans hq) (hraise.trans hr)]
    exact ⟨hend, hlast, hfails, posts_pmbusEnded_failure hw, loop_pmbusEnded_failure⟩
  · obtain ⟨-, hlast, -⟩ := pmbusEnded_success hmv
    rw [doPmbusEnd_busy true a hbusy, pmbusNext_queued a (by rwa [pmbusEnded_success_bal])]
    exact ⟨busy_pmbusSend v, by rw [pmbusSend_bal], by rw [pmbusSend_bal], (lastMv_pmbusSend v).trans hlast⟩
  · have heff : Effect (.pmbusTransactionEnd ok a) s (doPmbusEnd ok a s) := effect_main rfl hrun
    rwa [doPmbusEnd_idle ok a hidle] at heff
  · have hignored : doVsetWrite d.toNat (busDone 0 s) = busDone 0 s := doVsetWrite_ignored hloop
    exact hignored ▸ effect_balVsetWrite htakes
  · have hstat : ((busDone 0 s).setReg W.BAL BAL_VSET (d.toNat % 2 ^ 16)).reg W.BAL BAL_VSTAT = s.reg W.BAL BAL_VSTAT :=
      reg_setReg_apart _ (by decide)
    rw [doVsetWrite_sends (s := busDone 0 s) hloop hbusy]
    exact ⟨rfl, busy_pmbusSend _, (lastMv_pmbusSend _).trans (fld_of_reg hstat)⟩
  · have hstat : ((busDone 0 s).setReg W.BAL BAL_VSET (d.toNat % 2 ^ 16)).reg W.BAL BAL_VSTAT = s.reg W.BAL BAL_VSTAT :=
      reg_setReg_apart _ (by decide)
    obtain ⟨hbal, hregs⟩ := doVsetWrite_waits (s := busDone 0 s) (d := d.toNat) hloop hbusy
    exact ⟨hbal, by rw [flag_congr hregs, flag_of_reg hstat, hbusy]⟩
  · exact doHistClr_set hclr

/-! ### The lowest reading (R23) -/

/-- A monitor outside the mask takes no part. -/
theorem lowestReading_skipped {mask x b : Nat} {rs : List Nat} (hb : bit mask b = false) :
    lowestReading mask (x :: rs) b = lowestReading mask rs (b + 1) := by
  simp [lowestReading, hb]

/-- The first monitor of the mask is the lowest where no later one reads less. -/
theorem lowestReading_first {mask x b : Nat} {rs : List Nat} (hb : bit mask b = true)
    (h : ∀ q k, lowestReading mask rs (b + 1) = some (q, k) → x ≤ q) : lowestReading mask (x :: rs) b = some (x, b) := by
  cases hrest : lowestReading mask rs (b + 1) with
  | none => simp only [lowestReading, hb, hrest, if_true]
  | some r => simp only [lowestReading, hb, hrest, if_true, if_neg (Nat.not_lt.mpr (h r.1 r.2 hrest))]

/-- A later monitor that reads less stays the lowest. -/
theorem lowestReading_later {mask x b q k : Nat} {rs : List Nat} (hrest : lowestReading mask rs (b + 1) = some (q, k)) (h : q < x) :
    lowestReading mask (x :: rs) b = some (q, k) := by
  simp [lowestReading, hrest, h]

/-- What `lowestReading` finds is a reading of a monitor of the mask. -/
theorem lowestReading_mem {mask q k b : Nat} {rs : List Nat} (h : lowestReading mask rs b = some (q, k)) :
    ∃ j, rs[j]? = some q ∧ bit mask (b + j) = true := by
  induction rs generalizing b q k with
  | nil => simp [lowestReading] at h
  | cons x rs ih =>
    by_cases hlater : lowestReading mask rs (b + 1) = some (q, k)
    · obtain ⟨j, hj, hbit⟩ := ih hlater
      exact ⟨j + 1, hj, by rwa [Nat.add_right_comm, Nat.add_assoc] at hbit⟩
    · cases hb : bit mask b with
      | false => exact absurd (lowestReading_skipped hb ▸ h) hlater
      | true =>
        have hfirst : lowestReading mask (x :: rs) b = some (x, b) := lowestReading_first hb fun q' k' hrest =>
          Nat.not_lt.mp fun hlt => hlater (hrest.trans ((lowestReading_later hrest hlt).symm.trans h))
        obtain ⟨rfl, rfl⟩ : x = q ∧ b = k := by simpa using hfirst.symm.trans h
        exact ⟨0, rfl, hb⟩

/-- The lowest reading of the mask, the lowest monitor first among equals, is the one found. -/
theorem lowestReading_eq {mask p i b : Nat} {rs : List Nat} (hp : rs[i]? = some p) (hbit : bit mask (b + i) = true)
    (hmin : ∀ j q, rs[j]? = some q → bit mask (b + j) = true → p ≤ q ∧ (j < i → p < q)) :
    lowestReading mask rs b = some (p, b + i) := by
  induction rs generalizing b i with
  | nil => simp at hp
  | cons x rs ih =>
    have hsucc : ∀ j, b + 1 + j = b + (j + 1) := fun j => by omega
    cases i with
    | zero =>
      obtain rfl : x = p := by simpa using hp
      refine lowestReading_first hbit fun q k hq => ?_
      obtain ⟨j, hj, hj'⟩ := lowestReading_mem hq
      exact (hmin (j + 1) q hj (by rwa [← hsucc])).1
    | succ i =>
      have hrest : lowestReading mask rs (b + 1) = some (p, b + (i + 1)) := by
        rw [← hsucc i]
        refine ih hp (by rwa [hsucc]) fun j q hj hj' => ?_
        obtain ⟨hle, hlt⟩ := hmin (j + 1) q hj (by rwa [← hsucc])
        exact ⟨hle, fun hji => hlt (Nat.succ_lt_succ hji)⟩
      cases hb : bit mask b with
      | false => rw [lowestReading_skipped hb, hrest]
      | true => exact lowestReading_later hrest ((hmin 0 x rfl hb).2 (Nat.zero_lt_succ i))

/-! ### The end of a window (R23, R24, R25, R27) -/

theorem storeReadings_frame (rs : List Nat) : ∃ m, storeReadings rs s = { s with regs := m } :=
  foldRange_setReg_frame W.BAL BAL_PACE (fun k => 0x10000 + rs.getD k 0) 0 rs.length

@[simp] theorem storeReadings_bal (rs : List Nat) : (storeReadings rs s).bal = s.bal := by
  obtain ⟨m, h⟩ := storeReadings_frame (s := s) rs
  rw [h]

@[simp] theorem storeReadings_win (rs : List Nat) (w : Nat) : (storeReadings rs s).win w = s.win w := by
  obtain ⟨m, h⟩ := storeReadings_frame (s := s) rs
  exact win_congr (by rw [h]) w

@[simp] theorem storeReadings_source (rs : List Nat) (w k : Nat) : (storeReadings rs s).source w k = s.source w k := by
  obtain ⟨m, h⟩ := storeReadings_frame (s := s) rs
  exact source_congr (by rw [h]) w k

theorem reg_storeReadings_apart {rs : List Nat} {o : Nat} (hlen : rs.length ≤ 16) (h : o < BAL_PACE ∨ BAL_REG_CTRL ≤ o)
    (ho : o < 0x2000) : (storeReadings rs s).reg W.BAL o = s.reg W.BAL o :=
  reg_foldRange_apart _ (fun k _ hk => by simp only [BAL_PACE, BAL_REG_CTRL] at *; omega) ho (by simp only [BAL_PACE]; omega)

theorem reg_storeReadings_in {rs : List Nat} {j q : Nat} (hlen : rs.length ≤ 16) (hj : rs[j]? = some q) (hq : q < 2 ^ 16) :
    (storeReadings rs s).reg W.BAL (BAL_PACE + 4 * j) = 0x10000 + q := by
  obtain ⟨hlt, -⟩ := List.getElem?_eq_some_iff.mp hj
  have hget : rs.getD j 0 = q := by rw [List.getD_eq_getElem?_getD, hj, Option.getD_some]
  rw [storeReadings, reg_foldRange_in (fun k => 0x10000 + rs.getD k 0) ⟨Nat.zero_le j, by omega⟩ (by simp only [BAL_PACE]; omega), hget]
  omega

theorem histBin_lt (p : Nat) : histBin p < 16 := by
  unfold histBin
  split
  · decide
  · split <;> omega

/-- A level that rises posts its begin. -/
theorem mem_posts_level {w k loc : Nat} (hlive : (s.source w k).live = false) (hw : (s.win w).resetting = false) (hk : k < nsrc w) :
    ⟨w, k, .levelOn, loc, false⟩ ∈ (s.level w k loc true).posts := by
  have hposts : (s.level w k loc true).posts = s.posts ++ [⟨w, k, .levelOn, loc, false⟩] := by
    rw [← posts_post hw hk]
    simp [State.level, hlive]
  rw [hposts]
  exact List.mem_append_right _ (List.mem_singleton.mpr rfl)

/-- A window's lowest reading `p`, of monitor `m`, is stored and counted. -/
def windowCounted (p m : Nat) (s : State) : State := (s.setReg W.BAL BAL_MIN (m * 0x10000 + p)).count W.BAL (BAL_HIST + 4 * histBin p)

/-- The reading is judged against the two thresholds. -/
def windowJudged (p m : Nat) (s : State) : State :=
  (s.level W.BAL 2 (locUnit W.BAL m) (decide (p < s.fld W.BAL BAL_THRESH 15 0))).level W.BAL 3 (locUnit W.BAL m)
    (decide (p < s.fld W.BAL BAL_THRESH 31 16))

@[simp] theorem windowCounted_bal (p m : Nat) : (windowCounted p m s).bal = s.bal := by rw [windowCounted, count_eq, setReg_bal, setReg_bal]
@[simp] theorem windowCounted_win (p m w : Nat) : (windowCounted p m s).win w = s.win w := by
  rw [windowCounted, count_eq, win_setReg, win_setReg]
@[simp] theorem windowCounted_source (p m w k : Nat) : (windowCounted p m s).source w k = s.source w k := by
  rw [windowCounted, count_eq, source_setReg, source_setReg]
@[simp] theorem windowJudged_bal (p m : Nat) : (windowJudged p m s).bal = s.bal := rfl
@[simp] theorem windowJudged_regs (p m : Nat) : (windowJudged p m s).regs = s.regs := rfl

theorem reg_windowCounted_apart (p m : Nat) {o : Nat} (hmin : o ≠ BAL_MIN) (ho : o < BAL_HIST) :
    (windowCounted p m s).reg W.BAL o = s.reg W.BAL o := by
  have := histBin_lt p
  simp only [BAL_HIST] at ho
  rw [windowCounted, count_eq, reg_setReg_apart _ (by simp only [BAL_HIST]; omega) (by omega) (by simp only [BAL_HIST]; omega),
    reg_setReg_apart _ hmin (by omega)]

theorem reg_windowCounted_min {p m : Nat} (hm : m < 16) (hp : p < 2 ^ 16) :
    (windowCounted p m s).reg W.BAL BAL_MIN = m * 0x10000 + p := by
  have := histBin_lt p
  rw [windowCounted, count_eq, reg_setReg_apart _ (by simp only [BAL_HIST, BAL_MIN]; omega) (by decide) (by simp only [BAL_HIST]; omega),
    reg_setReg_same]
  omega

theorem reg_windowCounted_hist (p m : Nat) : (windowCounted p m s).reg W.BAL (BAL_HIST + 4 * histBin p)
    = min (s.reg W.BAL (BAL_HIST + 4 * histBin p) + 1) (2 ^ 32 - 1) := by
  have := histBin_lt p
  rw [windowCounted, reg_count_same, reg_setReg_apart _ (by simp only [BAL_HIST, BAL_MIN]; omega) (by simp only [BAL_HIST]; omega)]

theorem doWindowEnd_off (rs : List Nat) (alert : Bool)
    (h : s.enabled W.BAL = false ∨ s.flag W.BAL BAL_MEAS 16 = false ∨ s.fld W.BAL BAL_MEAS 15 0 = 0) : doWindowEnd rs alert s = s := by
  rcases h with h | h | h <;> simp [doWindowEnd, h]

/-- The state in which the end of a window leaves the Balance, but for the loop's raise. -/
def windowEnded (rs : List Nat) (p m : Nat) (s : State) : State := windowJudged p m (windowCounted p m (storeReadings rs s))

section
variable {rs : List Nat} {p m : Nat} (hlen : rs.length ≤ 16)
include hlen

/-- The registers that the window's end leaves. -/
theorem reg_windowCounted_storeReadings {o : Nat} (h : o ∈ [BAL_THRESH, BAL_REG_CTRL, BAL_REG_GUARD, BAL_VSTAT]) :
    (windowCounted p m (storeReadings rs s)).reg W.BAL o = s.reg W.BAL o := by
  have ho : o ≠ BAL_MIN ∧ o < BAL_HIST ∧ (o < BAL_PACE ∨ BAL_REG_CTRL ≤ o) := by
    revert o
    decide
  obtain ⟨hmin, hhist, hpace⟩ := ho
  rw [reg_windowCounted_apart p m hmin hhist, reg_storeReadings_apart hlen hpace (Nat.lt_trans hhist (by decide))]

theorem reg_windowEnded_apart {o : Nat} (h : o ∈ [BAL_THRESH, BAL_REG_CTRL, BAL_REG_GUARD, BAL_VSTAT]) :
    (windowEnded rs p m s).reg W.BAL o = s.reg W.BAL o := by
  rw [windowEnded, reg_congr (windowJudged_regs p m), reg_windowCounted_storeReadings hlen h]

/-- The threshold that the reading meets is the one of the window's beginning. -/
theorem low_windowCounted_storeReadings :
    (windowCounted p m (storeReadings rs s)).fld W.BAL BAL_THRESH 31 16 = s.fld W.BAL BAL_THRESH 31 16 :=
  fld_of_reg (reg_windowCounted_storeReadings hlen (by decide))

/-- A window that ends while the Balance measures: its lowest reading is judged, and a pace that has fallen below LOW makes the running
loop raise. -/
theorem doWindowEnd_measures (alert : Bool) (hlt : ∀ x ∈ rs, x < 2 ^ 16) (hen : s.enabled W.BAL = true)
    (hmeas : s.flag W.BAL BAL_MEAS 16 = true) (hwin : s.fld W.BAL BAL_MEAS 15 0 ≠ 0)
    (hlow : lowestReading (s.fld W.BAL BAL_MASK 15 0) rs 0 = some (p, m)) :
    doWindowEnd rs alert s
      = if p < s.fld W.BAL BAL_THRESH 31 16 ∧ (s.source W.BAL 3).live = false ∧ s.flag W.BAL BAL_REG_CTRL 31 = true
        then loopRaise alert (windowEnded rs p m s) else windowEnded rs p m s := by
  have hrs : (rs.take 16).map (· % 2 ^ 16) = rs := by
    rw [List.take_of_length_le hlen]
    exact (List.map_congr_left fun x hx => Nat.mod_eq_of_lt (hlt x hx)).trans (List.map_id rs)
  have hmask : (storeReadings rs s).fld W.BAL BAL_MASK 15 0 = s.fld W.BAL BAL_MASK 15 0 :=
    fld_of_reg (reg_storeReadings_apart hlen (by decide) (by decide))
  have hctrl : (windowEnded rs p m s).flag W.BAL BAL_REG_CTRL 31 = s.flag W.BAL BAL_REG_CTRL 31 :=
    flag_of_reg (reg_windowEnded_apart hlen (by decide))
  have hwin' : (s.fld W.BAL BAL_MEAS 15 0 == 0) = false := by simpa using hwin
  simp only [doWindowEnd, hen, hmeas, hwin', hrs, hmask, hlow, Bool.not_true, Bool.or_self, Bool.false_eq_true, if_false]
  show (if (decide (p < (windowCounted p m (storeReadings rs s)).fld W.BAL BAL_THRESH 31 16)
      && !((windowCounted p m (storeReadings rs s)).source W.BAL 3).live && (windowEnded rs p m s).flag W.BAL BAL_REG_CTRL 31) = true
    then loopRaise alert (windowEnded rs p m s) else windowEnded rs p m s) = _
  simp only [low_windowCounted_storeReadings hlen, windowCounted_source, storeReadings_source, hctrl, Bool.and_eq_true,
    decide_eq_true_eq, Bool.not_eq_true', and_assoc]

/-- The window's end writes BAL_MIN, the bin of its lowest reading, and BAL_PACE. -/
theorem reg_windowEnded (hlt : ∀ x ∈ rs, x < 2 ^ 16) (hp : rs[m]? = some p) :
    (windowEnded rs p m s).reg W.BAL BAL_MIN = m * 0x10000 + p
      ∧ (windowEnded rs p m s).reg W.BAL (BAL_HIST + 4 * histBin p) = min (s.reg W.BAL (BAL_HIST + 4 * histBin p) + 1) (2 ^ 32 - 1)
      ∧ ∀ j q, rs[j]? = some q → (windowEnded rs p m s).reg W.BAL (BAL_PACE + 4 * j) = 0x10000 + q := by
  have hm : m < rs.length := (List.getElem?_eq_some_iff.mp hp).1
  have hbin := histBin_lt p
  have hhist : (storeReadings rs s).reg W.BAL (BAL_HIST + 4 * histBin p) = s.reg W.BAL (BAL_HIST + 4 * histBin p) :=
    reg_storeReadings_apart hlen (.inr (by simp only [BAL_HIST, BAL_REG_CTRL]; omega)) (by simp only [BAL_HIST]; omega)
  simp only [windowEnded, reg_congr (windowJudged_regs p m)]
  refine ⟨reg_windowCounted_min (by omega) (hlt p (List.mem_of_getElem? hp)), by rw [reg_windowCounted_hist, hhist], fun j q hj => ?_⟩
  have hj' : j < rs.length := (List.getElem?_eq_some_iff.mp hj).1
  rw [reg_windowCounted_apart p m (by simp only [BAL_PACE, BAL_MIN]; omega) (by simp only [BAL_PACE, BAL_HIST]; omega),
    reg_storeReadings_in hlen hj (hlt q (List.mem_of_getElem? hj))]

/-- A pace that falls below LOW posts PACE_LOW. -/
theorem paceLow_mem_windowEnded (hlow : p < s.fld W.BAL BAL_THRESH 31 16) (hlive : (s.source W.BAL 3).live = false)
    (hw : (s.win W.BAL).resetting = false) : ⟨W.BAL, 3, .levelOn, locUnit W.BAL m, false⟩ ∈ (windowEnded rs p m s).posts := by
  rw [windowEnded, windowJudged, low_windowCounted_storeReadings hlen, decide_eq_true hlow]
  refine mem_posts_level ?_ ?_ (by decide)
  · rwa [source_level, windowCounted_source, storeReadings_source]
  · rwa [win_level, windowCounted_win, storeReadings_win]
end

theorem bal_windowEnded (rs : List Nat) (p m : Nat) : (windowEnded rs p m s).bal = s.bal := by
  rw [windowEnded, windowJudged_bal, windowCounted_bal, storeReadings_bal]

/-- Settles O31: the lowest reading is the one that `lowestReading` finds, and the end of the window is `windowEnded`, from which the loop
raises when PACE_LOW rises. -/
theorem windowEndTakesTheLowestPace : Obligations.WindowEndTakesTheLowestPace := by
  intro rs a s hrun hlen hlt
  refine ⟨fun hoff => ?_, fun hen hmeas hwin m p hp hbit hmin => ?_⟩
  · have heff : Effect (.windowEnd rs a) s (doWindowEnd rs a s) := effect_main rfl hrun
    rwa [doWindowEnd_off rs a hoff] at heff
  intro k last v
  have hlowest : lowestReading (s.fld W.BAL BAL_MASK 15 0) rs 0 = some (p, m) := by
    rw [lowestReading_eq hp (by rwa [Nat.zero_add]) (fun j q hj hj' => hmin j q hj (by rwa [Nat.zero_add] at hj')), Nat.zero_add]
  have hdo := doWindowEnd_measures hlen a hlt hen hmeas hwin hlowest
  obtain ⟨hmin', hhist, hpace⟩ := reg_windowEnded (s := s) hlen hlt hp
  refine ⟨does_main rfl hrun ?_, fun hlow hlive hloop hw => does_main rfl hrun ?_⟩
  · have hkept : ∀ {o}, o < BAL_VSTAT ∨ BAL_PMB_TXN_HI < o → o < 0x2000 →
        (doWindowEnd rs a s).reg W.BAL o = (windowEnded rs p m s).reg W.BAL o := by
      intro o ho hlt
      rw [hdo]
      split
      · exact reg_loopRaise a ho hlt
      · rfl
    have hbin : BAL_PMB_TXN_HI < BAL_HIST + 4 * histBin p ∧ BAL_HIST + 4 * histBin p < 0x2000 := by
      have := histBin_lt p
      simp only [BAL_HIST, BAL_PMB_TXN_HI]
      omega
    have hmon : ∀ {j q}, rs[j]? = some q → BAL_PACE + 4 * j < BAL_VSTAT := by
      intro j q hj
      have : j < rs.length := (List.getElem?_eq_some_iff.mp hj).1
      simp only [BAL_PACE, BAL_VSTAT]
      omega
    exact ⟨(hkept (by decide) (by decide)).trans hmin', (hkept (.inr hbin.1) hbin.2).trans hhist,
      fun j q hj => (hkept (.inl (hmon hj)) (Nat.lt_trans (hmon hj) (by decide))).trans (hpace j q hj)⟩
  · have hstat : (windowEnded rs p m s).reg W.BAL BAL_VSTAT = s.reg W.BAL BAL_VSTAT := reg_windowEnded_apart hlen (by decide)
    have hctrl : (windowEnded rs p m s).reg W.BAL BAL_REG_CTRL = s.reg W.BAL BAL_REG_CTRL := reg_windowEnded_apart hlen (by decide)
    have hbal : (windowEnded rs p m s).bal = s.bal := bal_windowEnded rs p m
    have hlast : (windowEnded rs p m s).fld W.BAL BAL_VSTAT 31 16 = last := fld_of_reg hstat
    have htarget : raiseTarget (windowEnded rs p m s) = last + 5 * s.fld W.BAL BAL_REG_CTRL 27 24 := by
      rw [raiseTarget, hlast, fld_of_reg hctrl]
    have hv : clampMv (windowEnded rs p m s) (raiseTarget (windowEnded rs p m s)) = v := by
      rw [htarget, clampMv_of_reg (reg_windowEnded_apart hlen (by decide))]
    rw [hdo, if_pos ⟨hlow, hlive, hloop⟩, loopRaise_posts]
    refine ⟨paceLow_mem_windowEnded hlen hlow hlive hw, fun hbusy => ?_, fun hidle ha hne => ?_, fun hidle hheld => ?_⟩
    · rw [loopRaise_busy a ((flag_of_reg hstat).trans hbusy), hbal]
      exact ⟨rfl, rfl⟩
    · rw [loopRaise_idle a ((flag_of_reg hstat).trans hidle), ha,
        loopCommand_sends ((flag_of_reg hstat).trans hidle) (by rwa [hv, hlast]), hv]
      exact ⟨busy_pmbusSend v, rfl⟩
    · rw [loopRaise_idle a ((flag_of_reg hstat).trans hidle), loopCommand_holds (by rwa [hv, hlast]), hbal]

end Sys2Proof.Proofs.Balance
end
